-- ==== Sys2Proof/Word.lean ====
section
/-! DEFINITION. The words of the part and their plainest arithmetic: bytes, 64-bit register words,
bit ranges written as the manual writes them, and sparse maps in one canonical form. -/

namespace Sys2Proof

/-- A byte of memory or of a frame. -/
abbrev Byte := BitVec 8

/-- A register word (00_scope.md R2: every register is 64 bits wide). -/
abbrev Word := BitVec 64

/-- Bits [hi:lo] of `w` as a number (00_scope.md, notation). -/
def bits (w : Word) (hi lo : Nat) : Nat := (w.toNat >>> lo) % 2 ^ (hi + 1 - lo)

/-- Bit [n] of `w`. -/
def bit (w : Word) (n : Nat) : Bool := w.getLsbD n

/-- `w` with bits [hi:lo] replaced by the low bits of `v`. -/
def setBits (w : Word) (hi lo v : Nat) : Word :=
  let m : Nat := (2 ^ (hi + 1 - lo) - 1) <<< lo
  (w &&& ~~~ (BitVec.ofNat 64 m)) ||| (BitVec.ofNat 64 (v <<< lo) &&& BitVec.ofNat 64 m)

/-- `w` with bit [n] set to `b`. -/
def setBit (w : Word) (n : Nat) (b : Bool) : Word := setBits w n n (if b then 1 else 0)

/-- A field value `v` placed at bit `lo`, for words built field by field. -/
def at_ (lo v : Nat) : Word := BitVec.ofNat 64 (v <<< lo)

/-- One bit as a number. -/
def b2n (b : Bool) : Nat := if b then 1 else 0

/-- The signed reading of an `n`-bit number. -/
def toSigned (n v : Nat) : Int :=
  let u := v % 2 ^ n
  if u < 2 ^ (n - 1) then (u : Int) else (u : Int) - (2 ^ n : Nat)

/-- The `n`-bit two's complement of an integer. -/
def ofSigned (n : Nat) (i : Int) : Nat := (i % ((2 ^ n : Nat) : Int)).toNat

/-- The signed `n`-bit difference a - b (02_beat_and_clocks.md R37, 03 R82). -/
def sdiff (n a b : Nat) : Int := toSigned n (a % 2 ^ n + 2 ^ n - b % 2 ^ n)

/-- Addition that stays at the largest `n`-bit value. -/
def satAdd (n a b : Nat) : Nat := Nat.min (2 ^ n - 1) (a + b)

/-- Ceiling of a / b. -/
def ceilDiv (a b : Nat) : Nat := (a + b - 1) / b

/-! ## Sparse maps: rising keys, no entry equal to what an unlisted key reads as. -/

/-- A sparse map from numbers; an unlisted key reads as a value that the reader names. -/
abbrev SMap (α : Type) := List (Nat × α)

namespace SMap

variable {α : Type}

/-- The value at `k`, or `d` where `k` is not listed. -/
def get (d : α) : SMap α → Nat → α
  | [], _ => d
  | (j, v) :: m, k => if k = j then v else get d m k

/-- `m` without key `k`. -/
def erase : SMap α → Nat → SMap α
  | [], _ => []
  | (j, v) :: m, k => if k = j then erase m k else (j, v) :: erase m k

/-- `m` with `v` listed at `k`, keys rising. -/
def insert : SMap α → Nat → α → SMap α
  | [], k, v => [(k, v)]
  | (j, w) :: m, k, v =>
    if k < j then (k, v) :: (j, w) :: m
    else if k = j then (k, v) :: m
    else (j, w) :: insert m k v

/-- Writing the value that an unlisted key reads as removes the entry. -/
def set [DecidableEq α] (d : α) (m : SMap α) (k : Nat) (v : α) : SMap α :=
  if v = d then erase m k else insert m k v

/-- Change the value at `k` by `f`. -/
def upd [DecidableEq α] (d : α) (m : SMap α) (k : Nat) (f : α → α) : SMap α :=
  set d m k (f (get d m k))

/-- Every key is above `b` and the keys rise. -/
def rising : Nat → SMap α → Bool
  | _, [] => true
  | b, (j, _) :: m => decide (b ≤ j) && rising (j + 1) m

/-- The canonical form: keys rise, and no entry equals what an unlisted key reads as. -/
def wf [DecidableEq α] (d : α) (m : SMap α) : Bool :=
  rising 0 m && m.all fun e => decide (e.2 ≠ d)

end SMap

/-! ## Lists used as bags of records. -/

/-- Change the first element that `p` accepts. -/
def updFirst {α : Type} (p : α → Bool) (f : α → α) : List α → List α
  | [] => []
  | a :: l => if p a then f a :: l else a :: updFirst p f l

/-- Change every element that `p` accepts. -/
def updAll {α : Type} (p : α → Bool) (f : α → α) (l : List α) : List α :=
  l.map fun a => if p a then f a else a

/-- Remove the first element that `p` accepts. -/
def dropFirst {α : Type} (p : α → Bool) : List α → List α
  | [] => []
  | a :: l => if p a then l else a :: dropFirst p l

/-- The numbers lo, lo + 1, ..., hi - 1. -/
def rangeFrom (lo hi : Nat) : List Nat := (List.range (hi - lo)).map (lo + ·)

end Sys2Proof
end

