-- ==== Sys2Proof/Syntax.lean ====
section
/-! DEFINITION. The commands of the part: one constructor for each row of spec/opcode_table.json,
with the operands that the row's rule gives it. A row whose effect software asks for by a register
write carries that write's fields, and `late`, which says that the write completed within the last
32 core cycles of the beat (02_beat_and_clocks.md R32). A row that a physical event causes carries
what was measured. -/

namespace Sys2Proof

/-- The two readers that hold captured copies of wide sets (02 R47). -/
inductive Reader where
  | host
  | controller
deriving DecidableEq, Repr

/-- A BAR0 request as it reaches the endpoint (18 R514): byte offset, length in bytes, and whether
every byte enable is set. -/
structure Tlp where
  off : Nat
  len : Nat
  enables : Bool
deriving DecidableEq, Repr

/-- What a read of a memory word found (14 R403, R405). -/
inductive EccKind where
  | single
  | double
deriving DecidableEq, Repr

/-- How a fetch by the command sequencer ended (18 R524). -/
inductive FetchEnd where
  | data
  | refused
  | poisoned
deriving DecidableEq, Repr

/-- Which ageing monitor a sample read, with its reading (19 R572). -/
inductive AgeReading where
  | oscillator (domain deg fmargin : Nat)
  | laser (engine k bias : Nat)
  | heater (lane : Nat) (offset : Int)
  | eye (lane mv ui : Nat)
deriving DecidableEq, Repr

/-- What DDR5 training found in one channel (18 R545, R549). -/
structure ChannelResult where
  present : Bool
  cap : Nat
  ranks : Nat
  failStep : Nat
  temp : Nat
deriving DecidableEq, Repr

/-- What arrives on an Asune lane after a delimiter: the bytes, and whether the frame ended in a PCS error block (06 R153). -/
structure RxFrame where
  bytes : List Byte
  errBlock : Bool
deriving DecidableEq, Repr

/-- An uncorrectable codeword on a lane, and how many numbered frames it touches (06 R153). -/
structure CodewordHit where
  lane : Nat
  touched : Nat
deriving DecidableEq, Repr

/-- The ring of a lane that has lost lock: the transmit modulator or the receive filter, and whether light stands at the
receive position (08 R225). -/
structure RingLoss where
  tx : Bool
  light : Bool
deriving DecidableEq, Repr

/-- A link fault on a lane, and whether light stands at its receive position (08 R230, R232). -/
structure LinkLoss where
  lane : Nat
  light : Bool
deriving DecidableEq, Repr

/-- What a calibration records of a ring: the heater code of its lock point, and its park code (08 R224, R234). -/
structure RingCal where
  heat : Nat
  park : Nat
deriving DecidableEq, Repr

/-- Where the boot ROM read an image (20 R584). -/
inductive ImageSource where
  | slotA
  | slotB
  | hostMem
deriving DecidableEq, Repr

/-- The commands (spec/opcode_table.json, in its order). -/
inductive Instr where
  -- the beat, registers (00, 02)
  | beatBoundary
  | beatImageCheck (diff : Int)
  | crossingTimeout (dom unit : Nat) (read : Bool)
  | wideLeadRead (rd : Reader) (t : Tlp)
  | rcRead (rd : Reader) (t : Tlp) (hwInc : Word)
  | registerWrite (t : Tlp) (vals : List Word) (hwSet : Word) (late : Bool)
  -- frames and ports (03)
  | asuneFrameArrival (lane : Nat) (delim : Byte) (frame : RxFrame)
  | ethernetFrameArrival (port : Nat) (frame : List Byte) (fifoFull : Bool)
  | pfcXoffRepeat (port cls : Nat)
  | portReconfig (port : Nat) (valid mode : Bool) (width : Nat) (late : Bool)
  -- the stations (04 to 07, 15)
  | stationSteer (pipe : Nat)
  | progMemRepairDone (pipe station bank addr : Nat)
  | stationHold (pipe : Nat)
  | pennantRelease (id : Nat)
  | seqPennantRelease (id : Nat)
  | pennantTimeout (id : Nat)
  | stationMerge (pipe : Nat)
  | stationMirror (pipe : Nat)
  | mirrorDigestTimeout (idx : Nat)
  | shadowDropEnd (node : Nat)
  | stationQueue (pipe : Nat)
  | resultPlacement (die : Nat)
  | launch (port : Nat)
  | frameTransmitEnd (lane : Nat)
  -- lane replay and credits (06, 07)
  | uncorrectableCodeword (hit : CodewordHit)
  | replayRequestReceived (lane frame attempt : Nat)
  | replayStartReceived (lane frame : Nat)
  | replayRetryTimeout (lane : Nat)
  | handoverReceived (lane pos frame : Nat)
  | linkCreditSend (lane : Nat)
  | linkCreditReceived (lane g5 g6 g7 : Nat)
  -- buffers (07)
  | weevilAudit
  | weevilWalkEnd
  | weevilTeardownCheck (part : Nat)
  | stgCarveWrite (n1 n4 n16 n64 : Nat) (late : Bool)
  | stgCarveApply
  | clsMinWrite (cls spillMin stgMin tileMin : Nat) (late : Bool)
  -- programs and epochs (04, 18)
  | loadGo (epoch : Nat)
  | loadDone (image : List (Option Word))
  | cmdFetchComplete (ring : Nat) (words : List Word) (how : FetchEnd) (late : Bool)
  | cmdFetchTimeout (ring : Nat)
  | cmdProgramRelease (ring : Nat)
  | epochDrainComplete (epoch : Nat)
  -- fabric memory (10)
  | loadRequest (id : Nat)
  | store (id : Nat)
  | countedStore (id : Nat)
  | subArm (id : Nat)
  | atomAdd (id : Nat)
  | atomFetchAdd (id : Nat)
  | atomSwap (id : Nat)
  | atomCas (id : Nat)
  | atomMinS (id : Nat)
  | atomMaxS (id : Nat)
  | atomMinU (id : Nat)
  | atomMaxU (id : Nat)
  | atomAnd (id : Nat)
  | atomOr (id : Nat)
  | atomXor (id : Nat)
  | atomFp32Add (id : Nat)
  | atomBf16Add (id : Nat)
  | waitingRequestAccept
  | memoryCompletion (id : Nat)
  | trackerTimeout (id : Nat)
  -- collectives (11, 12, 14)
  | stagingDraw (ctx chunk : Nat)
  | contributionCombine (cluster : Nat)
  | stragglerWindowExpiry (ctx chunk : Nat)
  | chunkSpill (ctx chunk : Nat)
  | partialRecallDone (ctx chunk : Nat)
  | cascadeResultRelay
  | digestCompare (ctx chunk seg : Nat) (checkDigest : Word)
  | arbiterResult (ctx chunk seg : Nat) (digest : Word)
  | checkLimitExpiry (ctx chunk seg : Nat)
  -- management frames (16, 18)
  | mgmtRead
  | mgmtWrite (late : Bool)
  | mgmtCommand (late : Bool)
  | mgmtPtp
  -- table keepers (05)
  | termiteVisit
  | compareEngineStep (table : Nat)
  | cmpCtrlWrite (rate en : Nat) (late : Bool)
  | emSeedWrite (seedA seedB : Nat) (late : Bool)
  -- light engines (08, 21)
  | laserFail (engine k : Nat)
  | spareSwitchIn (engine k : Nat)
  | laserRetire (engine k : Nat) (late : Bool)
  | retireSwitch (engine k : Nat)
  | ringUnlock (lane : Nat) (ring : RingLoss)
  | pilotWindow (lane : Nat) (tx : Bool) (tone : Nat)
  | reacqVerified (lane : Nat) (tx : Bool) (heat : Nat)
  | reacqTimeout (lane : Nat)
  | lightPresent (lane : Nat)
  | laneTrainComplete (lane : Nat)
  | trainTimeout (lane : Nat)
  | linkFault (loss : LinkLoss)
  | calSlot (engine : Nat)
  | calRequest (engine pos : Nat) (late : Bool)
  | calForce (engine pos : Nat) (late : Bool)
  | calComplete (engine : Nat) (tx rx : RingCal)
  | calTimeout (engine : Nat) (tx : Bool)
  | laneRetry (lane : Nat) (late : Bool)
  | loopStart (engine target dur : Nat)
  | loopEnd (engine errs : Nat) (pilotOk : Bool) (rxPwr : Int)
  -- optical bypass (09)
  | bypDemandReceived (lane : Nat) (payload : List Byte)
  | bypassMatching
  | bypassRouting
  | restartReceived (lane : Nat) (meas : Int) (firstFrame : Nat)
  | planeFallback (plane : Nat) (driver : Bool)
  | planeRelock (plane : Nat)
  | planeLockTimeout (plane : Nat)
  | planeAutoFast (plane : Nat)
  | planeCalStart
  | planeCalForce (plane : Nat) (late : Bool)
  | planeCalDone (plane : Nat)
  | bypPlaneModeWrite (plane mode : Nat) (late : Bool)
  | leafEnable (leaf anchorPref : Nat) (late : Bool)
  -- integrity (14)
  | patrolRead (mem die addr : Nat) (kind : EccKind)
  | fieldTestSlot
  | fieldTestStep (idle : Bool)
  | fieldTestResult (pass : Bool)
  | testWaitExpiry
  | ftRequest (cluster : Nat) (late : Bool)
  | ftForce (cluster : Nat) (late : Bool)
  | clusterStepWrite (cluster step : Nat) (late : Bool)
  | watchdogExpiry
  -- partitions (15)
  | quarantineEntry (part : Nat)
  | partitionFree (part : Nat)
  | drainEndClean (kind idx : Nat)
  | drainDeadline (kind idx : Nat)
  | broadcastReport (ctx : Nat)
  -- time (16)
  | timeStep (ns : Int) (cycle : Nat)
  | timeSet (cycle : Nat)
  | slewAdd (rate : Nat) (add : Int)
  | slewComplete
  | triggerFire (n : Nat)
  -- counters (17)
  | cicadaPeriodic
  | userRefresh
  | dumpComplete
  | deferredSnapshot
  | cicadaDumpRequest (late : Bool)
  | snapshotRequest (late : Bool)
  | counterRunAllocate (n : Nat)
  | counterRunRelease (base n : Nat) (late : Bool)
  -- host and DDR5 (18)
  | bar2Read (addr len : Nat)
  | bar2Write (addr : Nat) (data : List (Option Byte))
  | doorbell (ring pi : Nat)
  | cmdRingFlush (ring : Nat)
  | cmdRingDisable (ring : Nat)
  | cmdRingEnable (ring : Nat)
  | d2hPacketWrite (ring : Nat)
  | d2hPop (ring pois : Nat)
  | d2hFlush (ring : Nat)
  | d2hCfgWrite (ring : Nat) (en : Bool) (lg base : Nat)
  | d2hHoldoffExpiry (ring : Nat)
  | ddrTrainStart (speed : Bool)
  | ddrTrainDone (chans : List ChannelResult)
  | ddrRecal (channel sub : Nat)
  -- power (19)
  | domainRequest (domain : Nat) (on late : Bool)
  | domainRampUpDone (domain : Nat)
  | domainRampDownDone (domain : Nat)
  | supplyFault (domain : Nat)
  | powerTrip (temp : Nat)
  | tripHoldEnd (temp : Nat)
  | thermalWarning (unit temp : Nat)
  | stretchComparatorFire (die temp : Nat)
  | stretchEnd (die : Nat)
  | photonicTrip (engine temp : Nat)
  | sleepEntry
  | wakeD0
  | lightWake (pair : Nat)
  | ageingSample (r : AgeReading)
  | marginReplan (fmargin : List Nat)
  -- resets and boot (20)
  | powerOnReset (testMode bootSrc : Bool)
  | fundamentalReset
  | softwareReset
  | functionReset (linkDown : Bool)
  | controllerReset
  | bootStepAdvance
  | bootImageRead (src : ImageSource) (image : Option (List Byte)) (sigOk : Bool)
  | bootGo (addr : Nat)
  | writeSlot
  | writeSlotDone (image : Option (List Byte)) (sigOk flashOk : Bool)
  | activate
  | confirm
  | svnCommit
  | trialTimeout
  | getVersion
  | getCapabilities
  | negotiateAlgorithms
  | getDigests
  | getCertificate (slot off len : Nat)
  | challenge (slot : Nat) (nonce : List Byte)
  | getMeasurements (index : Nat) (signed : Bool) (nonce : List Byte)
  | respondIfReady (token : Nat)
  | tableDigestWalkDone
  -- package and test (21)
  | extest
  | idcode
  | samplePreload (sampled : Nat)
  | extestPulse
  | extestTrain
  | clamp
  | highz
  | ecid
  | bypass
  | tapReset
  | trefLost
  | trefRestore
  | vaonFall
  | perstNRelease (bootSrc : Bool)
  -- further events
  | sleepComparatorFire
  | pfcPauseExpiry (port cls : Nat)
  | laserSettled (engine : Nat)
  | controllerSend (words : List Word)
  | pcieLinkTrained (speed width : Nat) (flit : Bool)
  | unsupportedSpdmRequest (code : Nat)
  | moduleHotRefresh (channel temp : Nat)
  | thermalWarningRearm (unit : Nat)
  | vectorUnmask (entry : Option Nat) (addr data : Word)
deriving DecidableEq, Repr

end Sys2Proof
end

