-- ==== Sys2Proof/Machine/Float.lean ====
section
/-! DEFINITION. Binary floating point, exact and then rounded once to nearest even, with subnormals
kept (10_fabric_memory.md R295, 12_reduction_arithmetic.md R365, R373). A finite value is a sign, a
whole number and a power of two. -/

namespace Sys2Proof.Machine

/-- A value: not a number, an infinity, or (−1)^neg · m · 2^e. -/
inductive FVal where
  | nan
  | inf (neg : Bool)
  | fin (neg : Bool) (m : Nat) (e : Int)
deriving DecidableEq, Repr

/-- An IEEE 754 format: exponent bits and fraction bits. -/
structure FFmt where
  eb : Nat
  mb : Nat
deriving DecidableEq, Repr

/-- binary32. -/
def fp32 : FFmt := { eb := 8, mb := 23 }
/-- BF16. -/
def bf16 : FFmt := { eb := 8, mb := 7 }
/-- binary16. -/
def fp16 : FFmt := { eb := 5, mb := 10 }

/-- The bias of a format. -/
def FFmt.bias (f : FFmt) : Int := 2 ^ (f.eb - 1) - 1

/-- Read a pattern. -/
def FFmt.unpack (f : FFmt) (v : Nat) : FVal :=
  let neg := (v >>> (f.eb + f.mb)) % 2 = 1
  let e := (v >>> f.mb) % 2 ^ f.eb
  let m := v % 2 ^ f.mb
  if e = 2 ^ f.eb - 1 then (if m = 0 then .inf neg else .nan)
  else if e = 0 then .fin neg m (1 - f.bias - f.mb)
  else .fin neg (m + 2 ^ f.mb) ((e : Int) - f.bias - f.mb)

/-- Number of bits of a number. -/
def bitLen (n : Nat) : Nat := if n = 0 then 0 else n.log2 + 1

/-- m · 2^-sh rounded to a whole number, to nearest even. -/
def roundShift (m sh : Nat) : Nat :=
  if sh = 0 then m
  else
    let q := m >>> sh
    let r := m % 2 ^ sh
    let half := 2 ^ (sh - 1)
    if r < half then q else if half < r then q + 1 else q + q % 2

/-- m · 2^e on the grid 2^g, rounded to nearest even: the multiple of 2^g. -/
def onGrid (m : Nat) (e g : Int) : Nat :=
  if g ≤ e then m <<< (e - g).toNat else roundShift m (g - e).toNat

/-- Round m · 2^e to a significand of `p` bits with least exponent `g0`: the significand and its
exponent. A round up to 2^p is the same value. -/
def roundSig (p : Nat) (g0 : Int) (m : Nat) (e : Int) : Nat × Int :=
  let top := e + (bitLen m : Int) - (p : Int)
  let g := if top < g0 then g0 else top
  (onGrid m e g, g)

/-- The pattern of a significand of at most mb + 1 bits (or exactly 2^(mb+1)) on the grid 2^g, without
its sign; none when it is beyond the largest finite value. -/
def FFmt.pack (f : FFmt) (m : Nat) (g : Int) : Option Nat :=
  let (m, g) := if m = 2 ^ (f.mb + 1) then (2 ^ f.mb, g + 1) else (m, g)
  if m < 2 ^ f.mb then some m
  else
    let e := g + f.bias + f.mb
    if e < 2 ^ f.eb - 1 then some (e.toNat <<< f.mb ||| (m - 2 ^ f.mb)) else none

/-- The pattern of a sign bit. -/
def FFmt.sign (f : FFmt) (neg : Bool) : Nat := if neg then 2 ^ (f.eb + f.mb) else 0

/-- An infinity. -/
def FFmt.infPat (f : FFmt) (neg : Bool) : Nat := f.sign neg + (2 ^ f.eb - 1) <<< f.mb

/-- The one pattern written for a NaN result: sign 0, quiet, fraction zero (R295, R373). -/
def FFmt.nanPat (f : FFmt) : Nat := (2 ^ f.eb - 1) <<< f.mb ||| 2 ^ (f.mb - 1)

/-- Round a value to a format, to nearest even; overflow gives an infinity. -/
def FFmt.round (f : FFmt) : FVal → Nat
  | .nan => f.nanPat
  | .inf n => f.infPat n
  | .fin n m e =>
    if m = 0 then f.sign n
    else
      let (q, g) := roundSig (f.mb + 1) (1 - f.bias - f.mb) m e
      match f.pack q g with
      | some v => f.sign n + v
      | none => f.infPat n

/-- A signed whole number over 2^e. -/
def FVal.signed (neg : Bool) (m : Nat) : Int := if neg then -(m : Int) else (m : Int)

/-- The exact sum of two values. A zero sum of opposite signs is +0 (round to nearest even). -/
def FVal.add : FVal → FVal → FVal
  | .nan, _ => .nan
  | _, .nan => .nan
  | .inf a, .inf b => if a = b then .inf a else .nan
  | .inf a, _ => .inf a
  | _, .inf b => .inf b
  | .fin na ma ea, .fin nb mb eb =>
    let e := if ea < eb then ea else eb
    let s := FVal.signed na (ma <<< (ea - e).toNat) + FVal.signed nb (mb <<< (eb - e).toNat)
    if s = 0 then .fin (na && nb) 0 e else .fin (s < 0) s.natAbs e

/-- The negative of a value. -/
def FVal.neg : FVal → FVal
  | .nan => .nan
  | .inf a => .inf !a
  | .fin n m e => .fin (!n) m e

/-- The exact product. -/
def FVal.mul : FVal → FVal → FVal
  | .nan, _ => .nan
  | _, .nan => .nan
  | .inf a, .inf b => .inf (a != b)
  | .inf a, .fin n m _ => if m = 0 then .nan else .inf (a != n)
  | .fin n m _, .inf a => if m = 0 then .nan else .inf (a != n)
  | .fin na ma ea, .fin nb mb eb => .fin (na != nb) (ma * mb) (ea + eb)

/-- a < b, false when either is NaN. -/
def FVal.lt : FVal → FVal → Bool
  | .nan, _ => false
  | _, .nan => false
  | .inf a, .inf b => a && !b
  | .inf a, _ => a
  | _, .inf b => !b
  | .fin na ma ea, .fin nb mb eb =>
    let e := if ea < eb then ea else eb
    decide (FVal.signed na (ma <<< (ea - e).toNat) < FVal.signed nb (mb <<< (eb - e).toNat))

/-- Binary32 addition on patterns. -/
def f32Add (a b : Nat) : Nat := fp32.round ((fp32.unpack a).add (fp32.unpack b))

/-- Binary32 multiplication on patterns. -/
def f32Mul (a b : Nat) : Nat := fp32.round ((fp32.unpack a).mul (fp32.unpack b))

/-- Binary32 fused multiply and add on patterns. -/
def f32Fma (a b c : Nat) : Nat := fp32.round (((fp32.unpack a).mul (fp32.unpack b)).add (fp32.unpack c))

/-- The negative of a binary32 pattern. -/
def f32Neg (a : Nat) : Nat := a ^^^ 0x80000000

/-- BF16 addition (10 R295): both operands widened, added as binary32, rounded to BF16. -/
def bf16Add (a b : Nat) : Nat :=
  bf16.round (fp32.unpack (f32Add (fp32.round (bf16.unpack a)) (fp32.round (bf16.unpack b))))

end Sys2Proof.Machine
end

