-- ==== Sys2Proof/Config.lean ====
section
/-! DEFINITION. What the manual leaves open: free values, opaque, so that nothing can be proved of
any of them (log entry 5), and the published cryptography that the manual names without defining. -/

namespace Sys2Proof.Config

/-- The n-th value that the manual calls undefined or does not state (State.free counts them). -/
opaque freeWord (n : Nat) : Word

/-- Start-of-life bias of laser k of engine e (12·e + k), in the device record (08 R244; log entry 83). -/
opaque solBias (laser : Nat) : BitVec 12

/-- The park code of a ring at its last calibration before this start, in the device record (08 R224, R248; log entry
83): ring 2·lane is the receive filter, 2·lane + 1 the transmit modulator. -/
opaque parkCode (ring : Nat) : BitVec 12

/-- How many codewords the FEC of a lane corrected in the beat that ended at a boundary, counted from the first (17 R490;
log entry 64). -/
opaque corrected (lane bc : Nat) : Nat

/-- The nine check bits of the SEC-DED code over sixteen data bytes of DDR5, read as one number (18 R547): the rules name
the code and not its matrix (log entry 88). -/
opaque checkBits (data : Nat) : BitVec 9

/-- Where in DDR5 the retained words of a pair of bank words stand (04 R96): 2^15 times the station, plus 2^14 times the bank,
plus the pair's even address. The region is the firmware's (log entry 60). -/
opaque retained (pair : Nat) : BitVec 41

/-- Length in bytes of the certificate chain (20 R592, R593) of the part with a serial and a firmware
measurement. -/
opaque certLen (serial : Word) (meas : List Word) : Nat

/-- Byte i of that chain. -/
opaque certByte (serial : Word) (meas : List Word) (i : Nat) : Byte

/-- Byte i of the ECDSA P-521 signature of a message under the alias key, which the boot ROM derives from the
fused secret and the firmware measurement (20 R592). -/
opaque sigByte (serial : Word) (meas : List Word) (msg : List Byte) (i : Nat) : Byte

/-- Byte i of the digest of the boot ROM, fixed for stepping B0 (20 R594). -/
opaque romByte (i : Nat) : Byte

end Sys2Proof.Config
end

