-- ==== Sys2Proof/Machine/Bits.lean ====
section
/-! DEFINITION. Byte order, the CRCs of 03_frames_and_addresses.md R64 and 05_steer_tables.md R118,
and the Asune header of 03 R63. -/

namespace Sys2Proof

/-! ## Bytes and words -/

/-- A number read from bytes, first byte most significant. -/
def beNat (bs : List Byte) : Nat := bs.foldl (fun a b => a * 256 + b.toNat) 0

/-- A number read from bytes, first byte least significant. -/
def leNat : List Byte → Nat
  | [] => 0
  | b :: bs => b.toNat + 256 * leNat bs

/-- `n` bytes of a number, least significant first. -/
def leBytes : Nat → Nat → List Byte
  | 0, _ => []
  | n + 1, v => BitVec.ofNat 8 v :: leBytes n (v / 256)

/-- `n` bytes of a number, most significant first. -/
def beBytes (n v : Nat) : List Byte := (leBytes n v).reverse

/-- The eight bytes of a word, most significant first (03 R63). -/
def wordBytes (w : Word) : List Byte := beBytes 8 w.toNat

/-- Words read from bytes, most significant byte first; `n` words. -/
def beWords : Nat → List Byte → List Word
  | 0, _ => []
  | n + 1, bs => BitVec.ofNat 64 (beNat ((bs ++ List.replicate 8 0).take 8)) :: beWords n (bs.drop 8)

/-- `n` words read from bytes, least significant byte first (images, 04 R103). -/
def leWords : Nat → List Byte → List Word
  | 0, _ => []
  | n + 1, bs => BitVec.ofNat 64 (leNat ((bs ++ List.replicate 8 0).take 8)) :: leWords n (bs.drop 8)

/-- `bs` cut or filled with zeros to `n` bytes. -/
def fitBytes (n : Nat) (bs : List Byte) : List Byte :=
  bs.take n ++ List.replicate (n - bs.length) 0

/-- `new` written over `bs` from position `at`; bytes beyond the end are not written. -/
def overlay (bs : List Byte) (pos : Nat) (new : List Byte) : List Byte :=
  if bs.length ≤ pos then bs
  else bs.take pos ++ new.take (bs.length - pos) ++ bs.drop (pos + new.length)

/-! ## Sorting by a number -/

/-- Insert by rising key, after equals. -/
def insertBy {α : Type} (key : α → Nat) (a : α) : List α → List α
  | [] => [a]
  | b :: l => if key a < key b then a :: b :: l else b :: insertBy key a l

/-- A list in rising order of its keys; equals keep their order. -/
def sortBy {α : Type} (key : α → Nat) (l : List α) : List α := l.foldl (fun acc a => insertBy key a acc) []

/-! ## CRCs -/

/-- One bit of a reflected CRC. -/
def crcStep (poly c : Nat) : Nat := if c % 2 = 1 then (c >>> 1) ^^^ poly else c >>> 1

/-- One byte of a reflected CRC. -/
def crcByte (poly c b : Nat) : Nat :=
  let s := crcStep poly
  s (s (s (s (s (s (s (s (c ^^^ b))))))))

/-- The CRC-32 of bytes: reflected input and output, final XOR 0xFFFF_FFFF (03 R64, 05 R118).
`poly` is the polynomial with its bits reversed. -/
def crc32With (poly seed : Nat) (bs : List Byte) : Nat :=
  (bs.foldl (fun c b => crcByte poly c b.toNat) seed) ^^^ 0xFFFFFFFF

/-- CRC-32C (polynomial 0x1EDC_6F41) from an initial value. -/
def crc32c (seed : Nat) (bs : List Byte) : Nat := crc32With 0x82F63B78 seed bs

/-- CRC-32 with the IEEE 802.3 polynomial 0x04C1_1DB7 from an initial value. -/
def crc32e (seed : Nat) (bs : List Byte) : Nat := crc32With 0xEDB88320 seed bs

/-! ## The Asune header (03 R63) -/

/-- The fields of an Asune header. -/
structure Hdr where
  dst : Nat := 0
  src : Nat := 0
  part : Nat := 0
  cls : Nat := 0
  epoch : Bool := false
  pennant : Bool := false
  ce : Bool := false
  poison : Bool := false
  op : Nat := 0
  flowTag : Nat := 0
  flowSeq : Nat := 0
  len : Nat := 0
  opTag : Nat := 0
  offset : Nat := 0
  ctr : Nat := 0
  coll : Nat := 0
  chunk : Nat := 0
  contrib : Nat := 0
deriving DecidableEq, Repr

/-- The header fields of six header words. -/
def Hdr.ofWords (ws : List Word) : Hdr :=
  let w0 := ws.getD 0 0
  let w1 := ws.getD 1 0
  let w2 := ws.getD 2 0
  let w3 := ws.getD 3 0
  let w4 := ws.getD 4 0
  { dst := bits w0 63 46, src := bits w0 45 28, part := bits w0 27 16, cls := bits w0 15 13,
    epoch := bit w0 12, pennant := bit w0 11, ce := bit w0 10, poison := bit w0 9,
    op := bits w0 8 1, flowTag := bits w1 63 56, flowSeq := bits w1 55 40, len := bits w1 39 26,
    opTag := bits w1 25 10, offset := bits w2 47 0, ctr := bits w3 63 44, coll := bits w3 43 28,
    chunk := bits w3 27 8, contrib := bits w4 63 46 }

/-- The header of a frame. -/
def Hdr.ofBytes (bs : List Byte) : Hdr := Hdr.ofWords (beWords 6 bs)

/-- Header word 0. -/
def Hdr.word0 (h : Hdr) : Word :=
  at_ 46 h.dst ||| at_ 28 h.src ||| at_ 16 h.part ||| at_ 13 h.cls ||| at_ 12 (b2n h.epoch)
    ||| at_ 11 (b2n h.pennant) ||| at_ 10 (b2n h.ce) ||| at_ 9 (b2n h.poison) ||| at_ 1 h.op

/-- Header words 0 to 4. -/
def Hdr.words (h : Hdr) : List Word :=
  [h.word0, at_ 56 h.flowTag ||| at_ 40 h.flowSeq ||| at_ 26 h.len ||| at_ 10 h.opTag,
   at_ 0 h.offset, at_ 44 h.ctr ||| at_ 28 h.coll ||| at_ 8 h.chunk, at_ 46 h.contrib]

/-- The header check of the first 44 header bytes (03 R64). -/
def hcrcOf (bs : List Byte) : Nat := crc32c 0xFFFFFFFF (bs.take 44)

/-- A frame with its header check written over bytes 44 to 47. -/
def withHcrc (bs : List Byte) : List Byte := overlay bs 44 (beBytes 4 (hcrcOf bs))

/-- The 48 header bytes of a frame that the part originates: reserved bits zero. -/
def Hdr.bytes (h : Hdr) : List Byte :=
  withHcrc ((h.words.map wordBytes).flatten ++ List.replicate 8 0)

/-- The payload length P of a frame (03 R61): for LD_REQ, len counts the bytes requested. -/
def Hdr.payLen (h : Hdr) : Nat := if h.op = 0x01 then 0 else h.len

/-- Tiles of a packet of F bytes (01 R14). -/
def tilesOf (f : Nat) : Nat := ceilDiv f 256

/-- Bytes that a frame of F bytes takes on the lane (03 R60, R61). -/
def laneBytes (f : Nat) : Nat := Nat.max 256 f + 22

/-- The flow key word [58:0] (05 R117 type 0x4). -/
def flowKey (src dst part cls tag : Nat) : Nat :=
  src <<< 41 ||| dst <<< 23 ||| part <<< 11 ||| cls <<< 8 ||| tag

/-- The flow key word of type 0x4 as a whole. -/
def flowKeyWord (k : Nat) : Word := BitVec.ofNat 64 (4 <<< 60 ||| k)

/-! ## The opcodes (03 R65) -/

def opLdReq : Nat := 0x01
def opSt : Nat := 0x03
def opStCnt : Nat := 0x04
def opSub : Nat := 0x20
def opNotify : Nat := 0x21
def opContrib : Nat := 0x60
def opResult : Nat := 0x61
def opResultQ : Nat := 0x62
def opCollStatus : Nat := 0x63
def opRetract : Nat := 0x64
def opBypDemand : Nat := 0x70
def opBypGrant : Nat := 0x71
def opMgmt : Nat := 0x78
def opMgmtRsp : Nat := 0x79
def opLinkReplay : Nat := 0x7C
def opLinkCredit : Nat := 0x7E

/-- Is it an ATOM opcode, a reserved one included (03 R65, R69)? -/
def isAtom (op : Nat) : Bool := 0x10 ≤ op && op ≤ 0x1F

/-- Is it an RSP opcode? -/
def isRsp (op : Nat) : Bool := 0x40 ≤ op && op ≤ 0x47

/-- A hop-local opcode (03 R65). -/
def isHop (op : Nat) : Bool := op = opBypDemand || op = opBypGrant || op = opLinkReplay || op = opLinkCredit

/-- A fabric-memory request. -/
def isMemOp (op : Nat) : Bool := op = opLdReq || op = opSt || op = opStCnt || op = opSub || isAtom op

/-- A terminating opcode (03 R65). -/
def isTerm (op : Nat) : Bool := isMemOp op || op = opContrib || op = opMgmt

/-- An opcode that R65 lists with a kind other than Invalid. -/
def opListed (op : Nat) : Bool :=
  isTerm op || isHop op || isRsp op || op = opNotify || op = opResult || op = opResultQ
    || op = opCollStatus || op = opRetract || op = opMgmtRsp

/-- The operand length of an ATOM is one that R66 allows. -/
def atomLenOk (sub len : Nat) : Bool :=
  if sub = 3 then len = 8 || len = 16
  else if sub = 0xB then len = 4
  else if sub = 0xC then len = 2
  else if sub ≤ 0xA then len = 4 || len = 8
  else false

/-- The fields of a terminating request suit its opcode (03 R69). -/
def termFieldsOk (h : Hdr) : Bool :=
  if h.op = opLdReq then 1 ≤ h.len && h.len ≤ 256
  else if h.op = opSt || h.op = opStCnt then 1 ≤ h.len && h.len ≤ 4096
  else if isAtom h.op then atomLenOk (h.op - 0x10) h.len
  else if h.op = opSub then h.len = 8
  else true

end Sys2Proof
end

