-- ==== Sys2Proof/Machine/RegMap.lean ====
section
/-! DEFINITION. The register map of BAR0: one row for each register table of the manual
(00_scope.md R2, R3, R7; each row names the rule that defines it). A register's fields are
given by masks: which bits software reads and writes (RW), clears by writing 1 (W1C), clears by
reading (RC) or only writes (WO). Every other bit is RO or reserved. -/

namespace Sys2Proof

/-- The registers, one name for each register table. -/
inductive RegKind where
  | devIdent
  | devSelf
  | devPkgStatus
  | beatNow
  | beatStatus
  | beatAdjCnt
  | beatC7Susp
  | leCfg
  | leCalCtrl
  | leCalPend
  | leStatus
  | leLoop
  | leLaser
  | leLane
  | leLaneCnt
  | leLoopRes
  | bypCfg
  | bypPlane
  | bypCnt
  | bypLeaf
  | bypLeafCnt
  | bypCirc
  | stnPort
  | stnPortEth
  | stnEpoch
  | stnDrain
  | stnLoadSrc
  | stnLoadCtrl
  | stnLoadStatus
  | stnMeas
  | stnHoldCfg
  | stnSeqRegion
  | stnHoldStatus
  | stnHoldCnt
  | stnPartCfg
  | stnDisMap
  | stnDrainMap
  | stnLaneRpl
  | stnPart
  | stnPartCnt
  | stnMir
  | strLeaf
  | strEmSeed
  | strEmStatus
  | strItemCfg
  | strAgeCfg
  | strCmpCtrl
  | strCmpSrc
  | strLpmStatus
  | strTblCnt0
  | strTblCnt1
  | bufPc
  | bufCredit
  | bufPartMin
  | bufPartUse
  | bufClsMin
  | bufTileStatus
  | bufStgCarve
  | bufSpillCfg
  | bufWeevilCfg
  | bufWeevilStatus
  | qshPc
  | qshPart
  | qshTok
  | fmemCfg
  | fmemAwinRegion
  | fmemTrkStatus
  | fmemCnt0
  | fmemCnt1
  | fmemWin
  | fmemPart
  | fmemCntOwn
  | collCfg
  | collLevelWin
  | collCnt0
  | collCnt1
  | collCtxStat
  | redCnt
  | redSeed
  | intCfg
  | intDupCfg
  | intDupCnt0
  | intDupCnt1
  | intFtCfg
  | intFtCtrl
  | intRedStatus
  | intEcc
  | intPart
  | intClu
  | timeNow0
  | timeNow1
  | timeInc
  | timeSlew
  | timeSet0
  | timeSet1
  | timeStep
  | timeDomCfg
  | timeDomOff
  | timeTsCfg
  | timeStatus
  | timeTrigCtl
  | timeTrigSec
  | timeTrigNs
  | timeTrigCnt
  | timeAlign
  | cntProg
  | cntPcfg
  | cntLane
  | cntPc
  | cntLeaf
  | cntPool
  | cntPart
  | cntUviewSel
  | cntUview
  | cntCfg
  | cntAlloc
  | cntCicadaCfg
  | cntCicadaRegion
  | cntCicadaCtrl
  | cntStatus
  | cntTrace
  | hostCfg
  | hostBar2Page
  | hostCmdBase
  | hostCmdCtl
  | hostCmdIdx
  | hostD2hCfg
  | hostD2hStat
  | hostD2hIrq
  | hostD2hPop
  | hostMgmtCfg
  | hostMgmtPeer
  | hostDdrCfg
  | hostDdrStatus
  | pwrThermCfg
  | pwrThermStatus
  | pwrWakeMask
  | pwrWake
  | pwrDom
  | pwrAge
  | secBootStatus
  | secBootCtrl
  | secFwCtrl
  | secMeasFw
  | secId
deriving DecidableEq, Repr

/-- One row of the map: `count` registers, `stride` bytes apart from `base` (and, for registers of a
unit inside a unit, `count2` groups, `stride2` bytes apart); the masks; the Reset column; and
whether writes take effect at once (00 R8). -/
structure RegRow where
  base : Nat
  stride : Nat
  count : Nat
  stride2 : Nat
  count2 : Nat
  rw : Nat
  w1c : Nat
  rc : Nat
  wo : Nat
  reset : Nat
  atOnce : Bool
deriving DecidableEq, Repr

/-- The row of each register. -/
def RegKind.row : RegKind → RegRow
  | .devIdent => -- 01 R13
    { base := 0x0, stride := 8, count := 1, stride2 := 0x0, count2 := 1,
      rw := 0x0, w1c := 0x0, rc := 0x0, wo := 0x0,
      reset := 0x5016b01024800300, atOnce := false }
  | .devSelf => -- 03 R74
    { base := 0x18, stride := 8, count := 1, stride2 := 0x0, count2 := 1,
      rw := 0x103ffffff, w1c := 0x0, rc := 0x0, wo := 0x0,
      reset := 0x3ffff, atOnce := false }
  | .devPkgStatus => -- 21 R612
    { base := 0x20, stride := 8, count := 1, stride2 := 0x0, count2 := 1,
      rw := 0x0, w1c := 0x4, rc := 0xffff00000000, wo := 0x0,
      reset := 0x0, atOnce := false }
  | .beatNow => -- 02 R38
    { base := 0x100000, stride := 8, count := 1, stride2 := 0x0, count2 := 1,
      rw := 0x0, w1c := 0x0, rc := 0x0, wo := 0x0,
      reset := 0x0, atOnce := false }
  | .beatStatus => -- 02 R39
    { base := 0x100008, stride := 8, count := 1, stride2 := 0x0, count2 := 1,
      rw := 0x0, w1c := 0x300, rc := 0x0, wo := 0x0,
      reset := 0x0, atOnce := false }
  | .beatAdjCnt => -- 02 R40
    { base := 0x100010, stride := 8, count := 1, stride2 := 0x0, count2 := 1,
      rw := 0x0, w1c := 0x0, rc := 0xffffffffffffffff, wo := 0x0,
      reset := 0x0, atOnce := false }
  | .beatC7Susp => -- 02 R51
    { base := 0x100100, stride := 8, count := 16, stride2 := 0x0, count2 := 1,
      rw := 0x0, w1c := 0x0, rc := 0x0, wo := 0x0,
      reset := 0xffffffffffffffff, atOnce := false }
  | .leCfg => -- 08 R240
    { base := 0x200000, stride := 65536, count := 16, stride2 := 0x0, count2 := 1,
      rw := 0x3fffff000f, w1c := 0x0, rc := 0x0, wo := 0x0,
      reset := 0x3e8000e, atOnce := false }
  | .leCalCtrl => -- 08 R241
    { base := 0x200008, stride := 65536, count := 16, stride2 := 0x0, count2 := 1,
      rw := 0x0, w1c := 0x0, rc := 0x0, wo := 0x3003f,
      reset := 0x0, atOnce := false }
  | .leCalPend => -- 08 R242
    { base := 0x200010, stride := 65536, count := 16, stride2 := 0x0, count2 := 1,
      rw := 0x0, w1c := 0x0, rc := 0x0, wo := 0x0,
      reset := 0x0, atOnce := false }
  | .leStatus => -- 08 R243
    { base := 0x200018, stride := 65536, count := 16, stride2 := 0x0, count2 := 1,
      rw := 0x0, w1c := 0x0, rc := 0x0, wo := 0x0,
      reset := 0x0, atOnce := false }
  | .leLoop => -- 21 R622
    { base := 0x200020, stride := 65536, count := 16, stride2 := 0x0, count2 := 1,
      rw := 0xffff0000000000, w1c := 0x0, rc := 0x0, wo := 0x3f01,
      reset := 0xa0000000000, atOnce := true }
  | .leLaser => -- 08 R244
    { base := 0x200100, stride := 8, count := 12, stride2 := 0x10000, count2 := 16,
      rw := 0x0, w1c := 0x0, rc := 0x0, wo := 0x2,
      reset := 0x1e00000000000000, atOnce := false }
  | .leLane => -- 08 R245
    { base := 0x200200, stride := 8, count := 64, stride2 := 0x10000, count2 := 16,
      rw := 0x0, w1c := 0x0, rc := 0x0, wo := 0x1,
      reset := 0x0, atOnce := false }
  | .leLaneCnt => -- 08 R246
    { base := 0x200400, stride := 8, count := 64, stride2 := 0x10000, count2 := 16,
      rw := 0x0, w1c := 0x0, rc := 0xffffffffffffffff, wo := 0x0,
      reset := 0x0, atOnce := false }
  | .leLoopRes => -- 21 R623
    { base := 0x200600, stride := 8, count := 64, stride2 := 0x10000, count2 := 16,
      rw := 0x0, w1c := 0x0, rc := 0x0, wo := 0x0,
      reset := 0x0, atOnce := false }
  | .bypCfg => -- 09 R276
    { base := 0x400000, stride := 8, count := 1, stride2 := 0x0, count2 := 1,
      rw := 0xffff003fff00ff03, w1c := 0x0, rc := 0x0, wo := 0x0,
      reset := 0x3c000004000802, atOnce := false }
  | .bypPlane => -- 09 R277
    { base := 0x400008, stride := 8, count := 4, stride2 := 0x0, count2 := 1,
      rw := 0x3, w1c := 0x0, rc := 0x0, wo := 0x4,
      reset := 0x0, atOnce := false }
  | .bypCnt => -- 09 R278
    { base := 0x400040, stride := 8, count := 4, stride2 := 0x0, count2 := 1,
      rw := 0x0, w1c := 0x0, rc := 0xffffffffffffffff, wo := 0x0,
      reset := 0x0, atOnce := false }
  | .bypLeaf => -- 09 R279
    { base := 0x400100, stride := 8, count := 256, stride2 := 0x0, count2 := 1,
      rw := 0x31, w1c := 0x0, rc := 0x0, wo := 0x0,
      reset := 0xff00000000, atOnce := false }
  | .bypLeafCnt => -- 09 R280
    { base := 0x400900, stride := 8, count := 256, stride2 := 0x0, count2 := 1,
      rw := 0x0, w1c := 0x0, rc := 0xffffffffffffffff, wo := 0x0,
      reset := 0x0, atOnce := false }
  | .bypCirc => -- 09 R281
    { base := 0x402000, stride := 8, count := 1024, stride2 := 0x0, count2 := 1,
      rw := 0x0, w1c := 0x0, rc := 0x0, wo := 0x0,
      reset := 0x0, atOnce := false }
  | .stnPort => -- 03 R56
    { base := 0x600000, stride := 8, count := 1024, stride2 := 0x0, count2 := 1,
      rw := 0xe61, w1c := 0x0, rc := 0x0, wo := 0x0,
      reset := 0x40, atOnce := false }
  | .stnPortEth => -- 03 R72
    { base := 0x602000, stride := 8, count := 1024, stride2 := 0x0, count2 := 1,
      rw := 0x7ffffffffff, w1c := 0x0, rc := 0x0, wo := 0x0,
      reset := 0xe0e0fac688, atOnce := false }
  | .stnEpoch => -- 04 R100
    { base := 0x604000, stride := 8, count := 1, stride2 := 0x0, count2 := 1,
      rw := 0xffff00000000, w1c := 0x0, rc := 0x0, wo := 0x0,
      reset := 0x10000000000, atOnce := false }
  | .stnDrain => -- 04 R101
    { base := 0x604008, stride := 8, count := 2, stride2 := 0x0, count2 := 1,
      rw := 0x0, w1c := 0x0, rc := 0x0, wo := 0x0,
      reset := 0x0, atOnce := false }
  | .stnLoadSrc => -- 04 R107
    { base := 0x604020, stride := 8, count := 1, stride2 := 0x0, count2 := 1,
      rw := 0xfffffffffffff000, w1c := 0x0, rc := 0x0, wo := 0x0,
      reset := 0x0, atOnce := false }
  | .stnLoadCtrl => -- 04 R108
    { base := 0x604028, stride := 8, count := 1, stride2 := 0x0, count2 := 1,
      rw := 0x100, w1c := 0x0, rc := 0x0, wo := 0x1,
      reset := 0x0, atOnce := true }
  | .stnLoadStatus => -- 04 R109
    { base := 0x604030, stride := 8, count := 1, stride2 := 0x0, count2 := 1,
      rw := 0x0, w1c := 0x0, rc := 0x0, wo := 0x0,
      reset := 0x0, atOnce := false }
  | .stnMeas => -- 04 R110
    { base := 0x604100, stride := 8, count := 16, stride2 := 0x0, count2 := 1,
      rw := 0x0, w1c := 0x0, rc := 0x0, wo := 0x0,
      reset := 0x0, atOnce := false }
  | .stnHoldCfg => -- 06 R170
    { base := 0x605000, stride := 8, count := 1, stride2 := 0x0, count2 := 1,
      rw := 0xffffffffffff, w1c := 0x0, rc := 0x0, wo := 0x0,
      reset := 0x40ffffffff, atOnce := false }
  | .stnSeqRegion => -- 06 R171
    { base := 0x605008, stride := 8, count := 1, stride2 := 0x0, count2 := 1,
      rw := 0xfffffffc1f000000, w1c := 0x0, rc := 0x0, wo := 0x0,
      reset := 0xa000000, atOnce := false }
  | .stnHoldStatus => -- 06 R172
    { base := 0x605010, stride := 8, count := 1, stride2 := 0x0, count2 := 1,
      rw := 0x0, w1c := 0x0, rc := 0x0, wo := 0x0,
      reset := 0x0, atOnce := false }
  | .stnHoldCnt => -- 06 R173
    { base := 0x605018, stride := 8, count := 1, stride2 := 0x0, count2 := 1,
      rw := 0x0, w1c := 0x0, rc := 0xffffffffffffffff, wo := 0x0,
      reset := 0x0, atOnce := false }
  | .stnPartCfg => -- 15 R458
    { base := 0x605020, stride := 8, count := 1, stride2 := 0x0, count2 := 1,
      rw := 0xffff00000000003f, w1c := 0x0, rc := 0x0, wo := 0x0,
      reset := 0x100000000000000, atOnce := false }
  | .stnDisMap => -- 15 R461
    { base := 0x606000, stride := 8, count := 64, stride2 := 0x200, count2 := 5,
      rw := 0x0, w1c := 0x0, rc := 0x0, wo := 0x0,
      reset := 0x0, atOnce := false }
  | .stnDrainMap => -- 15 R461
    { base := 0x607000, stride := 8, count := 64, stride2 := 0x200, count2 := 5,
      rw := 0x0, w1c := 0x0, rc := 0x0, wo := 0x0,
      reset := 0x0, atOnce := false }
  | .stnLaneRpl => -- 06 R174
    { base := 0x608000, stride := 8, count := 1024, stride2 := 0x0, count2 := 1,
      rw := 0x0, w1c := 0x0, rc := 0xffffffffffffffff, wo := 0x0,
      reset := 0x0, atOnce := false }
  | .stnPart => -- 15 R459
    { base := 0x60c000, stride := 8, count := 4096, stride2 := 0x0, count2 := 1,
      rw := 0x0, w1c := 0x0, rc := 0x0, wo := 0x0,
      reset := 0x0, atOnce := false }
  | .stnPartCnt => -- 15 R460
    { base := 0x614000, stride := 8, count := 4096, stride2 := 0x0, count2 := 1,
      rw := 0x0, w1c := 0x0, rc := 0xffffffffffffffff, wo := 0x0,
      reset := 0x0, atOnce := false }
  | .stnMir => -- 15 R462
    { base := 0x680000, stride := 8, count := 262144, stride2 := 0x0, count2 := 1,
      rw := 0x0, w1c := 0x0, rc := 0xfffffffffff, wo := 0x0,
      reset := 0x0, atOnce := false }
  | .strLeaf => -- 03 R77
    { base := 0x1000000, stride := 8, count := 256, stride2 := 0x0, count2 := 1,
      rw := 0x103ff, w1c := 0x0, rc := 0x0, wo := 0x0,
      reset := 0x0, atOnce := false }
  | .strEmSeed => -- 05 R143
    { base := 0x1001000, stride := 8, count := 1, stride2 := 0x0, count2 := 1,
      rw := 0xffffffffffffffff, w1c := 0x0, rc := 0x0, wo := 0x0,
      reset := 0xffffffffffffffff, atOnce := false }
  | .strEmStatus => -- 05 R144
    { base := 0x1001008, stride := 8, count := 1, stride2 := 0x0, count2 := 1,
      rw := 0x0, w1c := 0x0, rc := 0x0, wo := 0x0,
      reset := 0x0, atOnce := false }
  | .strItemCfg => -- 05 R129
    { base := 0x1001010, stride := 8, count := 1, stride2 := 0x0, count2 := 1,
      rw := 0x1ff0000007f, w1c := 0x0, rc := 0x0, wo := 0x0,
      reset := 0x10000000000, atOnce := false }
  | .strAgeCfg => -- 05 R131
    { base := 0x1001018, stride := 8, count := 1, stride2 := 0x0, count2 := 1,
      rw := 0xfff, w1c := 0x0, rc := 0x0, wo := 0x0,
      reset := 0x0, atOnce := false }
  | .strCmpCtrl => -- 05 R141
    { base := 0x1001020, stride := 8, count := 1, stride2 := 0x0, count2 := 1,
      rw := 0x1f07, w1c := 0x0, rc := 0x0, wo := 0x0,
      reset := 0x1000, atOnce := false }
  | .strCmpSrc => -- 05 R142
    { base := 0x1001028, stride := 8, count := 3, stride2 := 0x0, count2 := 1,
      rw := 0xfffffff8003fffff, w1c := 0x0, rc := 0x0, wo := 0x0,
      reset := 0x0, atOnce := false }
  | .strLpmStatus => -- 05 R135
    { base := 0x1001040, stride := 8, count := 1, stride2 := 0x0, count2 := 1,
      rw := 0x0, w1c := 0x0, rc := 0x0, wo := 0x0,
      reset := 0x0, atOnce := false }
  | .strTblCnt0 => -- 05 R145
    { base := 0x1001048, stride := 8, count := 1, stride2 := 0x0, count2 := 1,
      rw := 0x0, w1c := 0x0, rc := 0xffffffffffffffff, wo := 0x0,
      reset := 0x0, atOnce := false }
  | .strTblCnt1 => -- 05 R145
    { base := 0x1001050, stride := 8, count := 1, stride2 := 0x0, count2 := 1,
      rw := 0x0, w1c := 0x0, rc := 0xffffffffffffffff, wo := 0x0,
      reset := 0x0, atOnce := false }
  | .bufPc => -- 07 R205
    { base := 0x2000000, stride := 8, count := 8192, stride2 := 0x0, count2 := 1,
      rw := 0x3ffffffffff, w1c := 0x0, rc := 0x0, wo := 0x0,
      reset := 0x200004000, atOnce := false }
  | .bufCredit => -- 07 R206
    { base := 0x2010000, stride := 8, count := 1024, stride2 := 0x0, count2 := 1,
      rw := 0xffffffffff, w1c := 0x0, rc := 0x0, wo := 0x0,
      reset := 0x1008020080, atOnce := false }
  | .bufPartMin => -- 07 R207
    { base := 0x2018000, stride := 8, count := 4096, stride2 := 0x0, count2 := 1,
      rw := 0x1fffffffffff, w1c := 0x0, rc := 0x0, wo := 0x0,
      reset := 0x0, atOnce := false }
  | .bufPartUse => -- 07 R208
    { base := 0x2020000, stride := 8, count := 4096, stride2 := 0x0, count2 := 1,
      rw := 0x0, w1c := 0x0, rc := 0x0, wo := 0x0,
      reset := 0x0, atOnce := false }
  | .bufClsMin => -- 07 R207
    { base := 0x2028000, stride := 8, count := 8, stride2 := 0x0, count2 := 1,
      rw := 0x1fffffffffff, w1c := 0x0, rc := 0x0, wo := 0x0,
      reset := 0x0, atOnce := false }
  | .bufTileStatus => -- 07 R209
    { base := 0x2028100, stride := 8, count := 1, stride2 := 0x0, count2 := 1,
      rw := 0x0, w1c := 0x0, rc := 0x0, wo := 0x0,
      reset := 0xa0000a0000, atOnce := false }
  | .bufStgCarve => -- 07 R210
    { base := 0x2028108, stride := 8, count := 1, stride2 := 0x0, count2 := 1,
      rw := 0xfffff, w1c := 0x0, rc := 0x0, wo := 0x0,
      reset := 0x10109, atOnce := false }
  | .bufSpillCfg => -- 07 R211
    { base := 0x2028110, stride := 8, count := 1, stride2 := 0x0, count2 := 1,
      rw := 0xfffffffffffff001, w1c := 0x0, rc := 0x0, wo := 0x0,
      reset := 0x0, atOnce := false }
  | .bufWeevilCfg => -- 07 R212
    { base := 0x2028120, stride := 8, count := 1, stride2 := 0x0, count2 := 1,
      rw := 0x3fffffffff, w1c := 0x0, rc := 0x0, wo := 0x0,
      reset := 0x10000, atOnce := false }
  | .bufWeevilStatus => -- 07 R213
    { base := 0x2028128, stride := 8, count := 1, stride2 := 0x0, count2 := 1,
      rw := 0x0, w1c := 0x0, rc := 0xffffffff, wo := 0x0,
      reset := 0x0, atOnce := false }
  | .qshPc => -- 07 R214
    { base := 0x2080000, stride := 8, count := 8192, stride2 := 0x0, count2 := 1,
      rw := 0x80ffffffffffffff, w1c := 0x0, rc := 0x0, wo := 0x0,
      reset := 0x60000190000, atOnce := false }
  | .qshPart => -- 07 R214
    { base := 0x2090000, stride := 8, count := 4096, stride2 := 0x0, count2 := 1,
      rw := 0x80ffffffffffffff, w1c := 0x0, rc := 0x0, wo := 0x0,
      reset := 0x60000190000, atOnce := false }
  | .qshTok => -- 07 R215
    { base := 0x20a0000, stride := 8, count := 12288, stride2 := 0x0, count2 := 1,
      rw := 0x0, w1c := 0x0, rc := 0x0, wo := 0x0,
      reset := 0x0, atOnce := false }
  | .fmemCfg => -- 10 R314
    { base := 0x3000000, stride := 8, count := 1, stride2 := 0x0, count2 := 1,
      rw := 0xffff0000003f, w1c := 0x0, rc := 0x0, wo := 0x0,
      reset := 0x40000000000, atOnce := false }
  | .fmemAwinRegion => -- 10 R309
    { base := 0x3000008, stride := 8, count := 1, stride2 := 0x0, count2 := 1,
      rw := 0xfffffffc1f000000, w1c := 0x0, rc := 0x0, wo := 0x0,
      reset := 0xa000000, atOnce := false }
  | .fmemTrkStatus => -- 10 R315
    { base := 0x3000010, stride := 8, count := 1, stride2 := 0x0, count2 := 1,
      rw := 0x0, w1c := 0x0, rc := 0x0, wo := 0x0,
      reset := 0x0, atOnce := false }
  | .fmemCnt0 => -- 10 R316
    { base := 0x3000018, stride := 8, count := 1, stride2 := 0x0, count2 := 1,
      rw := 0x0, w1c := 0x0, rc := 0xffffffffffffffff, wo := 0x0,
      reset := 0x0, atOnce := false }
  | .fmemCnt1 => -- 10 R316
    { base := 0x3000020, stride := 8, count := 1, stride2 := 0x0, count2 := 1,
      rw := 0x0, w1c := 0x0, rc := 0xffffffffffffffff, wo := 0x0,
      reset := 0x0, atOnce := false }
  | .fmemWin => -- 10 R289
    { base := 0x3010000, stride := 8, count := 8192, stride2 := 0x0, count2 := 1,
      rw := 0xf3ffffffffffffff, w1c := 0x0, rc := 0x0, wo := 0x0,
      reset := 0x0, atOnce := false }
  | .fmemPart => -- 10 R290
    { base := 0x3020000, stride := 8, count := 4096, stride2 := 0x0, count2 := 1,
      rw := 0x800000000001ffff, w1c := 0x0, rc := 0x0, wo := 0x0,
      reset := 0x10000, atOnce := false }
  | .fmemCntOwn => -- 10 R300
    { base := 0x3040000, stride := 8, count := 16384, stride2 := 0x0, count2 := 1,
      rw := 0x0, w1c := 0x0, rc := 0x0, wo := 0x0,
      reset := 0x0, atOnce := false }
  | .collCfg => -- 11 R351
    { base := 0x3800000, stride := 8, count := 1, stride2 := 0x0, count2 := 1,
      rw := 0xffff00000000003f, w1c := 0x0, rc := 0x0, wo := 0x0,
      reset := 0x20000000000000, atOnce := false }
  | .collLevelWin => -- 11 R352
    { base := 0x3800008, stride := 8, count := 1, stride2 := 0x0, count2 := 1,
      rw := 0xffffffffffffffff, w1c := 0x0, rc := 0x0, wo := 0x0,
      reset := 0xfa00190002800040, atOnce := false }
  | .collCnt0 => -- 11 R354
    { base := 0x3800010, stride := 8, count := 1, stride2 := 0x0, count2 := 1,
      rw := 0x0, w1c := 0x0, rc := 0xffffffffffffffff, wo := 0x0,
      reset := 0x0, atOnce := false }
  | .collCnt1 => -- 11 R354
    { base := 0x3800018, stride := 8, count := 1, stride2 := 0x0, count2 := 1,
      rw := 0x0, w1c := 0x0, rc := 0xffffffffffffffff, wo := 0x0,
      reset := 0x0, atOnce := false }
  | .collCtxStat => -- 11 R353
    { base := 0x3810000, stride := 8, count := 4096, stride2 := 0x0, count2 := 1,
      rw := 0x0, w1c := 0x0, rc := 0x0, wo := 0x0,
      reset := 0x0, atOnce := false }
  | .redCnt => -- 12 R381
    { base := 0x3c00008, stride := 8, count := 1, stride2 := 0x0, count2 := 1,
      rw := 0x0, w1c := 0x0, rc := 0xffffffffffffffff, wo := 0x0,
      reset := 0x0, atOnce := false }
  | .redSeed => -- 12 R380
    { base := 0x3c01000, stride := 8, count := 768, stride2 := 0x0, count2 := 1,
      rw := 0xffffffffffffffff, w1c := 0x0, rc := 0x0, wo := 0x0,
      reset := 0x1, atOnce := false }
  | .intCfg => -- 14 R427
    { base := 0x4000000, stride := 8, count := 1, stride2 := 0x0, count2 := 1,
      rw := 0xffffff00003f, w1c := 0x0, rc := 0x0, wo := 0x0,
      reset := 0x10018000000, atOnce := false }
  | .intDupCfg => -- 14 R428
    { base := 0x4000008, stride := 8, count := 1, stride2 := 0x0, count2 := 1,
      rw := 0xffffffff00001fff, w1c := 0x0, rc := 0x0, wo := 0x0,
      reset := 0xffffffff00000080, atOnce := false }
  | .intDupCnt0 => -- 14 R429
    { base := 0x4000010, stride := 8, count := 1, stride2 := 0x0, count2 := 1,
      rw := 0x0, w1c := 0x0, rc := 0x0, wo := 0x0,
      reset := 0x0, atOnce := false }
  | .intDupCnt1 => -- 14 R429
    { base := 0x4000018, stride := 8, count := 1, stride2 := 0x0, count2 := 1,
      rw := 0x0, w1c := 0x0, rc := 0xffffffffffffffff, wo := 0x0,
      reset := 0x0, atOnce := false }
  | .intFtCfg => -- 14 R430
    { base := 0x4000020, stride := 8, count := 1, stride2 := 0x0, count2 := 1,
      rw := 0x80000000ffffffff, w1c := 0x0, rc := 0x0, wo := 0x0,
      reset := 0x3e80064, atOnce := false }
  | .intFtCtrl => -- 14 R431
    { base := 0x4000028, stride := 8, count := 1, stride2 := 0x0, count2 := 1,
      rw := 0x0, w1c := 0x0, rc := 0x0, wo := 0x303ff,
      reset := 0x0, atOnce := false }
  | .intRedStatus => -- 14 R435
    { base := 0x4000030, stride := 8, count := 1, stride2 := 0x0, count2 := 1,
      rw := 0x0, w1c := 0x0, rc := 0x0, wo := 0x0,
      reset := 0x300, atOnce := false }
  | .intEcc => -- 14 R432
    { base := 0x4001000, stride := 8, count := 34, stride2 := 0x0, count2 := 1,
      rw := 0x0, w1c := 0x0, rc := 0xffffffffffff0000, wo := 0x0,
      reset := 0x0, atOnce := false }
  | .intPart => -- 14 R433
    { base := 0x4002000, stride := 8, count := 4096, stride2 := 0x0, count2 := 1,
      rw := 0x8000000000000000, w1c := 0x0, rc := 0xffffffff, wo := 0x0,
      reset := 0x0, atOnce := false }
  | .intClu => -- 14 R434
    { base := 0x400a000, stride := 8, count := 768, stride2 := 0x0, count2 := 1,
      rw := 0x3c00000000000000, w1c := 0x0, rc := 0x3fffffc00000000, wo := 0x0,
      reset := 0x0, atOnce := false }
  | .timeNow0 => -- 16 R479
    { base := 0x4200000, stride := 8, count := 1, stride2 := 0x0, count2 := 1,
      rw := 0x0, w1c := 0x0, rc := 0x0, wo := 0x0,
      reset := 0x0, atOnce := false }
  | .timeNow1 => -- 16 R479
    { base := 0x4200008, stride := 8, count := 1, stride2 := 0x0, count2 := 1,
      rw := 0x0, w1c := 0x0, rc := 0x0, wo := 0x0,
      reset := 0x0, atOnce := false }
  | .timeInc => -- 16 R480
    { base := 0x4200010, stride := 8, count := 1, stride2 := 0x0, count2 := 1,
      rw := 0xffffffffffffffff, w1c := 0x0, rc := 0x0, wo := 0x0,
      reset := 0x100000000, atOnce := true }
  | .timeSlew => -- 16 R481
    { base := 0x4200018, stride := 8, count := 1, stride2 := 0x0, count2 := 1,
      rw := 0xffff000000000000, w1c := 0x0, rc := 0x0, wo := 0xffffffffffff,
      reset := 0x2710000000000000, atOnce := true }
  | .timeSet0 => -- 16 R482
    { base := 0x4200020, stride := 8, count := 1, stride2 := 0x0, count2 := 1,
      rw := 0xffffffffffff, w1c := 0x0, rc := 0x0, wo := 0x0,
      reset := 0x0, atOnce := true }
  | .timeSet1 => -- 16 R482
    { base := 0x4200028, stride := 8, count := 1, stride2 := 0x0, count2 := 1,
      rw := 0x3fffffff00000000, w1c := 0x0, rc := 0x0, wo := 0x1,
      reset := 0x0, atOnce := true }
  | .timeStep => -- 16 R482
    { base := 0x4200030, stride := 8, count := 1, stride2 := 0x0, count2 := 1,
      rw := 0x0, w1c := 0x0, rc := 0x0, wo := 0xffffffffffffffff,
      reset := 0x0, atOnce := true }
  | .timeDomCfg => -- 16 R483
    { base := 0x4200038, stride := 8, count := 1, stride2 := 0x0, count2 := 1,
      rw := 0xffff000100, w1c := 0x0, rc := 0x0, wo := 0x0,
      reset := 0x100000000, atOnce := false }
  | .timeDomOff => -- 16 R483
    { base := 0x4200040, stride := 8, count := 2, stride2 := 0x0, count2 := 1,
      rw := 0xffffffffffffffff, w1c := 0x0, rc := 0x0, wo := 0x0,
      reset := 0x0, atOnce := false }
  | .timeTsCfg => -- 16 R485
    { base := 0x4200050, stride := 8, count := 1, stride2 := 0x0, count2 := 1,
      rw := 0x33f, w1c := 0x0, rc := 0xffffffff00000000, wo := 0x0,
      reset := 0x0, atOnce := false }
  | .timeStatus => -- 16 R484
    { base := 0x4200058, stride := 8, count := 1, stride2 := 0x0, count2 := 1,
      rw := 0x0, w1c := 0x2000000000000000, rc := 0x0, wo := 0x0,
      reset := 0x0, atOnce := false }
  | .timeTrigCtl => -- 16 R486
    { base := 0x4201000, stride := 32, count := 64, stride2 := 0x0, count2 := 1,
      rw := 0x9fff8000ffffffff, w1c := 0x2000000000000000, rc := 0x0, wo := 0x0,
      reset := 0x0, atOnce := false }
  | .timeTrigSec => -- 16 R486
    { base := 0x4201008, stride := 32, count := 64, stride2 := 0x0, count2 := 1,
      rw := 0xffffffffffff, w1c := 0x0, rc := 0x0, wo := 0x0,
      reset := 0x0, atOnce := false }
  | .timeTrigNs => -- 16 R486
    { base := 0x4201010, stride := 32, count := 64, stride2 := 0x0, count2 := 1,
      rw := 0x3fffffff, w1c := 0x0, rc := 0x0, wo := 0x0,
      reset := 0x0, atOnce := false }
  | .timeTrigCnt => -- 16 R486
    { base := 0x4201018, stride := 32, count := 64, stride2 := 0x0, count2 := 1,
      rw := 0x0, w1c := 0x0, rc := 0xffff0000, wo := 0x0,
      reset := 0x0, atOnce := false }
  | .timeAlign => -- 16 R487
    { base := 0x4202000, stride := 8, count := 256, stride2 := 0x0, count2 := 1,
      rw := 0x0, w1c := 0x0, rc := 0xffffffff00000000, wo := 0x0,
      reset := 0x0, atOnce := false }
  | .cntProg => -- 17 R498
    { base := 0x4400000, stride := 8, count := 8192, stride2 := 0x0, count2 := 1,
      rw := 0xffffffffffffffff, w1c := 0x0, rc := 0x0, wo := 0x0,
      reset := 0x0, atOnce := false }
  | .cntPcfg => -- 17 R499
    { base := 0x4410000, stride := 8, count := 8192, stride2 := 0x0, count2 := 1,
      rw := 0xbfffffffffffffff, w1c := 0x0, rc := 0x0, wo := 0x0,
      reset := 0x0, atOnce := false }
  | .cntLane => -- 17 R490
    { base := 0x4420000, stride := 8, count := 32768, stride2 := 0x0, count2 := 1,
      rw := 0x0, w1c := 0x0, rc := 0x0, wo := 0x0,
      reset := 0x0, atOnce := false }
  | .cntPc => -- 17 R491
    { base := 0x4460000, stride := 8, count := 32768, stride2 := 0x0, count2 := 1,
      rw := 0x0, w1c := 0x0, rc := 0x0, wo := 0x0,
      reset := 0x0, atOnce := false }
  | .cntLeaf => -- 17 R491
    { base := 0x44a0000, stride := 8, count := 256, stride2 := 0x0, count2 := 1,
      rw := 0x0, w1c := 0x0, rc := 0x0, wo := 0x0,
      reset := 0x0, atOnce := false }
  | .cntPool => -- 17 R491
    { base := 0x44a0800, stride := 8, count := 10, stride2 := 0x0, count2 := 1,
      rw := 0x0, w1c := 0x0, rc := 0x0, wo := 0x0,
      reset := 0x0, atOnce := false }
  | .cntPart => -- 17 R494
    { base := 0x44b0000, stride := 8, count := 4096, stride2 := 0x0, count2 := 1,
      rw := 0x8000000000000000, w1c := 0x0, rc := 0x0, wo := 0x0,
      reset := 0x0, atOnce := false }
  | .cntUviewSel => -- 17 R495
    { base := 0x44c0000, stride := 8, count := 1, stride2 := 0x0, count2 := 1,
      rw := 0xfff, w1c := 0x0, rc := 0x0, wo := 0x0,
      reset := 0x0, atOnce := true }
  | .cntUview => -- 17 R495
    { base := 0x44c0100, stride := 8, count := 64, stride2 := 0x0, count2 := 1,
      rw := 0x0, w1c := 0x0, rc := 0x0, wo := 0x0,
      reset := 0x0, atOnce := false }
  | .cntCfg => -- 17 R509
    { base := 0x44f0000, stride := 8, count := 1, stride2 := 0x0, count2 := 1,
      rw := 0xffff00000000, w1c := 0x0, rc := 0x0, wo := 0x0,
      reset := 0x4000000000, atOnce := false }
  | .cntAlloc => -- 17 R500
    { base := 0x44f0008, stride := 8, count := 1, stride2 := 0x0, count2 := 1,
      rw := 0x1fff00000000, w1c := 0x0, rc := 0x0, wo := 0x20000000000001ff,
      reset := 0x0, atOnce := true }
  | .cntCicadaCfg => -- 17 R507
    { base := 0x44f0010, stride := 8, count := 1, stride2 := 0x0, count2 := 1,
      rw := 0xdf3f0000ffffffff, w1c := 0x0, rc := 0x0, wo := 0x0,
      reset := 0x100000000000400, atOnce := false }
  | .cntCicadaRegion => -- 17 R508
    { base := 0x44f0018, stride := 8, count := 1, stride2 := 0x0, count2 := 1,
      rw := 0xfffffffc0000ffff, w1c := 0x0, rc := 0x0, wo := 0x0,
      reset := 0x1, atOnce := false }
  | .cntCicadaCtrl => -- 17 R509
    { base := 0x44f0020, stride := 8, count := 1, stride2 := 0x0, count2 := 1,
      rw := 0x0, w1c := 0x0, rc := 0xffff0000, wo := 0x6,
      reset := 0x0, atOnce := false }
  | .cntStatus => -- 17 R510
    { base := 0x44f0028, stride := 8, count := 1, stride2 := 0x0, count2 := 1,
      rw := 0x0, w1c := 0x0, rc := 0xffffffffffffffff, wo := 0x0,
      reset := 0x0, atOnce := false }
  | .cntTrace => -- 17 R512
    { base := 0x44f0100, stride := 8, count := 4, stride2 := 0x0, count2 := 1,
      rw := 0xffffffff0000003f, w1c := 0x0, rc := 0xffff0000, wo := 0x0,
      reset := 0x0, atOnce := false }
  | .hostCfg => -- 18 R521
    { base := 0x4600000, stride := 8, count := 1, stride2 := 0x0, count2 := 1,
      rw := 0x7ff000007ff, w1c := 0x0, rc := 0x0, wo := 0x0,
      reset := 0x0, atOnce := true }
  | .hostBar2Page => -- 18 R518
    { base := 0x4600100, stride := 8, count := 64, stride2 := 0x0, count2 := 1,
      rw := 0xc0000000000007ff, w1c := 0x0, rc := 0x0, wo := 0x0,
      reset := 0x0, atOnce := true }
  | .hostCmdBase => -- 18 R526
    { base := 0x4610000, stride := 32, count := 64, stride2 := 0x0, count2 := 1,
      rw := 0xfffffffffffff01f, w1c := 0x0, rc := 0x0, wo := 0x0,
      reset := 0x9, atOnce := true }
  | .hostCmdCtl => -- 18 R527
    { base := 0x4610008, stride := 32, count := 64, stride2 := 0x0, count2 := 1,
      rw := 0xa00ffffffffffff8, w1c := 0x0, rc := 0x0, wo := 0x4000000000000000,
      reset := 0x0, atOnce := true }
  | .hostCmdIdx => -- 18 R528
    { base := 0x4610010, stride := 32, count := 64, stride2 := 0x0, count2 := 1,
      rw := 0xffffffff00000000, w1c := 0x0, rc := 0x0, wo := 0x0,
      reset := 0x0, atOnce := true }
  | .hostD2hCfg => -- 18 R537
    { base := 0x4620000, stride := 32, count := 64, stride2 := 0x0, count2 := 1,
      rw := 0x81f000000001ffff, w1c := 0x0, rc := 0xffff000000000, wo := 0x4000000000000000,
      reset := 0xb0000000000000, atOnce := true }
  | .hostD2hStat => -- 18 R538
    { base := 0x4620008, stride := 32, count := 64, stride2 := 0x0, count2 := 1,
      rw := 0x0, w1c := 0x0, rc := 0x0, wo := 0x0,
      reset := 0x0, atOnce := false }
  | .hostD2hIrq => -- 18 R539
    { base := 0x4620010, stride := 32, count := 64, stride2 := 0x0, count2 := 1,
      rw := 0x87ffffffffff0000, w1c := 0x0, rc := 0x0, wo := 0x0,
      reset := 0x100040000, atOnce := true }
  | .hostD2hPop => -- 18 R540
    { base := 0x4630000, stride := 8, count := 512, stride2 := 0x0, count2 := 1,
      rw := 0x0, w1c := 0x0, rc := 0x0, wo := 0x0,
      reset := 0x0, atOnce := false }
  | .hostMgmtCfg => -- 18 R543
    { base := 0x4640000, stride := 8, count := 1, stride2 := 0x0, count2 := 1,
      rw := 0x800000000000003f, w1c := 0x0, rc := 0x0, wo := 0x0,
      reset := 0x3f, atOnce := false }
  | .hostMgmtPeer => -- 18 R543
    { base := 0x4640008, stride := 8, count := 8, stride2 := 0x0, count2 := 1,
      rw := 0x800000000003ffff, w1c := 0x0, rc := 0x0, wo := 0x0,
      reset := 0x3ffff, atOnce := false }
  | .hostDdrCfg => -- 18 R548
    { base := 0x4650000, stride := 8, count := 1, stride2 := 0x0, count2 := 1,
      rw := 0xc000000000000000, w1c := 0x0, rc := 0x0, wo := 0x0,
      reset := 0x4000000000000000, atOnce := true }
  | .hostDdrStatus => -- 18 R549
    { base := 0x4650008, stride := 8, count := 8, stride2 := 0x0, count2 := 1,
      rw := 0x0, w1c := 0x0, rc := 0x0, wo := 0x0,
      reset := 0x0, atOnce := false }
  | .pwrThermCfg => -- 19 R565
    { base := 0x4800000, stride := 8, count := 1, stride2 := 0x0, count2 := 1,
      rw := 0xffffffffffffff3f, w1c := 0x0, rc := 0x0, wo := 0x0,
      reset := 0x5f6650041e040000, atOnce := false }
  | .pwrThermStatus => -- 19 R566
    { base := 0x4800008, stride := 8, count := 1, stride2 := 0x0, count2 := 1,
      rw := 0x0, w1c := 0x0, rc := 0x0, wo := 0x0,
      reset := 0x0, atOnce := false }
  | .pwrWakeMask => -- 19 R570
    { base := 0x4800010, stride := 8, count := 4, stride2 := 0x0, count2 := 1,
      rw := 0xffffffffffffffff, w1c := 0x0, rc := 0x0, wo := 0x0,
      reset := 0x0, atOnce := false }
  | .pwrWake => -- 19 R571
    { base := 0x4800030, stride := 8, count := 1, stride2 := 0x0, count2 := 1,
      rw := 0x0, w1c := 0x100000000, rc := 0x0, wo := 0x0,
      reset := 0x0, atOnce := false }
  | .pwrDom => -- 19 R556
    { base := 0x4801000, stride := 8, count := 96, stride2 := 0x0, count2 := 1,
      rw := 0x200000000000000, w1c := 0x0, rc := 0x0, wo := 0x0,
      reset := 0x0, atOnce := false }
  | .pwrAge => -- 19 R576
    { base := 0x4801800, stride := 8, count := 94, stride2 := 0x0, count2 := 1,
      rw := 0x0, w1c := 0x0, rc := 0x0, wo := 0x0,
      reset := 0x0, atOnce := false }
  | .secBootStatus => -- 20 R597
    { base := 0x4a00000, stride := 8, count := 1, stride2 := 0x0, count2 := 1,
      rw := 0x0, w1c := 0x0, rc := 0x0, wo := 0x0,
      reset := 0x0, atOnce := false }
  | .secBootCtrl => -- 20 R598
    { base := 0x4a00008, stride := 8, count := 1, stride2 := 0x0, count2 := 1,
      rw := 0xfffffffffffff000, w1c := 0x0, rc := 0x0, wo := 0x1,
      reset := 0x0, atOnce := false }
  | .secFwCtrl => -- 20 R599
    { base := 0x4a00010, stride := 8, count := 1, stride2 := 0x0, count2 := 1,
      rw := 0x0, w1c := 0x0, rc := 0x0, wo := 0x1f,
      reset := 0x0, atOnce := true }
  | .secMeasFw => -- 20 R600
    { base := 0x4a00040, stride := 8, count := 8, stride2 := 0x0, count2 := 1,
      rw := 0x0, w1c := 0x0, rc := 0x0, wo := 0x0,
      reset := 0x0, atOnce := false }
  | .secId => -- 20 R600
    { base := 0x4a00080, stride := 8, count := 1, stride2 := 0x0, count2 := 1,
      rw := 0x0, w1c := 0x0, rc := 0x0, wo := 0x0,
      reset := 0x0, atOnce := false }

/-- Part 1 of the list of registers. -/
def regList1 : List RegKind :=
  [.devIdent, .devSelf, .devPkgStatus, .beatNow, .beatStatus, .beatAdjCnt, .beatC7Susp, .leCfg, .leCalCtrl, .leCalPend, .leStatus, .leLoop, .leLaser, .leLane, .leLaneCnt, .leLoopRes, .bypCfg, .bypPlane, .bypCnt, .bypLeaf, .bypLeafCnt, .bypCirc, .stnPort, .stnPortEth, .stnEpoch, .stnDrain, .stnLoadSrc, .stnLoadCtrl, .stnLoadStatus]

/-- Part 2 of the list of registers. -/
def regList2 : List RegKind :=
  [.stnMeas, .stnHoldCfg, .stnSeqRegion, .stnHoldStatus, .stnHoldCnt, .stnPartCfg, .stnDisMap, .stnDrainMap, .stnLaneRpl, .stnPart, .stnPartCnt, .stnMir, .strLeaf, .strEmSeed, .strEmStatus, .strItemCfg, .strAgeCfg, .strCmpCtrl, .strCmpSrc, .strLpmStatus, .strTblCnt0, .strTblCnt1, .bufPc, .bufCredit, .bufPartMin, .bufPartUse, .bufClsMin, .bufTileStatus, .bufStgCarve]

/-- Part 3 of the list of registers. -/
def regList3 : List RegKind :=
  [.bufSpillCfg, .bufWeevilCfg, .bufWeevilStatus, .qshPc, .qshPart, .qshTok, .fmemCfg, .fmemAwinRegion, .fmemTrkStatus, .fmemCnt0, .fmemCnt1, .fmemWin, .fmemPart, .fmemCntOwn, .collCfg, .collLevelWin, .collCnt0, .collCnt1, .collCtxStat, .redCnt, .redSeed, .intCfg, .intDupCfg, .intDupCnt0, .intDupCnt1, .intFtCfg, .intFtCtrl, .intRedStatus, .intEcc]

/-- Part 4 of the list of registers. -/
def regList4 : List RegKind :=
  [.intPart, .intClu, .timeNow0, .timeNow1, .timeInc, .timeSlew, .timeSet0, .timeSet1, .timeStep, .timeDomCfg, .timeDomOff, .timeTsCfg, .timeStatus, .timeTrigCtl, .timeTrigSec, .timeTrigNs, .timeTrigCnt, .timeAlign, .cntProg, .cntPcfg, .cntLane, .cntPc, .cntLeaf, .cntPool, .cntPart, .cntUviewSel, .cntUview, .cntCfg, .cntAlloc]

/-- Part 5 of the list of registers. -/
def regList5 : List RegKind :=
  [.cntCicadaCfg, .cntCicadaRegion, .cntCicadaCtrl, .cntStatus, .cntTrace, .hostCfg, .hostBar2Page, .hostCmdBase, .hostCmdCtl, .hostCmdIdx, .hostD2hCfg, .hostD2hStat, .hostD2hIrq, .hostD2hPop, .hostMgmtCfg, .hostMgmtPeer, .hostDdrCfg, .hostDdrStatus, .pwrThermCfg, .pwrThermStatus, .pwrWakeMask, .pwrWake, .pwrDom, .pwrAge, .secBootStatus, .secBootCtrl, .secFwCtrl, .secMeasFw, .secId]

/-- Every register, in ascending order of its file and rule. -/
def allRegs : List RegKind := regList1 ++ regList2 ++ regList3 ++ regList4 ++ regList5

/-- The BAR0 offset of register `i` of kind `k`. -/
def RegKind.off (k : RegKind) (i : Nat) : Nat :=
  let r := k.row
  r.base + r.stride2 * (i / r.count) + r.stride * (i % r.count)

/-- How many registers of kind `k` there are. -/
def RegKind.total (k : RegKind) : Nat := k.row.count * k.row.count2

/-- Which register of kind `k` stands at `off`, if any. -/
def RegKind.find (k : RegKind) (off : Nat) : Option Nat :=
  let r := k.row
  if off < r.base then none
  else
    let d := off - r.base
    let o := if r.stride2 = 0 then 0 else d / r.stride2
    let e := if r.stride2 = 0 then d else d % r.stride2
    if o < r.count2 && e % r.stride = 0 && e / r.stride < r.count then some (o * r.count + e / r.stride)
    else none

/-- The register at a BAR0 offset (00 R6: a reserved address holds none). -/
def regAt (off : Nat) : Option (RegKind × Nat) :=
  allRegs.findSome? fun k => (k.find off).map fun i => (k, i)

/-- The Reset column of a register. -/
def RegKind.reset (k : RegKind) : Word := BitVec.ofNat 64 k.row.reset

/-- The RW bits of a register. -/
def RegKind.rwMask (k : RegKind) : Word := BitVec.ofNat 64 k.row.rw

/-- The W1C bits of a register. -/
def RegKind.w1cMask (k : RegKind) : Word := BitVec.ofNat 64 k.row.w1c

/-- The RC bits of a register. -/
def RegKind.rcMask (k : RegKind) : Word := BitVec.ofNat 64 k.row.rc

/-- The WO and W1S bits of a register. -/
def RegKind.woMask (k : RegKind) : Word := BitVec.ofNat 64 k.row.wo

/-- Whether a BAR0 offset lies in a register block (18_host_and_memory_interfaces.md R517). -/
def inBlock (off : Nat) : Bool := decide (off < 0x4C00000)

end Sys2Proof
end

