-- ==== Sys2Proof/Machine/StateBase.lean ====
section
/-! DEFINITION. The plain data of the beat, the registers, the counters, the host attachment and the
partitions, and of what the part puts out. Each structure is one block's part of the state; every
field names the rule of spec/ that gives it. -/

namespace Sys2Proof.Machine

/-! ## What the part puts out -/

/-- The events that the manual says the part raises, by the rule that raises them. They reach the
management controller; the manual gives them no other carrier. -/
inductive EventKind where
  | beatImage | crossing | c7Suspend | c7Resume          -- 02 R34, R45, R50
  | port | modeMismatch | portConfig | leafConfig        -- 03 R55, R58, R68, R78
  | epochDrop | progMem | load                           -- 04 R96, R97, R106
  | laneDown | occupancy | penTimeout | recordFull       -- 06 R157, R162, R166, R167
  | lpmFull                                              -- 01 R24
  | buffer | bufConfig | freeList                        -- 07 R180, R182, R185, R203
  | laserFail | laserAlarm | unlock | mislock | laneFailed | calSkip | cal -- 08
  | plane | leafAlign | grantLost                        -- 09
  | trkTimeout | windowFull | deadTarget                 -- 10
  | collective | sparse                                  -- 11, 12
  | ecc | suspectCluster | fieldTest | watchdog | partFault -- 14
  | trigger | timeSwitch                                 -- 16
  | power | thermal | ageing | wake                      -- 19
  | boot | refLost | refBack                             -- 20, 21
deriving DecidableEq, Repr

/-- What the part has put on its lanes, links, pins and to its controller, oldest first: the model's
own record of outputs (log entry 4). -/
inductive OutEv where
  /-- An Asune frame whose last byte has left on a lane: header and payload, padded to 256 bytes. -/
  | frame (lane : Nat) (bytes : List Byte)
  /-- A hop-local frame sent on a lane. -/
  | hop (lane : Nat) (bytes : List Byte)
  /-- A transmit direction that returns from bypass restarts its stream (09 R258). -/
  | restart (lane : Nat)
  /-- A frame ended at once with a PCS error block (06 R153, 15 R441). -/
  | cut (lane : Nat)
  /-- An Ethernet frame, FCS included; `inv` says that the FCS is sent inverted (14 R408). -/
  | eth (port : Nat) (bytes : List Byte) (inv : Bool)
  /-- A PFC frame for one class (07 R190). -/
  | pfc (port cls quanta : Nat)
  /-- An MSI-X message (18 R520). -/
  | msix (vec : Nat) (addr data : Word)
  /-- A completion of a PCIe read: its registers or bytes. -/
  | cplRegs (vals : List Word)
  | cplBytes (bytes : List Byte) (poisoned : Bool)
  /-- A read completed with Unsupported Request. -/
  | cplUR
  /-- A write discarded and reported as Unsupported Request under AER. -/
  | aerUR
  /-- A posted write to host memory (18 R523). -/
  | hostWrite (addr : Nat) (w : Word)
  /-- A 64 ns pulse on the time output pin, from the boundary (16 R474, 21 R619). -/
  | pulse
  /-- A power-management event message (19 R569). -/
  | pme
  /-- An SPDM response (20 R593), its code and its bytes. -/
  | spdm (code : Nat) (body : List Byte)
  /-- What a TAP data register captures, shifted out on TDO (21 R616, R617). -/
  | tdo (value : Nat)
  /-- Words of firmware data to the controller: a PTP message and its time (16 R469). -/
  | toController (bytes : List Byte)
  /-- An event raised to the management controller, with its values. -/
  | event (k : EventKind) (args : List Nat)
deriving DecidableEq, Repr

/-! ## Registers (00 R3, R8; 02 R32, R47) -/

/-- A register write that waits for a boundary (00 R8). `late`: it completed within the last 32
core cycles of the beat (02 R32). -/
structure PendWrite where
  kind : RegKind
  idx : Nat
  val : Word
  late : Bool
deriving DecidableEq, Repr

/-- The register file: values in effect by BAR0 offset / 8 (unlisted: the Reset column), pending
writes, oldest first, and each reader's captured copies of wide sets. -/
structure RegState where
  eff : SMap Word := []
  pend : List PendWrite := []
  capHost : SMap Word := []
  capMc : SMap Word := []
deriving DecidableEq, Repr

/-! ## The beat (02) -/

/-- The beat generator (02 R33 to R40, R50, R52). -/
structure BeatState where
  running : Bool := false
  bc : Nat := 0
  now : Nat := 0
  tied : Bool := false
  reload : Bool := false
  length : Nat := 512
  realign : Bool := false
  stretchW : Bool := false
  stretchE : Bool := false
  /-- Events that have been called for the coming boundary, which performs them (R28, R29; log entry 3). -/
  calls : List Instr := []
  /-- Ports whose every condition of R48 holds, with 1 + the boundary since which it has. -/
  c7ok : SMap Nat := []
  /-- Ports whose bound is in force (02 R51), and lanes whose replay or hand-over of this beat breaks it. -/
  c7on : List Nat := []
  c7hit : List Nat := []
deriving DecidableEq, Repr

/-! ## Counters (17) -/

/-- A dump in progress (17 R502 to R505). -/
structure Dump where
  /-- The boundary count of its snapshot, and the host ring of a dump with dest = 1. -/
  bc : Nat
  ring : Option Nat
  seq : Nat
  slot : Nat
  sections : Nat
  overrun : Nat
  beat : Nat
  sec : Nat
  ns : Nat
  off : Nat
deriving DecidableEq, Repr

/-- The counter block. `live` and `shadow` are keyed by the counter's BAR0 offset / 8; partition p's
counter j by 2^40 + 64p + j. -/
structure CntState where
  live : SMap Nat := []
  shadow : SMap Nat := []
  shadowBeat : Nat := 0
  sinceEn : Nat := 0
  sinceUser : Nat := 0
  deferred : Bool := false
  dump : Option Dump := none
  skipped : Nat := 0
  seqNext : Nat := 0
  /-- A trigger asks for a dump at the coming boundary. -/
  wantDump : Bool := false
  /-- The snapshot of the coming boundary has been taken; the causes already met for it
  (CICADA_PERIODIC, USER_REFRESH), and a dump already skipped. -/
  taken : Bool := false
  periodicDone : Bool := false
  userDone : Bool := false
  skipDone : Bool := false
  /-- Matches of each trace unit since its en, and its samples of this beat. -/
  traceMatch : SMap Nat := []
  traceBeat : SMap Nat := []
deriving DecidableEq, Repr

/-! ## The host attachment (18) -/

/-- One 32-byte item of four words. -/
structure Item where
  w0 : Word
  w1 : Word
  w2 : Word
  w3 : Word
deriving DecidableEq, Repr

/-- A stored word of the device-to-host SRAM (18 R531): an item and its marks. -/
structure Stored where
  item : Item
  last : Bool
  brk : Bool
deriving DecidableEq, Repr

/-- The empty stored word. -/
def Stored.none : Stored := { item := ⟨0, 0, 0, 0⟩, last := false, brk := false }

/-- A device-to-host ring (18 R531 to R539); its settings are registers. -/
structure D2hRing where
  wr : Nat := 0
  rd : Nat := 0
  pkts : Nat := 0
  cap : List Word := []
  armed : Bool := true
  /-- Boundaries at which pkts has been non-zero, since it last became so. -/
  nonzero : Nat := 0
deriving DecidableEq, Repr

/-- A command program that the sequencer has fetched (04 R111, R112). `mgmt`: it came from a MGMT
frame of kind 3 (18 R542), and its completion goes back in a MGMT_RSP. -/
structure CmdProg where
  ring : Nat
  tag : Nat
  part : Nat
  irq : Bool
  atBeatEn : Bool
  atBeat : Nat
  late : Bool
  code : List Word
  /-- It committed within the last 32 cycles of its beat (02 R32). -/
  cut : Bool
  /-- Words of the entry: what ci moves past. -/
  words : Nat
  /-- The descriptors that its ctx.new instructions name, by instruction, as read when it committed; none where one
  cannot be read whole (11 R323). -/
  descs : List (Nat × Option (List Word)) := []
  mgmt : Option Hdr
deriving DecidableEq, Repr

/-- A command ring (18 R522 to R528); base, lg and pi are registers. -/
structure CmdRing where
  ci : Nat := 0
  err : Nat := 0
  error : Bool := false
  flush : Bool := false
  held : Option CmdProg := none
  /-- The last ci written back, and 1 + the boundary count of the beat in which it was. -/
  wrote : Nat := 0
  wbAt : Nat := 0
deriving DecidableEq, Repr

/-- An MSI-X table entry (18 R516, R520). -/
structure Msix where
  addr : Word
  data : Word
  mask : Bool
deriving DecidableEq, Repr

/-- An MSI-X entry after reset: masked (PRESUMED, log entry 9). -/
def Msix.reset : Msix := { addr := 0, data := 0, mask := true }

/-- One DDR5 channel (18 R545, R549). States: 0 OFF, 1 TRAIN, 2 READY, 3 FAILED. -/
structure DdrChan where
  state : Nat := 0
  present : Bool := false
  temp : Nat := 0
  cap : Nat := 0
  ranks : Nat := 0
  failStep : Nat := 0
  /-- Refresh is doubled: the module read 85 °C or more (18 R549). It shows in no command's effect. -/
  hot : Bool := false
  /-- The boundary count until which a recalibration takes subchannel 0, and subchannel 1. -/
  recalA : Nat := 0
  recalB : Nat := 0
deriving DecidableEq, Repr

/-- A program that a MGMT frame of kind 3 has posted on the management ring (18 R542): the count of its first
word, the frame's header and the words. -/
structure MgmtPost where
  at_ : Nat
  hdr : Hdr
  words : List Word
deriving DecidableEq, Repr

/-- The host attachment. -/
structure HostState where
  speed : Nat := 0
  width : Nat := 0
  flit : Bool := false
  msix : SMap Msix := []
  funcMask : Bool := false
  pba : SMap Bool := []
  cmd : SMap CmdRing := []
  d2h : SMap D2hRing := []
  sram : SMap Stored := []
  /-- Packets of items that wait for a ring's write port, in order. -/
  outbox : List (Nat × List Item) := []
  commits : List CmdProg := []
  ddr : SMap DdrChan := []
  ddrState : Nat := 0
  mgmtIn : List MgmtPost := []
deriving DecidableEq, Repr

/-! ## Partitions (15) -/

/-- The partition states (15 R438), with the codes of STN_PART_p. -/
inductive PSt where
  | free | created | running | condemned | reset | quarantine
deriving DecidableEq, Repr

/-- The code of a partition state. -/
def PSt.code : PSt → Nat
  | .free => 0
  | .created => 1
  | .running => 2
  | .condemned => 3
  | .reset => 4
  | .quarantine => 5

/-- One partition: its state and the boundary of its reset. -/
structure PartInfo where
  st : PSt := .free
  resetAt : Nat := 0
deriving DecidableEq, Repr

/-- A disabled function (15 R445). `drain`: still draining, until `deadline`; `cutDue`: its CUT
discards at the next boundary. -/
structure Disable where
  kind : Nat
  idx : Nat
  drainMode : Bool
  at_ : Nat
  deadline : Nat
  draining : Bool
  cutDue : Bool
deriving DecidableEq, Repr

/-- A discard due in step 2 of the next boundary (15 R442): kind as `dis`, the outcome that item 0x79
gives (15 R448), and whether it ends a drain. -/
structure Discard where
  kind : Nat
  idx : Nat
  outcome : Nat
  drain : Bool
deriving DecidableEq, Repr

/-- A digest in the mirror compare store (15 R451). -/
structure MirDigest where
  prim : Nat
  key : List Nat
  digest : Nat
  fromShadow : Bool
  since : Nat
deriving DecidableEq, Repr

/-- Partitions, disables and shadowing. -/
structure PartState where
  st : SMap PartInfo := []
  dis : List Disable := []
  /-- Ports and reduction domains that come back into service or into A at the next boundary (15 R446, 03 R58). -/
  back : List (Nat × Nat) := []
  discards : List Discard := []
  digests : List MirDigest := []
  /-- Shadows whose pair mir.clr has ended, with the boundary of mir.clr (15 R452). -/
  shadowDrop : List (Nat × Nat) := []
  /-- Partition faults of this beat: partition, memory code, die, address (14 R406). -/
  faults : List (Nat × Nat × Nat × Nat) := []
  /-- Condemnations of this beat: partition, cause (1 dead target, 2 integrity), memory code, die,
  address (10 R311, 14 R406). -/
  condemns : List (Nat × Nat × Nat × Nat × Nat) := []
deriving DecidableEq, Repr

end Sys2Proof.Machine
end

