-- ==== Sys2Proof/Machine/Operands.lean ====
section
/-! DEFINITION. The Figer instruction word (13_figer_reference.md R384 to R387): its operand formats,
which encodings are defined, what an instruction costs, and where it may stand. -/

namespace Sys2Proof.Machine

/-! ## Fields -/

/-- The opcode. -/
def fOp (w : Word) : Nat := bits w 63 56
/-- The guard predicate. -/
def fPg (w : Word) : Nat := bits w 55 53
/-- The guard negation. -/
def fGn (w : Word) : Bool := bit w 52
/-- d, or s, or vd. -/
def fD (w : Word) : Nat := bits w 51 47
/-- a, or va. -/
def fA (w : Word) : Nat := bits w 46 42
/-- b, or vb. -/
def fB (w : Word) : Nat := bits w 41 37
/-- pc, the selector predicate of format A. -/
def fPc (w : Word) : Nat := bits w 36 34
/-- imm, sign-extended to 64 bits. -/
def fImm (w : Word) : Word := (w.setWidth 32).signExtend 64
/-- imm as written. -/
def fImmU (w : Word) : Nat := bits w 31 0
/-- lsb of format F. -/
def fLsb (w : Word) : Nat := bits w 41 36
/-- The width of format F. -/
def fWid (w : Word) : Nat := bits w 35 30 + 1
/-- pd of formats P and Q. -/
def fPd (w : Word) : Nat := bits w 51 49
/-- i of format P. -/
def fPi (w : Word) : Bool := bit w 48
/-- pa of format Q. -/
def fPa (w : Word) : Nat := bits w 48 46
/-- pb of format Q. -/
def fPb (w : Word) : Nat := bits w 45 43
/-- x of format H. -/
def fX (w : Word) : Bool := bit w 41
/-- The byte count of format H: 1, 2, 4 or 8. -/
def fSz (w : Word) : Nat := 2 ^ (bits w 40 39)
/-- off of format H. -/
def fOff (w : Word) : Nat := bits w 38 32
/-- mi of format H. -/
def fMi (w : Word) : Nat := bits w 31 28
/-- ph of format L. -/
def fPh (w : Word) : Nat := bits w 36 34
/-- ps of format L. -/
def fPs (w : Word) : Nat := bits w 33 31
/-- a of format S. -/
def fSa (w : Word) : Nat := bits w 51 47
/-- i of format S. -/
def fSi (w : Word) : Bool := bit w 46
/-- imm14 of format S. -/
def fImm14 (w : Word) : Nat := bits w 45 32
/-- The target of a branch. -/
def fTarget (w : Word) : Nat := bits w 13 0
/-- vc of format V. -/
def fVc (w : Word) : Nat := bits w 36 32
/-- half of format V. -/
def fHalf (w : Word) : Bool := bit w 26

/-! ## Formats (R385) -/

/-- The instruction formats. -/
inductive Fmt where
  | A | I | F | P | Q | H | L | S | B | Z | V | VI
deriving DecidableEq, Repr

/-- The format of a station instruction, where its opcode has a row (R389 to R395). -/
def stnFmt (op : Nat) : Option Fmt :=
  if op ∈ [0x01, 0x03, 0x04, 0x06, 0x08, 0x0C, 0x0E, 0x10, 0x12, 0x13, 0x14, 0x1A, 0x1B, 0x1C] then some .A
  else if op ∈ [0x02, 0x05, 0x07, 0x09, 0x0A, 0x0B, 0x0D, 0x0F, 0x11] then some .I
  else if op ∈ [0x18, 0x19] then some .F
  else if op ∈ [0x20, 0x21, 0x22, 0x23, 0x24, 0x25] then some .P
  else if op ∈ [0x28, 0x29, 0x2A] then some .Q
  else if op ∈ [0x30, 0x31, 0x32, 0x33] then some .H
  else if op ∈ [0x40, 0x41, 0x42] then some .L
  else if op ∈ [0x48, 0x49, 0x4A, 0x4B, 0x4C, 0x4E, 0x4F] then some .S
  else if op ∈ [0x4D, 0x60, 0x61] then some .Z
  else if op = 0x62 then some .B
  else none

/-- The format of a cluster instruction (R397), the compares, predicates and `br` included. -/
def cluFmt (op : Nat) : Option Fmt :=
  if (0x80 ≤ op && op ≤ 0x8F) || op = 0x91 || (0x98 ≤ op && op ≤ 0x9E) then some .V
  else if op = 0x90 then some .VI
  else if op = 0xA0 then some .Z
  else if op ∈ [0x20, 0x21, 0x22, 0x23, 0x24, 0x25] then some .P
  else if op ∈ [0x28, 0x29, 0x2A] then some .Q
  else if op = 0x62 then some .B
  else none

/-- The fields that the format marks 0 are zero (R385, R386). -/
def fmtZero (f : Fmt) (w : Word) : Bool :=
  match f with
  | .A => bits w 33 0 = 0
  | .I => bits w 41 32 = 0
  | .F => bits w 29 0 = 0
  | .P => bits w 47 47 = 0 && bits w 36 32 = 0
  | .Q => bits w 42 0 = 0
  | .H => bits w 27 0 = 0
  | .L => bits w 30 0 = 0
  | .S => bits w 31 0 = 0
  | .B => bits w 51 14 = 0
  | .Z => bits w 51 0 = 0
  | .V => bits w 31 27 = 0 && bits w 25 0 = 0
  | .VI => bits w 46 32 = 0

/-- The field values that the instruction's own row forbids are absent. -/
def rowOk (op : Nat) (w : Word) : Bool :=
  if op = 0x0B then fA w = 0
  else if op = 0x18 then fLsb w + fWid w ≤ 64
  else if op = 0x1C then fB w = 0
  else if op = 0x2A then fPb w = 0
  else if op = 0x40 then fB w = 0
  else if op = 0x41 then fB w = 0 && fPs w = 0
  else if op = 0x42 then fPs w = 0
  else if op = 0x91 then fB w = 0 && fVc w = 0
  else if op ∈ [0x98, 0x99, 0x9A, 0x9C, 0x9D, 0x9E] then fD w < 8
  else if op = 0x9B then fA w < 8
  else true

/-- The encoding is defined for its user (R386). -/
def definedIn (fmt : Nat → Option Fmt) (w : Word) : Bool :=
  match fmt (fOp w) with
  | some f => fmtZero f w && rowOk (fOp w) w && !(fPg w = 0 && fGn w)
  | none => false

/-- A station instruction with a defined encoding. -/
def stnDefined (w : Word) : Bool := definedIn stnFmt w

/-- A cluster instruction with a defined encoding. -/
def cluDefined (w : Word) : Bool := definedIn cluFmt w

/-! ## Slots and stations (R389 to R396, R105) -/

/-- The slot cost of a station instruction. -/
def slotCost (w : Word) : Nat :=
  let op := fOp w
  if op = 0x1A || op = 0x1B || op = 0x49 then 2
  else if op = 0x40 || op = 0x41 then 4
  else if op = 0x42 then 8
  else 1

/-- The slot budget of each station, in the order of R103. -/
def slotBudget (stn : Nat) : Nat := [48, 40, 12, 16, 8, 16, 8, 32].getD stn 0

/-- The instruction writes register d. -/
def writesG (op : Nat) : Bool :=
  (op < 0x20) || op = 0x30 || op = 0x32 || op = 0x40 || op = 0x41 || op = 0x42

/-- The instruction is permitted at the station (R392, R396). Stations are numbered as R103. -/
def permitted (stn : Nat) (w : Word) : Bool :=
  let op := fOp w
  let base :=
    if op = 0x31 || op = 0x4D then stn ≤ 4 || stn = 7
    else if op = 0x33 then
      if fMi w = 0 then stn = 0 else if fMi w = 1 then 1 ≤ stn && stn ≤ 4 else true
    else if op = 0x4E then stn = 0
    else if op = 0x40 then stn ≤ 1
    else if op = 0x41 || op = 0x42 then stn = 1
    else if op ∈ [0x48, 0x49, 0x4A, 0x4B, 0x4C] then 1 ≤ stn && stn ≤ 4
    else true
  base && !(writesG op && 24 ≤ fD w)

/-! ## The guard (R384) -/

/-- The instruction acts under its guard. -/
def guardOn (p : List Bool) (w : Word) : Bool := (if fPg w = 0 then true else p.getD (fPg w) false) != fGn w

/-- The instruction has no guard. -/
def unguarded (w : Word) : Bool := fPg w = 0

/-! ## Control instructions (R400): format C -/

/-- ca. -/
def fCa (w : Word) : Nat := bits w 51 48
/-- cb. -/
def fCb (w : Word) : Nat := bits w 47 44
/-- cc. -/
def fCc (w : Word) : Nat := bits w 43 40

/-- The bits of [51:0] that a control instruction uses (R400): the rest must be zero. -/
def ctlMask (op : Nat) : Option Nat :=
  let ca := 0xF <<< 48
  let cb := 0xF <<< 44
  let cc := 0xF <<< 40
  if op = 0xC0 || op = 0xC1 then some (ca ||| 0xFFFFFFFF)
  else if op = 0xC4 then some (ca ||| cb ||| 3)
  else if op = 0xC5 then some (ca ||| 3)
  else if op = 0xC6 then some (ca ||| cb ||| cc ||| 0xFF <<< 31 ||| 1 <<< 39 ||| 3)
  else if op = 0xC7 then some (ca ||| cb ||| 0xFF <<< 31 ||| 1 <<< 39 ||| 3)
  else if op = 0xC8 then some (ca ||| 0x3FFF <<< 16 ||| 3)
  else if op = 0xC9 then some (0x3FFF <<< 16 ||| 3)
  else if op = 0xCC then some (ca ||| 7 <<< 37 ||| 1 <<< 36 ||| 7 <<< 33)
  else if op = 0xD0 || op = 0xD1 || op = 0xD2 then some 1
  else if 0xD4 ≤ op && op ≤ 0xD7 then some 0xFFF
  else if op = 0xD8 then some (7 <<< 37 ||| 1 <<< 36 ||| 0xFFFF <<< 20 ||| 0xFFF)
  else if op = 0xD9 then some (7 <<< 37 ||| 0xFFF)
  else if op = 0xDC then some (ca ||| 0xFFF)
  else if op = 0xDD then some 0xFFF
  else if op = 0xDE then some (ca ||| 1 <<< 12 ||| 0xFFF)
  else if op = 0xE0 then some (0x3FFF <<< 12 ||| 0xFFF)
  else if op = 0xE1 then some (0x3FFF <<< 12)
  else if op = 0xE4 then some (3 <<< 38 ||| 1 <<< 37 ||| 0xFFFF)
  else if op = 0xE8 then some (ca ||| cb)
  else if op = 0xE9 then some ca
  else if op = 0xEC then some (ca ||| 0xFFFFFF)
  else none

/-- A control instruction with a defined encoding: no guard, unused bits zero, and for `dis` and
`ena` a kind of 0 to 4 (R384, R386, R400). -/
def ctlDefined (w : Word) : Bool :=
  match ctlMask (fOp w) with
  | some m =>
    bits w 55 52 = 0 && (bits w 51 0 &&& m) = bits w 51 0
      && (if fOp w = 0xD8 || fOp w = 0xD9 then bits w 39 37 ≤ 4 else true)
  | none => false

/-- The cost in writes of a control instruction (R400). -/
def ctlCost (w : Word) : Nat :=
  let op := fOp w
  if op = 0xC4 then 34
  else if op = 0xC5 then 2
  else if op = 0xC6 || op = 0xC7 || op = 0xDC then 16
  else if op = 0xDD || op = 0xE4 || op = 0xE8 then 2
  else if op = 0xE0 then 65
  else if op = 0xC0 || op = 0xC1 then 0
  else 1

end Sys2Proof.Machine
end

