-- ==== Sys2Proof/Machine/Flags.lean ====
section
/-! DEFINITION. The arithmetic of the Figer station instructions and the predicates they set
(13_figer_reference.md R389, R390), and the ECN mark of RFC 3168 (03 R70). -/

namespace Sys2Proof.Machine

/-- Number of set bits. -/
def popcount (v : Nat) : Nat := (List.range 64).foldl (fun n i => n + (v >>> i) % 2) 0

/-- The register-to-register operations of R389: op, a, b, the old value of d, the selector
predicate, and the word for its field operands. -/
def aluA (op : Nat) (a b : Word) (pc : Bool) : Word :=
  let sh := b.toNat % 64
  if op = 0x01 then a + b
  else if op = 0x03 then a - b
  else if op = 0x04 then a &&& b
  else if op = 0x06 then a ||| b
  else if op = 0x08 then a ^^^ b
  else if op = 0x0C then a <<< sh
  else if op = 0x0E then a >>> sh
  else if op = 0x10 then a.sshiftRight sh
  else if op = 0x12 then (if a.toNat ≤ b.toNat then a else b)
  else if op = 0x13 then (if a.toNat ≤ b.toNat then b else a)
  else if op = 0x14 then (if pc then a else b)
  else if op = 0x1A then BitVec.ofNat 64 (crc32c (b.toNat % 2 ^ 32) (wordBytes a))
  else if op = 0x1B then BitVec.ofNat 64 (crc32e (b.toNat % 2 ^ 32) (wordBytes a))
  else BitVec.ofNat 64 (popcount a.toNat)

/-- The immediate operations of R389. -/
def aluI (op : Nat) (a : Word) (w : Word) : Word :=
  let imm := fImm w
  let sh := imm.toNat % 64
  if op = 0x02 then a + imm
  else if op = 0x05 then a &&& imm
  else if op = 0x07 then a ||| imm
  else if op = 0x09 then a ^^^ imm
  else if op = 0x0A then a ||| (BitVec.ofNat 64 (fImmU w) <<< 32)
  else if op = 0x0B then imm
  else if op = 0x0D then a <<< sh
  else if op = 0x0F then a >>> sh
  else a.sshiftRight sh

/-- `ext` and `ins` (R389). Bits of `ins` beyond bit 63 are not written (log entry 11). -/
def aluF (op : Nat) (d a : Word) (lsb wid : Nat) : Word :=
  if op = 0x18 then BitVec.ofNat 64 ((a.toNat >>> lsb) % 2 ^ wid)
  else
    let m := BitVec.ofNat 64 ((2 ^ wid - 1) <<< lsb)
    (d &&& ~~~ m) ||| (BitVec.ofNat 64 ((a.toNat % 2 ^ wid) <<< lsb) &&& m)

/-- The compares of R390. -/
def cmpFlag (op : Nat) (a b : Word) : Bool :=
  if op = 0x20 then a == b
  else if op = 0x21 then a != b
  else if op = 0x22 then a.toInt < b.toInt
  else if op = 0x23 then decide (b.toInt ≤ a.toInt)
  else if op = 0x24 then a.toNat < b.toNat
  else decide (b.toNat ≤ a.toNat)

/-- The predicate operations of R390. -/
def predFlag (op : Nat) (pa pb : Bool) : Bool :=
  if op = 0x28 then pa && pb else if op = 0x29 then pa || pb else !pa

/-- A predicate's value: p0 reads as 1 (R93). -/
def predGet (p : List Bool) (i : Nat) : Bool := if i = 0 then true else p.getD i false

/-- Write a predicate; a write to p0 is ignored (R93). -/
def predSet (p : List Bool) (i : Nat) (v : Bool) : List Bool := if i = 0 then p else p.set i v

/-! ## The ECN mark of an Ethernet frame (03 R70, 07 R192) -/

/-- Byte `i` of a frame, zero beyond its end. -/
def byteAt (bs : List Byte) (i : Nat) : Nat := (bs.getD i 0).toNat

/-- The big-endian half-word at byte `i`. -/
def halfAt (bs : List Byte) (i : Nat) : Nat := byteAt bs i * 256 + byteAt bs (i + 1)

/-- Tags that hardware parses (03 R70): none, one C-tag, or an S-tag followed by a C-tag. -/
def ethTags (bs : List Byte) : Nat :=
  if halfAt bs 12 = 0x8100 then 1
  else if halfAt bs 12 = 0x88A8 && halfAt bs 16 = 0x8100 then 2
  else 0

/-- The priority of the outer tag, if the frame has one. DESIGN CHOICE, log entry 94: a frame with an S-tag that no C-tag
follows, a form that 03 R70 does not list, takes its class and its VLAN id from the S-tag. -/
def ethPcp (bs : List Byte) : Option Nat :=
  if halfAt bs 12 = 0x8100 || halfAt bs 12 = 0x88A8 then some (byteAt bs 14 / 32) else none

/-- The VLAN id of the outermost tag, 0 when the frame is untagged (05 R126). -/
def ethVid (bs : List Byte) : Nat :=
  if halfAt bs 12 = 0x8100 || halfAt bs 12 = 0x88A8 then halfAt bs 14 % 4096 else 0

/-- One's complement 16-bit addition. -/
def ones16 (a b : Nat) : Nat := let t := a + b; (t % 65536 + t / 65536) % 65536

/-- Is the frame an IP packet that is ECT(0), ECT(1) or CE? Then its layer-3 position and whether it
is IPv4. -/
def ectAt (bs : List Byte) : Option (Nat × Bool) :=
  let l3 := 14 + 4 * ethTags bs
  let ty := halfAt bs (l3 - 2)
  if ty = 0x0800 && byteAt bs (l3 + 1) % 4 ≠ 0 then some (l3, true)
  else if ty = 0x86DD && (byteAt bs (l3 + 1) / 16) % 4 ≠ 0 then some (l3, false)
  else none

/-- Mark CE as RFC 3168, with the IPv4 header checksum updated as RFC 1624; a Not-ECT packet is left
as it is. -/
def markIp (bs : List Byte) : List Byte :=
  match ectAt bs with
  | none => bs
  | some (l3, true) =>
    let old := halfAt bs l3
    let new := old ||| 3
    let hc := halfAt bs (l3 + 10)
    let hc' := 65535 - ones16 (ones16 (65535 - hc) (65535 - old)) new
    overlay (overlay bs (l3 + 1) [BitVec.ofNat 8 new]) (l3 + 10) (beBytes 2 hc')
  | some (l3, false) => overlay bs (l3 + 1) [BitVec.ofNat 8 (byteAt bs (l3 + 1) ||| 0x30)]

end Sys2Proof.Machine
end

