-- ==== Sys2Proof/Machine/Formats.lean ====
section
/-! DEFINITION. The formats of the reduction clusters (12_reduction_arithmetic.md R359 to R366): what an
element holds, how it is read into an accumulator, and how a result is re-encoded (R373 to R375). -/

namespace Sys2Proof.Machine

/-! ## The codes (R359, R363) -/

/-- The kinds of R359. -/
inductive FmtKind where
  | float | mx | int | uint | pair | sparse
deriving DecidableEq, Repr

/-- The kind of a format code; every other code is outside its range. -/
def fmtKind (c : Nat) : Option FmtKind :=
  if 0x01 ≤ c && c ≤ 0x05 then some .float
  else if 0x10 ≤ c && c ≤ 0x15 then some .mx
  else if 0x20 ≤ c && c ≤ 0x23 then some .int
  else if 0x28 ≤ c && c ≤ 0x2B then some .uint
  else if c = 0x30 || c = 0x31 then some .pair
  else if c = 0x38 || c = 0x39 then some .sparse
  else none

/-- Bits of an element. -/
def elemBits (c : Nat) : Nat :=
  if c = 0x01 then 32
  else if c = 0x02 || c = 0x03 then 16
  else if c = 0x04 || c = 0x05 then 8
  else if c = 0x12 || c = 0x13 then 6
  else if c = 0x14 then 4
  else if c = 0x10 || c = 0x11 || c = 0x15 then 8
  else if 0x20 ≤ c && c ≤ 0x23 then 8 <<< (c - 0x20)
  else if 0x28 ≤ c && c ≤ 0x2B then 8 <<< (c - 0x28)
  else if c = 0x31 then 32
  else 64

/-- Tiles of an MX unit (R361). -/
def unitTiles (c : Nat) : Nat := 1 + elemBits c * 2

/-- Bytes of 4,096 elements (R359, last column). -/
def bytes4096 (c : Nat) : Nat :=
  if fmtKind c = some .mx then 256 * unitTiles c else 512 * elemBits c

/-- Elements of a run of bytes. -/
def elemsOf (c bytes : Nat) : Nat := bytes * 4096 / bytes4096 c

/-- Bytes of a run of elements. -/
def bytesOfElems (c n : Nat) : Nat := n * bytes4096 c / 4096

/-- Bytes of an accumulator element (R363). -/
def accBytes (acc inFmt : Nat) : Nat :=
  if acc = 0 then (if fmtKind inFmt = some .pair then 8 else 4) else 8

/-- The bytes of a chunk's partial (R364): L is the chunk's length. -/
def partialBytes (acc inFmt l : Nat) : Nat :=
  if fmtKind inFmt = some .sparse then l / 8 * accBytes acc inFmt + l / 8 / 8
  else elemsOf inFmt l * accBytes acc inFmt

/-- The combination of operator, input kind, accumulator and output is one that R363 allows. -/
def opAllowed (op inFmt acc outFmt : Nat) : Bool :=
  let fm := fun c => fmtKind c = some .float || fmtKind c = some .mx
  let it := fun c => fmtKind c = some .int || fmtKind c = some .uint
  let base :=
    if op = 0 then (fm inFmt && acc ≤ 1 && fm outFmt) || (it inFmt && acc = 2 && it outFmt)
    else if op = 1 || op = 2 then (fm inFmt && acc = 0 && fm outFmt) || (it inFmt && acc = 2 && it outFmt)
    else if op = 3 || op = 4 || op = 5 then it inFmt && acc = 2 && it outFmt
    else if op = 6 || op = 7 then fmtKind inFmt = some .pair && acc = 0 && outFmt = inFmt
    else if op = 8 then
      (inFmt = 0x38 && acc ≤ 1 && outFmt = 0x38) || (inFmt = 0x39 && acc = 2 && outFmt = 0x39)
    else op = 0x0F && (fmtKind inFmt).isSome && acc ≤ 2 && (fmtKind outFmt).isSome
  base && decide (acc = 2) == (it outFmt || outFmt = 0x39)

/-- The formats of a descriptor keep R366: L and S are the chunk's and the segment's length. -/
def formatsOk (op inFmt acc outFmt chunkT segT l s : Nat) : Bool :=
  opAllowed op inFmt acc outFmt
    && (if fmtKind inFmt = some .mx then segT % unitTiles inFmt = 0 && chunkT % unitTiles inFmt = 0 else true)
    && (if fmtKind outFmt = some .mx then
          elemsOf inFmt s % 4096 = 0 && elemsOf inFmt l % 4096 = 0 else true)
    && bytes4096 outFmt ≤ bytes4096 inFmt

/-! ## Narrow floats -/

/-- A float format of R359 by its fields: its largest finite code, its infinity if it has one, and its
NaN. Formats of FP6 and FP4 have neither. -/
structure Narrow where
  eb : Nat
  mb : Nat
  maxCode : Nat
  infCode : Option Nat
  nanCode : Option Nat
deriving DecidableEq, Repr

/-- The float format of a code, the element format of an MX code included. -/
def narrow (c : Nat) : Narrow :=
  if c = 0x01 || c = 0x30 || c = 0x38 then ⟨8, 23, 0x7F7FFFFF, some 0x7F800000, some 0x7FC00000⟩
  else if c = 0x02 || c = 0x31 then ⟨8, 7, 0x7F7F, some 0x7F80, some 0x7FC0⟩
  else if c = 0x03 then ⟨5, 10, 0x7BFF, some 0x7C00, some 0x7E00⟩
  else if c = 0x04 || c = 0x10 then ⟨4, 3, 0x7E, none, some 0x7F⟩
  else if c = 0x05 || c = 0x11 then ⟨5, 2, 0x7B, some 0x7C, some 0x7E⟩
  else if c = 0x12 then ⟨3, 2, 0x1F, none, none⟩
  else if c = 0x13 then ⟨2, 3, 0x1F, none, none⟩
  else ⟨2, 1, 0x7, none, none⟩

/-- The bias. -/
def Narrow.bias (f : Narrow) : Int := 2 ^ (f.eb - 1) - 1

/-- Read an element. -/
def Narrow.unpack (f : Narrow) (v : Nat) : FVal :=
  let neg := (v >>> (f.eb + f.mb)) % 2 = 1
  let mag := v % 2 ^ (f.eb + f.mb)
  let e := mag >>> f.mb
  let m := mag % 2 ^ f.mb
  if f.maxCode < mag then (if f.infCode = some mag then .inf neg else .nan)
  else if e = 0 then .fin neg m (1 - f.bias - f.mb)
  else .fin neg (m + 2 ^ f.mb) ((e : Int) - f.bias - f.mb)

/-- The magnitude code of a significand of at most mb + 1 bits, or exactly 2^(mb+1), on the grid 2^g: it
may lie beyond the largest finite code. -/
def Narrow.code (f : Narrow) (m : Nat) (g : Int) : Nat :=
  let (m, g) := if m = 2 ^ (f.mb + 1) then (2 ^ f.mb, g + 1) else (m, g)
  if m < 2 ^ f.mb then m else (g + f.bias + f.mb).toNat <<< f.mb ||| (m - 2 ^ f.mb)

/-- The grid of m · 2^e in a format of `p` significant bits and least grid `g0`. -/
def gridOf (p : Nat) (g0 : Int) (m : Nat) (e : Int) : Int :=
  let top := e + (bitLen m : Int) - (p : Int)
  if top < g0 then g0 else top

/-- m · 2^e lies on the grid 2^g. -/
def exactOn (m : Nat) (e g : Int) : Bool := g ≤ e || m % 2 ^ (g - e).toNat = 0

/-- m · 2^e cut to the grid 2^g, raised by one unit when D + R reaches 2^16 (R374). -/
def stochOn (m : Nat) (e g : Int) (r : Nat) : Nat :=
  if g ≤ e then m <<< (e - g).toNat
  else
    let sh := (g - e).toNat
    let q := m >>> sh
    let d := ((m <<< 16) >>> sh) % 65536
    if 65536 ≤ d + r then q + 1 else q

/-! ## Random bits (R374, R377) -/

/-- One step of a cell's LFSR: the state after, and the bit out. -/
def lfsrStep (s : Nat) : Nat × Nat :=
  let o := s % 2
  let s' := s >>> 1
  (if o = 1 then s' ^^^ 0x80200003 else s', o)

/-- 16 steps: the state after, and R, the first bit out as the most significant. -/
def lfsrDraw (s : Nat) : Nat × Nat :=
  (List.range 16).foldl (fun (st, r) _ => let (s', o) := lfsrStep st; (s', 2 * r + o)) (s, 0)

/-- The state of cell k that a seed loads (R377). -/
def lfsrSeed (seed : Word) (k : Nat) : Nat :=
  let v := (bits seed 63 32 * (2 * k + 1) + bits seed 31 0) % 2 ^ 32
  if v = 0 then 1 else v

/-! ## Output (R373 to R375) -/

/-- What the re-encoding of a segment has made so far: its counts (R381), the states of the 128 cells,
and whether rounding is stochastic. -/
structure Enc where
  sat : Nat := 0
  ovf : Nat := 0
  nan : Nat := 0
  cells : List Nat
  stoch : Bool

/-- Random bits from cell k. -/
def Enc.draw (x : Enc) (k : Nat) : Nat × Enc :=
  let (s, r) := lfsrDraw (x.cells.getD k 1)
  (r, { x with cells := x.cells.set k s })

/-- The magnitude code of a finite value, rounded under rnd by cell k. -/
def Enc.finite (x : Enc) (f : Narrow) (k m : Nat) (e : Int) : Nat × Enc :=
  let g := gridOf (f.mb + 1) (1 - f.bias - f.mb) m e
  if x.stoch && !exactOn m e g then
    let (r, x) := x.draw k
    (f.code (stochOn m e g r) g, x)
  else (f.code (onGrid m e g) g, x)

/-- One element of a Float output, or the value of a Pair or Sparse one (R373). `fin`: every
contribution at the element was finite. -/
def Enc.float (x : Enc) (c k : Nat) (v : FVal) (fin : Bool) : Nat × Enc :=
  let f := narrow c
  let sg := fun (n : Bool) => if n then 2 ^ (f.eb + f.mb) else 0
  let fp8 := c = 0x04 || c = 0x05
  match v with
  | .nan => (f.nanCode.getD f.maxCode, { x with nan := x.nan + 1 })
  | .inf n =>
    if fp8 then (sg n + f.maxCode, { x with sat := x.sat + 1 })
    else (sg n + f.infCode.getD f.maxCode, { x with ovf := x.ovf + b2n fin })
  | .fin n m e =>
    if m = 0 then (sg n, x)
    else
      let (q, x) := x.finite f k m e
      if f.maxCode < q then
        if fp8 then (sg n + f.maxCode, { x with sat := x.sat + 1 })
        else (sg n + f.infCode.getD f.maxCode, { x with ovf := x.ovf + b2n fin })
      else (sg n + q, x)

/-- emax of an MX element format (R375). -/
def mxEmax (c : Nat) : Int :=
  if c = 0x10 then 8 else if c = 0x11 then 15 else if c = 0x12 then 4 else if c = 0x15 then 0 else 2

/-- floor(log2 |v|) of a finite value other than zero. -/
def FVal.log2 : FVal → Option Int
  | .fin _ m e => if m = 0 then none else some (e + (m.log2 : Int))
  | _ => none

/-- The value is a NaN or an infinity. -/
def FVal.special : FVal → Bool
  | .fin _ _ _ => false
  | _ => true

/-- The scale byte of a block (R375). -/
def mxScale (c : Nat) (vs : List FVal) : Nat :=
  if vs.any FVal.special then 0xFF
  else
    match (vs.filterMap FVal.log2) with
    | [] => 0
    | l :: ls =>
      let top := ls.foldl (fun a b => if a < b then b else a) l
      let x := top - mxEmax c
      let x := if x < -127 then -127 else if 127 < x then 127 else x
      (127 + x).toNat

/-- One element of an MX output under scale 2^x: divided by the scale, rounded under rnd, saturated. -/
def Enc.mx (x : Enc) (c k : Nat) (sc : Int) (v : FVal) : Nat × Enc :=
  match v with
  | .fin n m e =>
    let e := e - sc
    if c = 0x15 then
      let g : Int := -6
      let (q, x) :=
        if x.stoch && !exactOn m e g then let (r, x) := x.draw k; (stochOn m e g r, x)
        else (onGrid m e g, x)
      let (q, x) := if 127 < q then (127, { x with sat := x.sat + 1 }) else (q, x)
      (if n then (256 - q) % 256 else q, x)
    else
      let f := narrow c
      let sg := if n then 2 ^ (f.eb + f.mb) else 0
      if m = 0 then (sg, x)
      else
        let (q, x) := x.finite f k m e
        if f.maxCode < q then (sg + f.maxCode, { x with sat := x.sat + 1 }) else (sg + q, x)
  | _ => (0, x)

/-- A whole number saturated to an output range (R373). -/
def Enc.int (x : Enc) (c : Nat) (v : Int) : Nat × Enc :=
  let w := elemBits c
  let lo : Int := if fmtKind c = some .uint then 0 else -(2 ^ (w - 1) : Nat)
  let hi : Int := if fmtKind c = some .uint then (2 ^ w : Nat) - 1 else (2 ^ (w - 1) : Nat) - 1
  let w := if c = 0x39 then 32 else w
  let lo := if c = 0x39 then -(2 ^ 31 : Int) else lo
  let hi := if c = 0x39 then (2 ^ 31 : Int) - 1 else hi
  if v < lo then (ofSigned w lo, { x with sat := x.sat + 1 })
  else if hi < v then (ofSigned w hi, { x with sat := x.sat + 1 })
  else (ofSigned w v, x)

/-! ## Input (R360 to R362, R365) -/

/-- Elements of `n` bits from a little-endian bit stream. -/
def streamElems (n : Nat) (bs : List Byte) (count : Nat) : List Nat :=
  let v := leNat bs
  (List.range count).map fun i => (v >>> (n * i)) % 2 ^ n

/-- Elements of `w` whole bytes. -/
def byteElems (w : Nat) : Nat → List Byte → List Nat
  | 0, _ => []
  | n + 1, bs => leNat (bs.take w) :: byteElems w n (bs.drop w)

/-- Elements of w bytes back to bytes. -/
def elemBytes (w : Nat) (es : List Nat) : List Byte := (es.map (leBytes w)).flatten

/-- The `k`-th unit or block of a list. -/
def cut {α : Type} (n : Nat) : Nat → List α → List (List α)
  | 0, _ => []
  | k + 1, l => l.take n :: cut n k (l.drop n)

/-- One element of a contribution as it was sent, with the scale of its block for an MX input. -/
structure Elem where
  raw : Nat
  scale : Nat := 127

/-- The elements of one MX unit, each with its block's scale; 32 elements at a time. -/
def mxUnit (c : Nat) (bs : List Byte) : List Elem :=
  let e := elemBits c
  ((List.range 128).map fun b =>
    let sc := (bs.getD b 0).toNat
    (streamElems e ((bs.drop (256 + 4 * e * b)).take (4 * e)) 32).map fun r => { raw := r, scale := sc : Elem }).flatten

/-- The elements of a segment, for every kind but Sparse. -/
def segElems (c : Nat) (bs : List Byte) : List Elem :=
  if fmtKind c = some .mx then
    ((cut (256 * unitTiles c) (bs.length / (256 * unitTiles c)) bs).map (mxUnit c)).flatten
  else (byteElems (elemBits c / 8) (bs.length * 8 / elemBits c) bs).map fun r => { raw := r }

/-- The value of a float element without its block's scale. -/
def elemVal (c raw : Nat) : FVal :=
  if c = 0x15 then let i := toSigned 8 raw; .fin (i < 0) i.natAbs (-6)
  else (narrow c).unpack raw

/-- The 64-bit extension of an integer element. -/
def elemInt (c raw : Nat) : Nat :=
  if fmtKind c = some .uint then raw else ofSigned 64 (toSigned (elemBits c) raw)

/-- convert(x) of R365 as accumulator bits, and whether the element is finite. -/
def convert (c acc : Nat) (x : Elem) : Nat × Bool :=
  match fmtKind c with
  | some .float => let v := elemVal c x.raw; (fp32.round v, !v.special)
  | some .mx =>
    if x.scale = 0xFF then (fp32.nanPat, false)
    else
      let v := elemVal c x.raw
      (fp32.round (v.mul (.fin false 1 ((x.scale : Int) - 127))), !v.special)
  | some .pair =>
    let w := elemBits c / 2
    let v := (narrow c).unpack (x.raw % 2 ^ w)
    (fp32.round v ||| (x.raw >>> w) <<< 32, !v.special)
  | some .sparse =>
    if c = 0x39 then (ofSigned 64 (toSigned 32 x.raw), true)
    else let v := fp32.unpack (x.raw % 2 ^ 32); (fp32.round v, !v.special)
  | _ => (if acc = 2 then elemInt c x.raw else elemInt c x.raw % 2 ^ 32, true)

end Sys2Proof.Machine
end

