-- ==== Sys2Proof/Machine/Reduce.lean ====
section
/-! DEFINITION. The arithmetic of a reduction cluster: how a contribution is combined into a partial, the
combine programs, and how a segment is re-encoded (12_reduction_arithmetic.md R357, R362, R365 to R377;
13_figer_reference.md R397, R398). Nothing here sees the state of the part. -/

namespace Sys2Proof.Machine

/-- The arithmetic of a context (R323, R363). -/
structure Arith where
  op : Nat
  inFmt : Nat
  acc : Nat
  outFmt : Nat
  stoch : Bool
deriving DecidableEq, Repr

/-- A segment's partial: accumulator elements of 64 bits, the presence of each index (Sparse), and
whether every contribution at the element was finite (R381). Empty until the first contribution. -/
structure Part where
  acc : List Nat := []
  pres : List Bool := []
  fin : List Bool := []
deriving DecidableEq, Repr

/-! ## Combining (R367 to R371) -/

/-- Binary32 subtraction. -/
def f32Sub (a b : Nat) : Nat := f32Add a (f32Neg b)

/-- The two-sum of R367 on (s, c), packed as c : s. -/
def twoSum (sc v : Nat) : Nat :=
  let s := sc % 2 ^ 32
  let c := sc >>> 32
  let t := f32Add s v
  let z := f32Sub t s
  let e := f32Add (f32Sub s (f32Sub t z)) (f32Sub v z)
  t ||| (f32Add c e) <<< 32

/-- IEEE 754-2019 minimum (`mx` clear) or maximum on binary32 patterns (R369). -/
def f32MinMax (mx : Bool) (a b : Nat) : Nat :=
  let va := fp32.unpack a
  let vb := fp32.unpack b
  if va = .nan || vb = .nan then fp32.nanPat
  else if va.lt vb then (if mx then b else a)
  else if vb.lt va then (if mx then a else b)
  else if (a >>> 31) % 2 = 1 then (if mx then b else a) else (if mx then a else b)

/-- Argmax (`mx` set) or argmin on pairs packed as index : value (R370). -/
def argPick (mx : Bool) (a b : Nat) : Nat :=
  let va := fp32.unpack (a % 2 ^ 32)
  let vb := fp32.unpack (b % 2 ^ 32)
  let less := if b >>> 32 < a >>> 32 then b else a
  if va = .nan && vb = .nan then less
  else if va = .nan then b
  else if vb = .nan then a
  else if va.lt vb then (if mx then b else a)
  else if vb.lt va then (if mx then a else b)
  else less

/-- a < b in the reading of R368. -/
def intLess (signed : Bool) (a b : Nat) : Bool :=
  if signed then toSigned 64 a < toSigned 64 b else a % 2 ^ 64 < b % 2 ^ 64

/-- combine of one element. -/
def combineElem (op acc : Nat) (signed : Bool) (a b : Nat) : Nat :=
  if op = 0 || op = 8 then
    if acc = 0 then f32Add a b else if acc = 1 then twoSum a (b % 2 ^ 32) else (a + b) % 2 ^ 64
  else if op = 1 then (if acc = 2 then (if intLess signed b a then b else a) else f32MinMax false a b)
  else if op = 2 then (if acc = 2 then (if intLess signed a b then b else a) else f32MinMax true a b)
  else if op = 3 then a &&& b
  else if op = 4 then a ||| b
  else if op = 5 then a ^^^ b
  else argPick (op = 6) a b

/-- The accumulator is read as a signed value (R368). A float or pair input with an INT64 accumulator,
which only a combine program can have, is read as signed (log entry 44). -/
def Arith.signed (d : Arith) : Bool := fmtKind d.inFmt ≠ some .uint

/-! ## Sparse segments (R362) -/

/-- The entries of a segment: (index, value), and how many were skipped. `lo` is the segment's first
index, `n` its capacity. -/
def sparseWalk (lo n : Nat) : List Nat → Int → List (Nat × Nat) × Nat
  | [], _ => ([], 0)
  | e :: es, prev =>
    let idx := e >>> 32
    let (r, k) := sparseWalk lo n es idx
    if idx = 0xFFFFFFFF then (r, k)
    else if lo ≤ idx && idx < lo + n && prev < (idx : Int) then ((idx - lo, e % 2 ^ 32) :: r, k)
    else (r, k + 1)

/-- A contribution as accumulator elements, presence and finiteness, and the entries skipped. `seg` is
the segment's number, `s` its nominal length in bytes. -/
def convertSeg (d : Arith) (seg s : Nat) (bs : List Byte) : Part × Nat :=
  if fmtKind d.inFmt = some .sparse then
    let n := bs.length / 8
    let (es, k) := sparseWalk (seg * (s / 8)) n (byteElems 8 n bs) (-1)
    let at' := fun i => es.find? fun e => e.1 = i
    ({ acc := (List.range n).map fun i => match at' i with
        | some e => (convert d.inFmt d.acc { raw := e.2 }).1
        | none => 0,
       pres := (List.range n).map fun i => (at' i).isSome,
       fin := (List.range n).map fun i => match at' i with
        | some e => (convert d.inFmt d.acc { raw := e.2 }).2
        | none => true }, k)
  else
    let es := (segElems d.inFmt bs).map (convert d.inFmt d.acc)
    ({ acc := es.map (·.1), pres := [], fin := es.map (·.2) }, 0)

/-- Combine two partials element by element. -/
def Part.combine (d : Arith) (p x : Part) : Part :=
  let c := combineElem d.op d.acc d.signed
  let fin := List.zipWith (· && ·) p.fin x.fin
  if p.pres = [] then { acc := List.zipWith c p.acc x.acc, pres := [], fin := fin }
  else
    let one := fun (a : Nat × Bool) (b : Nat × Bool) =>
      if a.2 && b.2 then c a.1 b.1 else if b.2 then b.1 else a.1
    { acc := List.zipWith one (p.acc.zip p.pres) (x.acc.zip x.pres),
      pres := List.zipWith (· || ·) p.pres x.pres, fin := fin }

/-! ## Combine programs (R376, R397, R398) -/

/-- The registers of the cluster while a program runs: v0 to v31 and a0 to a7 by lane, x0 to x3, the
predicates. -/
structure Vec where
  v : List (List Nat)
  a : List (List Nat)
  x : List Nat
  p : List Bool
  pc : Nat
  halt : Bool

/-- Lanes below n take the new value; the rest are masked (R398). -/
def lanesTo (n : Nat) (old new : List Nat) : List Nat := new.take n ++ old.drop n

/-- The 32-bit result of one lane: op, va, vb, vc, and the lane's scale. -/
def laneOp (op a b c sc : Nat) : Nat :=
  if op = 0x80 then f32Add a b
  else if op = 0x81 then f32Sub a b
  else if op = 0x82 then f32Mul a b
  else if op = 0x83 then f32Fma a b c
  else if op = 0x84 then f32MinMax false a b
  else if op = 0x85 then f32MinMax true a b
  else if op = 0x86 then a % 2 ^ 31
  else if op = 0x87 then f32Neg a
  else if op = 0x88 then (a + b) % 2 ^ 32
  else if op = 0x89 then (if toSigned 32 b < toSigned 32 a then b else a)
  else if op = 0x8A then (if toSigned 32 a < toSigned 32 b then b else a)
  else if op = 0x8B then a &&& b
  else if op = 0x8C then a ||| b
  else if op = 0x8D then a ^^^ b
  else if op = 0x8E then (if (fp32.unpack a).lt (fp32.unpack b) then 0xFFFFFFFF else 0)
  else if op = 0x8F then (if c ≠ 0 then a else b)
  else if sc = 0xFF then fp32.nanPat
  else fp32.round ((fp32.unpack a).mul (.fin false 1 ((sc : Int) - 127)))

/-- The new value of an accumulator lane: op, the old value, va, vb. -/
def accOp (op old a b : Nat) : Nat :=
  let hi := (old >>> 32) <<< 32
  if op = 0x98 then hi ||| f32Add (old % 2 ^ 32) a
  else if op = 0x99 then twoSum old a
  else if op = 0x9A then (old + (b <<< 32 ||| a)) % 2 ^ 64
  else if op = 0x9C then b <<< 32 ||| a
  else if op = 0x9D then hi ||| f32MinMax false (old % 2 ^ 32) a
  else hi ||| f32MinMax true (old % 2 ^ 32) a

/-- A vector register's lanes. -/
def Vec.lane (c : Vec) (r : Nat) : List Nat := c.v.getD r []

/-- Lane 0 of a register, for a compare: sign-extended as the immediate is (log entry 45). -/
def Vec.scalar (c : Vec) (r : Nat) : Word :=
  (BitVec.ofNat 32 ((c.lane r).getD 0 0)).signExtend 64

/-- The effect of one instruction whose guard holds; n lanes are not masked. -/
def vecEffect (n : Nat) (w : Word) (c : Vec) : Vec :=
  let op := fOp w
  let a := c.lane (fA w)
  let b := c.lane (fB w)
  let cc := c.lane (fVc w)
  let setV := fun d (new : List Nat) => { c with v := c.v.set d (lanesTo n (c.lane d) new) }
  match cluFmt op with
  | some .V =>
    if op = 0x9B then
      let s := (c.a.getD (fA w) []).map fun e => if fHalf w then e >>> 32 else e % 2 ^ 32
      setV (fD w) s
    else if 0x98 ≤ op then
      let old := c.a.getD (fD w) []
      let new := (List.range 128).map fun i => accOp op (old.getD i 0) (a.getD i 0) (b.getD i 0)
      { c with a := c.a.set (fD w) (lanesTo n old new) }
    else
      setV (fD w) ((List.range 128).map fun i =>
        laneOp op (a.getD i 0) (b.getD i 0) (cc.getD i 0) (c.x.getD (i / 32) 0))
  | some .VI => setV (fD w) (List.replicate 128 (fImmU w))
  | some .P =>
    { c with p := predSet c.p (fPd w) (cmpFlag op (c.scalar (fA w)) (if fPi w then fImm w else c.scalar (fB w))) }
  | some .Q => { c with p := predSet c.p (fPd w) (predFlag op (predGet c.p (fPa w)) (predGet c.p (fPb w))) }
  | some .B => { c with pc := fTarget w }
  | some .Z => { c with halt := true }
  | _ => c

/-- Run from `c.pc` with `fuel` instructions left; programs go forward only. -/
def runVec (n : Nat) (code : List Word) : Nat → Vec → Vec
  | 0, c => c
  | fuel + 1, c =>
    if c.halt then c
    else
      let w := code.getD c.pc 0
      let c' := { c with pc := c.pc + 1 }
      runVec n code fuel (if guardOn c.p w then vecEffect n w c' else c')

/-- The inputs of a combine program for one element: the lane's low word, its high word, its scale. -/
def lanesIn (c acc : Nat) (idx : Nat) (x : Elem) (present : Bool) : Nat × Nat × Nat :=
  match fmtKind c with
  | some .float => (fp32.round (elemVal c x.raw), 0, 0)
  | some .mx => (fp32.round (elemVal c x.raw), 0, x.scale)
  | some .pair => let v := (convert c acc x).1; (v % 2 ^ 32, v >>> 32, 0)
  | some .sparse => if present then ((convert c 2 x).1 % 2 ^ 32, idx, 0) else (0, 0, 0)
  | _ => let v := elemInt c x.raw; (v % 2 ^ 32, if elemBits c = 64 then v >>> 32 else 0, 0)

/-- A list filled with zeros to 128 lanes. -/
def lanes128 (l : List Nat) : List Nat := (l ++ List.replicate 128 0).take 128

/-- One vector through a combine program, to its end: the lanes' inputs, the old partial, whether the
contribution is the segment's first, and whether this is its short last vector. -/
def vecRun (code : List Word) (entry : Nat) (ins : List (Nat × Nat × Nat)) (a0 : List Nat) (first last : Bool) : Vec :=
  let n := ins.length
  let z := List.replicate 128 0
  let xs := [0, 1, 2, 3].map fun b => (ins.getD (32 * b) (0, 0, 0)).2.2
  runVec n code (code.length + 1)
    { v := lanes128 (ins.map (·.1)) :: lanes128 (ins.map (·.2.1)) :: List.replicate 30 z,
      a := lanes128 a0 :: List.replicate 7 z, x := xs,
      p := [false, first, last && n < 128, false, false, false, false, false], pc := entry, halt := false }

/-- The partial that one vector leaves. -/
def runVector (code : List Word) (entry : Nat) (ins : List (Nat × Nat × Nat)) (a0 : List Nat)
    (first last : Bool) : List Nat :=
  ((vecRun code entry ins a0 first last).a.getD 0 []).take ins.length

/-- The vectors of a segment, one after the other. -/
def runVectors (code : List Word) (entry : Nat) (first : Bool) : Nat → List (Nat × Nat × Nat) → List Nat → List Nat
  | 0, _, _ => []
  | k + 1, ins, acc =>
    runVector code entry (ins.take 128) (acc.take 128) first (ins.length ≤ 128)
      ++ runVectors code entry first k (ins.drop 128) (acc.drop 128)

/-- The inputs of a combine program for a contribution. -/
def customIns (d : Arith) (seg s : Nat) (bs : List Byte) (n : Nat) : List (Nat × Nat × Nat) :=
  if fmtKind d.inFmt = some .sparse then
    let (es, _) := sparseWalk (seg * (s / 8)) n (byteElems 8 n bs) (-1)
    (List.range n).map fun i => match es.find? fun e => e.1 = i with
      | some e => lanesIn d.inFmt d.acc (seg * (s / 8) + i) { raw := e.2 } true
      | none => (0, 0, 0)
  else (segElems d.inFmt bs).map fun e => lanesIn d.inFmt d.acc 0 e true

/-- Combine a contribution by a combine program. -/
def Part.custom (d : Arith) (code : List Word) (entry seg s : Nat) (p : Part) (bs : List Byte) : Part × Nat :=
  let (x, k) := convertSeg d seg s bs
  let n := x.acc.length
  let ins := customIns d seg s bs n
  let first := p.acc = []
  let old := if first then List.replicate n 0 else p.acc
  let acc := runVectors code entry first (n / 128 + 1) ins old
  ({ acc := acc,
     pres := if first then x.pres else List.zipWith (· || ·) p.pres x.pres,
     fin := if first then x.fin else List.zipWith (· && ·) p.fin x.fin }, k)

/-- Some vector's program fetches from a damaged pair (04 R96, 14 R405): with every word of the pairs in
`bad` made to end the program, it ends there. -/
def fetchesDamage (code : List Word) (bad : List Nat) (entry : Nat) (first : Bool) :
    Nat → List (Nat × Nat × Nat) → List Nat → Bool
  | 0, _, _ => false
  | k + 1, ins, acc =>
    let isBad := fun (i : Nat) => bad.any fun a => a / 2 = i / 2
    let cut := (List.range code.length).map fun i => if isBad i then at_ 56 0xA0 else code.getD i 0
    let c := vecRun cut entry (ins.take 128) (acc.take 128) first (ins.length ≤ 128)
    (0 < c.pc && isBad (c.pc - 1)) || fetchesDamage code bad entry first k (ins.drop 128) (acc.drop 128)

/-- Elements that a cluster takes in one vector (R356, R378). -/
def Arith.perVector (d : Arith) : Nat :=
  if d.op = 0x0F then 128
  else
    match fmtKind d.inFmt with
    | some .pair => if d.inFmt = 0x30 then 64 else 128
    | some .sparse => 64
    | some .float => if d.acc = 1 then 64 else if elemBits d.inFmt = 32 then 128 else if elemBits d.inFmt = 16 then 256 else 512
    | some .mx => if d.acc = 1 then 64 else 512
    | _ => 64

/-! ## Re-encoding (R373 to R375) -/

/-- The value of an accumulator element (R373). -/
def accVal (acc v : Nat) : FVal :=
  let s := fp32.unpack (v % 2 ^ 32)
  if acc = 1 && !s.special then s.add (fp32.unpack (v >>> 32)) else s

/-- The cell that holds element i (R356, R378; log entry 46). -/
def Arith.cell (d : Arith) (i : Nat) : Nat :=
  if d.op = 0x0F then i % 128
  else if d.acc ≠ 0 || elemBits d.inFmt = 64 then 2 * (i % 64)
  else (i * Nat.max 8 (elemBits d.inFmt) / 32) % 128

/-- Re-encode elements one after the other. -/
def encodeList (f : Enc → Nat → Nat → Bool → Nat × Enc) : Nat → List (Nat × Bool) → Enc → List Nat × Enc
  | _, [], x => ([], x)
  | i, (v, fin) :: l, x =>
    let (e, x) := f x i v fin
    let (es, x) := encodeList f (i + 1) l x
    (e :: es, x)

/-- One MX block of a result: its scale byte, and its elements. -/
def encodeBlock (d : Arith) (i0 : Nat) (vs : List Nat) (x : Enc) : Nat × List Nat × Enc :=
  let vals := vs.map (accVal d.acc)
  let sc := mxScale d.outFmt vals
  if sc ≠ 0xFF && vals.all (fun v => v.log2.isNone) then (sc, vs.map fun _ => 0, x)
  else if sc = 0xFF then (sc, vs.map fun _ => 0, { x with nan := x.nan + 1 })
  else
    let (es, x) := encodeList (fun x i v _ => x.mx d.outFmt (d.cell i) ((sc : Int) - 127) (accVal d.acc v)) i0
      (vs.map fun v => (v, true)) x
    (sc, es, x)

/-- The blocks of an MX unit. -/
def encodeBlocks (d : Arith) : Nat → Nat → List Nat → Enc → List (Nat × List Nat) × Enc
  | 0, _, _, x => ([], x)
  | k + 1, i, vs, x =>
    let (sc, es, x) := encodeBlock d i (vs.take 32) x
    let (r, x) := encodeBlocks d k (i + 32) (vs.drop 32) x
    ((sc, es) :: r, x)

/-- A stream of elements of n bits, 32 of them, as bytes. -/
def packBits (n : Nat) (es : List Nat) : List Byte :=
  leBytes (4 * n) ((es.reverse).foldl (fun v e => v * 2 ^ n + e % 2 ^ n) 0)

/-- The MX units of a result (R361). -/
def encodeUnits (d : Arith) : Nat → Nat → List Nat → Enc → List Byte × Enc
  | 0, _, _, x => ([], x)
  | k + 1, i, vs, x =>
    let (bl, x) := encodeBlocks d 128 i (vs.take 4096) x
    let (r, x) := encodeUnits d k (i + 4096) (vs.drop 4096) x
    ((bl.map fun b => BitVec.ofNat 8 b.1) ++ List.replicate 128 0
      ++ (bl.map fun b => packBits (elemBits d.outFmt) b.2).flatten ++ r, x)

/-- The integer that an accumulator element stands for. -/
def Arith.accInt (d : Arith) (v : Nat) : Int := if d.signed then toSigned 64 v else (v % 2 ^ 64 : Nat)

/-- A segment's data in out_fmt (R339, R373). `lo` is the segment's first index, for Sparse. An unused
Sparse entry's value is a free value, drawn from `fr` on. -/
def encodeSeg (d : Arith) (lo : Nat) (p : Part) (fr : Nat) (x : Enc) : List Byte × Enc :=
  let es := p.acc.zip p.fin
  match fmtKind d.outFmt with
  | some .mx => encodeUnits d (p.acc.length / 4096) 0 p.acc x
  | some .float =>
    let (r, x) := encodeList (fun x i v fin => x.float d.outFmt (d.cell i) (accVal d.acc v) fin) 0 es x
    (elemBytes (elemBits d.outFmt / 8) r, x)
  | some .pair =>
    let w := elemBits d.outFmt / 2
    let (r, x) := encodeList (fun x i v fin =>
      let (e, x) := x.float d.outFmt (d.cell i) (fp32.unpack (v % 2 ^ 32)) fin
      (e ||| ((v >>> 32) % 2 ^ w) <<< w, x)) 0 es x
    (elemBytes (elemBits d.outFmt / 8) r, x)
  | some .sparse =>
    let pr := if p.pres = [] then p.acc.map fun _ => true else p.pres
    let idx := (List.range p.acc.length).filter fun i => pr.getD i false
    let (r, x) := encodeList (fun x i v fin =>
      let (e, x) := if !pr.getD i false then (0, x)
        else if d.outFmt = 0x39 then x.int 0x39 (d.accInt v) else x.float 0x38 (d.cell i) (accVal d.acc v) fin
      (e ||| (lo + i) <<< 32, x)) 0 es x
    let used := idx.map fun i => r.getD i 0
    let spare := (List.range (p.acc.length - idx.length)).map fun i =>
      (Config.freeWord (fr + i)).toNat % 2 ^ 32 ||| 0xFFFFFFFF <<< 32
    (elemBytes 8 (used ++ spare), x)
  | _ =>
    let (r, x) := encodeList (fun x _ v _ => x.int d.outFmt (d.accInt v)) 0 es x
    (elemBytes (elemBits d.outFmt / 8) r, x)

/-! ## The compare digest (14_integrity.md R413) -/

/-- One bit of the CRC-64 with the ECMA-182 polynomial. -/
def crc64Bit (c : Nat) : Nat :=
  let t := (c * 2) % 2 ^ 64
  if 2 ^ 63 ≤ c then t ^^^ 0x42F0E1EBA9EA3693 else t

/-- The CRC-64 of bytes from 0, most significant bit first (log entry 47). -/
def crc64 (bs : List Byte) : Nat :=
  bs.foldl (fun c b =>
    let s := crc64Bit
    s (s (s (s (s (s (s (s (c ^^^ (b.toNat <<< 56))))))))) ) 0

end Sys2Proof.Machine
end

