-- ==== Sys2Proof/Machine/StateNet.lean ====
section
/-! DEFINITION. The plain data of the stations, their programs, the steer tables, the buffers, the
queues and the lane links (spec files 03 to 07). -/

namespace Sys2Proof.Machine

/-! ## Programs (04) -/

/-- Epoch states (04 R97). -/
inductive EpochSt where
  | closed | open_ | closing
deriving DecidableEq, Repr

/-- The code of an epoch state in STN_EPOCH. -/
def EpochSt.code : EpochSt → Nat
  | .closed => 0
  | .open_ => 1
  | .closing => 2

/-- One program bank (04 R89, R90, R93, R103): code of the eight stations, the two `intake` entries,
the dispatch entries of the other seven stations, the constants g24 to g31 of each station, and the
combine code with its 64 entries. Before its first load a bank has no code and every entry is 0, PASS: the manual names no
contents (DESIGN CHOICE, log entry 100). -/
structure Bank where
  code : List (List Word) := []
  intakeA : Nat := 0
  intakeE : Nat := 0
  disp : List (List Nat) := []
  consts : List (List Word) := []
  comb : List Word := []
  combEnt : List Nat := []
  loaded : Bool := false
  retained : Bool := false
deriving DecidableEq, Repr

/-- A damaged pair of instructions in one pipeline's copy (04 R96). Station 8 is combine code, whose
`pipe` is the cluster. -/
structure Damage where
  pipe : Nat
  station : Nat
  bank : Nat
  addr : Nat
  /-- It has been reported as not rewritten. -/
  given : Bool := false
deriving DecidableEq, Repr

/-- The stations' programs and epochs. -/
structure StnState where
  st0 : EpochSt := .closed
  st1 : EpochSt := .closed
  cur : Bool := false
  quiet0 : Nat := 0
  quiet1 : Nat := 0
  passed0 : Bool := false
  passed1 : Bool := false
  /-- Epoch-drop events already raised in this beat. -/
  dropEv0 : Bool := false
  dropEv1 : Bool := false
  bank0 : Bank := {}
  bank1 : Bank := {}
  damage : List Damage := []
  /-- Loader: state (0 IDLE, 1 BUSY, 2 DONE, 3 REFUSED), refusal, and the load in progress. -/
  loadState : Nat := 0
  loadEpoch : Nat := 0
  loadCode : Nat := 0
  loadStation : Nat := 0
  loadAddr : Nat := 0
  loadPath : Nat := 0
  loadVersion : Nat := 0
deriving DecidableEq, Repr

/-! ## Steer tables (05) -/

/-- A slot of the exact-match store, with its tag state (05 R116); suspect and hit hold one bit for
each die (bit 0 west, bit 1 east). -/
structure Slot where
  key : Word
  data : Word
  vmask : Nat
  idle : Bool
  suspect : Nat
  hit : Nat
deriving DecidableEq, Repr

/-- A free slot. -/
def Slot.free : Slot := { key := 0, data := 0, vmask := 0, idle := false, suspect := 0, hit := 0 }

/-- A prefix of the LPM tables (05 R132, R133). -/
structure Prefix where
  v6 : Bool
  len : Nat
  addr : Nat
  vmask : Nat
  result : Nat
  /-- One bit for each die, as in a slot (05 R140). -/
  suspect : Nat := 0
deriving DecidableEq, Repr

/-- A damaged trie node (05 R132, R134): the prefix it covers, which ends at a stride, the die, and the prefixes still to
be rewritten. -/
structure LpmDamage where
  v6 : Bool
  len : Nat
  addr : Nat
  die : Nat
  todo : List (Nat × Nat)
deriving DecidableEq, Repr

/-- A learned change that waits for the boundary (03 R87, 05 R127). -/
structure Learn where
  key : Word
  /-- Leaf, or port for a MAC entry. -/
  val : Nat
  part : Nat
  port : Nat
  epoch : Bool
  /-- Further changes of the same key in the beat (03 R87). -/
  extra : Nat
deriving DecidableEq, Repr

/-- The steer tables. Slot numbers run through bank A, bank B and the stash (05 R130). -/
structure TblState where
  em : SMap Slot := []
  lpm : List Prefix := []
  lpmBad : List LpmDamage := []
  /-- Group entries: key 16,384·version + group. -/
  mc : SMap Word := []
  /-- Groups suspect on a die: (16,384·version + group, die). -/
  mcBad : List (Nat × Nat) := []
  learn : List Learn := []
  /-- Removals that termite has requested: slot and key. -/
  removals : List (Nat × Word) := []
  sweepSlot : Nat := 0
  /-- Compare engine: records done in each table's pass over a copy, and the copy. -/
  cmpPos : SMap Nat := []
  cmpDie : SMap Nat := []
deriving DecidableEq, Repr

/-! ## Streams (01 R18, 04 R93 to R95) -/

/-- Where a stream is. -/
inductive Stage where
  /-- Waiting for the named station of its ingress pipeline. -/
  | steer | hold | merge | mirror | queue
  /-- A pennant in the hold table; one that waits for an entry; a terminating pennant held. -/
  | penHeld | penWait | seqHeld | seqWait
  /-- A request that waits at `merge` (10 R301); a contribution that waits at `merge` (11 R337). -/
  | memWait | collWait
  /-- Pending admission; admitted. -/
  | pend | stored
deriving DecidableEq, Repr

/-- The tiles of one packet, in one half of the tile buffer, in the order in which they were taken (01 R20, 07 R177).
What reserve each was drawn from stands in its owner record. -/
structure Alloc where
  die : Nat
  tiles : List Nat
deriving DecidableEq, Repr

/-- Tiles of an allocation. -/
def Alloc.total (a : Alloc) : Nat := a.tiles.length

/-- A stream and its descriptor. `bytes` is the packet as received (F bytes); `h` the header window.
m0 is held field by field (04 R94). -/
structure Stream where
  id : Nat
  pipe : Nat
  stage : Stage
  ret : Bool
  inLane : Nat
  inPort : Nat
  eth : Bool
  scls : Nat
  part : Nat
  cls : Nat
  epoch : Bool
  pennant : Bool
  flen : Nat
  m1 : Word
  mx : List Word
  bytes : List Byte
  h : List Byte
  hdr : Hdr
  ce : Bool
  poison : Bool
  /-- Marked for a dead target (13 R393, 10 R310). -/
  dead : Bool
  /-- Marked dropped by an earlier station (01 R18). -/
  dropped : Bool
  /-- The occupancy bucket that counts it, and the snapshot or the held-since boundary (06 R160). -/
  bucket : Option Nat
  snap : Nat
  since : Nat
  alloc : Option Alloc
  /-- Its ingress credit is still held (07 R187). -/
  credit : Bool
  /-- A send descriptor's ring and tag, its egress-time request, and the pinned lane (18 R529). -/
  desc : Option (Nat × Nat)
  tsReq : Bool
  pin : Option Nat
  /-- The broadcast and group index whose copies this stream makes (15 R454). -/
  bcast : Option (Nat × Nat)
  /-- Mirror copy to this port (15 R450). -/
  mirrorTo : Option Nat
  /-- The tracker entry whose reply it is (10 R301). -/
  trk : Option Nat
deriving DecidableEq, Repr

/-- An admitted copy: one descriptor of a hardware queue (07 R193). -/
structure Copy where
  cid : Nat
  sid : Nat
  port : Nat
  cls : Nat
  subq : Nat
  part : Nat
  tiles : Nat
  /-- The owner record that holds its reference: that of the packet's first tile (07 R179, R180). -/
  tile : Nat
  flen : Nat
  ce : Bool
  /-- A copy for member j of a group (dst_node is sent as no node). -/
  member : Option Nat
  mirror : Bool
  /-- The lane on which it is being sent. -/
  sending : Option Nat
  /-- The frame as `launch` has rewritten it, once it is being sent. -/
  frame : List Byte := []
deriving DecidableEq, Repr

/-- What produces results (01 R19): a die's memory engine, a cluster, the management controller, or an ingress pipeline,
which answers by itself (03 R69, 10 R310). -/
inductive RetUnit where
  | engine (die : Nat)
  | cluster (n : Nat)
  | controller
  | pipeline (pipe : Nat)
deriving DecidableEq, Repr

/-- A result that waits at a return port (01 R19, 07 R191): the producing pipeline and unit, the frame, and
where it goes. -/
structure Ret where
  pipe : Nat
  unit : RetUnit
  /-- It has found no tile: its unit waits (07 R191). -/
  held : Bool := false
  bytes : List Byte
  eth : Bool
  part : Nat
  cls : Nat
  epoch : Bool
  /-- 0: to dst_node's seat; 1: to a group; 2: to a port. -/
  kind : Nat
  target : Nat
  subq : Nat
  desc : Option (Nat × Nat)
  tsReq : Bool
  pin : Option Nat
  bcast : Option (Nat × Nat)
  trk : Option Nat
deriving DecidableEq, Repr

/-- Streams between intake and the end of their last copy, the occupancy table and the return
ports. -/
structure NetState where
  streams : List Stream := []
  nextId : Nat := 0
  occE : SMap Nat := []
  occD : SMap Nat := []
  ret : List Ret := []
  seqUsed : Nat := 0
  /-- MGMT frames that `merge` has handed to the management controller, in order. -/
  mgmt : List Stream := []
  /-- Lost branches of job-start broadcasts: broadcast, group index, member (15 R454). -/
  lost : List (Nat × Nat × Nat) := []
deriving DecidableEq, Repr

/-! ## Buffers (07) -/

/-- Buffers that stand one after another on a free list: the first, and how many (07 R178). -/
structure Run where
  first : Nat
  count : Nat
deriving DecidableEq, Repr

/-- The free lists: of each die's tiles, of each size of staging in each cluster, and of each size of spill. Sizes are
numbered from the smallest (07 R176, R178). -/
inductive ListId where
  | tile (die : Nat)
  | staging (cluster size : Nat)
  | spill (size : Nat)
deriving DecidableEq, Repr

/-- One buffer: its list and its place in address order. -/
structure Buf where
  list : ListId
  idx : Nat
deriving DecidableEq, Repr

/-- The staging or spill buffers that one chunk holds, linked to serve its request (07 R177). -/
structure BufUse where
  cluster : Nat
  bufs : List Buf
  part : Nat
  /-- The context and chunk that hold it. -/
  ctx : Nat
  chunk : Nat
deriving DecidableEq, Repr

/-- The buffer pools. -/
structure BufState where
  /-- The free lists, from their heads, by `ListId.key`; a list that is not named stands whole, threaded in address
  order (07 R178, R216). -/
  lists : SMap (Option (List Run)) := []
  /-- The free tiles that each ingress pipeline keeps (07 R178). -/
  caches : SMap (List Nat) := []
  /-- The owner records, by `Buf.key`; one that is not named is zero: not in use (07 R179). -/
  own : SMap Word := []
  /-- The use counts: tiles of partition p on die d at 4,096·d + p; staging in KiB, spill in 64 KiB (07 R208). -/
  tileUse : SMap Nat := []
  stgUse : SMap Nat := []
  spillUse : SMap Nat := []
  headroom : Nat := 0
  stg : List BufUse := []
  spill : List BufUse := []
  carve : Option Word := none
  /-- The walk in progress: the beat number of the snapshot whose audit started it (07 R200). -/
  walk : Option Nat := none
  auditAt : Nat := 0
  /-- Buffer and port events already raised in this beat: (kind, lane). -/
  raised : List (Nat × Nat) := []
deriving DecidableEq, Repr

/-! ## Queues and shapers (07) -/

/-- Queues. `copies` is in order of admission; `tok` holds shaper tokens in 1/256 byte, as 36-bit
two's complement; `occ` the occupancy of each port-class. -/
structure QState where
  copies : List Copy := []
  nextCid : Nat := 0
  lists : SMap (List Nat) := []
  rr : SMap Nat := []
  portPtr : Nat := 0
  tok : SMap Nat := []
  occ : SMap Nat := []
deriving DecidableEq, Repr

/-! ## Lane links (06, 07) -/

/-- A frame held in a lane's replay buffer: its number, its bytes, and the bytes of lane time sent since its last
byte (06 R152). -/
structure Held where
  num : Nat
  bytes : List Byte
  since : Nat
  /-- The boundary count of the beat in which it was sent. -/
  beat : Nat
deriving DecidableEq, Repr

/-- A hop-local frame that waits for its lane: its opcode, its payload, and the listed class-7 copies that go before it
(06 R153; 09 R260, R264). -/
structure Hop where
  op : Nat
  pay : List Byte
  after : List Nat := []
deriving DecidableEq, Repr

/-- What a lane is sending (06 R148, R157): nothing, the first of the frames handed over to it, or the first copy of its
transmit FIFO. -/
inductive Sending where
  | idle | ahead | copy
deriving DecidableEq, Repr

/-- One lane's replay and credit state (06 R151 to R157, 07 R187 to R190). -/
structure Lane where
  txNum : Nat := 0
  rxNum : Nat := 0
  replay : List Held := []
  /-- Bytes of lane time handed out since the last boundary, with what then was still to be sent (06 R152). -/
  used : Nat := 0
  /-- What is still to be sent of the last replay, in bytes of lane time (02 R50). -/
  left : Nat := 0
  /-- The copies in its transmit FIFO, in the order in which `launch` handed them over. -/
  queue : List Nat := []
  now : Sending := .idle
  stopped : Bool := false
  /-- Hop-local frames that wait. -/
  hops : List Hop := []
  /-- A replay that waits for the end of the frame in progress: the frame that the neighbour asks for (06 R155). -/
  asked : Option Nat := none
  /-- The receiver's request: first discarded frame, attempts, boundary of the first and last. -/
  req : Option Nat := none
  attempts : Nat := 0
  firstAt : Nat := 0
  lastAt : Nat := 0
  /-- The number of the next numbered frame to arrive while a request stands, and the number after the last one that has
  arrived, damaged or not: once it is reached the replay is clean (06 R156). -/
  rxPos : Nat := 0
  rxHigh : Nat := 0
  down : Bool := false
  /-- The part waits for the neighbour's hand-over; or it has come while the lane is still in service, naming a frame
  (06 R157). -/
  awaitHand : Bool := false
  handed : Option Nat := none
  /-- Frames of lanes handed over that go on this lane, ahead of every other frame, each with the lane it comes from. -/
  ahead : List (Nat × List Byte) := []
  /-- Grants G, tiles not yet released, and received R for classes 5 to 7. -/
  g5 : Nat := 0
  g6 : Nat := 0
  g7 : Nat := 0
  h5 : Nat := 0
  h6 : Nat := 0
  h7 : Nat := 0
  r5 : Nat := 0
  r6 : Nat := 0
  r7 : Nat := 0
  /-- The neighbour's grants and the tiles sent. -/
  ng5 : Nat := 0
  ng6 : Nat := 0
  ng7 : Nat := 0
  s5 : Nat := 0
  s6 : Nat := 0
  s7 : Nat := 0
  /-- The last LINK_CREDIT sent: its counts, its boundary, and whether one was sent. -/
  l5 : Nat := 0
  l6 : Nat := 0
  l7 : Nat := 0
  lAt : Nat := 0
  lSent : Bool := false
deriving DecidableEq, Repr

/-- An Ethernet port's PFC state (03 R71, 07 R190): held tiles and XOFF sent, with its boundary, for
classes 5 to 7; and received pauses by class, with the boundary after which frames may start. -/
structure Pfc where
  h5 : Nat := 0
  h6 : Nat := 0
  h7 : Nat := 0
  x5 : Option Nat := none
  x6 : Option Nat := none
  x7 : Option Nat := none
  /-- A lane's ingress FIFO is full (01 R17). -/
  full : Bool := false
  paused : SMap Nat := []
deriving DecidableEq, Repr

/-- Lane links, and the ports whose conflict has been dealt with. -/
structure LnkState where
  lanes : SMap Lane := []
  pfc : SMap Pfc := []
  /-- Ports in conflict since the last boundary (03 R58). -/
  conflict : List Nat := []
  /-- Frames to be re-sent on a port's lanes after a hand-over, which no lane has yet taken (06 R157). -/
  resend : SMap (List (Nat × List Byte)) := []
deriving DecidableEq, Repr

end Sys2Proof.Machine
end

