-- ==== Sys2Proof/Machine/StateColl.lean ====
section
/-! DEFINITION. The plain data of the collectives, the reduction clusters and the checks on them (spec
files 11, 12, 14 and the job-start broadcast of 15). -/

namespace Sys2Proof.Machine

/-! ## Contexts (11 R319 to R329) -/

/-- A rectangle of a group (11 R319). -/
structure Rect where
  rowLo : Nat
  rowHi : Nat
  colLo : Nat
  colHi : Nat
  slotLo : Nat
  slotHi : Nat
deriving DecidableEq, Repr

/-- The descriptor of a context (11 R323). -/
structure Desc where
  part : Nat
  collId : Nat
  quorum : Bool
  seat : Bool
  cascade : Bool
  keep : Bool
  autoNext : Bool
  resClass : Nat
  level : Nat
  parent : Nat
  resTag : Nat
  ar : Arith
  comb : Nat
  chunkT : Nat
  segT : Nat
  k : Nat
  window : Nat
  keepCtr : Nat
  keepOff : Nat
  rects : List Rect
  groups : List Nat
deriving DecidableEq, Repr

/-- The states of a context (11 R325). -/
inductive CtxSt where
  | idle | running | draining
deriving DecidableEq, Repr

/-- A context that is not FREE, with its open or last round. -/
structure Context where
  d : Desc
  st : CtxSt := .idle
  base : Nat := 0
  span : Nat := 0
  stride : Nat := 1
  phase : Nat := 0
  count : Nat := 0
  /-- Round indices of chunks that have ended in the open round. -/
  ended : List Nat := []
  nOk : Nat := 0
  nQuorum : Nat := 0
  nTimeout : Nat := 0
  nOther : Nat := 0
  lost : Nat := 0
  branchLost : Bool := false
  flowSeq : Nat := 0
  roundStatus : Bool := false
  /-- A round is open. -/
  open_ : Bool := false
  /-- Every chunk has ended: the round ends at the next boundary. -/
  ending : Bool := false
  /-- Relayed segments of kept chunks: round index and segments so far (11 R333). -/
  kept : List (Nat × Nat) := []
  /-- The members of each listed group when the context was created (11 R350). -/
  leaves : List (List Nat) := []
deriving DecidableEq, Repr

/-! ## Chunks (11 R336 to R340) -/

/-- Where a chunk's partial is. -/
inductive Whereabouts where
  /-- The draw of staging has been refused so far. -/
  | none
  | staging
  | spill
  /-- Staging is drawn again, and the partial is on its way back. -/
  | recall
deriving DecidableEq, Repr

/-- One segment of an open chunk: contributors accepted, in order, contributors combined, the sum of contrib
of those combined, the partial, and whether it was sent or poisoned. -/
structure Seg where
  got : List Nat := []
  done : List Nat := []
  contrib : Nat := 0
  part : Part := {}
  sent : Bool := false
  poison : Bool := false
  /-- The data sent, which keep writes when the chunk has ended (11 R347). -/
  data : List Byte := []
deriving DecidableEq, Repr

/-- An open chunk. -/
structure Chunk where
  ctx : Nat
  chunk : Nat
  epoch : Bool
  home : Nat
  /-- The check cluster and the arbiter, while the chunk is checked (14 R411). -/
  check : Option (Nat × Nat) := none
  openedAt : Nat
  window : Nat
  place : Whereabouts := .none
  /-- The boundary count of the draw, or of the recall's end. -/
  drawnAt : Nat := 0
  segs : List Seg
  /-- The chunk ends with POISON at the next boundary (14 R409). -/
  poisonEnd : Bool := false
  /-- The boundary count at which its spill was last judged. -/
  judged : Nat := 0
deriving DecidableEq, Repr

/-- A contribution in a cluster's input buffer (12 R379). -/
structure InBuf where
  cluster : Nat
  ctx : Nat
  chunk : Nat
  seg : Nat
  who : Nat
  contrib : Nat
  poison : Bool
  data : List Byte
deriving DecidableEq, Repr

/-! ## Checks (14 R412 to R418) -/

/-- A compare that has not ended: the home's digest, and the check cluster's once it is known to
differ. -/
structure Cmp where
  seg : Nat
  digest : Nat
  differs : Option Nat
  sentAt : Nat
deriving DecidableEq, Repr

/-- The check of a sampled chunk, which outlives the chunk. -/
structure Check where
  ctx : Nat
  chunk : Nat
  desc : Desc
  epoch : Bool
  home : Nat
  check : Nat
  arb : Nat
  /-- The boundary count at which its chunk opened, which tells it from the check of an older chunk of the same number. -/
  openedAt : Nat
  cmps : List Cmp := []
  /-- Retained tiles: segment, class, allocation. -/
  retained : List (Nat × Nat × Alloc) := []
  tainted : List Nat := []
  /-- The chunk has ended: the beat number of the boundary. -/
  endedAt : Option Nat := none
  /-- A compare was abandoned, or a segment was sent without one. -/
  partly : Bool := false
  sentAny : Bool := false
  /-- The arbiter has drawn staging for what it recomputes (14 R415). -/
  arbDrawn : Bool := false
  /-- The check was abandoned (14 R412, R418). -/
  abandoned : Bool := false
  present : List Nat := []
  n : Nat := 0
deriving DecidableEq, Repr

/-- A job-start broadcast whose copies have not all ended (15 R454). -/
structure Bcast where
  id : Nat
  ctx : Nat
  part : Nat
  collId : Nat
  ring : Nat
  tag : Nat
  beat : Nat
  groups : List Nat
deriving DecidableEq, Repr

/-- The item 0x68 of a round that has ended, which is posted once the copies of its last frames have been made (11
R344, R349): its words without the lost copies, and those. -/
structure RoundDone where
  ctx : Nat
  w0 : Word
  w1 : Word
  w2 : Word
  w3 : Word
  lost : Nat
  branchLost : Bool
deriving DecidableEq, Repr

/-- Collectives. -/
structure CollState where
  ctx : SMap (Option Context) := []
  chunks : List Chunk := []
  inbuf : List InBuf := []
  checks : List Check := []
  /-- Results of a parent that wait to be relayed (11 R333). -/
  casc : List Stream := []
  bcasts : List Bcast := []
  nextBcast : Nat := 4096
  /-- flow_seq of the flows to parents under cascade, by flow key (03 R82). -/
  upSeq : SMap Nat := []
  /-- Items of rounds that end at this boundary, posted after its step 5 (log entry 32). -/
  rounds : List RoundDone := []
deriving DecidableEq, Repr

/-- The field test (14 R419 to R421, R431). -/
structure FieldTest where
  /-- The cluster under test. -/
  cur : Option Nat := none
  forced : Bool := false
  /-- A forced test was asked for with `force`; a requested one only in idle beats. -/
  steps : Nat := 0
  startAt : Nat := 0
  next : Nat := 0
  pend : List Nat := []
  /-- Forced tests that wait for the next boundary. -/
  force : List Nat := []
  /-- A slot is due at the next boundary. -/
  stepped : Bool := false
deriving DecidableEq, Repr

/-- The reduction clusters and the integrity checks. Margin steps are in INT_CLU_c. -/
structure RedState where
  /-- LFSR states by 128·c + k; an unlisted one holds what its cluster's seed loads (12 R377). -/
  lfsr : SMap (Option Nat) := []
  /-- Until which boundary count a cluster takes no vector (14 R422). -/
  idleTill : SMap Nat := []
  /-- Suspect events of this beat. -/
  suspect : List Nat := []
  /-- Clusters lowered from step 9 that have not passed a forced test (14 R424). -/
  rejoin : List Nat := []
  /-- Those that have, and rejoin A at the next boundary. -/
  passed : List Nat := []
  ft : FieldTest := {}
deriving DecidableEq, Repr

end Sys2Proof.Machine
end

