-- ==== Sys2Proof/Machine/StateMem.lean ====
section
/-! DEFINITION. The plain data of fabric memory (10_fabric_memory.md). -/

namespace Sys2Proof.Machine

/-- A reply that a memory engine has made: its status, payload and poison bit (03 R67). -/
structure Reply where
  status : Nat
  payload : List Byte
  poison : Bool
deriving DecidableEq, Repr

/-- A tracker entry (10 R301): the request, the boundary at which it reached `merge`, the reply it
has made, and whether that reply has been handed to the return port. `silent`: its partition was
discarded, so no reply is sent (15 R441). `reset`: the discard was a reset, so its increments and
window records are discarded (10 R313). -/
structure Trk where
  id : Nat
  /-- Its place in the order in which entries are taken (10 R293), and the die of the engine that has it (10 R284). -/
  ord : Nat
  die : Nat
  req : Stream
  since : Nat
  reply : Option Reply
  sent : Bool
  silent : Bool
  reset : Bool
  /-- The named counter was owned when the request was accepted (10 R313). -/
  owned : Bool
deriving DecidableEq, Repr

/-- An armed subscription (10 R299): the SUB that armed it. Its target stands in the near store. -/
structure Sub where
  hdr : Hdr
deriving DecidableEq, Repr

/-- A BAR2 access that waits for earlier requests to its lines (18 R519): its place in their order, its memory and
address, and the bytes it writes or how many it reads. -/
structure HostAcc where
  ord : Nat
  spine : Bool
  addr : Nat
  read : Option Nat
  data : List (Option Byte)
deriving DecidableEq, Repr

/-- A request that met a dead target since the last boundary (10 R311). -/
structure DeadHit where
  part : Nat
  node : Nat
  opTag : Nat
  offset : Nat
deriving DecidableEq, Repr

/-- Fabric memory. Both memories are in the canonical form of Ops; poison marks are kept by line, those of a DDR5 line
as its twelve poison bits (18 R547). -/
structure MemState where
  spine : List Host.Cell := []
  near : List Host.Cell := []
  poisonS : SMap Nat := []
  poisonN : SMap Bool := []
  subs : SMap (Option Sub) := []
  trk : List Trk := []
  /-- Requests given up but already issued: they complete without a reply (10 R302, R303). -/
  late : List Trk := []
  nextOrd : Nat := 0
  /-- BAR2 accesses that wait, in the order of their arrival. -/
  hostAcc : List HostAcc := []
  dead : List DeadHit := []
deriving DecidableEq, Repr

end Sys2Proof.Machine
end

