-- ==== Sys2Proof/Machine/StatePhys.lean ====
section
/-! DEFINITION. The plain data of the light engines and of the optical bypass (spec files 08, 09,
21). -/

namespace Sys2Proof.Machine

/-! ## Light engines (08) -/

/-- The lane states (08 R229). -/
inductive LaneSt where
  | off | acquire | train | service | calib | reacq | waitLaser | failed
deriving DecidableEq, Repr

/-- The code of a lane state. -/
def LaneSt.code : LaneSt → Nat
  | .off => 0
  | .acquire => 1
  | .train => 2
  | .service => 3
  | .calib => 4
  | .reacq => 5
  | .waitLaser => 6
  | .failed => 7

/-- One lane's optical state (08 R229, R245). -/
structure OptLane where
  st : LaneSt := .off
  /-- The state from which it came to `st`. -/
  prev : LaneSt := .off
  cause : Nat := 0
  /-- In service since the last boundary. -/
  inSvc : Bool := false
  noLight : Bool := false
  pilTx : Nat := 0
  pilRx : Nat := 0
  /-- The heater codes of each ring's last lock point and, once a calibration since the start has recorded one, its
  park code (08 R224); a ring stands parked, with the modulator drive of a transmit ring muted, from its park to its
  next verified lock. -/
  heatTx : Nat := 0
  heatRx : Nat := 0
  parkTx : Option Nat := none
  parkRx : Option Nat := none
  parkedTx : Bool := false
  parkedRx : Bool := false
  /-- The boundary count at the last change of state. -/
  since : Nat := 0
  /-- In TRAIN, the boundary count of the last event that its 16 clean beats are counted from (08 R231). -/
  cleanFrom : Nat := 0
  /-- The state, and the cause, with which a lane still in service left SERVICE since the last boundary (08 R247). -/
  left : Option (LaneSt × Nat) := none
  /-- A port reconfiguration came during its calibration: the lane trains when that completes (08 R238). -/
  retrain : Bool := false
  /-- Departures from SERVICE for TRAIN (08 R232). -/
  departs : List Nat := []
  /-- The rings hold a verified lock; where one does not, the boundary count at which its acquisition
  started, if it has (08 R228, R239). -/
  txOk : Bool := false
  rxOk : Bool := false
  txFrom : Option Nat := none
  rxFrom : Option Nat := none
  lightAt : Nat := 0
  /-- The wrong index that the last pilot window of each ring named (08 R227). -/
  winTx : Option Nat := none
  winRx : Option Nat := none
  /-- Right windows of the receive ring since its direction came back from bypass (09 R261). -/
  winGood : Nat := 0
  /-- The lane meets its entry condition and waits for the other lanes of its port (08 R231). -/
  ready : Bool := false
  /-- Calibration slots since its last calibration (08 R236). -/
  slots : Nat := 0
deriving DecidableEq, Repr

/-- One laser (08 R220, R244). `forK`: the active laser for which a spare is ramped, and whether that
laser is being retired (08 R222). States: 0 OFF, 1 RAMP, 2 ON, 3 STANDBY, 4 FAILED. -/
structure Laser where
  st : Nat := 0
  sub : Nat := 15
  forK : Option Nat := none
  retiring : Bool := false
  /-- A spare ramped for a laser being retired has reached set power: it is switched in at the next boundary. -/
  atPower : Bool := false
deriving DecidableEq, Repr

/-- One engine's calibration (08 R234 to R238, R241, R242) and loopback test (21 R622). -/
structure EngineSt where
  /-- The position that is being calibrated, whether it is forced, and the boundary at which it began. -/
  cur : Option (Nat × Bool × Nat) := none
  next : Nat := 0
  pend : List Nat := []
  forced : List Nat := []
  /-- The position under loopback test, its dur and the boundary count at which it started. -/
  loop : Option (Nat × Nat × Nat) := none
deriving DecidableEq, Repr

/-- Light engines: lanes by number, lasers by 12·e + k, engines by number. -/
structure OptState where
  lanes : SMap OptLane := []
  lasers : SMap Laser := []
  eng : SMap EngineSt := []
  /-- Boot firmware has loaded the device record: start-of-life biases and ring calibration data (08 R244, R248). -/
  record : Bool := false
deriving DecidableEq, Repr

/-! ## Optical bypass (09) -/

/-- A leaf's demand report (09 R262). -/
structure Report where
  seen : Nat
  recv : Nat
  send : Nat
  entries : List (Nat × Nat)
  /-- The boundary count of the beat in which it was received. -/
  at_ : Nat
deriving DecidableEq, Repr

/-- A leaf in bypass (09 R251, R252, R266, R267, R279). `fresh`: the report received in this beat. `misAt`: misalign as it
stood after the last boundary, against which the round of the beat is decided (R264). `repAt`: the boundary of the last
report. -/
structure BypLeaf where
  takes : Bool := false
  refused : Bool := false
  misalign : Bool := false
  misAt : Bool := false
  repAt : Option Nat := none
  anchor : Nat := 0
  rep : Option Report := none
  fresh : Option Report := none
  outside : Nat := 0
deriving DecidableEq, Repr

/-- A bypass plane (09 R271 to R273, R277). Modes: 0 OFF, 1 FAST, 2 SLOW. Slots are counted in boundary
counts. -/
structure Plane where
  cur : Nat := 0
  cause : Nat := 0
  /-- The first slot that may carry bursts. -/
  burstFrom : Nat := 0
  /-- A hand-over holds in slots handFrom to handTo − 1. -/
  handFrom : Nat := 0
  handTo : Nat := 0
  cal : Bool := false
  calAt : Nat := 0
  calWant : Bool := false
  lock : Bool := false
  /-- Since when an element has been out of lock, and since when all have been locked. -/
  lostAt : Nat := 0
  cleanAt : Nat := 0
  /-- A fall-back is due at the next boundary: whether its cause is the fast drivers. -/
  fall : Option Bool := none
  fell : Bool := false
deriving DecidableEq, Repr

/-- A decided slot (09 R264, R268). -/
structure Grant where
  slot : Nat
  plane : Nat
  src : Nat
  dst : Nat
  tiles : Nat
  void : Bool
  routed : Bool
deriving DecidableEq, Repr

/-- A circuit (09 R270): it holds its lanes in slots `start` ≤ s < `gone`; it is ready in slots
`ready` ≤ s < `stop`. -/
structure Circ where
  plane : Nat
  src : Nat
  dst : Nat
  start : Nat
  ready : Option Nat
  stop : Option Nat
  gone : Option Nat
deriving DecidableEq, Repr

/-- Optical bypass. -/
structure BypState where
  /-- Lane directions bypassed in this beat. -/
  rxByp : List Nat := []
  txByp : List Nat := []
  /-- Receive directions whose slot in this beat is void: what arrives there is ignored (09 R268). -/
  ignored : List Nat := []
  /-- Since when each receive direction has been bypassed without a break. -/
  rxSince : SMap Nat := []
  /-- Receive directions that came back and await their restart, with the beats they were bypassed. -/
  back : SMap Nat := []
  planes : SMap Plane := []
  leaves : SMap BypLeaf := []
  grants : List Grant := []
  circs : List Circ := []
  ptr : SMap Nat := []
  /-- The settings of the elements of each plane: 15 stages of 128, true for cross; and those routed for slots to come, at
  4·slot + plane (09 R249, R264). -/
  elems : SMap (List (List Bool)) := []
  routes : SMap (List (List Bool)) := []
  /-- Lanes on which a replay request was outstanding after the last boundary (09 R264, R265). -/
  busyAt : List Nat := []
  /-- The matching of this beat, and its routing, have been made. -/
  matched : Bool := false
  routed : Bool := false
  /-- The plane that the timer calibrates next; calibrations that the timer asked for. -/
  nextCal : Nat := 0
  calDue : List Nat := []
deriving DecidableEq, Repr

end Sys2Proof.Machine
end

