-- ==== Sys2Proof/Machine/StateSys.lean ====
section
/-! DEFINITION. The plain data of time, power, start-up, security and the pins (spec files 16, 19, 20,
21). -/

namespace Sys2Proof.Machine

/-! ## Time (16) -/

/-- Local time (16 R465 to R476). Times are in units of 2^-33 ns, which half an increment of 32.32 is a
whole number of. -/
structure TimeState where
  /-- Local time at core cycle `cyc` of the beat in progress. -/
  img : Nat := 0
  cyc : Nat := 0
  /-- Local time has been set since reset (02 R52). -/
  isSet : Bool := false
  /-- The beat in progress is lengthened for a step (02 R35). -/
  stepped : Bool := false
  /-- Remaining slew. -/
  remain : Int := 0
  cur : Bool := false
  switching : Bool := false
  steps : Nat := 0
  /-- Armed triggers and their next targets, in ns. -/
  armed : SMap (Option Nat) := []
  /-- Next targets, in ns, of the internal triggers (16 R477): engine slots, planes, field tests. -/
  calAt : SMap (Option Nat) := []
  planeAt : Option Nat := none
  testAt : Option Nat := none
  /-- Captures made in this beat (16 R471). -/
  captures : Nat := 0
deriving DecidableEq, Repr

/-! ## Power (19) -/

/-- A power domain (19 R554, R556). States: 0 OFF, 1 RAMP_UP, 2 ON, 3 RAMP_DOWN, 4 FAULT. -/
structure Dom where
  st : Nat := 0
  cause : Nat := 0
  /-- Its supply is in range: ON from the next boundary. -/
  inRange : Bool := false
  /-- A ramp down ends in FAULT; kept while the domain is in FAULT. -/
  toFault : Bool := false
  /-- A ramp down at the next boundary that no request made: its cause, 3 or 6. -/
  force : Option Nat := none
  /-- 1 + the boundary count at which a supply fault began its ramp down (19 R578). -/
  faultAt : Nat := 0
  /-- Asked on or off, with the cause, and not yet begun. -/
  asked : Option (Bool × Nat) := none
  vg : Nat := 0
  /-- The guard to which the regulator moves, and the boundary count of its next step (19 R575). -/
  goal : Nat := 0
  nextMove : Nat := 0
  /-- Until this boundary a plan waits for a field test in its domain (19 R578). -/
  waitTill : Nat := 0
deriving DecidableEq, Repr

/-- Power and temperature. Die 0 is west, 1 east; warning units 0 and 1 are the switch dies, 2 + e the
photonic die of engine e. -/
structure PwrState where
  /-- Cricket, domain 94, is ON after every reset (R579). -/
  dom : SMap Dom := [(94, { st := 2, cause := 0, inRange := false, toFault := false, force := none, faultAt := 0, asked := none, vg := 0, goal := 0, nextMove := 0 })]
  asleep : Bool := false
  sleepDue : Bool := false
  /-- A power trip holds: its cause code, 3 thermal or 4 supply. -/
  trip : Option Nat := none
  warned : SMap Bool := []
  /-- A comparator fired in this beat; boundaries of a stretch to come; quiet beats so far. -/
  fireW : Bool := false
  fireE : Bool := false
  startW : Option Nat := none
  startE : Option Nat := none
  quietW : Nat := 0
  quietE : Nat := 0
  /-- The last temperature of each die's comparators, in 1/16 °C. -/
  tempW : Nat := 0
  tempE : Nat := 0
  /-- Waits of the re-plan that is due (19 R573). -/
  waits : Nat := 0
  /-- Monitors beyond their limits: the code of item 0x93 and the unit (19 R572). -/
  aged : List (Nat × Nat) := []
  /-- Light has woken cricket: the PME has been sent for this fibre pair (19 R569). -/
  wakePair : Option Nat := none
deriving DecidableEq, Repr

/-! ## Start-up and security (20) -/

/-- Fuses (20 R580, R585, R591, R600; 21 R620): values that no reset changes (log entry 8). -/
structure Fuses where
  svn : Nat := 0
  /-- Key hashes of the slots. Slot 0: the SHA-512 digest of 133 zero bytes. -/
  keyHash : List Nat := [0xc6953aea1f31da67d3ac33171617e01252672932a6e6eae0382e68fa9048b0e78871b68467945c6b940f1ea6e815231e0c95fbe97090b53bf2181681ecf6c2dd]
  revoked : List Nat := []
  serial : Word := 0
  prod : Bool := true
deriving DecidableEq, Repr

/-- A GET_MEASUREMENTS whose table digests are being formed (20 R593 to R595): the request, the restarts of the
walk, and the digests of versions 0 and 1 once it is done. -/
structure DigestWalk where
  index : Nat
  signed : Bool
  nonce : List Byte
  restarts : Nat := 0
  digests : Option (Nat × Nat) := none
deriving DecidableEq, Repr

/-- Start-up and security. -/
structure BootState where
  fuses : Fuses := {}
  /-- The start-up step in progress (20 R583), 12 once the last is done; 0 while a reset other than power-on
  holds the part. -/
  step : Nat := 1
  stage : Nat := 0
  src : Nat := 0
  trial : Bool := false
  trialAt : Nat := 0
  halted : Bool := false
  err : Nat := 0
  fwVersion : Nat := 0
  svn : Nat := 0
  starts : Nat := 0
  opState : Nat := 0
  opErr : Nat := 0
  active : Bool := false
  validA : Bool := true
  validB : Bool := false
  /-- A source that the boot ROM tries before those of R584: 0 slot A, 1 slot B, 2 the host. -/
  first : Option Nat := none
  /-- Sources that the boot ROM has tried and found bad since it began to look. -/
  tried : Nat := 0
  go : Bool := false
  /-- The firmware runs. -/
  running : Bool := false
  walk : Option DigestWalk := none
  /-- Partitions whose teardown checks are due when firmware returns (20 R582). -/
  owed : List Nat := []
  /-- The SPDM exchange: 0 none, 1 version, 2 capabilities, 3 algorithms negotiated. -/
  spdm : Nat := 0
  token : Nat := 0
deriving DecidableEq, Repr

/-! ## Pins (21) -/

/-- The pins and the TAP (21 R612 to R619, R626). -/
structure PinState where
  perstLow : Bool := true
  vaonLow : Bool := false
  ir : Nat := 0x01
  /-- An instruction of R618 holds the part in reset. -/
  tapHold : Bool := false
  bootSrc : Bool := false
  testSeen : Bool := false
  manufacturing : Bool := false
  alarmLow : Bool := false
  /-- The crystal's synthesizer is in use (21 R611). -/
  refSel : Bool := false
  /-- TREF stands good at its pins; ref_ok shows it once the part judges it (log entry 73). -/
  refOk : Bool := true
  boundary : Nat := 0
deriving DecidableEq, Repr

end Sys2Proof.Machine
end

