-- ==== Sys2Proof/Machine/State.lean ====
section
/-! DEFINITION. The state of the part, what stops a step, and the state after reset. -/

namespace Sys2Proof.Machine

/-- The reasons for which a step stops with a fault. -/
inductive Fault where
  /-- Raised by every meaning when its command names a unit, a register set or a length that the part
  does not have (lane 1,024, ring 64): no such command can reach the part. Safe. -/
  | noSuchUnit
deriving DecidableEq, Repr

/-- The reasons for which a step gives no meaning. -/
inductive Refusal where
  /-- Answered by an arm of `exec` whose command has no meaning yet. Safe. -/
  | notModelled (mnemonic : String)
deriving DecidableEq, Repr

/-- The state of the part. -/
structure State where
  pending : List Instr := []
  out : List OutEv := []
  free : Nat := 0
  beat : BeatState := {}
  regs : RegState := {}
  stn : StnState := {}
  tbl : TblState := {}
  net : NetState := {}
  buf : BufState := {}
  q : QState := {}
  lnk : LnkState := {}
  opt : OptState := {}
  byp : BypState := {}
  part : PartState := {}
  cnt : CntState := {}
  host : HostState := {}
  mem : MemState := {}
  coll : CollState := {}
  red : RedState := {}
  time : TimeState := {}
  pwr : PwrState := {}
  boot : BootState := {}
  pins : PinState := {}
deriving DecidableEq, Repr

/-- The state after reset: a power-on reset with PERST_N low (20 R580, 21 R613). -/
def State.reset : State := {}

end Sys2Proof.Machine
end

