-- ==== Sys2Proof/Machine/Ops.lean ====
section
/-! DEFINITION. The named operations on the state: registers and their fields, outputs and events,
items, counters, memory bytes, partitions, ports and lanes. -/

namespace Sys2Proof.Machine

/-- What a meaning answers. -/
abbrev Out := Host.Outcome State Fault Refusal

/-! ## Registers (00 R3, R7, R8) -/

/-- The value in effect of register `i` of kind `k`. -/
def State.reg (s : State) (k : RegKind) (i : Nat) : Word :=
  SMap.get k.reset s.regs.eff (k.off i / 8)

/-- Field [hi:lo] of a register in effect. -/
def State.fld (s : State) (k : RegKind) (i hi lo : Nat) : Nat := bits (s.reg k i) hi lo

/-- Bit [n] of a register in effect. -/
def State.flag (s : State) (k : RegKind) (i n : Nat) : Bool := bit (s.reg k i) n

/-- Put a value into effect. -/
def State.setReg (s : State) (k : RegKind) (i : Nat) (v : Word) : State :=
  { s with regs := { s.regs with eff := SMap.set k.reset s.regs.eff (k.off i / 8) v } }

/-- Put a field into effect. -/
def State.setFld (s : State) (k : RegKind) (i hi lo v : Nat) : State :=
  s.setReg k i (setBits (s.reg k i) hi lo v)

/-- Set or clear one bit of a register. -/
def State.setFlag (s : State) (k : RegKind) (i n : Nat) (b : Bool) : State :=
  s.setFld k i n n (b2n b)

/-- Add to a saturating count field (R3 RC fields, which saturate as their descriptions say). -/
def State.bump (s : State) (k : RegKind) (i hi lo n : Nat) : State :=
  s.setFld k i hi lo (satAdd (hi + 1 - lo) (s.fld k i hi lo) n)

/-- The RW fields of `val` put into effect. -/
def State.putRw (s : State) (k : RegKind) (i : Nat) (val : Word) : State :=
  s.setReg k i ((s.reg k i &&& ~~~ k.rwMask) ||| (val &&& k.rwMask))

/-- The last write of a register that still waits for a boundary. -/
def lastPend (k : RegKind) (i : Nat) (l : List PendWrite) : Option PendWrite :=
  (l.filter fun p => p.kind = k && p.idx = i).getLast?

/-- What a read of the RW fields returns: the last value written that was not ignored (R3, R8). -/
def State.shown (s : State) (k : RegKind) (i : Nat) : Word :=
  match lastPend k i s.regs.pend with
  | some p => (s.reg k i &&& ~~~ k.rwMask) ||| (p.val &&& k.rwMask)
  | none => s.reg k i

/-- Queue a write for the boundary that 02 R32 gives. -/
def State.queueWrite (s : State) (k : RegKind) (i : Nat) (val : Word) (late : Bool) : State :=
  { s with regs := { s.regs with pend := s.regs.pend ++ [{ kind := k, idx := i, val := val, late := late }] } }

/-! ## Outputs, events, items -/

/-- Put something on the outputs. -/
def State.emit (s : State) (o : OutEv) : State := { s with out := s.out ++ [o] }

/-- Raise an event. -/
def State.raise (s : State) (k : EventKind) (args : List Nat) : State := s.emit (.event k args)

/-- Hand a packet of items to a device-to-host ring's write port (18 R532). -/
def State.post (s : State) (ring : Nat) (items : List Item) : State :=
  { s with host := { s.host with outbox := s.host.outbox ++ [(ring % 64, items)] } }

/-- The beat number as the upper half of an item's word. -/
def State.beatWord (s : State) : Word := at_ 32 (s.beat.now % 2 ^ 32)

/-- A fresh free value, and the state that has drawn it (log entry 5). -/
def State.freshWord (s : State) : Word × State :=
  (Config.freeWord s.free, { s with free := s.free + 1 })

/-! ## Counters (17) -/

/-- The key of counter k of lane n (17 R490). -/
def cntLane (n k : Nat) : Nat := (0x4420000 + 256 * n + 8 * k) / 8

/-- The key of counter k of port-class n (17 R491). -/
def cntPc (n k : Nat) : Nat := (0x4460000 + 32 * n + 8 * k) / 8

/-- The key of the unreachable counter of leaf n (17 R491). -/
def cntLeaf (n : Nat) : Nat := (0x44A0000 + 8 * n) / 8

/-- The key of counter k of pool q (17 R491). -/
def cntPool (q k : Nat) : Nat := (0x44A0800 + 16 * q + 8 * k) / 8

/-- The key of counter j of partition p (17 R492). -/
def cntPart (p j : Nat) : Nat := 2 ^ 40 + 64 * p + j

/-- The key of programmable counter n (17 R498). -/
def cntProg (n : Nat) : Nat := (0x4400000 + 8 * n) / 8

/-- Add to a counter, modulo 2^64 (17 R489). -/
def State.count (s : State) (key n : Nat) : State :=
  { s with cnt := { s.cnt with live := SMap.upd 0 s.cnt.live key fun v => (v + n) % 2 ^ 64 } }

/-- The configured programmable counters: index and configuration (17 R499). -/
def State.progCfgs (s : State) : List (Nat × Word) :=
  let b := 0x4410000 / 8
  (s.regs.eff.filter fun e => b ≤ e.1 && e.1 < b + 8192).map fun e => (e.1 - b, e.2)

/-- A configuration counts events of `src` at `idx` for partition `p` (17 R497, mode 0). -/
def progMatches (src idx : Nat) (p : Option Nat) (w : Word) : Bool :=
  bit w 63 && bit w 62 && bits w 61 60 = 0 && bits w 46 41 = src && bits w 40 21 = idx
    && (!bit w 59 || p = some (bits w 58 47))

/-- An event that programmable counters may count (17 R497). -/
def State.progEvent (s : State) (src idx : Nat) (p : Option Nat) (n : Nat) : State :=
  ((s.progCfgs.filter fun e => progMatches src idx p e.2).map (·.1)).foldl
    (fun s i => s.count (cntProg i) n) s

/-- Count on a lane. -/
def State.laneCount (s : State) (lane k : Nat) : State := s.count (cntLane lane k) 1

/-- The counters of a frame of f bytes of a partition whose last byte left on a lane (17 R490, R497). -/
def State.laneSent (s : State) (n p f : Nat) : State :=
  let s := (s.count (cntLane n 2) 1).count (cntLane n 3) f
  (s.progEvent 0x03 n (some p) 1).progEvent 0x04 n (some p) f

/-- Count for a partition. -/
def State.partCount (s : State) (p j : Nat) : State := s.count (cntPart p j) 1

/-! ## Memory bytes (10 R291, R292)

Memory is a list of (address, byte) pairs in one canonical form: addresses rise, and no entry equals
0x00, which is what an unlisted address reads as (log entry 1). -/

/-- The byte at an address. -/
def memGet (m : List Host.Cell) (a : Nat) : Byte := SMap.get 0 m a

/-- Write one byte. -/
def memSet (m : List Host.Cell) (a : Nat) (b : Byte) : List Host.Cell := SMap.set 0 m a b

/-- `n` bytes from an address. -/
def memRead (m : List Host.Cell) (a : Nat) : Nat → List Byte
  | 0 => []
  | n + 1 => memGet m a :: memRead m (a + 1) n

/-- Write bytes from an address. -/
def memWrite (m : List Host.Cell) (a : Nat) : List Byte → List Host.Cell
  | [] => m
  | b :: bs => memWrite (memSet m a b) (a + 1) bs

/-- The canonical form of a memory. -/
def Memory.wf (m : List Host.Cell) : Bool := SMap.wf 0 m

/-- A 64-bit little-endian word of memory (log entry 10). -/
def memWord (m : List Host.Cell) (a : Nat) : Word := BitVec.ofNat 64 (leNat (memRead m a 8))

/-- Write a 64-bit little-endian word. -/
def memPutWord (m : List Host.Cell) (a : Nat) (w : Word) : List Host.Cell :=
  memWrite m a (leBytes 8 w.toNat)

/-! ## Partitions (15) -/

/-- A partition as it stands; partition 0 is RUNNING always (15 R438). -/
def State.partInfo (s : State) (p : Nat) : PartInfo :=
  if p = 0 then { st := .running, resetAt := 0 } else SMap.get {} s.part.st p

/-- A partition's state. -/
def State.pst (s : State) (p : Nat) : PSt := (s.partInfo p).st

/-- The disable of a function, if it has one (15 R445). -/
def State.disable (s : State) (kind idx : Nat) : Option Disable :=
  s.part.dis.find? fun d => d.kind = kind && d.idx = idx

/-- A function is disabled, from the boundary of its `dis`; a port or a reduction domain until the boundary after
its `ena` (15 R445, R446). -/
def State.disabled (s : State) (kind idx : Nat) : Bool :=
  (s.disable kind idx).isSome || s.part.back.contains (kind, idx)

/-- A function is draining. -/
def State.draining (s : State) (kind idx : Nat) : Bool :=
  match s.disable kind idx with
  | some d => d.draining
  | none => false

/-- The partition's reserves hold (07 R182). -/
def PSt.reserves : PSt → Bool
  | .created => true
  | .running => true
  | .condemned => true
  | _ => false

/-! ## Ports and lanes (01 R11, R12; 03 R53 to R58) -/

/-- The ingress or egress pipeline that serves a lane. -/
def pipeOf (lane : Nat) : Nat := lane / 16

/-- The die of a pipeline: 0 west, 1 east. -/
def dieOfPipe (p : Nat) : Nat := p / 32

/-- The die of a lane. -/
def dieOfLane (n : Nat) : Nat := n / 512

/-- The width in lanes that a port register sets. -/
def State.portWidth (s : State) (p : Nat) : Nat := 2 ^ (s.fld .stnPort p 6 5)

/-- A register names a port: valid, and n a multiple of its width (03 R56). -/
def State.portValid (s : State) (p : Nat) : Bool :=
  s.flag .stnPort p 0 && p % s.portWidth p = 0 && p < 1024

/-- The lanes of a port. -/
def State.portLanes (s : State) (p : Nat) : List Nat := rangeFrom p (p + s.portWidth p)

/-- The port is in Ethernet mode. -/
def State.portEth (s : State) (p : Nat) : Bool := s.flag .stnPort p 9

/-- The valid ports that claim a lane. -/
def State.claims (s : State) (n : Nat) : List Nat :=
  [n, n - n % 2, n - n % 4, n - n % 8].eraseDups.filter fun p => s.portValid p && decide (n < p + s.portWidth p)

/-- The port that holds a lane, where exactly one claims it. -/
def State.portOf (s : State) (n : Nat) : Option Nat :=
  match s.claims n with
  | [p] => some p
  | _ => none

/-- A lane of the port is also claimed by another valid port (03 R58). -/
def State.portConflict (s : State) (p : Nat) : Bool :=
  (s.portLanes p).any fun n => 1 < (s.claims n).length

/-- The optical state of a lane. -/
def State.optLane (s : State) (n : Nat) : OptLane := SMap.get {} s.opt.lanes n

/-- A lane is in service (08 R229, R230). -/
def State.laneUp (s : State) (n : Nat) : Bool := (s.optLane n).inSvc

/-- A lane is switched in this beat in both directions (09 R250). -/
def State.switched (s : State) (n : Nat) : Bool :=
  !(s.byp.rxByp.contains n) && !(s.byp.txByp.contains n)

/-- Nothing that arrives on the lane in this beat is taken: its receive direction is bypassed, or its slot is void
(09 R250, R268). -/
def State.rxIgnored (s : State) (n : Nat) : Bool := s.byp.rxByp.contains n || s.byp.ignored.contains n

/-- The lanes of the port are fit to carry its traffic: one in service in Asune mode (03 R55), every
one in Ethernet mode. -/
def State.portLanesUp (s : State) (p : Nat) : Bool :=
  if s.portEth p then (s.portLanes p).all s.laneUp else (s.portLanes p).any s.laneUp

/-- The port is in service for traffic: valid, no conflict, not disabled, and its lanes fit. -/
def State.portInService (s : State) (p : Nat) : Bool :=
  s.portValid p && !s.portConflict p && !s.disabled 0 p && s.portLanesUp p

/-- The port sends the copies that it holds: in service, or draining (15 R445). -/
def State.portSends (s : State) (p : Nat) : Bool :=
  s.portValid p && !s.portConflict p && (!s.disabled 0 p || s.draining 0 p) && s.portLanesUp p

/-- New streams may be steered to the port. A draining port refuses them too (15 R446). -/
def State.portOpen (s : State) (p : Nat) : Bool := s.portInService p

/-- A lane's link state. -/
def State.lane (s : State) (n : Nat) : Lane := SMap.get {} s.lnk.lanes n

/-- Change a lane's link state. -/
def State.setLane (s : State) (n : Nat) (f : Lane → Lane) : State :=
  { s with lnk := { s.lnk with lanes := SMap.upd {} s.lnk.lanes n f } }

/-- An Ethernet port's PFC state. -/
def State.pfcOf (s : State) (p : Nat) : Pfc := SMap.get {} s.lnk.pfc p

/-- Change an Ethernet port's PFC state. -/
def State.setPfc (s : State) (p : Nat) (f : Pfc → Pfc) : State :=
  { s with lnk := { s.lnk with pfc := SMap.upd {} s.lnk.pfc p f } }

/-! ## The part's own node (03 R74, R75) -/

/-- The part answers to a node number. -/
def State.nodeValid (s : State) : Bool := s.flag .devSelf 0 32

/-- The part's own node number. -/
def State.selfNode (s : State) : Nat := s.fld .devSelf 0 17 0

/-- The node number is the part's own. -/
def State.isSelf (s : State) (n : Nat) : Bool := s.nodeValid && n = s.selfNode

/-- A leaf is reachable, with the port that reaches it (03 R77, R78). -/
def State.leafPort (s : State) (leaf : Nat) : Option Nat :=
  if s.flag .strLeaf leaf 16 && s.portOpen (s.fld .strLeaf leaf 9 0) then some (s.fld .strLeaf leaf 9 0)
  else none

/-- The leaf that learning takes for a port: the lowest valid one (03 R78). -/
def State.leafOfPort (s : State) (p : Nat) : Option Nat :=
  (List.range 256).find? fun l => s.flag .strLeaf l 16 && s.fld .strLeaf l 9 0 = p

/-! ## Epochs (04 R97) -/

/-- The state of an epoch. -/
def StnState.st (t : StnState) (e : Bool) : EpochSt := if e then t.st1 else t.st0

/-- The bank of an epoch. -/
def StnState.bank (t : StnState) (e : Bool) : Bank := if e then t.bank1 else t.bank0

/-- Change the bank of an epoch. -/
def StnState.setBank (t : StnState) (e : Bool) (f : Bank → Bank) : StnState :=
  if e then { t with bank1 := f t.bank1 } else { t with bank0 := f t.bank0 }

/-- Change the state of an epoch. -/
def StnState.setSt (t : StnState) (e : Bool) (x : EpochSt) : StnState :=
  if e then { t with st1 := x } else { t with st0 := x }

/-! ## Boundaries -/

/-- An event that the manual places at a boundary, and whose command comes before it: it is called for the coming boundary
where its condition holds then, and changes nothing within the beat (02 R28, R29; log entry 3). -/
def State.call (s : State) (i : Instr) (due : Bool) : State :=
  if due && !s.beat.calls.contains i then { s with beat := { s.beat with calls := s.beat.calls ++ [i] } } else s

/-- What `f` says of the coming boundary. -/
def State.coming {α : Type} (s : State) (f : State → α) : α :=
  f { s with beat := { s.beat with bc := s.beat.bc + 1, now := (s.beat.now + 1) % 2 ^ 32 } }

/-- The units for which an event has been called, in the order of the calls; then those of `l`. -/
def State.calledFirst (s : State) (f : Instr → Option Nat) (l : List Nat) : List Nat :=
  (s.beat.calls.filterMap f ++ l).eraseDups

end Sys2Proof.Machine
end

