-- ==== Sys2Proof/Machine/Buffers.lean ====
section
/-! DEFINITION. The buffer pools: free lists, owner records, and the reserve from which a buffer is drawn
(07_buffers_queues_shaping.md R176 to R182, R203, R207, R208). -/

namespace Sys2Proof.Machine

/-! ## Free lists (R176, R178) -/

/-- The buffers that a list names, from its head. -/
def listLen (l : List Run) : Nat := l.foldl (fun n r => n + r.count) 0

/-- Take up to n buffers from the head. -/
def popList (n : Nat) : List Run → List Nat × List Run
  | [] => ([], [])
  | r :: l =>
    if n < r.count then (rangeFrom r.first (r.first + n), ⟨r.first + n, r.count - n⟩ :: l)
    else
      let (a, b) := popList (n - r.count) l
      (rangeFrom r.first (r.first + r.count) ++ a, b)

/-- Put a buffer at the head (log entry 86). -/
def pushList (i : Nat) : List Run → List Run
  | [] => [⟨i, 1⟩]
  | r :: l => if r.first = i + 1 then ⟨i, r.count + 1⟩ :: l else ⟨i, 1⟩ :: r :: l

/-- The list as far as buffer i, and what lay beyond it; none where i is not on it. -/
def cutRuns (i : Nat) : List Run → Option (List Run × List Run)
  | [] => none
  | r :: l =>
    if r.first ≤ i && i < r.first + r.count then
      let k := i + 1 - r.first
      some ([⟨r.first, k⟩], if k = r.count then l else ⟨i + 1, r.count - k⟩ :: l)
    else (cutRuns i l).map fun x => (r :: x.1, x.2)

/-- The sizes of staging buffers, in KiB. -/
def stgSizes : List Nat := [1, 4, 16, 64]

/-- The sizes of spill buffers, in KiB. -/
def spillSizes : List Nat := [64, 1024]

/-- A list's number. -/
def ListId.key : ListId → Nat
  | .tile d => d % 2
  | .staging c k => 8 + 4 * c + k % 4
  | .spill k => 2 + k % 2

/-- The size of a list's buffers in KiB; a tile is a quarter of one. -/
def ListId.kib : ListId → Nat
  | .tile _ => 0
  | .staging _ k => stgSizes.getD k 64
  | .spill k => spillSizes.getD k 1024

/-- A buffer's number among all buffers. -/
def Buf.key (b : Buf) : Nat := 2 ^ 20 * b.list.key + b.idx

/-- The buffer with a number; a tile's is counted on the die that is named beside it. -/
def bufOfKey (die k : Nat) : Buf :=
  let l := k / 2 ^ 20
  ⟨if l < 2 then .tile die else if l < 8 then .spill (l % 2) else .staging ((l - 8) / 4) ((l - 8) % 4), k % 2 ^ 20⟩

/-- The pool code of R204, and the cluster. -/
def ListId.pool : ListId → Nat × Nat
  | .tile d => (d % 2, 0)
  | .staging c _ => (2, c)
  | .spill k => (3 + k % 2, 0)

/-- Buffers that a list holds when all are free: its part of the pool's size. -/
def State.listSize (s : State) : ListId → Nat
  | .tile _ => 655360
  | .staging _ k =>
    if k = 0 then s.fld .bufStgCarve 0 19 12 else if k = 1 then s.fld .bufStgCarve 0 11 6
    else if k = 2 then s.fld .bufStgCarve 0 5 2 else s.fld .bufStgCarve 0 1 0
  | .spill k => if k = 0 then s.fld .bufSpillCfg 0 27 12 else s.fld .bufSpillCfg 0 38 28

/-- A free list as it stands. -/
def State.freeList (s : State) (i : ListId) : List Run :=
  match SMap.get none s.buf.lists i.key with
  | some l => l
  | none => if s.listSize i = 0 then [] else [⟨0, s.listSize i⟩]

/-- Change a free list. One that stands whole again is not named. -/
def State.setList (s : State) (i : ListId) (l : List Run) : State :=
  let v := if l = [⟨0, s.listSize i⟩] then none else some l
  { s with buf := { s.buf with lists := SMap.set none s.buf.lists i.key v } }

/-- The byte address of a buffer in its pool's memory: in the tile buffer of its die, in the staging store of its cluster
with the smaller sizes first (log entry 86), or in DDR5 (R211). -/
def State.bufAddr (s : State) (b : Buf) : Nat :=
  match b.list with
  | .tile _ => 256 * b.idx
  | .staging c k =>
    1024 * ((List.range k).foldl (fun n j => n + s.listSize (.staging c j) * stgSizes.getD j 64) 0
      + stgSizes.getD k 64 * b.idx)
  | .spill k =>
    s.fld .bufSpillCfg 0 63 39 * 2 ^ 16
      + (if k = 0 then s.fld .bufSpillCfg 0 38 28 * 2 ^ 20 + 2 ^ 16 * b.idx else 2 ^ 20 * b.idx)

/-! ## Owner records (R179) -/

/-- An owner record of a buffer in use: the reserve it was drawn from, the class and the partition. -/
def ownerWord (src cls part : Nat) : Word := at_ 31 1 ||| at_ 29 src ||| at_ 15 cls ||| at_ 0 part

/-- A buffer's owner record. -/
def State.owner (s : State) (key : Nat) : Word := SMap.get 0 s.buf.own key

/-- Write an owner record. -/
def State.setOwner (s : State) (key : Nat) (w : Word) : State :=
  { s with buf := { s.buf with own := SMap.set 0 s.buf.own key w } }

/-- The owner records in use of a list: place and record. -/
def State.ownersOf (s : State) (i : ListId) : List (Nat × Word) :=
  let b := 2 ^ 20 * i.key
  (s.buf.own.filter fun e => b ≤ e.1 && e.1 < b + 2 ^ 20 && bit e.2 31).map fun e => (e.1 - b, e.2)

/-- The owner records in use of both dies' tiles. -/
def State.tileOwners (s : State) : List Word := (s.ownersOf (.tile 0) ++ s.ownersOf (.tile 1)).map (·.2)

/-- The owner record was drawn from reserve `src`. -/
def fromSrc (src : Nat) (w : Word) : Bool := bits w 30 29 = src

/-- The owner record was drawn from the reserve of partition p. -/
def fromPart (p : Nat) (w : Word) : Bool := fromSrc 1 w && bits w 11 0 = p

/-- The owner record was drawn from the reserve of class c. -/
def fromCls (c : Nat) (w : Word) : Bool := fromSrc 2 w && bits w 22 15 = c

/-! ## The tile pool (R181 to R183) -/

/-- The tile minimum of a partition. -/
def State.pminTile (s : State) (p : Nat) : Nat := s.fld .bufPartMin p 20 0

/-- The tile minimum of a class. -/
def State.cminTile (s : State) (c : Nat) : Nat := s.fld .bufClsMin c 20 0

/-- Tiles drawn from the reserve of a partition. -/
def State.tilesOfPart (s : State) (p : Nat) : Nat := (s.tileOwners.filter (fromPart p)).length

/-- Tiles drawn from the reserve of a class. -/
def State.tilesOfCls (s : State) (c : Nat) : Nat := (s.tileOwners.filter (fromCls c)).length

/-- The partitions whose reserves hold, partition 0 included (R182). -/
def State.reservers (s : State) : List Nat :=
  0 :: (s.part.st.filter fun e => e.2.st.reserves && e.1 ≠ 0).map (·.1)

/-- The unused tile reserves of partitions and classes. -/
def State.unusedTile (s : State) : Nat :=
  (s.reservers.foldl (fun n p => n + (s.pminTile p - s.tilesOfPart p)) 0)
    + (List.range 8).foldl (fun n c => n + (s.cminTile c - s.tilesOfCls c)) 0

/-- The free tiles in a pipeline's cache. -/
def State.cache (s : State) (pipe : Nat) : List Nat := SMap.get [] s.buf.caches pipe

/-- Free tiles of a die: on its list, and in the caches of its pipelines (R178). -/
def State.freeOn (s : State) (die : Nat) : Nat :=
  listLen (s.freeList (.tile die)) + ((rangeFrom (32 * die) (32 * die + 32)).map fun p => (s.cache p).length).sum

/-- Free tiles. -/
def State.freeTiles (s : State) : Nat := s.freeOn 0 + s.freeOn 1

/-- Unused headroom. -/
def State.unusedHead (s : State) : Nat := s.buf.headroom - (s.tileOwners.filter (fromSrc 3)).length

/-- The shared part of the tile pool. -/
def State.sharedTile (s : State) : Int :=
  (s.freeTiles : Int) - (s.unusedTile : Nat) - (s.unusedHead : Nat)

/-- The reserve from which partition p and class c draw a tile (R181): 0 shared, 1 partition, 2 class, 3 headroom, where
`head` allows it. -/
def State.tileSrc (s : State) (p c : Nat) (head : Bool) : Option Nat :=
  if (s.pst p).reserves && s.tilesOfPart p < s.pminTile p then some 1
  else if s.tilesOfCls c < s.cminTile c then some 2
  else if 0 < s.sharedTile then some 0
  else if head && 5 ≤ c && 0 < s.unusedHead then some 3
  else none

/-- Free tiles of a die that a pipeline can take: from its own cache and the list on its own die, from the list alone on
the other. -/
def State.reach (s : State) (pipe die : Nat) : Nat :=
  listLen (s.freeList (.tile die)) + (if dieOfPipe pipe = die then (s.cache pipe).length else 0)

/-- Change a pipeline's cache. -/
def State.setCache (s : State) (pipe : Nat) (l : List Nat) : State :=
  { s with buf := { s.buf with caches := SMap.set [] s.buf.caches pipe l } }

/-- Fill an empty cache with a batch of 16 (R178; log entry 86). -/
def State.fillCache (s : State) (pipe : Nat) : State :=
  if s.cache pipe ≠ [] then s
  else
    let i := ListId.tile (dieOfPipe pipe)
    let (a, l) := popList 16 (s.freeList i)
    (s.setList i l).setCache pipe a

/-- Take one free tile of a die for a pipeline. -/
def State.popTile (s : State) (pipe die : Nat) : Option (Nat × State) :=
  if dieOfPipe pipe = die then
    let s := s.fillCache pipe
    match s.cache pipe with
    | t :: l => some (t, s.setCache pipe l)
    | [] => none
  else
    match popList 1 (s.freeList (.tile die)) with
    | (t :: _, l) => some (t, s.setList (.tile die) l)
    | ([], _) => none

/-- Tiles of partition p on a die (R208). -/
def State.tileUse (s : State) (die p : Nat) : Nat := SMap.get 0 s.buf.tileUse (4096 * die + p)

/-- Change the tile use of a partition on a die. -/
def State.useTile (s : State) (die p : Nat) (f : Nat → Nat) : State :=
  { s with buf := { s.buf with tileUse := SMap.upd 0 s.buf.tileUse (4096 * die + p) f } }

/-- Draw one tile of a die: its reserve is recorded with it (R181). -/
def State.drawTile (s : State) (pipe die p c : Nat) (head : Bool) : Option (Nat × State) :=
  match s.tileSrc p c head, s.popTile pipe die with
  | some src, some (t, s) =>
    some (t, (s.setOwner (Buf.key ⟨.tile die, t⟩) (ownerWord src c p)).useTile die p (· + 1))
  | _, _ => none

/-- Draw n tiles of a die, or none. -/
def State.drawTiles (s : State) (pipe die p c : Nat) (head : Bool) : Nat → Option (List Nat × State)
  | 0 => some ([], s)
  | n + 1 =>
    match s.drawTile pipe die p c head with
    | none => none
    | some (t, s) => (State.drawTiles s pipe die p c head n).map fun x => (t :: x.1, x.2)

/-- Draw a packet's tiles for a pipeline (01 R20): from die `die`, or from the other half where `both`. -/
def State.allocTiles (s : State) (pipe n p c : Nat) (head : Bool) (die : Nat) (both : Bool) : Option (Alloc × State) :=
  let d? := if n ≤ s.reach pipe die then some die
    else if both && n ≤ s.reach pipe (1 - die) then some (1 - die) else none
  match d? with
  | none => none
  | some d => (s.drawTiles pipe d p c head n).map fun x => ({ die := d, tiles := x.1 }, x.2)

/-- A tile goes back to its die's list, and to its reserve. One whose owner record is lost stays off every list (14 R405). -/
def State.giveTile (s : State) (die p t : Nat) : State :=
  let k := Buf.key ⟨.tile die, t⟩
  let s := s.useTile die p (· - 1)
  if bit (s.owner k) 31 then (s.setOwner k 0).setList (.tile die) (pushList t (s.freeList (.tile die))) else s

/-- Return the tiles of a packet of partition p. -/
def State.giveTiles (s : State) (a : Alloc) (p : Nat) : State :=
  a.tiles.reverse.foldl (fun (s : State) t => s.giveTile a.die p t) s

/-! ## Staging and spill (R177, R181, R208) -/

/-- The lists of a pool: the staging of a cluster, or spill. -/
def poolLists (pool cluster : Nat) : List ListId :=
  if pool = 0 then [.staging cluster 0, .staging cluster 1, .staging cluster 2, .staging cluster 3] else [.spill 0, .spill 1]

/-- The free buffers of a pool: list, size in KiB, and how many. -/
def State.poolFree (s : State) (pool cluster : Nat) : List (ListId × Nat × Nat) :=
  (poolLists pool cluster).map fun i => (i, i.kib, listLen (s.freeList i))

/-- Free KiB of a pool. -/
def State.freeKib (s : State) (pool cluster : Nat) : Nat :=
  (s.poolFree pool cluster).foldl (fun n b => n + b.2.1 * b.2.2) 0

/-- The lists from which a request of n KiB takes its buffers (R177). -/
def takeBufs (free : List (ListId × Nat × Nat)) (n : Nat) : Option (List ListId) :=
  match free.getLast? with
  | none => none
  | some (big, top, k) =>
    let whole := if n ≤ top then 0 else n / top
    let rem := n - whole * top
    if k < whole then none
    else if rem = 0 then some (List.replicate whole big)
    else
      let left := free.map fun b => if b.1 = big then (b.1, b.2.1, k - whole) else b
      match left.find? fun b => rem ≤ b.2.1 && 0 < b.2.2 with
      | some b => some (List.replicate whole big ++ [b.1])
      | none => none

/-- A partition's minimum of a pool, in KiB. -/
def State.pminPool (s : State) (pool p : Nat) : Nat :=
  if pool = 0 then s.fld .bufPartMin p 28 21 else 64 * s.fld .bufPartMin p 44 29

/-- A class's minimum of a pool, in KiB. -/
def State.cminPool (s : State) (pool c : Nat) : Nat :=
  if pool = 0 then s.fld .bufClsMin c 28 21 else 64 * s.fld .bufClsMin c 44 29

/-- KiB of a pool in use whose owner records `f` selects. -/
def State.kibOf (s : State) (pool cluster : Nat) (f : Word → Bool) : Nat :=
  (poolLists pool cluster).foldl (fun n i => n + i.kib * ((s.ownersOf i).filter fun e => f e.2).length) 0

/-- Unused reserves of a pool, in KiB. -/
def State.unusedPool (s : State) (pool cluster : Nat) : Nat :=
  (s.reservers.foldl (fun n p => n + (s.pminPool pool p - s.kibOf pool cluster (fromPart p))) 0)
    + (List.range 8).foldl (fun n c => n + (s.cminPool pool c - s.kibOf pool cluster (fromCls c))) 0

/-- The shared part of a pool, in KiB. -/
def State.sharedKib (s : State) (pool cluster : Nat) : Int :=
  (s.freeKib pool cluster : Int) - (s.unusedPool pool cluster : Nat)

/-- The reserve from which partition p and class c draw a buffer (R181). -/
def State.bufSrc (s : State) (pool cluster p c : Nat) : Option Nat :=
  if (s.pst p).reserves && s.kibOf pool cluster (fromPart p) < s.pminPool pool p then some 1
  else if s.kibOf pool cluster (fromCls c) < s.cminPool pool c then some 2
  else if 0 < s.sharedKib pool cluster then some 0
  else none

/-- Change a partition's use count of a pool by a buffer of a list: staging in KiB, spill in 64 KiB (R208). -/
def State.useBuf (s : State) (i : ListId) (p : Nat) (f : Nat → Nat → Nat) : State :=
  match i with
  | .tile d => s.useTile d p fun n => f n 1
  | .staging _ _ => { s with buf := { s.buf with stgUse := SMap.upd 0 s.buf.stgUse p fun n => f n i.kib } }
  | .spill _ => { s with buf := { s.buf with spillUse := SMap.upd 0 s.buf.spillUse p fun n => f n (i.kib / 64) } }

/-- Draw one buffer of each list in turn, or none. -/
def State.drawEach (s : State) (pool cluster p c : Nat) : List ListId → Option (List Buf × State)
  | [] => some ([], s)
  | i :: l =>
    match s.bufSrc pool cluster p c, popList 1 (s.freeList i) with
    | some src, (b :: _, rest) =>
      let s := ((s.setList i rest).setOwner (Buf.key ⟨i, b⟩) (ownerWord src c p)).useBuf i p (· + ·)
      (State.drawEach s pool cluster p c l).map fun x => (⟨i, b⟩ :: x.1, x.2)
    | _, _ => none

/-- Draw n KiB for a chunk; none when the request is refused. -/
def State.drawPool (s : State) (pool cluster ctx chunk p c n : Nat) : Option State :=
  match takeBufs (s.poolFree pool cluster) n with
  | none => none
  | some l =>
    (s.drawEach pool cluster p c l).map fun x =>
      let u : BufUse := { cluster := cluster, bufs := x.1, part := p, ctx := ctx, chunk := chunk }
      let s := x.2
      if pool = 0 then { s with buf := { s.buf with stg := s.buf.stg ++ [u] } }
      else { s with buf := { s.buf with spill := s.buf.spill ++ [u] } }

/-- A staging or spill buffer goes back to its list. -/
def State.giveBuf (s : State) (p : Nat) (b : Buf) : State :=
  let s := s.useBuf b.list p (· - ·)
  if bit (s.owner b.key) 31 then (s.setOwner b.key 0).setList b.list (pushList b.idx (s.freeList b.list)) else s

/-- Return a chunk's buffers. -/
def State.giveBufs (s : State) (u : BufUse) : State :=
  u.bufs.reverse.foldl (fun (s : State) b => s.giveBuf u.part b) s

/-- Return a chunk's staging at a cluster: what it drew first, where a later chunk of the same number has drawn too. -/
def State.freeStaging (s : State) (cluster ctx chunk : Nat) : State :=
  let mine := fun (u : BufUse) => u.cluster = cluster && u.ctx = ctx && u.chunk = chunk
  match s.buf.stg.find? mine with
  | some u => State.giveBufs { s with buf := { s.buf with stg := dropFirst mine s.buf.stg } } u
  | none => s

/-- Return a chunk's spill. -/
def State.freeSpill (s : State) (ctx chunk : Nat) : State :=
  let (mine, rest) := s.buf.spill.partition fun u => u.ctx = ctx && u.chunk = chunk
  mine.foldl State.giveBufs { s with buf := { s.buf with spill := rest } }

/-! ## The creation test (R182) and minima (R207) -/

/-- The clusters whose staging is not whole, and 768, which stands for every cluster whose staging is. -/
def State.drawnClusters (s : State) : List Nat :=
  768 :: ((s.buf.lists.filter fun e => 8 ≤ e.1).map fun e => (e.1 - 8) / 4).eraseDups

/-- The free buffers of every pool, less unused reserves and headroom, are at least a partition's minima. -/
def State.poolsCover (s : State) (p : Nat) : Bool :=
  decide ((s.pminTile p : Int) ≤ s.sharedTile)
    && (s.drawnClusters.all fun c => decide ((s.pminPool 0 p : Int) ≤ s.sharedKib 0 c))
    && decide ((s.pminPool 1 p : Int) ≤ s.sharedKib 1 0)

/-- The reserves of classes and of the partitions whose reserves hold, with `val` as the minima of class c, fit
every pool (R182). -/
def State.clsMinFits (s : State) (c : Nat) (val : Word) : Bool :=
  let t := s.setReg .bufClsMin c val
  let all := fun (f g : Nat → Nat) =>
    (t.reservers.foldl (fun n p => n + f p) 0) + (List.range 8).foldl (fun n c => n + g c) 0
  let kib := fun (pool : Nat) => (poolLists pool 0).foldl (fun k i => k + i.kib * t.listSize i) 0
  all t.pminTile t.cminTile ≤ 1310720 - t.buf.headroom
    && all (t.pminPool 0) (t.cminPool 0) ≤ kib 0 && all (t.pminPool 1) (t.cminPool 1) ≤ kib 1

/-! ## The carve (R210) -/

/-- KiB of a carve. -/
def carveKib (v : Word) : Nat := bits v 19 12 + 4 * bits v 11 6 + 16 * bits v 5 2 + 64 * bits v 1 0

/-- A write of BUF_STG_CARVE takes effect: it is pending until no staging buffer is in use; the first boundary
that may apply it is this one. -/
def State.writeCarve (s : State) (v : Word) : State :=
  if 128 < carveKib v then s else { s with buf := { s.buf with carve := some v } }

/-- A pending carve finds no staging buffer in use. -/
def State.carveDue (s : State) : Bool := s.buf.carve.isSome && s.buf.stg.isEmpty

/-- STG_CARVE_APPLY: at a boundary at which no staging buffer is in use. The lists of the new sizes stand whole. -/
def State.applyCarve (s : State) : State :=
  match s.buf.carve with
  | some v =>
    if s.buf.stg = [] then
      { (s.putRw .bufStgCarve 0 v) with buf := { s.buf with carve := none, lists := s.buf.lists.filter fun e => e.1 < 8 } }
    else s
  | none => s

end Sys2Proof.Machine
end

