-- ==== Sys2Proof/Machine/Tables.lean ====
section
/-! DEFINITION. The steer tables (05_steer_tables.md): the exact-match store, the LPM tables, the
multicast groups, learning, ageing by termite, and the compare engine. -/

namespace Sys2Proof.Machine

/-! ## The exact-match store -/

/-- Slots of one bank, and the number of slots with the stash (05 R130). -/
def emBank : Nat := 1048576
def emTotal : Nat := 2097216

/-- H1 of a key word (05 R118). -/
def State.h1 (s : State) (k : Word) : Nat := crc32c (s.fld .strEmSeed 0 63 32) (wordBytes k) % 2 ^ 18

/-- H2 of a key word (05 R118). -/
def State.h2 (s : State) (k : Word) : Nat := crc32e (s.fld .strEmSeed 0 31 0) (wordBytes k) % 2 ^ 18

/-- The slots of a bucket, in way order: bank A (false) or B. -/
def bucketSlots (b : Bool) (h : Nat) : List Nat :=
  (List.range 4).map fun w => (if b then emBank else 0) + 4 * h + w

/-- The stash slots. -/
def stashSlots : List Nat := rangeFrom (2 * emBank) emTotal

/-- The bucket of a key word in a bank. -/
def State.bucketOf (s : State) (b : Bool) (k : Word) : List Nat :=
  bucketSlots b (if b then s.h2 k else s.h1 k)

/-- The slots that a lookup of `k` searches (05 R119). -/
def State.emSearch (s : State) (k : Word) : List Nat :=
  s.bucketOf false k ++ s.bucketOf true k ++ stashSlots

/-- A slot. -/
def emAt (m : SMap Slot) (i : Nat) : Slot := SMap.get Slot.free m i

/-- Put a slot. -/
def emPut (m : SMap Slot) (i : Nat) (x : Slot) : SMap Slot :=
  SMap.set Slot.free m i (if x.vmask = 0 then Slot.free else x)

/-- The versions' bit of an epoch. -/
def vbit (e : Bool) : Nat := if e then 2 else 1

/-- The slot that holds `k` in the version of epoch `e`. -/
def State.emFind (s : State) (k : Word) (e : Bool) : Option Nat :=
  (s.emSearch k).find? fun i =>
    let x := emAt s.tbl.em i
    x.key = k && (x.vmask &&& vbit e) ≠ 0

/-- What a lookup returns (05 R119). -/
inductive Lookup where
  | hit (i : Nat) (data : Word)
  | miss
  | suspect
deriving DecidableEq, Repr

/-- The bit of a die. -/
def dieBit (die : Nat) : Nat := 2 ^ die

/-- The data word of a slot as a read shows it: at [26] the OR of both dies' hit bits (05 R116). -/
def Slot.shown (x : Slot) : Word := setBit x.data 26 (x.hit ≠ 0)

/-- A lookup on a die, before its hit bit is set. -/
def State.emLookup (s : State) (k : Word) (e : Bool) (die : Nat) : Lookup :=
  match s.emFind k e with
  | none => .miss
  | some i =>
    let x := emAt s.tbl.em i
    if (x.suspect &&& dieBit die) ≠ 0 then .suspect else .hit i x.shown

/-- Change the exact-match store. -/
def State.withEm (s : State) (m : SMap Slot) : State := { s with tbl := { s.tbl with em := m } }

/-- Set a slot's hit bit for a die. -/
def State.emHit (s : State) (i die : Nat) : State :=
  let x := emAt s.tbl.em i
  s.withEm (emPut s.tbl.em i { x with hit := x.hit ||| dieBit die })

/-- A slot becomes suspect on a die (05 R120, R140). -/
def State.slotSuspect (s : State) (i die : Nat) : State :=
  let x := emAt s.tbl.em i
  s.withEm (emPut s.tbl.em i { x with suspect := x.suspect ||| dieBit die })

/-- The lowest free slot of a list. -/
def freeIn (m : SMap Slot) (l : List Nat) : Option Nat := l.find? fun i => (emAt m i).vmask = 0

/-- The displacement walk of 05 R122 from depth 32 - `fuel` + 1; `b` is the bank of `cur`'s bucket. -/
def State.emWalk (s : State) : Nat → Nat → Bool → Slot → SMap Slot → Option (SMap Slot)
  | 0, _, _, cur, m => (freeIn m stashSlots).map fun i => emPut m i cur
  | fuel + 1, d, b, cur, m =>
    let at' := (s.bucketOf b cur.key).getD (d % 4) 0
    let out := emAt m at'
    let m := emPut m at' cur
    let b := !b
    match freeIn m (s.bucketOf b out.key) with
    | some i => some (emPut m i out)
    | none => State.emWalk s fuel (d + 1) b out m

/-- Placement of a new entry (05 R122); none when it is refused. -/
def State.emPlace (s : State) (x : Slot) (m : SMap Slot) : Option (SMap Slot) :=
  match freeIn m (s.bucketOf false x.key) with
  | some i => some (emPut m i x)
  | none =>
    match freeIn m (s.bucketOf true x.key) with
    | some i => some (emPut m i x)
    | none => s.emWalk 32 0 false x m

/-- Remove the versions of M from every slot that holds `k` (05 R121): the store, and the lowest slot
that this freed. -/
def State.emRemove (s : State) (k : Word) (M : Nat) (m : SMap Slot) : SMap Slot × Option Nat :=
  (s.emSearch k).foldl (fun (m, f) i =>
    let x := emAt m i
    if x.key = k && x.vmask ≠ 0 && (x.vmask &&& M) ≠ 0 then
      let v := x.vmask &&& (3 - M)
      (emPut m i { x with vmask := v }, if v = 0 && f.isNone then some i else f)
    else (m, f)) (m, none)

/-- A new entry: bit [26] of the data word is not stored (05 R116), a coll entry is static (05 R117),
and an insert sets both hit bits (05 R130). -/
def newSlot (k d : Word) (M : Nat) : Slot :=
  let d := setBit d 26 false
  let d := if bits k 63 60 = 3 then setBit d 27 true else d
  { key := k, data := d, vmask := M, idle := false, suspect := 0, hit := 3 }

/-- A write of (k, d) under M (05 R121, R122). -/
def State.emWrite (s : State) (k d : Word) (M : Nat) : Option State :=
  let (m, f) := s.emRemove k M s.tbl.em
  match f with
  | some i => some (s.withEm (emPut m i (newSlot k d M)))
  | none => (s.emPlace (newSlot k d M) m).map s.withEm

/-- A delete of `k` under M (05 R121). -/
def State.emDelete (s : State) (k : Word) (M : Nat) : State := s.withEm (s.emRemove k M s.tbl.em).1

/-- The key types that a write may name (05 R117). -/
def keyTypeOk (k : Word) : Bool :=
  let t := bits k 63 60
  (1 ≤ t && t ≤ 4) || 8 ≤ t

/-- Slots in use. -/
def emUsed (m : SMap Slot) : Nat := (m.filter fun e => e.2.vmask ≠ 0).length

/-- One stash move (05 R124): the lowest stash entry whose bucket has a free way, bank A first. -/
def State.stashMove (s : State) : State :=
  let go := stashSlots.findSome? fun i =>
    let x := emAt s.tbl.em i
    if x.vmask = 0 then none
    else
      match freeIn s.tbl.em (s.bucketOf false x.key) with
      | some j => some (i, j, x)
      | none => (freeIn s.tbl.em (s.bucketOf true x.key)).map fun j => (i, j, x)
  match go with
  | none => s
  | some (i, j, x) => s.withEm (emPut (emPut s.tbl.em i Slot.free) j x)

/-! ## Table items (05 R128) -/

/-- A 32-byte table item. -/
def State.tableItem (s : State) (type code vmask die : Nat) (both : Bool) (port kind : Nat) (key data : Word) : State :=
  s.post (s.fld .strItemCfg 0 5 0)
    [⟨at_ 56 type ||| at_ 48 code ||| at_ 46 vmask ||| at_ 45 die ||| at_ 44 (b2n both) ||| at_ 34 port
        ||| at_ 32 kind, key, data, s.beatWord⟩]

/-- Items 0x31 to 0x33 are posted only while items_en is set. -/
def State.changeItem (s : State) (type vmask port : Nat) (key data : Word) : State :=
  if s.flag .strItemCfg 0 6 then s.tableItem type 0 vmask 0 true port 0 key data else s

/-- A placement is refused (05 R123): code 0 learning, 1 command program. -/
def State.insertRefused (s : State) (code vmask port : Nat) (key data : Word) : State :=
  (s.bump .strTblCnt0 0 15 0 1).tableItem 0x34 code vmask 0 true port 0 key data

/-! ## Learning (03 R86 to R88, 05 R126, R127) -/

/-- The seat key word of a node (05 R117). -/
def seatKey (node : Nat) : Word := at_ 60 1 ||| at_ 0 node

/-- The mac_vlan key word. -/
def macKey (vid mac : Nat) : Word := at_ 60 2 ||| at_ 48 vid ||| at_ 0 mac

/-- A seat entry's dead mark. -/
def seatDead (d : Word) : Bool := bit d 28

/-- A seat entry's leaf. -/
def seatLeaf (d : Word) : Nat := bits d 45 38

/-- The value that a learned key names: a seat's leaf, or a MAC entry's port. -/
def learnedVal (k d : Word) : Nat := if bits k 63 60 = 1 then seatLeaf d else bits d 63 54

/-- The frame would change the entry that its lookup found (03 R86, R88; 05 R126). -/
def learnMoves (k d : Word) (val : Nat) : Bool :=
  !bit d 27 && !(bits k 63 60 = 1 && seatDead d) && learnedVal k d ≠ val

/-- Observe a source at `steer`: record a change for the boundary. Changes of one slot are one record, in which the last
stands (03 R87); where each version has a slot of its own, each has a record. -/
def State.learn (s : State) (k : Word) (val part port : Nat) (e : Bool) (die : Nat) : State :=
  let r := s.emLookup k e die
  let s := match r with
    | .hit i _ => s.emHit i die
    | _ => s
  let want := match r with
    | .hit _ d => learnMoves k d val
    | .miss => true
    | .suspect => false
  let same := fun (l : Learn) => l.key = k && s.emFind k l.epoch = s.emFind k e
  let old := s.tbl.learn.find? same
  if !want then s
  else
    let l := match old with
      | some o =>
        if o.val = val then s.tbl.learn
        else s.tbl.learn.map fun x => if same x then { x with val := val, part := part, port := port, epoch := e, extra := x.extra + 1 } else x
      | none => s.tbl.learn ++ [{ key := k, val := val, part := part, port := port, epoch := e, extra := 0 }]
    { s with tbl := { s.tbl with learn := l } }

/-- The data word of a learned insert. -/
def learnedData (l : Learn) : Word :=
  if bits l.key 63 60 = 1 then
    at_ 46 (bits l.key 17 0) ||| at_ 38 l.val ||| at_ 29 0x1FF ||| at_ 25 1
  else at_ 54 l.val ||| at_ 42 l.part ||| at_ 25 1

/-- The versions in which no slot holds the key (03 R86). -/
def State.vacant (s : State) (k : Word) : Nat :=
  (if (s.emFind k false).isNone then 1 else 0) + (if (s.emFind k true).isNone then 2 else 0)

/-- Apply one learned change in step 4 (03 R87). -/
def State.applyLearn (s : State) (l : Learn) : State :=
  match s.emFind l.key l.epoch with
  | some i =>
    let x := emAt s.tbl.em i
    if x.suspect = 0 && learnMoves l.key x.data l.val then
      let d := if bits l.key 63 60 = 1 then setBits x.data 45 38 l.val else setBits x.data 63 54 l.val
      let d := setBit d 25 true
      let s := s.withEm (emPut s.tbl.em i { x with data := d })
      (s.bump .strTblCnt0 0 47 32 (1 + l.extra)).changeItem 0x32 x.vmask l.port l.key d
    else s
  | none =>
    let M := s.vacant l.key
    let d := learnedData l
    match s.emPlace (newSlot l.key d M) s.tbl.em with
    | some m =>
      let s := (s.withEm m).bump .strTblCnt0 0 63 48 1
      (s.bump .strTblCnt0 0 47 32 l.extra).changeItem 0x31 M l.port l.key d
    | none => s.insertRefused 0 M l.port l.key d

/-- The learned changes of the preceding beat, at most learn_max of them (05 R127). -/
def State.applyLearned (s : State) : State :=
  let mx := Nat.min 256 (Nat.max 1 (s.fld .strItemCfg 0 40 32))
  let l := s.tbl.learn
  let keys := (l.map (·.key)).eraseDups
  let s := { s with tbl := { s.tbl with learn := [] } }
  let s := (l.filter fun x => (keys.take mx).contains x.key).foldl State.applyLearn s
  s.bump .strTblCnt0 0 31 16 (keys.length - mx)

/-! ## Termite (05 R130, R131) -/

/-- The sweep period in seconds: 0 stops termite. -/
def State.agePeriod (s : State) : Nat := Nat.min 3600 (s.fld .strAgeCfg 0 11 0)

/-- A visit of the current slot; the sweep goes on to the next. -/
def State.termiteVisit (s : State) : State :=
  if s.agePeriod = 0 then s
  else
    let i := s.tbl.sweepSlot
    let x := emAt s.tbl.em i
    let s :=
      if x.vmask = 0 || bit x.data 27 || x.suspect ≠ 0 then s
      else if x.hit ≠ 0 then s.withEm (emPut s.tbl.em i { x with hit := 0, idle := false })
      else if !x.idle then s.withEm (emPut s.tbl.em i { x with idle := true })
      else { s with tbl := { s.tbl with removals := s.tbl.removals ++ [(i, x.key)] } }
    let last := i + 1 = emTotal
    let s := { s with tbl := { s.tbl with sweepSlot := if last then 0 else i + 1 } }
    if last then s.setFld .strAgeCfg 0 63 32 ((s.fld .strAgeCfg 0 63 32 + 1) % 2 ^ 32) else s

/-- One removal, unless the slot was hit, rewritten or moved after the visit. -/
def State.applyRemoval (s : State) (r : Nat × Word) : State :=
  let x := emAt s.tbl.em r.1
  if x.vmask ≠ 0 && x.key = r.2 && x.hit = 0 && x.idle && x.suspect = 0 && !bit x.data 27 then
    ((s.withEm (emPut s.tbl.em r.1 Slot.free)).bump .strTblCnt1 0 63 48 1).changeItem 0x33 x.vmask 0 x.key x.data
  else s

/-- The removals of step 4 (05 R125). -/
def State.applyRemovals (s : State) : State :=
  let l := s.tbl.removals
  l.foldl State.applyRemoval { s with tbl := { s.tbl with removals := [] } }

/-! ## The LPM tables (05 R132 to R134) -/

/-- The address bits of a family. -/
def famBits (v6 : Bool) : Nat := if v6 then 128 else 32

/-- An address lies in a prefix. -/
def inPrefix (v6 : Bool) (len addr a : Nat) : Bool :=
  a / 2 ^ (famBits v6 - len) = addr / 2 ^ (famBits v6 - len)

/-- The address with the bits beyond the prefix zero. -/
def prefixAddr (v6 : Bool) (len a : Nat) : Nat :=
  a / 2 ^ (famBits v6 - len) * 2 ^ (famBits v6 - len)

/-- A lookup: the longest prefix of the epoch's version; a miss through a damaged node, or where that prefix is suspect
on the die. -/
def State.lpmLookup (s : State) (v6 : Bool) (a : Nat) (e : Bool) (die : Nat) : Option Nat :=
  if s.tbl.lpmBad.any fun b => b.v6 = v6 && b.die = die && inPrefix v6 b.len b.addr a then none
  else
    let hit := fun (p : Prefix) => p.v6 = v6 && (p.vmask &&& vbit e) ≠ 0 && inPrefix v6 p.len p.addr a
    (s.tbl.lpm.foldl (fun (best : Option Prefix) p =>
      if hit p then
        match best with
        | some b => if b.len < p.len then some p else best
        | none => some p
      else best) none).bind fun p => if p.suspect &&& dieBit die ≠ 0 then none else some p.result

/-- Units in use (05 R133). -/
def lpmUnits (l : List Prefix) : Nat := l.foldl (fun n p => n + if p.v6 then 2 else 1) 0

/-- Remove the versions of M from a prefix. -/
def lpmRemove (l : List Prefix) (v6 : Bool) (len addr M : Nat) : List Prefix :=
  (l.map fun p => if p.v6 = v6 && p.len = len && p.addr = addr then { p with vmask := p.vmask &&& (3 - M) } else p).filter
    fun p => p.vmask ≠ 0

/-- A rewrite of a prefix repairs the damaged nodes that wait for it (05 R134). -/
def lpmRepair (bad : List LpmDamage) (v6 : Bool) (len addr : Nat) : List LpmDamage :=
  (bad.map fun b => if b.v6 = v6 then { b with todo := b.todo.filter fun t => t ≠ (len, addr) } else b).filter
    fun b => b.todo ≠ []

/-- A prefix write under M; none when the tables are full. -/
def State.lpmWrite (s : State) (v6 : Bool) (len addr res M : Nat) : Option State :=
  let addr := prefixAddr v6 len addr
  let l := lpmRemove s.tbl.lpm v6 len addr M ++ [{ v6 := v6, len := len, addr := addr, vmask := M, result := res }]
  if lpmUnits l ≤ 1048576 then
    some { s with tbl := { s.tbl with lpm := l, lpmBad := lpmRepair s.tbl.lpmBad v6 len addr } }
  else none

/-- A prefix delete under M. -/
def State.lpmDelete (s : State) (v6 : Bool) (len addr M : Nat) : State :=
  let addr := prefixAddr v6 len addr
  { s with tbl := { s.tbl with lpm := lpmRemove s.tbl.lpm v6 len addr M, lpmBad := lpmRepair s.tbl.lpmBad v6 len addr } }

/-- The lengths at which the nodes of a family's trie begin: strides 16, 8, 8 and so on (05 R132). -/
def trieLens (v6 : Bool) : List Nat := 0 :: (List.range (if v6 then 14 else 2)).map fun k => 16 + 8 * k

/-- The nodes of both tries: family, and the prefix that the node covers. The roots always stand; another where a longer
prefix lies under it. -/
def State.trieNodes (s : State) : List (Bool × Nat × Nat) :=
  ([(false, 0, 0), (true, 0, 0)]
    ++ (s.tbl.lpm.map fun (p : Prefix) => ((trieLens p.v6).filter (· < p.len)).map fun n => (p.v6, n, prefixAddr p.v6 n p.addr)).flatten).eraseDups

/-- Damage of a trie node on a die (05 R134). One under which no prefix lies has nothing to be rebuilt from, and stands. -/
def State.lpmDamage (s : State) (v6 : Bool) (len addr die : Nat) : State :=
  let todo := (s.tbl.lpm.filter fun p => p.v6 = v6 && len ≤ p.len && inPrefix v6 len addr p.addr).map fun p => (p.len, p.addr)
  if todo = [] then s
  else
  { s with tbl := { s.tbl with lpmBad := s.tbl.lpmBad ++ [{ v6 := v6, len := len, addr := addr, die := die, todo := todo }] } }

/-- A prefix becomes suspect on a die (05 R140). -/
def State.prefixSuspect (s : State) (v6 : Bool) (len addr die : Nat) : State :=
  { s with tbl := { s.tbl with lpm := s.tbl.lpm.map fun p =>
      if p.v6 = v6 && p.len = len && p.addr = addr then { p with suspect := p.suspect ||| dieBit die } else p } }

/-! ## Multicast groups (05 R136) -/

/-- The key of a group entry. -/
def mcKey (e : Bool) (g : Nat) : Nat := (if e then 16384 else 0) + g

/-- A group entry in an epoch's version. -/
def State.mcEntry (s : State) (e : Bool) (g : Nat) : Word := SMap.get 0 s.tbl.mc (mcKey e g)

/-- Set a group entry in the versions of M. A rewrite clears its suspect marks. -/
def State.mcWrite (s : State) (g : Nat) (M : Nat) (w : Word) : State :=
  let one := fun (s : State) (e : Bool) =>
    if M &&& vbit e = 0 then s
    else { s with tbl := { s.tbl with mc := SMap.set 0 s.tbl.mc (mcKey e g) w,
                                      mcBad := s.tbl.mcBad.filter fun b => b.1 ≠ mcKey e g } }
  one (one s false) true

/-- Clear valid in the versions of M. -/
def State.mcDelete (s : State) (g M : Nat) : State :=
  let one := fun (s : State) (e : Bool) =>
    if M &&& vbit e = 0 then s
    else { s with tbl := { s.tbl with mc := SMap.set 0 s.tbl.mc (mcKey e g) (setBit (s.mcEntry e g) 63 false),
                                      mcBad := s.tbl.mcBad.filter fun b => b.1 ≠ mcKey e g } }
  one (one s false) true

/-- The leaf of member j of a group entry (03 R79, 05 R136). -/
def memberLeaf (w : Word) (j : Nat) : Nat :=
  if bit w 62 then 16 * j + bits w 61 58 else 16 * bits w 61 58 + j

/-- The group's members, as numbers of leaves in the row or column. -/
def groupMembers (w : Word) : List Nat := (List.range 16).filter fun j => bit w j

/-! ## Writing under a version mask (05 R121) -/

/-- A mask of one version may be written only while its epoch is CLOSED. -/
def State.maskAllowed (s : State) (M : Nat) : Bool :=
  M = 3 || (M = 1 && s.stn.st0 = .closed) || (M = 2 && s.stn.st1 = .closed)

/-- The statistics of the tables that reads return (05 R135, R144). -/
def State.emStatus (s : State) : Word :=
  let m := s.tbl.em
  let stash := (m.filter fun e => 2 * emBank ≤ e.1 && e.2.vmask ≠ 0).length
  let sus := (m.filter fun e => e.2.suspect ≠ 0).length
  at_ 32 (emUsed m) ||| at_ 18 stash ||| at_ 0 (Nat.min sus (2 ^ 18 - 1))

/-- STR_LPM_STATUS. -/
def State.lpmStatus (s : State) : Word :=
  at_ 32 (lpmUnits s.tbl.lpm) ||| at_ 0 (s.tbl.lpm.filter fun p => p.v6).length

end Sys2Proof.Machine
end

