-- ==== Sys2Proof/Machine/Streams.lean ====
section
/-! DEFINITION. Streams and their descriptors (04_station_programming.md R93 to R95), the occupancy
counts (06 R160), lane credits (07 R187 to R190), the tile pool (07 R181 to R185), and the one way in
which a stream or a copy ends. -/

namespace Sys2Proof.Machine

/-! ## Descriptors -/

/-- m0 (04 R94). -/
def Stream.m0 (t : Stream) : Word :=
  at_ 54 t.inLane ||| at_ 44 t.inPort ||| at_ 43 (b2n t.eth) ||| at_ 35 t.scls ||| at_ 23 t.part
    ||| at_ 20 t.cls ||| at_ 19 (b2n t.epoch) ||| at_ 18 (b2n t.pennant) ||| at_ 4 t.flen

/-- m1.disp, with the reserved values taken as 4 (04 R95). -/
def Stream.disp (t : Stream) : Nat := Nat.min 4 (bits t.m1 63 61)

/-- m1.port. -/
def Stream.port (t : Stream) : Nat := bits t.m1 60 51

/-- m1.group. -/
def Stream.group (t : Stream) : Nat := bits t.m1 50 37

/-- m1.subq. -/
def Stream.subq (t : Stream) : Nat := bits t.m1 36 30

/-- Write disp; a stream whose disp is 4 stays dropped (04 R95). -/
def Stream.setDisp (t : Stream) (d : Nat) : Stream :=
  if t.disp = 4 then t else { t with m1 := setBits t.m1 63 61 d }

/-- Write disp and port. -/
def Stream.toPort (t : Stream) (p : Nat) : Stream :=
  { t.setDisp 1 with m1 := setBits (t.setDisp 1).m1 60 51 p }

/-- Metadata word i. -/
def Stream.meta (t : Stream) (i : Nat) : Word :=
  if i = 0 then t.m0 else if i = 1 then t.m1 else t.mx.getD (i - 2) 0

/-- The lane on which a stream's station counts are made (17 R490). -/
def Stream.cntLane (t : Stream) : Nat := if t.ret then 16 * t.pipe else t.inLane

/-- The packet as it now stands: the header window over the received bytes. -/
def Stream.packet (t : Stream) : List Byte := overlay t.bytes 0 (t.h.take t.bytes.length)

/-- Tiles of the packet. -/
def Stream.tiles (t : Stream) : Nat := tilesOf t.flen

/-- The die of the stream's ingress pipeline. -/
def Stream.die (t : Stream) : Nat := dieOfPipe t.pipe

/-- A stream by its number. -/
def State.stream (s : State) (id : Nat) : Option Stream := s.net.streams.find? fun t => t.id = id

/-- Replace a stream by its number. -/
def State.putStream (s : State) (t : Stream) : State :=
  { s with net := { s.net with streams := updFirst (fun x => x.id = t.id) (fun _ => t) s.net.streams } }

/-- A stream reaches a station or a wait: it goes behind every stream that has reached its own before. -/
def State.toStage (s : State) (t : Stream) (g : Stage) : State :=
  { s with net := { s.net with
      streams := dropFirst (fun x => x.id = t.id) s.net.streams ++ [{ t with stage := g }] } }

/-- Take a stream off the list. -/
def State.dropStream (s : State) (id : Nat) : State :=
  { s with net := { s.net with streams := dropFirst (fun x => x.id = id) s.net.streams } }

/-- The first stream of a pipeline that waits for a stage. -/
def State.firstAt (s : State) (pipe : Nat) (g : Stage) : Option Stream :=
  s.net.streams.find? fun t => t.pipe = pipe && t.stage = g

/-! ## Occupancy (06 R160) -/

/-- The bucket of a flow. -/
def State.bucketOfFlow (s : State) (k : Nat) : Nat :=
  crc32c (s.fld .stnHoldCfg 0 31 0) (wordBytes (flowKeyWord k)) % 2 ^ 16

/-- E of a bucket. -/
def State.occE (s : State) (b : Nat) : Nat := SMap.get 0 s.net.occE b

/-- D of a bucket. -/
def State.occD (s : State) (b : Nat) : Nat := SMap.get 0 s.net.occD b

/-- Add 1 to E. -/
def State.addE (s : State) (b : Nat) : State :=
  { s with net := { s.net with occE := SMap.upd 0 s.net.occE b fun v => (v + 1) % 2 ^ 32 } }

/-- Add 1 to D. -/
def State.addD (s : State) (b : Option Nat) : State :=
  match b with
  | some b => { s with net := { s.net with occD := SMap.upd 0 s.net.occD b fun v => (v + 1) % 2 ^ 32 } }
  | none => s

/-! ## Credits (07 R187 to R190) -/

/-- C of a class for a port: never below 16 (07 R206). -/
def State.creditC (s : State) (port cls : Nat) : Nat :=
  Nat.max 16 (if cls = 5 then s.fld .bufCredit port 9 0
    else if cls = 6 then s.fld .bufCredit port 19 10 else s.fld .bufCredit port 29 20)

/-- Tiles of a class held on a lane and not yet released. -/
def Lane.held (l : Lane) (c : Nat) : Nat := if c = 5 then l.h5 else if c = 6 then l.h6 else l.h7
/-- Set the held tiles of a class. -/
def Lane.setHeld (l : Lane) (c v : Nat) : Lane :=
  if c = 5 then { l with h5 := v } else if c = 6 then { l with h6 := v } else { l with h7 := v }
/-- G of a class. -/
def Lane.g (l : Lane) (c : Nat) : Nat := if c = 5 then l.g5 else if c = 6 then l.g6 else l.g7
/-- Set G of a class. -/
def Lane.setG (l : Lane) (c v : Nat) : Lane :=
  if c = 5 then { l with g5 := v } else if c = 6 then { l with g6 := v } else { l with g7 := v }
/-- R of a class. -/
def Lane.r (l : Lane) (c : Nat) : Nat := if c = 5 then l.r5 else if c = 6 then l.r6 else l.r7
/-- Set R of a class. -/
def Lane.setR (l : Lane) (c v : Nat) : Lane :=
  if c = 5 then { l with r5 := v } else if c = 6 then { l with r6 := v } else { l with r7 := v }
/-- The neighbour's G of a class. -/
def Lane.ng (l : Lane) (c : Nat) : Nat := if c = 5 then l.ng5 else if c = 6 then l.ng6 else l.ng7
/-- S of a class. -/
def Lane.s (l : Lane) (c : Nat) : Nat := if c = 5 then l.s5 else if c = 6 then l.s6 else l.s7
/-- Add to S of a class. -/
def Lane.addS (l : Lane) (c n : Nat) : Lane :=
  if c = 5 then { l with s5 := (l.s5 + n) % 2 ^ 32 } else if c = 6 then { l with s6 := (l.s6 + n) % 2 ^ 32 }
  else { l with s7 := (l.s7 + n) % 2 ^ 32 }

/-- The lane's neighbour has granted room for t tiles of a class: G − S ≥ t (07 R188). -/
def Lane.hasCredit (l : Lane) (c t : Nat) : Bool :=
  c < 5 || decide ((t : Int) ≤ sdiff 32 (l.ng c) (l.s c))

/-- A pennant of the lane and class waits for an entry of the hold table: the credit of the lane is withheld for the
class (06 R161). -/
def State.withheld (s : State) (lane c : Nat) : Bool :=
  s.net.streams.any fun t => (t.stage = .penWait || t.stage = .seqWait) && !t.ret && t.inLane = lane && t.cls = c

/-- Let G advance to R + C − held, where nothing holds it back (07 R187; log entry 12): not while its
port is disabled (15 R446), nor while a pennant of the class waits (06 R161). Asune traffic never fills the lane's ingress
FIFO (01 R17). -/
def State.advanceG (s : State) (lane : Nat) : State :=
  match s.portOf lane with
  | none => s
  | some p =>
    if s.disabled 0 p || s.portEth p then s
    else
      s.setLane lane fun l =>
        ([5, 6, 7].filter fun c => !s.withheld lane c).foldl (fun l c =>
          let goal := (l.r c + s.creditC p c + (2 ^ 32 - l.held c % 2 ^ 32)) % 2 ^ 32
          if 0 < sdiff 32 goal (l.g c) then l.setG c goal else l) l

/-- Held tiles of a class on an Ethernet port. -/
def Pfc.held (f : Pfc) (c : Nat) : Nat := if c = 5 then f.h5 else if c = 6 then f.h6 else f.h7
/-- Set the held tiles of a class. -/
def Pfc.setHeld (f : Pfc) (c v : Nat) : Pfc :=
  if c = 5 then { f with h5 := v } else if c = 6 then { f with h6 := v } else { f with h7 := v }
/-- The boundary of the last XOFF of a class, while XOFF stands. -/
def Pfc.xoff (f : Pfc) (c : Nat) : Option Nat := if c = 5 then f.x5 else if c = 6 then f.x6 else f.x7
/-- Set the XOFF state of a class. -/
def Pfc.setXoff (f : Pfc) (c : Nat) (v : Option Nat) : Pfc :=
  if c = 5 then { f with x5 := v } else if c = 6 then { f with x6 := v } else { f with x7 := v }

/-- Send one PFC frame for a class (07 R190), where pfc_tx allows it (03 R71). -/
def State.sendPfc (s : State) (p c quanta : Nat) : State :=
  if s.flag .stnPortEth p (24 + c) then (s.laneCount p 20).emit (.pfc p c quanta) else s

/-- Judge XOFF and XON of a class after its held count has changed (07 R190). -/
def State.pfcJudge (s : State) (p c : Nat) : State :=
  let f := s.pfcOf p
  let x := s.fld .bufCredit p 39 30
  match f.xoff c with
  | none =>
    if x ≤ f.held c then (s.setPfc p fun f => f.setXoff c (some s.beat.bc)).sendPfc p c 0xFFFF else s
  | some _ =>
    if !f.full && f.held c ≤ x / 2 then (s.setPfc p fun f => f.setXoff c none).sendPfc p c 0 else s

/-- A lane's ingress FIFO is full: XOFF for classes 5 to 7, as when xoff is reached, and no XON while it stands (01 R17,
07 R190; log entry 15). -/
def State.fifoXoff (s : State) (p : Nat) : State :=
  [5, 6, 7].foldl (fun s c =>
    match (s.pfcOf p).xoff c with
    | none => (s.setPfc p fun f => f.setXoff c (some s.beat.bc)).sendPfc p c 0xFFFF
    | some _ => s) (s.setPfc p fun f => { f with full := true })

/-- The FIFO is full no longer: XON for the classes whose held count allows it. -/
def State.fifoDrained (s : State) (p : Nat) : State :=
  if (s.pfcOf p).full then
    [5, 6, 7].foldl (fun (s : State) c => s.pfcJudge p c) (s.setPfc p fun f => { f with full := false })
  else s

/-- Release a stream's ingress credit (07 R187, R190). -/
def State.releaseCredit (s : State) (t : Stream) : State :=
  if t.credit then
    if t.eth then
      (s.setPfc t.inPort fun f => f.setHeld t.cls (f.held t.cls - t.tiles)).pfcJudge t.inPort t.cls
    else
      (s.setLane t.inLane fun l => l.setHeld t.cls (l.held t.cls - t.tiles)).advanceG t.inLane
  else s

/-! ## The tiles of a stream (07 R179, R180) -/

/-- Return the tiles of a stream, if it holds any. -/
def State.freeStreamTiles (s : State) (t : Stream) : State :=
  match t.alloc with
  | some a => s.giveTiles a t.part
  | none => s

/-! ## The end of a stream -/

/-- Post the item of a send descriptor (18 R530). -/
def State.sendDone (s : State) (t : Stream) (status : Nat) : State :=
  match t.desc with
  | some (ring, tag) =>
    s.post ring [⟨at_ 56 0x22 ||| at_ 48 status ||| at_ 32 tag ||| at_ 26 ring, s.beatWord, 0, 0⟩]
  | none => s

/-- A stream ends before any copy of it was admitted: its D is counted, its credit and its tiles are
released (06 R160, 07 R187). -/
def State.endStream (s : State) (t : Stream) : State :=
  ((((s.dropStream t.id).addD t.bucket).releaseCredit t).freeStreamTiles t).sendDone t 0x02

/-- The occupancy of a port-class falls by a copy's tiles (07 R186). -/
def State.occAdd (s : State) (n : Nat) (f : Nat → Nat) : State :=
  { s with q := { s.q with occ := SMap.upd 0 s.q.occ n f } }

/-- The last reference of a stored packet is released: D, credit and tiles (07 R180, R187). -/
def State.freePacket (s : State) (t : Stream) : State :=
  (((s.dropStream t.id).addD t.bucket).releaseCredit t).freeStreamTiles t

/-- The references still to be released of the packet whose first tile's owner record is at `key` (07 R179). -/
def State.refs (s : State) (key : Nat) : Nat := bits (s.owner key) 28 23

/-- Set the references of a packet. -/
def State.setRefs (s : State) (key n : Nat) : State := s.setOwner key (setBits (s.owner key) 28 23 n)

/-- No other copy of the packet is left: the end of this one ends the stream. Where the owner record that held the
references is lost (14 R405), the copies themselves tell. -/
def State.lastCopy (s : State) (c : Copy) : Bool :=
  if bit (s.owner c.tile) 31 then s.refs c.tile ≤ 1
  else !s.q.copies.any fun x => x.sid = c.sid && x.cid ≠ c.cid

/-- A copy ends (06 R160, 07 R180, R186). A reference already zero is a fault: counted, and nothing is
freed. -/
def State.endCopy (s : State) (c : Copy) : State :=
  let s := { s with q := { s.q with copies := dropFirst (fun x => x.cid = c.cid) s.q.copies } }
  let s := s.occAdd (8 * c.port + c.cls) (· - c.tiles)
  let n := s.refs c.tile
  if !bit (s.owner c.tile) 31 then
    match s.stream c.sid with
    | some t => if s.lastCopy c then s.freePacket t else s
    | none => s
  else if n = 0 then
    (s.count (cntPool (c.tile / 2 ^ 20) 0) 1).raise .buffer [0, c.tile / 2 ^ 20, 256 * (c.tile % 2 ^ 20)]
  else
    let s := s.setRefs c.tile (n - 1)
    match s.stream c.sid with
    | some t => if n = 1 then s.freePacket t else s
    | none => s

/-- Mark a stream dropped at a station, counted in stn_drop (04 R90, R95). -/
def State.stnDrop (s : State) (t : Stream) : State := s.laneCount t.cntLane 16

end Sys2Proof.Machine
end

