-- ==== Sys2Proof/Machine/FabricMem.lean ====
section
/-! DEFINITION. Fabric memory (10_fabric_memory.md): windows, loads, stores, atomics, counted stores,
subscriptions, the tracker and the replay windows; and the memory lines that every other block uses. -/

namespace Sys2Proof.Machine

/-! ## Lines and poison (10 R291 to R296) -/

/-- Installed spine memory in bytes (18 R544, R545). -/
def State.spineSize (s : State) : Nat :=
  if s.host.ddrState = 2 then 8 * (SMap.get {} s.host.ddr 0).cap * 2 ^ 35 else 0

/-- DDR5 is READY. -/
def State.ddrReady (s : State) : Bool := s.host.ddrState = 2

/-- The channel of a spine address (10 R291). -/
def spineChan (a : Nat) : Nat :=
  let f := fun (hi lo : Nat) => (a >>> lo) % 2 ^ (hi + 1 - lo)
  f 8 6 ^^^ f 17 15 ^^^ f 26 24 ^^^ f 35 33

/-- The subchannel of a spine address (10 R291). -/
def spineSub (a : Nat) : Nat := (a >>> 9 ^^^ a >>> 18 ^^^ a >>> 27 ^^^ a >>> 36) % 2

/-- The die of a spine address: 0 west, 1 east. -/
def spineDie (a : Nat) : Nat := spineChan a / 4

/-- Where a spine address lies in DDR5 (10 R291, 18 R546): `column` is the line within an 8 KiB row, and `byte` the byte
within the line. -/
structure DdrPlace where
  channel : Nat
  sub : Nat
  bankGroup : Nat
  bank : Nat
  rank : Nat
  row : Nat
  column : Nat
  byte : Nat
deriving DecidableEq, Repr

/-- b of 10 R291: the bank group is b[4:2] and the bank b[1:0]. -/
def spineBank (a : Nat) : Nat := (a >>> 10 ^^^ a >>> 19 ^^^ a >>> 28) % 32

/-- The place of a spine address in modules of `cap` times 32 GiB (2, 4 or 8) (10 R291, 18 R544, R546). Those of 64 GiB
have one rank. -/
def ddrPlace (cap a : Nat) : DdrPlace :=
  { channel := spineChan a, sub := spineSub a, bankGroup := spineBank a / 4, bank := spineBank a % 4,
    rank := if cap = 2 then 0 else (a >>> 22) % 2,
    row := if cap = 2 then (a >>> 22) % 2 ^ 17 else if cap = 4 then (a >>> 23) % 2 ^ 17 else (a >>> 23) % 2 ^ 18,
    column := (a >>> 15) % 2 ^ 7, byte := a % 64 }

/-! ### The burst of a line (18 R547) -/

/-- One beat of a burst on a subchannel: 32 data bits and 8 ECC bits. -/
structure DdrBeat where
  data : BitVec 32
  ecc : BitVec 8
deriving DecidableEq, Repr

/-- The 32 ECC bits of codeword k: the check bits over its sixteen bytes, and three of the twelve poison bits. -/
def ddrEcc (bytes : List Byte) (poison k : Nat) : Nat :=
  (Config.checkBits (leNat bytes)).toNat + 2 ^ 9 * (poison / 2 ^ (3 * k) % 8)

/-- A 64-byte line as one BL16 burst: four bytes to a beat, lowest first. -/
def ddrBurst (line : List Byte) (poison : Nat) : List DdrBeat :=
  (List.range 16).map fun i =>
    { data := BitVec.ofNat 32 (leNat ((line.drop (4 * i)).take 4)),
      ecc := BitVec.ofNat 8 (ddrEcc ((line.drop (16 * (i / 4))).take 16) poison (i / 4) / 2 ^ (8 * (i % 4))) }

/-- The data bytes of a burst. -/
def burstBytes (b : List DdrBeat) : List Byte := (b.map fun x => leBytes 4 x.data.toNat).flatten

/-- The poison bits of a burst: [11:9] of each codeword's ECC bits. -/
def burstPoison (b : List DdrBeat) : Nat :=
  (List.range 4).foldl (fun n k => n + 2 ^ (3 * k) * ((b[4 * k + 1]?.map fun x => x.ecc.toNat / 2 % 8).getD 0)) 0

/-- Of twelve poison bits, how many are set. -/
def poisonCount (n : Nat) : Nat := ((List.range 12).filter fun i => (n >>> i) % 2 = 1).length

/-- A line is poisoned when at least 7 of its 12 poison bits are set. -/
def linePoisoned (n : Nat) : Bool := 7 ≤ poisonCount n

/-- The die of a near-store address (10 R292). -/
def nearDie (n : Nat) : Nat := (n >>> 6 ^^^ n >>> 13 ^^^ n >>> 20) % 2

/-- A line number. -/
def lineOf (a : Nat) : Nat := a / 64

/-- The lines that n bytes from an address touch. -/
def linesOf (a n : Nat) : List Nat := if n = 0 then [] else rangeFrom (a / 64) ((a + n - 1) / 64 + 1)

/-- The two memories. -/
inductive Space where
  | spine | near
deriving DecidableEq, Repr

/-- The bytes of a memory. -/
def State.bytesOf (s : State) : Space → List Host.Cell
  | .spine => s.mem.spine
  | .near => s.mem.near

/-- Replace the bytes of a memory. -/
def State.setBytes (s : State) (sp : Space) (m : List Host.Cell) : State :=
  match sp with
  | .spine => { s with mem := { s.mem with spine := m } }
  | .near => { s with mem := { s.mem with near := m } }

/-- The poison mark of a line. -/
def State.poisoned (s : State) (sp : Space) (line : Nat) : Bool :=
  match sp with
  | .spine => linePoisoned (SMap.get 0 s.mem.poisonS line)
  | .near => SMap.get false s.mem.poisonN line

/-- Set or clear the poison mark of a line. -/
def State.setPoison (s : State) (sp : Space) (line : Nat) (b : Bool) : State :=
  match sp with
  | .spine => { s with mem := { s.mem with poisonS := SMap.set 0 s.mem.poisonS line (if b then 0xFFF else 0) } }
  | .near => { s with mem := { s.mem with poisonN := SMap.set false s.mem.poisonN line b } }

/-- A read of these bytes meets a poisoned line, or a channel that is not READY (10 R296, 18 R545). -/
def State.badRead (s : State) (sp : Space) (a n : Nat) : Bool :=
  (sp = .spine && !s.ddrReady) || (linesOf a n).any (s.poisoned sp)

/-- Read bytes. -/
def State.readMem (s : State) (sp : Space) (a n : Nat) : List Byte := memRead (s.bytesOf sp) a n

/-- Write bytes. A line written whole loses its poison mark, and a line written in part keeps it;
with `poison` every line written is marked (10 R296). -/
def State.writeMem (s : State) (sp : Space) (a : Nat) (bs : List Byte) (poison : Bool) : State :=
  let n := bs.length
  let s := s.setBytes sp (memWrite (s.bytesOf sp) a bs)
  (linesOf a n).foldl (fun s l =>
    if poison then s.setPoison sp l true
    else if a ≤ 64 * l && 64 * l + 64 ≤ a + n then s.setPoison sp l false else s) s

/-- A 64-bit word of spine memory. -/
def State.spineWord (s : State) (a : Nat) : Word := memWord s.mem.spine a

/-- Write a 64-bit word of spine memory. -/
def State.putSpine (s : State) (a : Nat) (w : Word) : State :=
  { s with mem := { s.mem with spine := memPutWord s.mem.spine a w } }

/-! ## Counters and subscriptions (10 R297 to R300) -/

/-- An arrival counter's value. -/
def State.ctr (s : State) (i : Nat) : Nat := (memWord s.mem.near (8 * i)).toNat

/-- Set an arrival counter. -/
def State.setCtr (s : State) (i v : Nat) : State :=
  { s with mem := { s.mem with near := memPutWord s.mem.near (8 * i) (BitVec.ofNat 64 v) } }

/-- A partition owns a counter (10 R297). -/
def State.owns (s : State) (p i : Nat) : Bool :=
  i < 1048576 && s.flag .fmemCntOwn (i / 64) 12 && s.fld .fmemCntOwn (i / 64) 11 0 = p

/-- The armed subscription of a counter. -/
def State.sub (s : State) (i : Nat) : Option Sub := SMap.get none s.mem.subs i

/-- Arm or disarm a counter's subscription. -/
def State.setSub (s : State) (i : Nat) (x : Option Sub) : State :=
  { s with mem := { s.mem with subs := SMap.set none s.mem.subs i x } }

/-- The target of a counter's subscription, in the near store at 0x80_0000 + 16i (10 R292). -/
def State.subTarget (s : State) (i : Nat) : Nat := (memWord s.mem.near (0x800000 + 16 * i)).toNat

/-- Put a result on the return port of a die (01 R19). -/
def State.toReturn (s : State) (r : Ret) : State := { s with net := { s.net with ret := s.net.ret ++ [r] } }

/-- The pipeline on a die that stands where `pipe` stands on its own. -/
def pipeOnDie (die pipe : Nat) : Nat := 32 * die + pipe % 32

/-- The unit waits: a result of its own has found no tile at its return port (07 R191). -/
def State.unitWaits (s : State) (u : RetUnit) : Bool := s.net.ret.any fun r => r.held && r.unit = u

/-- A unicast frame that the part originates, as a result (04 R92). -/
def unicastRet (unit : RetUnit) (pipe : Nat) (h : Hdr) (payload : List Byte) : Ret :=
  { pipe := pipe, unit := unit, bytes := h.bytes ++ payload, eth := false, part := h.part, cls := h.cls, epoch := h.epoch,
    kind := 0, target := h.dst, subq := h.flowTag % 128, desc := none, tsReq := false, pin := none,
    bcast := none, trk := none }

/-- The header of a reply (03 R67). -/
def State.replyHdr (s : State) (q : Hdr) (op len : Nat) (poison : Bool) : Hdr :=
  { dst := q.src, src := s.selfNode, part := q.part, cls := q.cls, epoch := q.epoch, flowTag := q.flowTag,
    flowSeq := q.flowSeq, opTag := q.opTag, op := op, len := len, poison := poison }

/-- Send a unit's reply through the return port of pipeline `pipe`'s die, counting its status (17 R492). -/
def State.sendReply (s : State) (unit : RetUnit) (pipe : Nat) (q : Hdr) (r : Reply) (trk : Option Nat) : State :=
  let h := s.replyHdr q (0x40 + r.status) r.payload.length r.poison
  let s := match r.status with
    | 3 => s.partCount q.part 14
    | 4 => s.partCount q.part 15
    | 5 => s.partCount q.part 16
    | 6 => s.partCount q.part 17
    | 1 => (s.partCount q.part 13).bump .fmemCnt0 0 47 32 1
    | _ => s
  s.toReturn { unicastRet unit pipe h r.payload with trk := trk }

/-- Send NOTIFY for a subscription that fires (10 R299). It re-enters at pipeline 0 of the counter's die: the rules name the
die and no pipeline of it (DESIGN CHOICE, log entry 13). -/
def State.notify (s : State) (i v : Nat) (x : Sub) : State :=
  let h := { s.replyHdr x.hdr opNotify 8 false with ctr := i }
  (s.setSub i none).toReturn (unicastRet (.engine (nearDie (8 * i))) (pipeOnDie (nearDie (8 * i)) 0) h (leBytes 8 v))

/-- Fire a counter's subscription if its target is reached. -/
def State.fireSub (s : State) (i : Nat) : State :=
  match s.sub i with
  | some x => if s.subTarget i ≤ s.ctr i then s.notify i (s.ctr i) x else s
  | none => s

/-- Change a counter as a counted increment does, and fire its subscription (10 R298, R299). -/
def State.putCtr (s : State) (i v : Nat) : State := (s.setCtr i (v % 2 ^ 64)).fireSub i

/-! ## The checks of 10 R288 -/

/-- The space of an offset. -/
def spaceOf (off : Nat) : Nat := off / 2 ^ 46 % 4

/-- The offset within its space. -/
def offIn (off : Nat) : Nat := off % 2 ^ 46

/-- The window register of a partition and space. -/
def winIdx (p sp : Nat) : Nat := 2 * p + sp

/-- Counters are enabled for a partition. -/
def State.cntEn (s : State) (p : Nat) : Bool := s.flag .fmemPart p 63

/-- User counters are granted to a partition. -/
def State.userGrant (s : State) (p : Nat) : Bool := s.flag .cntPart p 63

/-- Order 1: the space is valid for the partition. -/
def State.spaceValid (s : State) (p sp : Nat) : Bool :=
  if sp ≤ 1 then s.flag .fmemWin (winIdx p sp) 63 else if sp = 2 then s.cntEn p else s.userGrant p

/-- The end of a space. -/
def State.spaceEnd (s : State) (p sp : Nat) : Nat :=
  if sp ≤ 1 then s.fld .fmemWin (winIdx p sp) 28 0 * 4096 else if sp = 2 then 8 * 2 ^ 20 else 512

/-- The operand width of an ATOM. -/
def atomWidth (h : Hdr) : Nat := if h.op = 0x13 then h.len / 2 else h.len

/-- The bytes that a request reaches. -/
def reqBytes (h : Hdr) : Nat := if isAtom h.op then atomWidth h else h.len

/-- Order 3: the right that the opcode needs. -/
def State.rightHeld (s : State) (h : Hdr) : Bool :=
  let sp := spaceOf h.offset
  let w := s.reg .fmemWin (winIdx h.part sp)
  if h.op = opLdReq then (if sp ≤ 1 then bit w 62 else if sp = 2 then s.cntEn h.part else s.userGrant h.part)
  else if h.op = opSt then sp ≤ 1 && bit w 61
  else if h.op = opStCnt then sp ≤ 1 && bit w 61 && s.cntEn h.part
  else
    if sp ≤ 1 then bit w 60
    else sp = 2 && s.cntEn h.part && h.len = 8 && (h.op = 0x10 || h.op = 0x11 || h.op = 0x12)

/-- Order 4: the access is aligned. -/
def alignedReq (h : Hdr) : Bool :=
  let o := offIn h.offset
  (if isAtom h.op then o % Nat.max 1 (atomWidth h) = 0 else true)
    && (if 2 ≤ spaceOf h.offset then o % 8 = 0 && reqBytes h % 8 = 0 else true)

/-- The counters that a request names (order 5). -/
def countersOf (h : Hdr) : List Nat :=
  if h.op = opSub || h.op = opStCnt then [h.ctr]
  else if spaceOf h.offset = 2 then rangeFrom (offIn h.offset / 8) (offIn h.offset / 8 + reqBytes h / 8)
  else []

/-- The memory and address of a request in a window. -/
def State.winAddr (s : State) (h : Hdr) : Space × Nat :=
  let sp := spaceOf h.offset
  let b := s.fld .fmemWin (winIdx h.part sp) 57 29 * 4096
  if sp = 0 then (.spine, (b + offIn h.offset) % 2 ^ 41) else (.near, (0x1C00000 + b + offIn h.offset) % 2 ^ 25)

/-- Checks 1 to 5: the status of the first that fails. -/
def State.checkReq (s : State) (h : Hdr) : Option Nat :=
  let sp := spaceOf h.offset
  if h.op = opSub then
    if !s.cntEn h.part then some 3 else if !s.owns h.part h.ctr then some 3 else none
  else if !s.spaceValid h.part sp then some 3
  else if s.spaceEnd h.part sp < offIn h.offset + reqBytes h then some 3
  else if !s.rightHeld h then some 3
  else if !alignedReq h then some 4
  else if !(countersOf h).all (s.owns h.part) then some 3
  else none

/-- Poison carry of a partition (14_integrity.md R433). -/
def State.carry (s : State) (p : Nat) : Bool := s.flag .intPart p 63

/-! ## Operations (10 R294 to R299) -/

/-- A request, with the payload that it carries. -/
structure Req where
  h : Hdr
  pay : List Byte
  pipe : Nat

/-- The bytes of a load outside poison. -/
def State.loadBytes (s : State) (h : Hdr) : List Byte :=
  let sp := spaceOf h.offset
  let o := offIn h.offset
  if sp ≤ 1 then let w := s.winAddr h; s.readMem w.1 w.2 h.len
  else if sp = 2 then s.readMem .near o h.len
  else ((rangeFrom (o / 8) (o / 8 + h.len / 8)).map fun j =>
    leBytes 8 (if j = 63 then s.cnt.shadowBeat else SMap.get 0 s.cnt.shadow (cntPart h.part j))).flatten

/-- The load meets a line that it must not return as good. -/
def State.loadBad (s : State) (h : Hdr) : Bool :=
  let sp := spaceOf h.offset
  if sp ≤ 1 then let w := s.winAddr h; s.badRead w.1 w.2 h.len
  else if sp = 2 then s.badRead .near (offIn h.offset) h.len
  else false

/-- LD_REQ (10 R294, R296). -/
def State.opLoad (s : State) (r : Req) : Reply × State :=
  match s.checkReq r.h with
  | some st => (⟨st, [], false⟩, s)
  | none =>
    if s.loadBad r.h then
      if s.carry r.h.part then (⟨0, s.loadBytes r.h, true⟩, s.partCount r.h.part 9) else (⟨5, [], false⟩, s)
    else (⟨0, s.loadBytes r.h, false⟩, s.partCount r.h.part 9)

/-- The poison check of a store (10 R296): refused without carry. -/
def State.storePoison (s : State) (h : Hdr) : Bool := h.poison && !s.carry h.part

/-- ST (10 R294). -/
def State.opStore (s : State) (r : Req) : Reply × State :=
  match s.checkReq r.h with
  | some st => (⟨st, [], false⟩, s)
  | none =>
    if s.storePoison r.h then (⟨5, [], false⟩, s)
    else
      let w := s.winAddr r.h
      (⟨0, [], false⟩, (s.writeMem w.1 w.2 (fitBytes r.h.len r.pay) r.h.poison).partCount r.h.part 10)

/-- ST_CNT (10 R298): the increment follows the store; where the block was released meanwhile the
reply is RANGE and the data stays written (10 R313). `noCount`: the partition was reset. -/
def State.opCounted (s : State) (r : Req) (accepted noCount : Bool) : Reply × State :=
  let chk := s.checkReq r.h
  let lostBlock := accepted && chk = some 3 && !s.owns r.h.part r.h.ctr
      && (s.checkReq { r.h with op := opSt }).isNone && s.cntEn r.h.part
  match (if lostBlock then none else chk) with
  | some st => (⟨st, [], false⟩, s)
  | none =>
    if s.storePoison r.h then (⟨5, [], false⟩, s)
    else
      let w := s.winAddr r.h
      let s := s.writeMem w.1 w.2 (fitBytes r.h.len r.pay) r.h.poison
      if lostBlock then (⟨3, [], false⟩, s)
      else if noCount then (⟨0, [], false⟩, s)
      else (⟨0, [], false⟩, (s.putCtr r.h.ctr (s.ctr r.h.ctr + 1)).partCount r.h.part 10)

/-- SUB (10 R299). One that carries the poison bit is answered POISON (DEDUCED, log entry 111). -/
def State.opSubscribe (s : State) (r : Req) : Reply × State :=
  match s.checkReq r.h with
  | some st => (⟨st, [], false⟩, s)
  | none =>
    if r.h.poison then (⟨5, [], false⟩, s)
    else
      let s := s.writeMem .near (0x800000 + 16 * r.h.ctr) (fitBytes 8 r.pay) false
      (⟨0, [], false⟩, (s.setSub r.h.ctr (some { hdr := r.h })).fireSub r.h.ctr)

/-- The new value of an ATOM's target, from the prior value and the operands (03 R66, 10 R295). -/
def atomNew (sub w old a b : Nat) : Nat :=
  let m := 2 ^ (8 * w)
  let so := toSigned (8 * w) old
  let sa := toSigned (8 * w) a
  if sub = 0 || sub = 1 then (old + a) % m
  else if sub = 2 then a
  else if sub = 3 then (if old = a then b else old)
  else if sub = 4 then (if sa < so then a else old)
  else if sub = 5 then (if so < sa then a else old)
  else if sub = 6 then Nat.min old a
  else if sub = 7 then Nat.max old a
  else if sub = 8 then old &&& a
  else if sub = 9 then old ||| a
  else if sub = 0xA then old ^^^ a
  else if sub = 0xB then f32Add old a
  else bf16Add old a

/-- The operation replies with the prior value (10 R295). -/
def atomReturns (sub : Nat) : Bool := !(sub = 0 || sub = 0xB || sub = 0xC)

/-- The memory and address of an ATOM's target. -/
def State.atomAddr (s : State) (h : Hdr) : Space × Nat :=
  if spaceOf h.offset = 2 then (.near, offIn h.offset) else s.winAddr h

/-! ### Replay windows (10 R304 to R309) -/

/-- The bucket bits of the region. -/
def State.awinK (s : State) : Nat := Nat.min 20 (Nat.max 10 (s.fld .fmemAwinRegion 0 28 24))

/-- The address of bucket b's record j. -/
def State.awinRec (s : State) (src p j : Nat) : Nat :=
  let b := crc32c 0xFFFFFFFF (wordBytes (BitVec.ofNat 64 (src <<< 12 ||| p))) % 2 ^ s.awinK
  s.fld .fmemAwinRegion 0 62 34 * 4096 + 2048 * b + 512 * j

/-- The record header names the pair. -/
def awinNames (w : Word) (src p : Nat) : Bool := bit w 63 && bits w 61 44 = src && bits w 43 32 = p

/-- The record of a pair, created empty on first use: its address. -/
def State.awinFind (s : State) (src p : Nat) : Option (Nat × State) :=
  let as := (List.range 4).map (s.awinRec src p)
  match as.find? fun a => awinNames (s.spineWord a) src p with
  | some a => some (a, s)
  | none =>
    match as.find? fun a => !bit (s.spineWord a) 63 with
    | none => none
    | some a =>
      let s := s.writeMem .spine a (List.replicate 512 0) false
      some (a, s.putSpine a (at_ 63 1 ||| at_ 44 src ||| at_ 32 p))

/-- Post an item of fabric memory (10 R317). -/
def State.fmemItem (s : State) (type code p node off tag coll chunk : Nat) : State :=
  s.post (s.fld .fmemCfg 0 5 0)
    [⟨at_ 56 type ||| at_ 52 code ||| at_ 40 p ||| at_ 22 node, at_ 16 off ||| at_ 0 tag, s.beatWord,
      at_ 48 coll ||| at_ 28 chunk⟩]

/-- Record an applied atomic in slot t[3:0], as the newest where it is. -/
def State.awinPut (s : State) (a t res : Nat) (newest : Bool) : State :=
  let i := t % 16
  let s := s.putSpine (a + 64 + 16 * i) (at_ 48 t ||| at_ 47 1)
  let s := s.putSpine (a + 72 + 16 * i) (BitVec.ofNat 64 res)
  if newest then s.putSpine a (setBit (setBits (s.spineWord a) 31 16 t) 15 true) else s

/-- Apply an atomic: the prior value, and the state after. -/
def State.atomApply (s : State) (r : Req) : Nat × State :=
  let sub := r.h.op - 0x10
  let w := atomWidth r.h
  let (sp, a) := s.atomAddr r.h
  let old := leNat (s.readMem sp a w)
  let new := atomNew sub w old (leNat (r.pay.take w)) (leNat ((r.pay.drop w).take w))
  let s := s.setBytes sp (memWrite (s.bytesOf sp) a (leBytes w new))
  let s := if spaceOf r.h.offset = 2 then s.fireSub (offIn r.h.offset / 8) else s
  (if atomReturns sub then old else 0, s)

/-- The OK reply of an atomic. -/
def atomReply (h : Hdr) (res : Nat) : Reply :=
  ⟨0, if atomReturns (h.op - 0x10) then leBytes (atomWidth h) res else [], false⟩

/-- ATOM (10 R295, R296, R304 to R308). No reply where there is no record for it (R307). -/
def State.opAtom (s : State) (r : Req) (noRecord : Bool) : Option Reply × State :=
  match s.checkReq r.h with
  | some st => (some ⟨st, [], false⟩, s)
  | none =>
    let (sp, ta) := s.atomAddr r.h
    if r.h.poison || s.badRead sp ta (atomWidth r.h) then (some ⟨5, [], false⟩, s)
    else if !s.flag .fmemAwinRegion 0 63 then
      (none, (s.bump .fmemCnt1 0 31 16 1).fmemItem 0x62 3 r.h.part r.h.src r.h.offset r.h.opTag 0 0)
    else
      match s.awinFind r.h.src r.h.part with
      | none => (none, (s.bump .fmemCnt1 0 31 16 1).fmemItem 0x62 1 r.h.part r.h.src r.h.offset r.h.opTag 0 0)
      | some (a, s) =>
        let w := s.spineWord a
        if bit w 62 then (some ⟨1, [], false⟩, s)
        else if s.badRead .spine a 512 then
          (some ⟨1, [], false⟩,
            (s.putSpine a (setBit w 62 true)).fmemItem 0x62 2 r.h.part r.h.src r.h.offset r.h.opTag 0 0)
        else
          let t := r.h.opTag
          let d := sdiff 16 t (bits w 31 16)
          let sa := s.spineWord (a + 64 + 16 * (t % 16))
          let fresh := !bit w 15 || 0 < d
          if fresh || (-15 ≤ d && !(bits sa 63 48 = t && bit sa 47)) then
            let (res, s) := s.atomApply r
            let s := if noRecord then s else s.awinPut a t res fresh
            (some (atomReply r.h res), s.partCount r.h.part 11)
          else if -15 ≤ d then
            let res := (s.spineWord (a + 72 + 16 * (t % 16))).toNat
            (some (atomReply r.h res),
              ((s.bump .fmemCnt0 0 63 48 1).partCount r.h.part 12).partCount r.h.part 11)
          else (some ⟨1, [], false⟩, s)

/-! ## The tracker (10 R293, R301 to R303) -/

/-- Requests of a partition in the tracker. -/
def State.trkUse (s : State) (p : Nat) : Nat := (s.mem.trk.filter fun t => t.req.part = p).length

/-- The most entries that a partition may hold (10 R290). -/
def State.trkMax (s : State) (p : Nat) : Nat := Nat.min 65536 (s.fld .fmemPart p 16 0)

/-- A request may take an entry now. -/
def State.trkRoom (s : State) (p : Nat) : Bool :=
  decide (s.mem.trk.length < 65536) && decide (s.trkUse p < s.trkMax p)

/-- The die of the memory engine that serves a request (10 R284): that of its target's line, and where its lines lie on both
dies that of the first (DESIGN CHOICE, log entry 13). A target that no die holds, because the space is not valid for the
partition or the bytes lie outside it, leaves the request to its ingress pipeline's die; so does the space of user counters,
which stand in no line. -/
def State.targetDie (s : State) (t : Stream) : Nat :=
  let h := t.hdr
  let sp := spaceOf h.offset
  if h.op = opSub then (if s.cntEn h.part then nearDie (8 * h.ctr) else t.die)
  else if !s.spaceValid h.part sp || s.spaceEnd h.part sp < offIn h.offset + reqBytes h then t.die
  else if sp ≤ 1 then let w := s.winAddr h; (if w.1 = .spine then spineDie w.2 else nearDie w.2)
  else if sp = 2 then nearDie (offIn h.offset) else t.die

/-- A request takes an entry: it is accepted, so it counts in D and releases its credit (06 R160,
07 R187). Tiles that it drew while it waited stay with it until its data is written (15 R441). -/
def State.trkAccept (s : State) (t : Stream) (since : Nat) : State :=
  let s := ((s.dropStream t.id).addD t.bucket).releaseCredit t
  let die := s.targetDie t
  let s := s.progEvent 0x18 die (some t.part) 1
  { s with mem := { s.mem with nextOrd := s.mem.nextOrd + 1, trk := s.mem.trk ++
      [{ id := t.id, ord := s.mem.nextOrd, die := die, req := { t with bucket := none, credit := false }, since := since, reply := none,
         sent := false, silent := false, reset := false, owned := s.owns t.part t.hdr.ctr }] } }

/-- An entry by its number. -/
def State.trkAt (s : State) (id : Nat) : Option Trk := s.mem.trk.find? fun t => t.id = id

/-- Replace an entry. -/
def State.putTrk (s : State) (t : Trk) : State :=
  { s with mem := { s.mem with trk := updFirst (fun x => x.id = t.id) (fun _ => t) s.mem.trk } }

/-- Free an entry. -/
def State.dropTrk (s : State) (id : Nat) : State :=
  { s with mem := { s.mem with trk := dropFirst (fun x => x.id = id) s.mem.trk } }

/-- The lines that a request acts on: (space, line). -/
def State.reqLines (s : State) (h : Hdr) : List (Space × Nat) :=
  let n := reqBytes h
  let own := (countersOf h).map fun i => (Space.near, 8 * i / 64)
  if h.op = opSub then own ++ [(.near, (0x800000 + 16 * h.ctr) / 64)]
  else if spaceOf h.offset ≤ 1 then
    let w := s.winAddr h
    ((linesOf w.2 n).map fun l => (w.1, l)) ++ own
  else own

/-- The lines of a BAR2 access: (space, line). -/
def HostAcc.lines (x : HostAcc) : List (Space × Nat) :=
  (linesOf x.addr (x.read.getD x.data.length)).map fun l => (if x.spine then .spine else .near, l)

/-- An entry before place `ord`, or a BAR2 access, that has not been performed acts on one of these lines (10 R293, 18
R519). -/
def State.linesHeld (s : State) (ord : Nat) (mine : List (Space × Nat)) : Bool :=
  ((s.mem.late ++ s.mem.trk).any fun t =>
    t.ord < ord && t.reply.isNone && (s.reqLines t.req.hdr).any fun l => mine.contains l)
  || s.mem.hostAcc.any fun x => x.ord < ord && x.lines.any fun l => mine.contains l

/-- Entry t waits: an earlier one holds a line of it, a recalibration does, or its engine waits for the return port. -/
def State.trkBlocked (s : State) (t : Trk) : Bool :=
  s.linesHeld t.ord (s.reqLines t.req.hdr) || s.unitWaits (.engine t.die)

/-- The request that an entry holds. -/
def Trk.toReq (t : Trk) : Req := { h := t.req.hdr, pay := (t.req.bytes.drop 48).take t.req.hdr.payLen, pipe := t.req.pipe }

/-- A recalibration holds a subchannel that these lines need (18 R545). -/
def State.recalHolds (s : State) (l : List (Space × Nat)) : Bool :=
  l.any fun x => x.1 = .spine &&
    (let c := SMap.get ({} : DdrChan) s.host.ddr (spineChan (64 * x.2))
     decide (s.beat.bc < if spineSub (64 * x.2) = 0 then c.recalA else c.recalB))

/-- Accesses to lines: those of spine memory count on their channels (17 R497). -/
def State.lineAccess (s : State) (l : List (Space × Nat)) : State :=
  l.foldl (fun (s : State) x => if x.1 = .spine then s.progEvent 0x19 (spineChan (64 * x.2)) none 1 else s) s

/-! ## Accesses of the host through BAR2 (18 R519) -/

/-- The bytes of a write that its enables name, from an address on. -/
def putBytes (m : List Host.Cell) (a : Nat) : List (Option Byte) → List Host.Cell
  | [] => m
  | some b :: l => putBytes (memSet m a b) (a + 1) l
  | none :: l => putBytes m (a + 1) l

/-- Every byte of line l is written. -/
def lineWhole (a : Nat) (data : List (Option Byte)) (l : Nat) : Bool :=
  a ≤ 64 * l && 64 * l + 64 ≤ a + data.length && ((data.drop (64 * l - a)).take 64).all (·.isSome)

/-- The address is one of the near store's cache of records (R292). -/
def inRecordCache (a : Nat) : Bool := 0x1800000 ≤ a && a < 0x1C00000

/-- What a read of the host answers: the bytes. Which records stand where in the near store's cache is open: there the bytes
are free values (R292; log entry 96). -/
def State.hostBytes (s : State) (sp : Space) (a n : Nat) : List Byte × State :=
  let bs := s.readMem sp a n
  if sp = .near && a < 0x1C00000 && 0x1800000 < a + n then
    (List.range n).foldl (fun (l, s) i =>
      if inRecordCache (a + i) then
        let (f, s) := State.freshWord s
        (l ++ [f.setWidth 8], s)
      else (l ++ [bs.getD i 0], s)) (([] : List Byte), s)
  else (bs, s)

/-- A BAR2 access takes effect: a read completes, poisoned where a line is; a line written whole loses its poison mark, and
one written in part keeps it. -/
def State.hostDo (s : State) (x : HostAcc) : State :=
  let sp := if x.spine then Space.spine else Space.near
  let s := s.lineAccess x.lines
  match x.read with
  | some n =>
    let (bs, s) := s.hostBytes sp x.addr n
    s.emit (.cplBytes bs ((linesOf x.addr n).any (s.poisoned sp)))
  | none =>
    let s := s.setBytes sp (putBytes (s.bytesOf sp) x.addr x.data)
    ((linesOf x.addr x.data.length).filter (lineWhole x.addr x.data)).foldl (fun (s : State) l => s.setPoison sp l false) s

/-- The lines of a BAR2 access are held: by an earlier access to one of them, by a recalibration, or by an engine that waits
for its return port (07 R191). -/
def State.hostHeld (s : State) (x : HostAcc) : Bool :=
  s.linesHeld x.ord x.lines || s.recalHolds x.lines || x.lines.any fun l =>
    s.unitWaits (.engine (if x.spine then spineDie (64 * l.2) else nearDie (64 * l.2)))

/-- A waiting BAR2 access takes effect, where nothing holds its lines any more. -/
def State.hostStep (s : State) (x : HostAcc) : State :=
  if s.hostHeld x then s
  else State.hostDo { s with mem := { s.mem with hostAcc := dropFirst (fun y => y.ord = x.ord) s.mem.hostAcc } } x

/-- Every BAR2 access that waits no longer takes effect, in order. -/
def State.hostGoes (s : State) : State := s.mem.hostAcc.foldl State.hostStep s

/-- A BAR2 access arrives: it takes its place among the requests to its lines, and waits for the earlier ones. -/
def State.hostAccess (s : State) (spine : Bool) (addr : Nat) (read : Option Nat) (data : List (Option Byte)) : State :=
  let x : HostAcc := { ord := s.mem.nextOrd, spine := spine, addr := addr, read := read, data := data }
  State.hostStep { s with mem := { s.mem with nextOrd := x.ord + 1, hostAcc := s.mem.hostAcc ++ [x] } } x

/-! ## Tracker entries are performed -/

/-- Perform entry `id` with operation `f`, if it waits to be performed, names one of the opcodes `ops`, no
earlier entry holds one of its lines and no recalibration holds them. The reply waits in the entry; an entry that gets no reply
is freed (10 R285, R307). -/
def State.performed (s : State) (id : Nat) (ops : Nat → Bool) (f : State → Trk → Option Reply × State) : State :=
  match s.trkAt id with
  | some t =>
    if t.reply.isSome || !ops t.req.hdr.op || s.trkBlocked t || s.recalHolds (s.reqLines t.req.hdr) then s
    else
      let (r, s) := f (s.lineAccess (s.reqLines t.req.hdr)) t
      match r with
      | some r =>
        if t.silent then (s.freeStreamTiles t.req).dropTrk id
        else (s.freeStreamTiles t.req).putTrk { t with reply := some r, req := { t.req with alloc := none } }
      | none => (s.freeStreamTiles t.req).dropTrk id
  | none =>
    match s.mem.late.find? fun t => t.id = id with
    | none => s
    | some t =>
      if t.reply.isSome || !ops t.req.hdr.op || s.trkBlocked t || s.recalHolds (s.reqLines t.req.hdr) then s
      else
        let (r, s) := f (s.lineAccess (s.reqLines t.req.hdr)) t
        let t' := { t with reply := some (r.getD ⟨0, [], false⟩), req := { t.req with alloc := none } }
        let s := s.freeStreamTiles t.req
        { s with mem := { s.mem with late := updFirst (fun x => x.id = id) (fun _ => t') s.mem.late } }

/-- An entry is performed, and then the BAR2 accesses that waited for it. -/
def State.perform (s : State) (id : Nat) (ops : Nat → Bool) (f : State → Trk → Option Reply × State) : State :=
  (s.performed id ops f).hostGoes

/-- A performed request's reply is handed to the return port of its engine's die (10 R285), at the pipeline that stands
there where the request's own stands on its die (log entry 13); a late or silent completion sends none (10 R303, 15
R441). -/
def State.complete (s : State) (id : Nat) : State :=
  match s.trkAt id with
  | some t =>
    match t.reply with
    | some r =>
      if t.sent || s.unitWaits (.engine t.die) then s
      else if t.silent then s.dropTrk id
      else (s.putTrk { t with sent := true }).sendReply (.engine t.die) (pipeOnDie t.die t.req.pipe) t.req.hdr r (some id)
    | none => s
  | none =>
    match s.mem.late.find? fun t => t.id = id with
    | none => s
    | some t =>
      if t.reply.isNone then s
      else
        let s := s.bump .fmemCnt0 0 15 0 1
        { s with mem := { s.mem with late := dropFirst (fun x => x.id = id) s.mem.late } }

/-- trk_timeout, never below 16 (06 R168, 10 R314). -/
def State.trkTimeout (s : State) : Nat := Nat.max 16 (s.fld .fmemCfg 0 47 32)

/-- Give up an entry in step 2 (10 R302): a reply already handed to the return port takes
precedence. A waiting request is discarded; an issued one completes without a reply. -/
def State.giveUp (s : State) (t : Trk) : State :=
  if t.sent || s.beat.bc < t.since + s.trkTimeout then s
  else
    let s := ((s.dropTrk t.id).bump .fmemCnt0 0 31 16 1).partCount t.req.part 18
    let s := { s with mem := { s.mem with late := s.mem.late ++ [t] } }
    s.fmemItem 0x61 0 t.req.part t.req.hdr.src t.req.hdr.offset t.req.hdr.opTag 0 0

/-- Give up a request that waits at `merge`. -/
def State.giveUpWaiting (s : State) (t : Stream) : State :=
  if s.beat.bc < t.since + s.trkTimeout then s
  else
    let s := ((s.endStream t).bump .fmemCnt0 0 31 16 1).partCount t.part 18
    s.fmemItem 0x61 0 t.part t.hdr.src t.hdr.offset t.hdr.opTag 0 0

end Sys2Proof.Machine
end

