-- ==== Sys2Proof/Machine/Part.lean ====
section
/-! DEFINITION. Partitions: their state changes, faults and condemnations, and the items that report
them (15_partitions_and_recovery.md R438 to R448, R463; 14_integrity.md R406, R436). -/

namespace Sys2Proof.Machine

/-- The ring for items 0x78 to 0x7A (15 R458). -/
def State.partRing (s : State) : Nat := s.fld .stnPartCfg 0 5 0

/-- Item 0x78: a change of state (15 R463). -/
def State.stateItem (s : State) (p : Nat) (old new : PSt) (cause : Nat) : State :=
  s.post s.partRing
    [⟨at_ 56 0x78 ||| at_ 53 old.code ||| at_ 50 new.code ||| at_ 47 cause ||| at_ 0 p, s.beatWord, 0, 0⟩]

/-- Set a partition's state (15 R439). Partition 0 never changes. -/
def State.setPst (s : State) (p : Nat) (st : PSt) (cause : Nat) : State :=
  if p = 0 then s
  else
    let old := s.partInfo p
    let new : PartInfo := { st := st, resetAt := if st = .reset then s.beat.bc else if st = .free then 0 else old.resetAt }
    let s := { s with part := { s.part with st := SMap.set {} s.part.st p new } }
    s.stateItem p old.st st cause

/-- What a discard found (15 R448). -/
structure Tally where
  packets : Nat := 0
  tiles : Nat := 0
  chunks : Nat := 0
  requests : Nat := 0
  pennants : Nat := 0
deriving DecidableEq, Repr

/-- Item 0x79 (15 R448). -/
def State.discardItem (s : State) (kind : Nat) (drain : Bool) (outcome idx : Nat) (t : Tally) : State :=
  s.post s.partRing
    [⟨at_ 56 0x79 ||| at_ 53 kind ||| at_ 52 (b2n drain) ||| at_ 49 outcome ||| at_ 0 idx,
      at_ 32 t.packets ||| at_ 0 t.tiles, at_ 48 (Nat.min 65535 t.chunks) ||| at_ 32 (Nat.min 65535 t.requests) ||| at_ 16 (Nat.min 65535 t.pennants), s.beatWord⟩]

/-- The ring for integrity items (14 R427). -/
def State.intRing (s : State) : Nat := s.fld .intCfg 0 5 0

/-- Item 0x71: a partition fault or a condemnation (14 R436). -/
def State.faultItem (s : State) (p mem die outcome addr : Nat) : State :=
  s.post s.intRing
    [⟨at_ 56 0x71 ||| at_ 51 mem ||| at_ 50 die ||| at_ 48 outcome ||| at_ 36 p, at_ 0 addr, s.beatWord, 0⟩]

/-- A partition fault, contained at the next boundary (14 R406). In partition 0 only the damaged
packet is discarded. -/
def State.partFault (s : State) (p mem die addr : Nat) : State :=
  let s := (s.bump .intPart p 15 0 1).partCount p 26
  if p = 0 then s else { s with part := { s.part with faults := s.part.faults ++ [(p, mem, die, addr)] } }

/-- A condemnation by the part at the next boundary (14 R406, 10 R311). -/
def State.partCondemn (s : State) (p cause mem die addr : Nat) : State :=
  if p = 0 then s else { s with part := { s.part with condemns := s.part.condemns ++ [(p, cause, mem, die, addr)] } }

/-- A frame received with poison set is counted (14 R408). -/
def State.poisonIn (s : State) (p : Nat) : State := (s.bump .intPart p 31 16 1).partCount p 27

/-- A frame that the partition's state refuses (15 R440). -/
def State.refuse (s : State) (p lane : Nat) : State :=
  ((s.laneCount lane 11).bump .stnPartCnt p 63 32 1).partCount p 4

/-- A stream or copy of a partition that a discard ends (15 R460). -/
def State.discarded (s : State) (p : Nat) : State := (s.bump .stnPartCnt p 31 0 1).partCount p 5

/-- The opcodes that complete work (15 R440). -/
def completes (op : Nat) : Bool :=
  isRsp op || op = opNotify || op = opResult || op = opResultQ || op = opCollStatus || op = opRetract
    || op = opMgmt || op = opMgmtRsp || op = opContrib

/-- The partition's state admits an opcode (15 R440; 03 R80 for partition 0). -/
def State.admits (s : State) (p op : Nat) : Bool :=
  let mgmt := op = opMgmt || op = opMgmtRsp
  if p = 0 then mgmt
  else
    match s.pst p with
    | .created => mgmt
    | .condemned => mgmt
    | .running => if s.draining 1 p then completes op else if s.disabled 1 p then mgmt else true
    | _ => false

/-- An Ethernet frame of a partition: work of no opcode, admitted as a request is. Partition 0 carries
management traffic only (03 R80; log entry 14). -/
def State.admitsEth (s : State) (p : Nat) : Bool :=
  p ≠ 0 && s.pst p = .running && !s.disabled 1 p

end Sys2Proof.Machine
end

