-- ==== Sys2Proof/Machine/Link.lean ====
section
/-! DEFINITION. Lane choice, lane replay, hand-over and credits (06_spraying_and_ordering.md R147 to R157;
07_buffers_queues_shaping.md R187 to R190; 09 R250, R257, R260 for lanes in bypass), and the moves of a lane's optical
state (08 R230, R232). -/

namespace Sys2Proof.Machine

/-! ## Lane states (08 R230 to R233) -/

/-- Change a lane's optical state. -/
def State.setOpt (s : State) (n : Nat) (f : OptLane → OptLane) : State :=
  { s with opt := { s.opt with lanes := SMap.upd {} s.opt.lanes n f } }

/-- Boundaries in a number of milliseconds: 3,906.25 in each (05, ageing: 3,906,250 in a second). -/
def msBeats (ms : Nat) : Nat := ceilDiv (ms * 390625) 100

/-- A lane or laser item (08 R247). -/
def State.leItem (s : State) (e type cause new old lane laser : Nat) (w1 : Word) : State :=
  s.post (s.fld .leCfg e 37 32)
    [⟨at_ 56 type ||| at_ 52 cause ||| at_ 49 new ||| at_ 46 old ||| at_ 36 lane ||| at_ 32 laser, w1, s.beatWord, 0⟩]

/-- The heater code at which a command last left a ring: its park code while it stands parked, else its lock point. A
park code that no calibration since the start has recorded is the device record's (08 R224, R248). -/
def State.heatSet (s : State) (n : Nat) (tx : Bool) : Nat :=
  let o := s.optLane n
  if if tx then o.parkedTx else o.parkedRx then
    ((if tx then o.parkTx else o.parkRx).getD (if s.opt.record then (Config.parkCode (2 * n + b2n tx)).toNat else 0))
  else if tx then o.heatTx else o.heatRx

/-- The heater powers of a lane's rings, transmit first, as a read or an item reports them. Feed-forward and dither move
each heater from where a command left it (08 R223), by an amount that no command gives: a free value. A lane that is OFF
has its heaters off. -/
def State.heats (s : State) (n : Nat) : (Nat × Nat) × State :=
  if (s.optLane n).st = .off then ((0, 0), s)
  else
    let (f, s) := s.freshWord
    (((s.heatSet n true + bits f 11 0) % 4096, (s.heatSet n false + bits f 23 12) % 4096), s)

/-- The lane's own words of its items (08 R247). -/
def State.itemWord (s : State) (n : Nat) : Word × State :=
  let o := s.optLane n
  let (h, s) := s.heats n
  (at_ 52 h.1 ||| at_ 40 h.2 ||| at_ 38 o.pilTx ||| at_ 36 o.pilRx, s)

/-- A lane item of type 0x50: the cause, the new state and the state that the lane comes from. -/
def State.laneItemOf (s : State) (n cause : Nat) (new old : LaneSt) : State :=
  let (w, s) := s.itemWord n
  s.leItem (n / 64) 0x50 cause new.code old.code n 0 w

/-- A lane item for the lane as it stands. -/
def State.laneItem (s : State) (n : Nat) (old : LaneSt) : State :=
  s.laneItemOf n (s.optLane n).cause (s.optLane n).st old

/-- The states whose entry posts an item (08 R247). -/
def LaneSt.posts : LaneSt → Bool
  | .reacq => true
  | .waitLaser => true
  | .failed => true
  | _ => false

/-- The lane as it stands after a move (08 R230): a lane in service that leaves SERVICE keeps with what state and cause
it did, for its item at the boundary. -/
def OptLane.moved (o : OptLane) (st : LaneSt) (cause : Option Nat) (bc : Nat) : OptLane :=
  { o with
    st := st, prev := if o.st = st then o.prev else o.st, cause := cause.getD o.cause, since := bc, cleanFrom := bc,
    ready := false, retrain := o.retrain && st = .calib,
    left := if st = .service then none else if o.st = .service && o.inSvc then some (st, cause.getD o.cause) else o.left }

/-- The clean beats of a lane in TRAIN are counted anew (08 R231). -/
def State.notClean (s : State) (n : Nat) : State :=
  s.setOpt n fun o => { o with ready := false, cleanFrom := s.beat.bc }

/-- Move a lane to a state (08 R230). A lane in service leaves it at the next boundary, where the item of that change is
posted; any other entry to REACQ, WAIT_LASER or FAILED posts its item now (08 R247). -/
def State.moveLane (s : State) (n : Nat) (st : LaneSt) (cause : Option Nat) : State :=
  let o := s.optLane n
  let s := s.setOpt n fun o => o.moved st cause s.beat.bc
  if o.st ≠ st && st.posts && !(o.st = .service && o.inSvc) then s.laneItem n o.st else s

/-- A ring is parked: its heater goes to the park code, and the drive of a modulator is muted (08 R224). -/
def OptLane.park (o : OptLane) (tx : Bool) : OptLane :=
  if tx then { o with txOk := false, txFrom := none, parkedTx := true }
  else { o with rxOk := false, rxFrom := none, parkedRx := true }

/-- A lane goes to FAILED: both rings are parked and the entry is counted (08 R233). -/
def State.laneFailed (s : State) (n cause : Nat) : State :=
  let s := s.setOpt n fun o => (o.park true).park false
  (s.moveLane n .failed (some cause)).bump .leLaneCnt n 7 0 1

/-- A lane leaves SERVICE for TRAIN; the third time within 60 s it goes to FAILED with cause 7
(08 R230, R232). At a port reconfiguration, cause 11, a lane in TRAIN counts its clean beats anew (03 R57) and one in
calibration trains once that completes (08 R238). -/
def State.laneToTrain (s : State) (n cause : Nat) : State :=
  let o := s.optLane n
  if o.st = .calib && cause = 11 then s.setOpt n fun o => { o with retrain := true }
  else if o.st = .train && cause = 11 then s.notClean n
  else if o.st ≠ .service then s
  else
    let recent := (o.departs.filter fun b => s.beat.bc < b + 234375000) ++ [s.beat.bc]
    let s := (s.setOpt n fun o => { o with departs := recent }).moveLane n .train (some cause)
    if 3 ≤ recent.length then s.laneFailed n 7 else s

/-! ## Lanes in bypass (09 R249, R257) -/

/-- The lane of a leaf on wavelength w. -/
def State.bypLane (s : State) (leaf w : Nat) : Nat := s.fld .strLeaf leaf 9 0 / 4 * 4 + w

/-- A circuit holds its lanes in slot x. -/
def Circ.holds (c : Circ) (x : Nat) : Bool :=
  c.start ≤ x && (match c.gone with | some g => decide (x < g) | none => true)

/-- The lane's transmit direction carries nothing in this beat (09 R250). -/
def State.txBypassed (s : State) (n : Nat) : Bool := s.byp.txByp.contains n

/-- The lane's transmit direction is bypassed at the next boundary (09 R257). -/
def State.bypassedNext (s : State) (n : Nat) : Bool :=
  let c := s.beat.bc + 1
  (s.byp.grants.any fun g => g.slot = c && !g.void && s.bypLane g.dst g.plane = n)
    || s.byp.circs.any fun x => x.holds c && s.bypLane x.dst x.plane = n

/-- Whether a frame may start on a lane (09 R250, R257). Before a bypass it must end by 254 ns into the beat; the time
within the beat is open (log entry 6), so that is a free choice. -/
def State.mayStart (s : State) (n : Nat) : Bool × State :=
  if s.txBypassed n then (false, s)
  else if !s.bypassedNext n then (true, s)
  else
    let (f, s) := s.freshWord
    (bit f 0, s)

/-! ## Lane time and the replay buffer (06 R151, R152) -/

/-- Held frames after `t` more bytes of lane time: each leaves once 12,800 bytes have been sent after its last byte. -/
def agedHeld (t : Nat) (l : List Held) : List Held :=
  l.filterMap fun h => if h.since + t < 12800 then some { h with since := h.since + t } else none

/-- A lane sends `t` bytes of lane time. -/
def Lane.pass (l : Lane) (t : Nat) : Lane := { l with used := l.used + t, replay := agedHeld t l.replay }

/-- A numbered frame's last byte enters the replay buffer, in the beat that boundary `beat` began. -/
def Lane.hold (l : Lane) (bytes : List Byte) (beat : Nat) : Lane :=
  let l := l.pass (laneBytes bytes.length)
  { l with replay := l.replay ++ [{ num := l.txNum, bytes := bytes, since := 0, beat := beat }],
           txNum := (l.txNum + 1) % 2 ^ 32 }

/-- A held frame is sent again: it is held anew from its last byte on (DEDUCED, log entry 90). -/
def Lane.again (l : Lane) (h : Held) (beat : Nat) : Lane :=
  let l := { l with replay := l.replay.filter fun x => x.num ≠ h.num }.pass (laneBytes h.bytes.length)
  { l with replay := l.replay ++ [{ h with since := 0, beat := beat }] }

/-- A beat of the lane ends: what it did not use of its 6,400 bytes was idle time, later than every frame of an earlier
beat (log entry 90). A bypassed direction has no lane time, and its request does not age (09 R260). -/
def Lane.beatEnds (l : Lane) (beat : Nat) (rxByp txByp : Bool) : Lane :=
  let l := if txByp then l
    else
      let (now, old) := l.replay.partition fun h => h.beat = beat
      { l with used := l.used - 6400, left := l.left - 6400, replay := agedHeld (6400 - l.used) old ++ now }
  if (rxByp || txByp) && l.attempts ≠ 0 then { l with firstAt := l.firstAt + 1, lastAt := l.lastAt + 1 } else l

/-! ## Lane choice (06 R147, R148) -/

/-- The lanes over which a port's Asune frames may go: in service, switched, not stopped. -/
def State.goodLanes (s : State) (p : Nat) : List Nat :=
  (s.portLanes p).filter fun n => s.laneUp n && s.switched n && !(s.lane n).stopped

/-- Tiles of a class that are on their way out on a lane. -/
def State.inFifo (s : State) (n c : Nat) : Nat :=
  (s.q.copies.filter fun x => x.sending = some n && x.cls = c).foldl (fun k x => k + x.tiles) 0
    + ((s.lane n).ahead.filter fun f => (Hdr.ofBytes f.2).cls = c).foldl (fun k f => k + tilesOf f.2.length) 0

/-- A lane holds credit of a class for t tiles beyond the frames already in its FIFO (06 R147). -/
def State.laneCredit (s : State) (n c t : Nat) : Bool :=
  (s.lane n).hasCredit c (t + s.inFifo n c)

/-- The lanes of a port that are eligible for t tiles of a class (06 R147). -/
def State.eligible (s : State) (p c t : Nat) : List Nat := (s.goodLanes p).filter fun n => s.laneCredit n c t

/-- Lane time of the copy with a number. -/
def State.copyBytes (s : State) (cid : Nat) : Nat :=
  match s.q.copies.find? fun c => c.cid = cid with
  | some c => laneBytes c.flen
  | none => 0

/-- The bytes that wait in a lane's transmit FIFO. How much of the frame in progress is still unsent depends on the time
within the beat: a free value (log entry 6). -/
def State.fifoBytes (s : State) (n : Nat) : Nat × State :=
  let l := s.lane n
  let a := l.ahead.map fun f => laneBytes f.2.length
  let q := l.queue.map s.copyBytes
  match l.now, if l.now = .copy then q ++ a else a ++ q with
  | .idle, all => (all.sum, s)
  | _, [] => (0, s)
  | _, x :: xs =>
    let (f, s) := s.freshWord
    (f.toNat % (x + 1) + xs.sum, s)

/-- The lane with the fewest bytes waiting, the first of `ns` where several have as few (06 R148). -/
def State.fewest (s : State) (ns : List Nat) : Option Nat × State :=
  match ns with
  | [] => (none, s)
  | [n] => (some n, s)
  | n :: ms =>
    let (b, s) := s.fifoBytes n
    let (best, s) := ms.foldl (fun (best, s) m =>
      let (k, s) := State.fifoBytes s m
      (if k < best.2 then (m, k) else best, s)) ((n, b), s)
    (some best.1, s)

/-- The lanes of `ns` on which a frame may start, or follow the one in progress (09 R257). -/
def State.startable (s : State) (ns : List Nat) : List Nat × State :=
  ns.foldl (fun (l, s) n =>
    let (ok, s) := State.mayStart s n
    (if ok then l ++ [n] else l, s)) ([], s)

/-! ## Hop-local frames (03 R627) -/

/-- A hop-local frame leaves on a lane: its payload padded to 256 bytes. -/
def State.emitHop (s : State) (lane op : Nat) (payload : List Byte) : State :=
  let h : Hdr := { op := op, len := payload.length }
  ((s.setLane lane fun l => l.pass (laneBytes 256)).laneSent lane 0 256).emit
    (.hop lane (fitBytes 256 (h.bytes ++ payload)))

/-- The listed class-7 copies before a hop-local frame have not all left (09 R264). -/
def State.hopWaits (s : State) (n : Nat) (h : Hop) : Bool :=
  let listed := match s.portOf n with
    | some p => SMap.get [] s.q.lists p
    | none => []
  h.after.any fun c => listed.contains c || (s.lane n).queue.contains c

/-- Send the hop-local frames that wait no longer, in order. -/
def State.flushHops (s : State) (n : Nat) : State :=
  let (go, stay) := (s.lane n).hops.span fun h => !s.hopWaits n h
  go.foldl (fun s h => s.emitHop n h.op h.pay) (s.setLane n fun l => { l with hops := stay })

/-- Send a hop-local frame on a lane. It never cuts a frame in progress, it waits while its direction is bypassed
(09 R250, R260), and it goes after the listed class-7 copies `after` (09 R264). -/
def State.sendHop (s : State) (lane op : Nat) (payload : List Byte) (after : List Nat := []) : State :=
  let s := s.setLane lane fun l => { l with hops := l.hops ++ [{ op := op, pay := payload, after := after }] }
  if (s.lane lane).now ≠ .idle || s.txBypassed lane then s else s.flushHops lane

/-- The payload of a LINK_REPLAY frame (06 R154). -/
def replayPay (kind pos attempt frame : Nat) : List Byte :=
  wordBytes (at_ 56 kind ||| at_ 48 pos ||| at_ 32 attempt ||| at_ 0 frame) ++ List.replicate 8 0

/-- The lane's port is an Asune port with no conflict (03 R58), and the lane is in service. -/
def State.asuneLane (s : State) (n : Nat) : Bool :=
  s.laneUp n && (match s.portOf n with | some p => !s.portEth p && !s.portConflict p | none => false)

/-! ## What a lane sends -/

/-- A replay or a hand-over of this beat suspends the class-7 bound of the lane's port (02 R48, R50). -/
def State.c7Break (s : State) (n : Nat) : State :=
  { s with beat := { s.beat with c7hit := n :: s.beat.c7hit } }

/-- A replay or the frames of a hand-over are still to be sent on the lane (02 R50). -/
def State.replaying (s : State) (n : Nat) : Bool :=
  let l := s.lane n
  l.asked.isSome || l.left ≠ 0 || !l.ahead.isEmpty

/-- A replay (06 R155): a start, then the held frames from the one asked for, or from the oldest. -/
def State.replayFrom (s : State) (n frame : Nat) : State :=
  let l := s.lane n
  let from' := l.replay.dropWhile fun h => h.num ≠ frame % 2 ^ 32
  let sent := if from' = [] && frame % 2 ^ 32 ≠ l.txNum then l.replay else from'
  let first := match sent with
    | h :: _ => h.num
    | [] => l.txNum
  let bytes := (sent.map fun h => laneBytes h.bytes.length).sum
  let s := s.setLane n fun l => { l with asked := none, left := l.left + bytes }
  let s := s.emitHop n opLinkReplay (replayPay 2 0 0 first)
  let s := sent.foldl (fun s h =>
    ((s.setLane n fun l => l.again h s.beat.bc).laneSent n (Hdr.ofBytes h.bytes).part h.bytes.length).emit
      (.frame n h.bytes)) s
  s.bump .stnLaneRpl n 19 8 (sdiff 32 first (frame % 2 ^ 32)).toNat

/-- The lane begins a frame, unless one is in progress. -/
def State.begin (s : State) (n : Nat) (k : Sending) : State :=
  s.setLane n fun l => { l with now := if l.now = .idle then k else l.now }

/-- A lane that sends nothing goes on: with the hop-local frames that wait, with the replay asked for (06 R155), with the
frames handed over (06 R157), and with its transmit FIFO. -/
def State.startNext (s : State) (n : Nat) : State :=
  if (s.lane n).now ≠ .idle || s.txBypassed n || !s.laneUp n then s
  else
    let s := s.flushHops n
    let s := match (s.lane n).asked with
      | some f => s.replayFrom n f
      | none => s
    let l := s.lane n
    if l.stopped || (l.ahead = [] && l.queue = []) then s
    else
      let (ok, s) := s.mayStart n
      if ok then s.begin n (if l.ahead = [] then .copy else .ahead) else s

/-! ## Frames in progress -/

/-- The copy whose frame is being sent on a lane. -/
def State.sendingOn (s : State) (n : Nat) : Option Copy :=
  if (s.lane n).now = .copy then
    (s.lane n).queue.head?.bind fun cid => s.q.copies.find? fun c => c.cid = cid
  else none

/-- Replace a copy. -/
def State.putCopy (s : State) (c : Copy) : State :=
  { s with q := { s.q with copies := updFirst (fun x => x.cid = c.cid) (fun _ => c) s.q.copies } }

/-- A copy leaves a transmit FIFO and stands in its hardware queue again. -/
def State.unsend (s : State) (n cid : Nat) : State :=
  let s := s.setLane n fun l => { l with queue := l.queue.filter (· ≠ cid) }
  { s with q := { s.q with copies := updFirst (fun x => x.cid = cid) (fun c => { c with sending := none }) s.q.copies } }

/-- End the frame being sent on a lane with an error block; a copy goes back to the head of its queue, and a frame handed
over stays the first of its own (06 R153). -/
def State.cutFrame (s : State) (n : Nat) : State :=
  match (s.lane n).now with
  | .idle => s
  | .ahead => (s.setLane n fun l => { l with now := .idle }).emit (.cut n)
  | .copy =>
    let s := (s.setLane n fun l => { l with now := .idle }).emit (.cut n)
    match (s.lane n).queue with
    | cid :: _ => s.unsend n cid
    | [] => s

/-! ## Receiver (06 R153 to R156) -/

/-- Send a replay request for the first discarded frame, as attempt `a`: at once, ending the frame in progress, or at
the next restart of a direction that is bypassed (09 R260). -/
def State.requestReplay (s : State) (n a : Nat) : State :=
  let s := s.setLane n fun l =>
    { l with req := some (l.req.getD l.rxNum), attempts := a, lastAt := s.beat.bc,
             firstAt := if a = 1 then s.beat.bc else l.firstAt }
  let pay := replayPay 1 0 a ((s.lane n).req.getD 0)
  let s := s.bump .stnLaneRpl n 63 48 1
  if s.txBypassed n then s.sendHop n opLinkReplay pay
  else ((s.cutFrame n).emitHop n opLinkReplay pay).startNext n

/-- The lane is declared down (06 R156): it sends no new frames, and leaves service at the next
boundary. -/
def State.declareDown (s : State) (n : Nat) : State :=
  if (s.lane n).down then s
  else
    let s := s.setLane n fun l => { l with down := true, stopped := true }
    ((s.bump .stnLaneRpl n 7 0 1).laneToTrain n 7).raise .laneDown [n]

/-- One more attempt, or the lane is declared down (06 R156). -/
def State.nextAttempt (s : State) (n : Nat) : State :=
  let l := s.lane n
  if 4 ≤ l.attempts || l.firstAt + 8 ≤ s.beat.bc then s.declareDown n else s.requestReplay n (l.attempts + 1)

/-- The later of two frame numbers. -/
def laterNum (a b : Nat) : Nat := if 0 < sdiff 32 a b then a % 2 ^ 32 else b % 2 ^ 32

/-- The next `k` numbered frames are damaged: they are discarded, with every one after the first of them, and asked for
(06 R153). While a request stands they are some of the frames that it discards. -/
def State.damaged (s : State) (n k : Nat) : State :=
  let l := s.lane n
  let pos := ((if l.req.isSome then l.rxPos else l.rxNum) + k) % 2 ^ 32
  let high := if l.attempts = 0 then pos else laterNum pos l.rxHigh
  let s := s.setLane n fun l => { l with rxPos := pos, rxHigh := high }
  if l.down || l.req.isSome then s
  else if l.attempts = 0 then s.requestReplay n 1
  else s.nextAttempt n

/-- The receiver finds an uncorrectable codeword, which touches `k` numbered frames (06 R153). -/
def State.codeword (s : State) (n k : Nat) : State :=
  if !s.asuneLane n || s.rxIgnored n then s else (s.laneCount n 5).damaged n k

/-- Once every frame that had arrived, damaged or not, has been accepted, the replay was clean and its attempts are over
(06 R156). -/
def Lane.settle (l : Lane) : Lane :=
  if l.attempts ≠ 0 && l.req.isNone && 0 ≤ sdiff 32 l.rxNum l.rxHigh then { l with attempts := 0 } else l

/-- A numbered frame arrives: it is accepted, or discarded while the receiver waits for a start (06 R151, R153). -/
def Lane.arrive (l : Lane) : Lane :=
  if l.req.isSome then
    let pos := (l.rxPos + 1) % 2 ^ 32
    { l with rxPos := pos, rxHigh := laterNum pos l.rxHigh }
  else { l with rxNum := (l.rxNum + 1) % 2 ^ 32 }.settle

/-- No start within 2 beats of the request (06 R156). -/
def State.retryTimeout (s : State) (n : Nat) : State :=
  let l := s.lane n
  if l.down || l.attempts = 0 then s
  else if l.req.isSome && l.lastAt + 2 ≤ s.beat.bc then s.nextAttempt n
  else if l.firstAt + 8 ≤ s.beat.bc then s.declareDown n
  else s

/-- The receiver accepts frames again from the start's frame; skipped ones are lost (06 R155). -/
def State.startReceived (s : State) (n frame : Nat) : State :=
  let l := s.lane n
  match l.req with
  | none => s
  | some f =>
    let gap := sdiff 32 frame f
    let s := s.setLane n fun l => { l with req := none, rxNum := frame % 2 ^ 32 }.settle
    s.bump .stnLaneRpl n 19 8 gap.toNat

/-! ## Sender (06 R155) -/

/-- A replay request arrives: new frames stop, the frame in progress ends as it is, and the replay follows it; at once on
a lane that sends nothing, and at the next restart of a direction that is bypassed (09 R260). -/
def State.replayRequested (s : State) (n frame : Nat) : State :=
  if !s.asuneLane n then s
  else
    let s := ((s.bump .stnLaneRpl n 47 32 1).setLane n fun l => { l with asked := some frame }).c7Break n
    s.startNext n

/-! ## Hand-over (06 R157) -/

/-- Frames handed over on a port go on its lanes: each on the lane that R148 gives it. One that finds no eligible lane
waits, and those of its class behind it. -/
def State.takeResend (s : State) (p : Nat) : State :=
  match SMap.get [] s.lnk.resend p with
  | [] => s
  | fs =>
    let cls := fun (f : Nat × List Byte) => (Hdr.ofBytes f.2).cls
    let (s, stay) := fs.foldl (fun (s, stay) f =>
      if stay.any fun g => cls g = cls f then (s, stay ++ [f])
      else
        let (ns, s) := State.startable s (State.eligible s p (cls f) (tilesOf f.2.length))
        match s.fewest ns with
        | (some n, s) => ((s.setLane n fun l => { l with ahead := l.ahead ++ [f] }).begin n .ahead, stay)
        | (none, s) => (s, stay ++ [f])) (s, ([] : List (Nat × List Byte)))
    { s with lnk := { s.lnk with resend := SMap.set [] s.lnk.resend p stay } }

/-- The lowest in-service lane of a lane's port, other than itself. -/
def State.sibling (s : State) (n : Nat) : Option Nat :=
  match s.portOf n with
  | some p => (s.portLanes p).find? fun m => m ≠ n && s.laneUp m
  | none => none

/-- The neighbour names the last frame of a lane that it accepted: the held frames after it are sent again on the port's
lanes, and those missing in between are lost. -/
def State.handRest (s : State) (p n frame : Nat) : State :=
  let l := s.lane n
  let after := l.replay.filter fun h => 0 < sdiff 32 h.num frame
  let lost := match after with
    | h :: _ => (sdiff 32 h.num frame - 1).toNat
    | [] => (sdiff 32 l.txNum frame - 1).toNat
  let s := (s.setLane n fun l => { l with awaitHand := false, handed := none, replay := [] }).bump .stnLaneRpl n 19 8 lost
  let more := after.map fun h => (n, h.bytes)
  let s := { s with lnk := { s.lnk with resend := SMap.upd [] s.lnk.resend p (· ++ more) } }
  s.takeResend p

/-- The part's own hand-over at the boundary at which the lane leaves service: the last frame that it
accepted on the lane. With no sibling, the held frames are discarded. -/
def State.handOver (s : State) (n : Nat) : State :=
  let s := s.c7Break n
  match s.sibling n with
  | some m =>
    let p := (s.portOf n).getD n
    let last := ((s.lane n).rxNum + 2 ^ 32 - 1) % 2 ^ 32
    let s := (s.setLane n fun l => { l with awaitHand := true }).sendHop m opLinkReplay (replayPay 3 (n - p) 0 last)
    match (s.lane n).handed with
    | some f => s.handRest p n f
    | none => s
  | none =>
    let k := (s.lane n).replay.length
    (s.setLane n fun l => { l with replay := [] }).bump .stnLaneRpl n 19 8 k

/-- The neighbour's hand-over, received on `m` for the lane at `pos` of its port. A lane that is still in service is down
for the neighbour: it leaves service at the next boundary here, too, and is handed over there (08, the example of a
transmit mislock; DEDUCED, log entry 101). -/
def State.handReceived (s : State) (m pos frame : Nat) : State :=
  match s.portOf m with
  | none => s
  | some p =>
    let n := p + pos
    if !(pos < s.portWidth p && s.asuneLane m) then s
    else if (s.lane n).awaitHand then (s.c7Break m).handRest p n frame
    else if s.laneUp n then ((s.c7Break m).declareDown n).setLane n fun l => { l with handed := some frame }
    else s

/-- Frames handed over that no lane of the port can carry any more are discarded, each counted on the lane it comes
from. -/
def State.loseResend (s : State) (p : Nat) : State :=
  (SMap.get [] s.lnk.resend p).foldl (fun s f => s.bump .stnLaneRpl f.1 19 8 1)
    { s with lnk := { s.lnk with resend := SMap.erase s.lnk.resend p } }

/-- A lane that leaves service empties its transmit FIFO: the frame in progress is cut (DEDUCED, log entry 30), its copies
go back to their queues, and the frames handed over to it wait for another lane of port `p`. -/
def State.emptyFifo (s : State) (n : Nat) (p : Option Nat) : State :=
  let s := s.cutFrame n
  let s := (s.lane n).queue.foldl (fun s cid => s.unsend n cid) s
  let a := (s.lane n).ahead
  let s := s.setLane n fun l => { l with ahead := [], hops := [], asked := none, left := 0 }
  match p with
  | some p => { s with lnk := { s.lnk with resend := SMap.upd [] s.lnk.resend p (a ++ ·) } }
  | none => a.foldl (fun s f => s.bump .stnLaneRpl f.1 19 8 1) s

/-! ## Grants (07 R187, R188) -/

/-- Any grant has advanced since the last LINK_CREDIT; by 32 or more. -/
def Lane.advanced (l : Lane) (k : Int) : Bool :=
  k ≤ sdiff 32 l.g5 l.l5 || k ≤ sdiff 32 l.g6 l.l6 || k ≤ sdiff 32 l.g7 l.l7

/-- A LINK_CREDIT frame is due (07 R188). -/
def State.creditDue (s : State) (n : Nat) : Bool :=
  let l := s.lane n
  s.asuneLane n && s.switched n && (s.portOf n).isSome
    && (!l.lSent || l.advanced 32 || (l.advanced 1 && l.lAt + 4 ≤ s.beat.bc) || l.lAt + 64 ≤ s.beat.bc)

/-- Send a LINK_CREDIT frame when it is due. -/
def State.sendCredit (s : State) (n : Nat) : State :=
  if !s.creditDue n then s
  else
    let l := s.lane n
    let s := s.setLane n fun l => { l with l5 := l.g5, l6 := l.g6, l7 := l.g7, lAt := s.beat.bc, lSent := true }
    s.sendHop n opLinkCredit (wordBytes (at_ 32 l.g5 ||| at_ 0 l.g6) ++ wordBytes (at_ 32 l.g7))

/-- A LINK_CREDIT frame arrives: the neighbour's grants (07 R188). -/
def State.creditReceived (s : State) (n a b c : Nat) : State :=
  if s.asuneLane n then
    let s := s.setLane n fun l => { l with ng5 := a % 2 ^ 32, ng6 := b % 2 ^ 32, ng7 := c % 2 ^ 32 }
    match s.portOf n with
    | some p => s.takeResend p
    | none => s
  else s

/-- A lane enters service: numbering and grants start (06 R151, 07 R187, R188). Frames that it still held for a hand-over
that never came are discarded (06 R157). -/
def State.laneEnters (s : State) (n : Nat) : State :=
  let p := s.portOf n
  let c := fun k => match p with
    | some p => s.creditC p k
    | none => 16
  let old := s.lane n
  let s := if old.awaitHand then s.bump .stnLaneRpl n 19 8 old.replay.length else s
  s.setLane n fun l =>
    { h5 := l.h5, h6 := l.h6, h7 := l.h7, g5 := c 5, g6 := c 6, g7 := c 7 }

end Sys2Proof.Machine
end

