-- ==== Sys2Proof/Machine/Station.lean ====
section
/-! DEFINITION. The Figer station interpreter (13_figer_reference.md R388 to R396): a program runs once
for each packet, to completion, on the state of 04 R93. -/

namespace Sys2Proof.Machine

/-- What a station program sees while it runs. `halt`: it has ended. -/
structure Ctx where
  s : State
  t : Stream
  g : List Word
  p : List Bool
  halt : Bool
  pc : Nat

/-- The die on which a station's lookups are made: 0 west, 1 east. -/
structure Place where
  stn : Nat
  pipe : Nat

/-- The die of a station. -/
def Place.die (x : Place) : Nat := dieOfPipe x.pipe

/-- Write a general register. g24 to g31 are read-only to station programs (04 R93). -/
def Ctx.setG (c : Ctx) (d : Nat) (v : Word) : Ctx := if 24 ≤ d then c else { c with g := c.g.set d v }

/-- Read a general register. -/
def Ctx.getG (c : Ctx) (a : Nat) : Word := c.g.getD a 0

/-- The header window, read big-endian from byte `a` (R391). -/
def readH (t : Stream) (a n : Nat) : Word :=
  BitVec.ofNat 64 ((List.range n).foldl (fun v i =>
    v * 256 + (if a + i < t.flen && a + i < 128 then byteAt t.h (a + i) else 0)) 0)

/-- Write the low bytes of `v` big-endian at byte `a` (R391). -/
def writeH (t : Stream) (a n : Nat) (v : Word) : Stream :=
  { t with h := (overlay (t.h.take 128) a (beBytes n v.toNat)).take 128 }

/-- The byte address of format H. -/
def Ctx.addrH (c : Ctx) (w : Word) : Nat :=
  fOff w + if fX w then (c.getG (fA w)).toNat % 128 else 0

/-- `st.m` (R392). -/
def storeMeta (stn : Nat) (t : Stream) (i : Nat) (v : Word) : Stream :=
  if i = 0 then
    if stn = 0 then
      if t.eth then { t with scls := bits v 42 35, part := bits v 34 23, pennant := bit v 18 }
      else { t with scls := bits v 42 35 }
    else t
  else if i = 1 then
    if 1 ≤ stn && stn ≤ 4 then
      { t with m1 := if t.disp = 4 then setBits v 63 61 4 else v }
    else t
  else { t with mx := t.mx.set (i - 2) v }

/-- The operand of format S (R385). -/
def Ctx.operS (c : Ctx) (w : Word) : Nat := if fSi w then fImm14 w else (c.getG (fSa w)).toNat

/-- Add to a programmable counter from a program (17 R497, R394). -/
def State.cntAdd (s : State) (i : Nat) (part : Nat) (v : Nat) : State :=
  if 8191 < i then s
  else
    let w := s.reg .cntPcfg i
    if bit w 63 && bit w 62 && bits w 61 60 = 3 then
      if !bit w 59 || bits w 58 47 = part then s.count (cntProg i) v else s
    else s.bump .cntStatus 0 47 32 1

/-- Take a stream to a leaf's port, or drop it as 03 R78 states. -/
def State.toLeaf (s : State) (t : Stream) (leaf : Nat) : State × Stream :=
  match s.leafPort leaf with
  | some p => (s, t.toPort p)
  | none => (s.count (cntLeaf leaf) 1, t.setDisp 4)

/-- One lookup instruction (R393). -/
def lookupStep (x : Place) (w : Word) (c : Ctx) : Ctx :=
  let op := fOp w
  let a := c.getG (fA w)
  if op = 0x40 then
    match c.s.emLookup a c.t.epoch x.die with
    | .hit i d =>
      let dead := bits a 63 60 = 1 && !c.t.eth && bits a 17 0 = c.t.hdr.dst && seatDead d
      let c := { c with s := c.s.emHit i x.die, t := { c.t with dead := c.t.dead || dead } }
      { c.setG (fD w) d with p := predSet (predSet c.p (fPs w) false) (fPh w) true }
    | .miss => { c.setG (fD w) 0 with p := predSet (predSet c.p (fPs w) false) (fPh w) false }
    | .suspect => { c.setG (fD w) 0 with p := predSet (predSet c.p (fPh w) false) (fPs w) true }
  else
    let v6 := op = 0x42
    let addr := if v6 then a.toNat * 2 ^ 64 + (c.getG (fB w)).toNat else a.toNat % 2 ^ 32
    match c.s.lpmLookup v6 addr c.t.epoch x.die with
    | some r => { c.setG (fD w) (BitVec.ofNat 64 r) with p := predSet c.p (fPh w) true }
    | none => { c.setG (fD w) 0 with p := predSet c.p (fPh w) false }

/-- One stream instruction (R394). -/
def streamStep (w : Word) (c : Ctx) : Ctx :=
  let op := fOp w
  let v := c.operS w
  if op = 0x48 then
    let p := v % 1024
    if c.s.portValid p then { c with t := c.t.toPort p }
    else { c with s := c.s.stnDrop c.t, t := c.t.setDisp 4 }
  else if op = 0x49 then
    let r := c.s.toLeaf c.t (v % 256)
    { c with s := r.1, t := r.2 }
  else if op = 0x4A then
    let t := c.t.setDisp 2
    { c with t := { t with m1 := setBits t.m1 50 37 (v % 16384) } }
  else if op = 0x4B then { c with t := c.t.setDisp 3 }
  else if op = 0x4C then { c with t := { c.t with m1 := setBits c.t.m1 36 30 (v % 128) } }
  else if op = 0x4D then
    if c.t.eth then { c with t := { c.t with h := markIp c.t.h } } else { c with t := { c.t with ce := true } }
  else if op = 0x4E then { c with t := { c.t with scls := v % 256 } }
  else
    { c with s := c.s.cntAdd (fImm14 w) c.t.part (if fSi w then 1 else (c.getG (fSa w)).toNat) }

/-- The effect of one instruction whose guard holds. -/
def stnEffect (x : Place) (w : Word) (c : Ctx) : Ctx :=
  let op := fOp w
  let a := c.getG (fA w)
  let b := c.getG (fB w)
  match stnFmt op with
  | some .A => c.setG (fD w) (aluA op a b (predGet c.p (fPc w)))
  | some .I => c.setG (fD w) (aluI op a w)
  | some .F => c.setG (fD w) (aluF op (c.getG (fD w)) a (fLsb w) (fWid w))
  | some .P => { c with p := predSet c.p (fPd w) (cmpFlag op a (if fPi w then fImm w else b)) }
  | some .Q => { c with p := predSet c.p (fPd w) (predFlag op (predGet c.p (fPa w)) (predGet c.p (fPb w))) }
  | some .H =>
    if op = 0x30 then c.setG (fD w) (readH c.t (c.addrH w) (fSz w))
    else if op = 0x31 then { c with t := writeH c.t (c.addrH w) (fSz w) (c.getG (fD w)) }
    else if op = 0x32 then c.setG (fD w) (c.t.meta (fMi w))
    else { c with t := storeMeta x.stn c.t (fMi w) (c.getG (fD w)) }
  | some .L => lookupStep x w c
  | some .S => streamStep w c
  | some .Z =>
    if op = 0x4D then streamStep w c
    else if op = 0x60 then { c with halt := true }
    else
      let t := { c.t with dropped := true }
      { c with s := c.s.stnDrop c.t, t := if 1 ≤ x.stn && x.stn ≤ 4 then t.setDisp 4 else t, halt := true }
  | some .B => { c with pc := fTarget w }
  | _ => c

/-- The instruction at `a` of a pipeline's copy is damaged (04 R96). -/
def State.damagedAt (s : State) (x : Place) (bank a : Nat) : Bool :=
  s.stn.damage.any fun d => d.pipe = x.pipe && d.station = x.stn && d.bank = bank && d.addr / 2 = a / 2

/-- Run from `c.pc`, with `fuel` instructions left: a program only goes forward (04 R104), so the length
of its section bounds it. -/
def runFrom (x : Place) (bank : Nat) (code : List Word) : Nat → Ctx → Ctx
  | 0, c => c
  | fuel + 1, c =>
    if c.halt then c
    else if c.s.damagedAt x bank c.pc then
      { c with s := c.s.laneCount c.t.cntLane 15, t := { c.t with dropped := true }, halt := true }
    else
      let w := code.getD c.pc 0
      let c' := { c with pc := c.pc + 1 }
      runFrom x bank code fuel (if guardOn c.p w then stnEffect x w c' else c')

/-- Run the program of a dispatch entry on a stream (04 R90, R93). -/
def State.runEntry (s : State) (x : Place) (entry : Nat) (t : Stream) : State × Stream :=
  let mode := entry / 2 ^ 14
  let bank := s.stn.bank t.epoch
  if mode = 0 then (s, t)
  else if mode = 1 then
    let code := bank.code.getD x.stn []
    let s := s.progEvent 0x10 (256 * x.stn + t.scls) (some t.part) 1
    let c := runFrom x (b2n t.epoch) code (code.length + 1)
      { s := s, t := t, g := List.replicate 24 0 ++ fitConsts (bank.consts.getD x.stn []),
        p := List.replicate 8 false, halt := false, pc := entry % 2 ^ 14 }
    (c.s, c.t)
  else (s.stnDrop t, { (if 1 ≤ x.stn && x.stn ≤ 4 then t.setDisp 4 else t) with dropped := true })
where
  /-- The eight constants of the station, zero where the bank names none. -/
  fitConsts (l : List Word) : List Word := (l ++ List.replicate 8 0).take 8

/-- The dispatch entry of a station other than `intake` for a stream class (04 R90). -/
def State.dispEntry (s : State) (e : Bool) (stn scls : Nat) : Nat :=
  ((s.stn.bank e).disp.getD (stn - 1) []).getD scls 0

/-- A station other than `intake` runs its program for a stream that is not dropped (01 R18); disp 4 is dropped (04
R95). -/
def State.runStation (s : State) (x : Place) (t : Stream) : State × Stream :=
  if t.dropped || t.disp = 4 then (s, t) else s.runEntry x (s.dispEntry t.epoch x.stn t.scls) t

end Sys2Proof.Machine
end

