-- ==== Sys2Proof/Machine/Ingress.lean ====
section
/-! DEFINITION. The ingress stations after `intake`: `steer` and its learning, `hold` and the pennants,
`mirror`, and `queue` (03 R86; 06 R159 to R167; 15 R449 to R452; 07 R184, R185). -/

namespace Sys2Proof.Machine

/-! ## steer -/

/-- Learning of a frame's source at `steer` (03 R86, 05 R126). DESIGN CHOICE, log entry 97: a frame that arrives on a
learning Asune port which no valid STR_LEAF names is not learned, since the manual gives no leaf to insert. -/
def State.learnSource (s : State) (t : Stream) : State :=
  if !s.flag .stnPort t.inPort 11 || t.ret then s
  else if t.eth then
    let k := macKey (ethVid t.bytes) (beNat ((t.bytes.drop 6).take 6))
    s.learn k t.inPort t.part t.inPort t.epoch t.die
  else
    match s.leafOfPort t.inPort with
    | some leaf => s.learn (seatKey t.hdr.src) leaf t.part t.inPort t.epoch t.die
    | none => s

/-- A unicast stream whose port is out of service is dropped at `steer` (03 R78, 06 R150, 15 R446). -/
def State.steerCheck (s : State) (t : Stream) : State × Stream :=
  if t.disp = 1 && !t.dropped && !s.portOpen t.port then
    match s.leafOfPort t.port with
    | some l => (s.count (cntLeaf l) 1, t.setDisp 4)
    | none => (s.stnDrop t, t.setDisp 4)
  else (s, t)

/-- STATION_STEER: the first stream of a pipeline that waits for `steer`. -/
def State.steer (s : State) (pipe : Nat) : State :=
  match s.firstAt pipe .steer with
  | none => s
  | some t =>
    let s := if t.dropped then s else s.learnSource t
    let (s, t) := s.runStation { stn := 1, pipe := pipe } t
    let (s, t) := s.steerCheck t
    s.toStage t .hold

/-! ## Sequence records (06 R163) -/

/-- The bucket bits of the region. -/
def State.seqK (s : State) : Nat := Nat.min 24 (Nat.max 10 (s.fld .stnSeqRegion 0 28 24))

/-- The address of record j of a flow's bucket. -/
def State.seqAddr (s : State) (key j : Nat) : Nat :=
  let b := crc32e (s.fld .stnHoldCfg 0 31 0) (wordBytes (flowKeyWord key)) % 2 ^ s.seqK
  s.fld .stnSeqRegion 0 62 34 * 4096 + 128 * b + 32 * j

/-- The key word 0 of a record in use. -/
def seqWord0 (key : Nat) : Word := at_ 63 1 ||| at_ 0 key

/-- The record of a flow: its address. -/
def State.seqFind (s : State) (key : Nat) : Option Nat :=
  ((List.range 4).map (s.seqAddr key)).find? fun a => s.spineWord a = seqWord0 key

/-- The record of a flow, created with next = 0 on its first frame; none where the bucket is full. -/
def State.seqRecord (s : State) (key : Nat) : Option (Nat × State) :=
  match s.seqFind key with
  | some a => some (a, s)
  | none =>
    match ((List.range 4).map (s.seqAddr key)).find? fun a => !bit (s.spineWord a) 63 with
    | none => none
    | some a =>
      let s := { s with mem := { s.mem with spine := memWrite s.mem.spine a (List.replicate 32 0) } }
      some (a, { s.putSpine a (seqWord0 key) with net := { s.net with seqUsed := s.net.seqUsed + 1 } })

/-- next of a record. -/
def State.seqNext (s : State) (a : Nat) : Nat := bits (s.spineWord (a + 8)) 63 48

/-- Advance next past every set bit of seen, from bit 0. -/
def seqAdvance : Nat → Nat → Nat → Nat × Nat
  | 0, next, seen => (next, seen)
  | fuel + 1, next, seen => if seen % 2 = 1 then seqAdvance fuel ((next + 1) % 65536) (seen / 2) else (next, seen)

/-- A terminating frame is accepted: its bit of seen is set and next advances (06 R165). -/
def State.seqAccept (s : State) (key seq : Nat) : State :=
  match s.seqFind key with
  | none => s
  | some a =>
    let w := s.spineWord (a + 8)
    let d := sdiff 16 seq (bits w 63 48)
    if 0 ≤ d && d < 64 then
      let (n, seen) := seqAdvance 64 (bits w 63 48) ((s.spineWord (a + 16)).toNat ||| 2 ^ d.toNat)
      (s.putSpine (a + 8) (setBits w 63 48 n)).putSpine (a + 16) (BitVec.ofNat 64 seen)
    else s

/-- The flow key of a frame (03 R82); on an Ethernet port in_port and m1.port stand for the nodes, with
flow_tag 0 (06 R159). -/
def Stream.key (t : Stream) : Nat :=
  if t.eth then flowKey t.inPort t.port t.part t.cls 0
  else flowKey t.hdr.src t.hdr.dst t.part t.cls t.hdr.flowTag

/-- The frame belongs to a terminating flow (06, "Pennants that end at the part"). -/
def State.seqFlow (s : State) (t : Stream) : Bool :=
  !t.eth && !t.ret && s.isSelf t.hdr.dst && (isMemOp t.hdr.op || t.hdr.op = opContrib)

/-! ## hold -/

/-- Pennants in the hold table. -/
def State.heldCount (s : State) : Nat :=
  (s.net.streams.filter fun t => t.stage = .penHeld || t.stage = .seqHeld).length

/-- A forwarded pennant may go: D − E of its snapshot is zero or more (06 R161). -/
def State.penReady (s : State) (t : Stream) : Bool :=
  match t.bucket with
  | some b => decide (0 ≤ sdiff 32 (s.occD b) t.snap)
  | none => true

/-- Count a stream into its bucket (06 R160). -/
def State.enter (s : State) (t : Stream) : State × Stream :=
  let b := s.bucketOfFlow t.key
  (s.addE b, { t with bucket := some b, snap := s.occE b })

/-- A pennant that must wait: an entry of the hold table, or, when it is full, a wait for one in classes
5 to 7, and a drop in classes 0 to 4 (01 R24). -/
def State.holdPennant (s : State) (t : Stream) (held wait : Stage) : State :=
  if s.heldCount < 16384 then s.toStage { t with since := s.beat.bc } held
  else if 5 ≤ t.cls then s.toStage { t with since := s.beat.bc } wait
  else (s.stnDrop t).endStream t

/-- The sequence check of a terminating frame (06 R165, R167; 14 R405 for a broken record). -/
def State.holdSeq (s : State) (t : Stream) : State :=
  if !s.flag .stnSeqRegion 0 63 then (s.bump .stnHoldCnt 0 15 0 1).endStream t
  else
    match s.seqRecord t.key with
    | none => ((s.bump .stnHoldCnt 0 15 0 1).raise .recordFull [t.key]).endStream t
    | some (a, s) =>
      if s.badRead .spine a 32 then ((s.bump .stnHoldCnt 0 15 0 1).partCondemn t.part 2 4 (spineDie a) a).endStream t
      else
        let d := sdiff 16 t.hdr.flowSeq (s.seqNext a)
        if d < 0 then (s.bump .stnHoldCnt 0 39 28 1).endStream t
        else if 64 ≤ d then (s.bump .stnHoldCnt 0 27 16 1).endStream t
        else
          let (s, t) := s.enter t
          if d = 0 || !t.pennant then s.toStage t .merge
          else s.holdPennant t .seqHeld .seqWait

/-- STATION_HOLD: the first stream of a pipeline that waits for `hold`. A dropped stream passes without
effect (01 R18). -/
def State.hold (s : State) (pipe : Nat) : State :=
  match s.firstAt pipe .hold with
  | none => s
  | some t =>
    let (s, t) := s.runStation { stn := 2, pipe := pipe } t
    if t.dropped || t.disp = 4 then s.toStage t .merge
    else if s.seqFlow t then s.holdSeq t
    else
      let (s, t) := s.enter t
      if t.pennant && !s.penReady t then s.holdPennant t .penHeld .penWait
      else s.toStage t .merge

/-- When an entry of the table frees, the first waiting pennant takes it, in its place in the order of arrival; the
credit of its lane is withheld no longer (06 R161). -/
def State.holdRefill (s : State) : State :=
  if s.heldCount < 16384 then
    match s.net.streams.find? fun t => t.stage = .penWait || t.stage = .seqWait with
    | some t => (s.putStream { t with stage := if t.stage = .penWait then .penHeld else .seqHeld }).advanceG t.inLane
    | none => s
  else s

/-- A pennant goes on to `merge`: its entry of the table frees, and the credit of its lane is withheld no longer
(06 R161). -/
def State.pennantGoes (s : State) (t : Stream) : State :=
  ((s.toStage t .merge).advanceG t.inLane).holdRefill

/-- PENNANT_RELEASE: a held pennant whose condition holds goes on. -/
def State.releasePennant (s : State) (id : Nat) : State :=
  match s.stream id with
  | some t =>
    if (t.stage = .penHeld || t.stage = .penWait) && s.penReady t then
      s.pennantGoes t
    else s
  | none => s

/-- A terminating pennant's turn has come: next has reached its flow_seq (06 R165). -/
def State.seqReady (s : State) (t : Stream) : Bool :=
  match s.seqFind t.key with
  | some a => decide (0 ≤ sdiff 16 (s.seqNext a) t.hdr.flowSeq)
  | none => true

/-- SEQ_PENNANT_RELEASE. -/
def State.releaseSeq (s : State) (id : Nat) : State :=
  match s.stream id with
  | some t =>
    if (t.stage = .seqHeld || t.stage = .seqWait) && s.seqReady t then
      s.pennantGoes t
    else s
  | none => s

/-- The pennant timeout, never below 16 (06 R168, R170). -/
def State.penTimeout (s : State) : Nat := Nat.max 16 (s.fld .stnHoldCfg 0 47 32)

/-- Give up the sequence numbers below a timed-out terminating pennant (06 R166): next = s + 1, seen
cleared, gen + 1. Answers how many were missing, next and gen. -/
def State.seqGiveUp (s : State) (t : Stream) : State × Nat × Nat × Nat :=
  match s.seqFind t.key with
  | none => (s, 0, 0, 0)
  | some a =>
    let w := s.spineWord (a + 8)
    let d := (sdiff 16 t.hdr.flowSeq (bits w 63 48)).toNat
    let seen := (s.spineWord (a + 16)).toNat
    let missing := ((List.range d).filter fun i => (seen >>> i) % 2 = 0).length
    let n := (t.hdr.flowSeq + 1) % 65536
    let g := (bits w 47 40 + 1) % 256
    let w := setBits (setBits w 63 48 n) 47 40 g
    ((s.putSpine (a + 8) w).putSpine (a + 16) 0, missing, n, g)

/-- A pennant at its timeout in step 2 of a boundary: a release takes precedence (06 R166). -/
def State.timeoutPennant (s : State) (id : Nat) : State :=
  match s.stream id with
  | none => s
  | some t =>
    let seq := t.stage = .seqHeld || t.stage = .seqWait
    let pen := t.stage = .penHeld || t.stage = .penWait
    if !(seq || pen) || s.beat.bc < t.since + s.penTimeout then s
    else if seq && s.seqReady t then s.releaseSeq id
    else if pen && s.penReady t then s.releasePennant id
    else
      let (s, missing, n, g) := if seq then s.seqGiveUp t else (s, 0, 0, 0)
      let s := (s.bump .stnHoldCnt 0 63 52 1).bump .stnHoldCnt 0 51 40 missing
      let s := (s.partCount t.part 25).raise .penTimeout (if seq then [t.key, n, g] else [t.key])
      ((s.endStream t).advanceG t.inLane).holdRefill

/-- A pennant that is held, or waits, has done so for its timeout (06 R166). -/
def State.pennantDue (s : State) (id : Nat) : Bool :=
  (s.stream id).any fun t => (t.stage = .seqHeld || t.stage = .seqWait || t.stage = .penHeld || t.stage = .penWait)
    && decide (t.since + s.penTimeout ≤ s.beat.bc)

/-- Every pennant at its timeout, in the order in which they reached `hold` (06 R166). -/
def State.timeoutPennants (s : State) : State :=
  ((s.net.streams.filter fun t => t.stage = .seqHeld || t.stage = .seqWait || t.stage = .penHeld || t.stage = .penWait).map (·.id)).foldl
    State.timeoutPennant s

/-! ## mirror (15 R449 to R452) -/

/-- The shadow of a primary node. -/
def State.shadowOf (s : State) (n : Nat) : Option Nat :=
  if s.flag .stnMir n 63 then some (s.fld .stnMir n 61 44) else none

/-- The primary whose shadow a node is. -/
def State.primaryOf (s : State) (n : Nat) : Option Nat :=
  let b := 0x680000 / 8
  (s.regs.eff.find? fun e => b ≤ e.1 && e.1 < b + 262144 && bit e.2 63 && bits e.2 61 44 = n).map fun e => e.1 - b

/-- The digest of a frame: its header with src_node and ce zero, and its payload (15 R451). -/
def mirrorDigest (bs : List Byte) : Nat :=
  let ws := beWords 6 bs
  let w0 := setBit (setBits (ws.getD 0 0) 45 28 0) 10 false
  crc32c 0xFFFFFFFF (wordBytes w0 ++ ((bs.drop 8).take 36) ++ (bs.drop 48).take (Hdr.ofBytes bs).payLen)

/-- Item 0x7A (15 R463). -/
def State.mismatchItem (s : State) (key : List Nat) (shadow dp ds : Nat) : State :=
  let g := fun i => key.getD i 0
  s.post s.partRing
    [⟨at_ 56 0x7A ||| at_ 44 (g 2) ||| at_ 41 (g 3) ||| at_ 33 (g 4) ||| at_ 15 (g 0),
      at_ 46 (g 1) ||| at_ 28 shadow ||| at_ 12 (g 5), at_ 32 dp ||| at_ 0 ds, s.beatWord⟩]

/-- Take the digest of a frame whose source is a primary or its shadow, and compare it (15 R451). -/
def State.takeDigest (s : State) (t : Stream) : State :=
  if t.eth || t.ret || t.part = 0 then s
  else
    let who := match s.shadowOf t.hdr.src with
      | some _ => some (t.hdr.src, false)
      | none => (s.primaryOf t.hdr.src).map fun p => (p, true)
    match who with
    | none => s
    | some (p, fromS) =>
      let key := [p, t.hdr.dst, t.part, t.cls, t.hdr.flowTag, t.hdr.flowSeq]
      let d := mirrorDigest t.packet
      match s.part.digests.find? fun x => x.key = key with
      | some x =>
        let s := { s with part := { s.part with digests := dropFirst (fun y => y = x) s.part.digests } }
        if x.digest = d then s
        else
          let s := s.bump .stnMir p 43 28 1
          if s.flag .stnMir p 62 then s
          else
            let (dp, ds) := if fromS then (x.digest, d) else (d, x.digest)
            (s.setFlag .stnMir p 62 true).mismatchItem key (s.fld .stnMir p 61 44) dp ds
      | none =>
        if 16384 ≤ s.part.digests.length then s.bump .stnMir p 27 12 1
        else { s with part := { s.part with digests := s.part.digests ++
                [{ prim := p, key := key, digest := d, fromShadow := fromS, since := s.beat.bc }] } }

/-- Frames of a shadow are dropped while it is paired, and for 64 boundaries after mir.clr (15 R452). -/
def State.fromShadow (s : State) (t : Stream) : Bool :=
  !t.eth && !t.ret && t.part ≠ 0
    && ((s.primaryOf t.hdr.src).isSome || s.part.shadowDrop.any fun x => x.1 = t.hdr.src)

/-- The port of a shadow's mirror copy (15 R450), and the lookup's hit bit (05 R119): none where no copy can be made. -/
def State.shadowPort (s : State) (sh : Nat) (e : Bool) (die : Nat) : Option Nat × State :=
  match s.emLookup (seatKey sh) e die with
  | .hit i d => (if seatDead d then none else s.leafPort (seatLeaf d), s.emHit i die)
  | _ => (none, s)

/-- The mirror copy of a unicast stream whose dst_node is a primary (15 R450). -/
def State.mirrorCopy (s : State) (t : Stream) : State × Stream :=
  if t.eth || t.part = 0 || t.disp ≠ 1 then (s, t)
  else
    match s.shadowOf t.hdr.dst with
    | none => (s, t)
    | some sh =>
      match s.shadowPort sh t.epoch t.die with
      | (some p, s) => (s, { t with mirrorTo := some p })
      | (none, s) => (s.bump .stnMir t.hdr.dst 11 0 1, t)

/-- STATION_MIRROR. -/
def State.mirror (s : State) (pipe : Nat) : State :=
  match s.firstAt pipe .mirror with
  | none => s
  | some t =>
    let (s, t) := s.runStation { stn := 4, pipe := pipe } t
    if t.dropped || t.disp = 4 then s.endStream t
    else
      let s := s.takeDigest t
      if s.fromShadow t then s.endStream t
      else
        let (s, t) := s.mirrorCopy t
        s.toStage t .queue

/-- The digest at `idx` of the store has waited mir_window (15 R451). -/
def State.digestDue (s : State) (idx : Nat) : Bool :=
  (s.part.digests[idx]?).any fun x => decide (x.since + Nat.max 16 (s.fld .stnPartCfg 0 63 48) ≤ s.beat.bc)

/-- Every digest that has waited mir_window. -/
def State.digestTimeouts (s : State) : State :=
  let w := Nat.max 16 (s.fld .stnPartCfg 0 63 48)
  let (old, keep) := s.part.digests.partition fun x => decide (x.since + w ≤ s.beat.bc)
  old.foldl (fun s x => s.bump .stnMir x.prim 27 12 1) { s with part := { s.part with digests := keep } }

/-! ## queue (07 R184, R185) -/

/-- One buffer event in each beat for each lane (07 R185, R189): kind 0 buffer, 1 port. -/
def State.raiseOnce (s : State) (kind lane : Nat) (k : EventKind) (args : List Nat) : State :=
  if s.buf.raised.contains (kind, lane) then s
  else ({ s with buf := { s.buf with raised := s.buf.raised ++ [(kind, lane)] } }).raise k args

/-- A lossless stream that finds no tile (07 R185). -/
def State.losslessDrop (s : State) (t : Stream) : State :=
  (((s.laneCount t.cntLane 23).raiseOnce 0 t.cntLane .buffer [1, t.cntLane, t.cls])).endStream t

/-- A stream that finds no tile at `queue`. -/
def State.noTile (s : State) (t : Stream) : State :=
  if 5 ≤ t.cls then s.losslessDrop t
  else
    let port := if t.disp = 1 then t.port else t.inPort
    ((s.count (cntPc (8 * port + t.cls) 2) 1).partCount t.part 7).endStream t

/-- The tiles of a stream at `queue` (01 R20): a unicast packet's lie on the die of its egress pipeline,
or on the other; a packet that is multicast or mirrored on the ingress die. -/
def State.queueTiles (s : State) (t : Stream) (head : Bool) : Option (Alloc × State) :=
  if 2097152 ≤ s.q.copies.length then none
  else if t.disp = 1 && t.mirrorTo.isNone then
    s.allocTiles t.pipe t.tiles t.part t.cls head (dieOfLane t.port) true
  else s.allocTiles t.pipe t.tiles t.part t.cls head t.die false

/-- A forwarded frame received with poison set, of a partition without carry, is discarded before
admission, with a partition fault (14 R408). -/
def State.poisonedOut (s : State) (t : Stream) : Bool := t.poison && !s.carry t.part

/-- STATION_QUEUE. DESIGN CHOICE, log entry 99: `queue`'s own dispatch entry runs before the check of an undecided stream
(04 R91), so a stream that the entry drops counts in stn_drop alone; and a stream whose disp is 3 here, set after `merge`
(04 R95), is dropped and counted nowhere. -/
def State.queue (s : State) (pipe : Nat) : State :=
  match s.firstAt pipe .queue with
  | none => s
  | some t =>
    let (s, t) := s.runStation { stn := 5, pipe := pipe } t
    if t.dropped || t.disp = 4 then s.endStream t
    else if t.disp = 0 || t.disp = 3 then
      (if t.disp = 0 then s.laneCount t.cntLane 17 else s).endStream t
    else if s.poisonedOut t then (s.partFault t.part 0 t.die 0).endStream t
    else
      match s.queueTiles t true with
      | some (a, s) => s.toStage { t with alloc := some a } .pend
      | none => s.noTile t

end Sys2Proof.Machine
end

