-- ==== Sys2Proof/Machine/Egress.lean ====
section
/-! DEFINITION. From `queue` to the lane: results of the return ports, admission (step 5), scheduling
(step 6), `launch`, and the end of a frame (07 R186 to R197; 06 R147 to R152; 01 R19; 04 R92). -/

namespace Sys2Proof.Machine

/-! ## Admission (07 R186, R192) -/

/-- The static limit of a port-class. -/
def State.pcLimit (s : State) (n : Nat) : Nat := Nat.min 1310720 (s.fld .bufPc n 20 0)

/-- One target of a stream: its port, its group member, and whether it is the mirror copy. -/
structure Target where
  port : Nat
  member : Option Nat
  mirror : Bool

/-- The frame is a START frame (11 R345), the first of its round. -/
def startOf (t : Stream) : Bool := t.hdr.op = opCollStatus && byteAt (t.bytes.drop 48) 0 = 1

/-- A lost copy counts in its context, where that exists (11 R344): in the round that has just ended, while its item waits,
unless the frame opens the next. -/
def State.ctxLost (s : State) (i : Nat) (t : Stream) : State :=
  if !startOf t && s.coll.rounds.any fun r => r.ctx = i then
    let l := s.coll.rounds.map fun r => if r.ctx = i then { r with lost := satAdd 16 r.lost 1, branchLost := true } else r
    { s with coll := { s.coll with rounds := l } }
  else
  match SMap.get none s.coll.ctx i with
  | some c =>
    let c := { c with lost := satAdd 16 c.lost 1, branchLost := true }
    { s with coll := { s.coll with ctx := SMap.set none s.coll.ctx i (some c) } }
  | none => s

/-- The context whose frame a broadcast number names: below 4,096 the context itself, and above that a
job-start broadcast. -/
def State.bcastCtx (s : State) (b : Nat) : Option Nat :=
  if b < 4096 then some b else (s.coll.bcasts.find? fun x => x.id = b).map (·.ctx)

/-- A lost branch: the context's lost count, and for a job-start broadcast the group and member (11 R344,
15 R454). -/
def State.loseBranch (s : State) (t : Stream) (member : Option Nat) : State :=
  match t.bcast, member with
  | some (b, g), some j =>
    let s := match s.bcastCtx b with
      | some i => s.ctxLost i t
      | none => s
    if b < 4096 then s else { s with net := { s.net with lost := s.net.lost ++ [(b, g, j)] } }
  | _, _ => s

/-- Every member that a group of the context named when the context was created is a lost branch
(11 R350). -/
def State.loseGroup (s : State) (t : Stream) : State :=
  match t.bcast with
  | some (b, g) =>
    match (s.bcastCtx b).bind fun i => SMap.get none s.coll.ctx i with
    | some c => (c.leaves.getD g []).foldl (fun s j => s.loseBranch t (some j)) s
    | none => s
  | none => s

/-- The copies of a stream (05 R137, 15 R450): members that cannot be reached are counted. -/
def State.targets (s : State) (t : Stream) : State × List Target :=
  if t.disp = 2 then
    let w := s.mcEntry t.epoch t.group
    let bad := s.tbl.mcBad.contains (mcKey t.epoch t.group, t.die)
    if bad then ((groupMembers w).foldl (fun s j => s.loseBranch t (some j)) s, [])
    else
      (groupMembers w).foldl (fun (s, l) j =>
        let leaf := memberLeaf w j
        match s.leafPort leaf with
        | some p => if !t.ret && p = t.inPort then (s, l) else (s, l ++ [{ port := p, member := some j, mirror := false }])
        | none => ((s.count (cntLeaf leaf) 1).loseBranch t (some j), l)) (s, [])
  else
    let m := match t.mirrorTo with
      | some p => [{ port := p, member := none, mirror := true : Target }]
      | none => []
    (s, { port := t.port, member := none, mirror := false } :: m)

/-- The group of a multicast stream cannot be used (05 R137): dropped whole. -/
def State.groupBad (s : State) (t : Stream) : Bool :=
  let w := s.mcEntry t.epoch t.group
  t.disp = 2 && !(bit w 63 && bits w 57 46 = t.part)

/-- The owner record that holds a packet's references: that of its first tile (07 R179). -/
def Stream.firstTile (t : Stream) : Nat :=
  match t.alloc with
  | some a => Buf.key { list := .tile a.die, idx := a.tiles.headD 0 }
  | none => 0

/-- Admit one copy, or drop it at its limit. Answers whether it was admitted and whether it was over
its limit. -/
def State.admitCopy (s : State) (t : Stream) (x : Target) : State × Bool × Bool :=
  let n := 8 * x.port + t.cls
  let occ := SMap.get 0 s.q.occ n
  let overLim := decide (s.pcLimit n < occ + t.tiles)
  if overLim && t.cls < 5 then
    ((((s.count (cntPc n 1) 1).partCount t.part 6).progEvent 0x0A n (some t.part) 1).loseBranch t x.member, false, true)
  else
    let q := 1024 * x.port + 128 * t.cls + t.subq
    let marked := decide (s.fld .bufPc n 41 21 < occ + t.tiles)
    let c : Copy := { cid := s.q.nextCid, sid := t.id, port := x.port, cls := t.cls, subq := t.subq, part := t.part,
                      tiles := t.tiles, tile := t.firstTile, flen := t.flen, ce := marked, member := x.member, mirror := x.mirror,
                      sending := none }
    let s := { s with q := { s.q with copies := s.q.copies ++ [c], nextCid := s.q.nextCid + 1 } }
    let s := s.occAdd n (· + t.tiles)
    let s := (s.count (cntPc n 0) 1).progEvent 0x08 n (some t.part) 1
    let s := s.progEvent 0x0C q (some t.part) 1
    let s := if marked then ((s.count (cntPc n 3) 1).partCount t.part 8).progEvent 0x0B n (some t.part) 1 else s
    (s, true, overLim)

/-- A stream waits for a discard that is due (15 R442): it is not admitted. -/
def State.awaitsDiscard (s : State) (t : Stream) : Bool :=
  s.part.discards.any (fun d => d.kind = 1 && d.idx = t.part)
    || s.part.dis.any (fun d => d.cutDue && d.kind = 1 && d.idx = t.part)
    || (s.part.discards.any fun d => d.kind = 0 && (d.idx = t.inPort && !t.ret || t.disp = 1 && d.idx = t.port))
    || s.part.dis.any (fun d => d.cutDue && d.kind = 0 && (d.idx = t.inPort && !t.ret || t.disp = 1 && d.idx = t.port))

/-- The decision on one pending stream (07 R186, R187). A tracker entry is freed once its reply is
admitted (10 R301). -/
def State.admitOne (s : State) (id : Nat) : State :=
  match s.stream id with
  | none => s
  | some t =>
    if t.stage ≠ .pend || s.awaitsDiscard t then s
    else
      let s := match t.trk with
        | some k => s.dropTrk k
        | none => s
      if s.groupBad t then ((s.loseGroup t).stnDrop t).endStream t
      else
        let (s, l) := s.targets t
        let (s, n, overLim) := l.foldl (fun (s, n, o) x =>
          let (s, ok, ov) := s.admitCopy t x
          (s, if ok then n + 1 else n, o || (ok && ov))) (s, 0, false)
        if n = 0 then s.endStream t
        else
          let s := if overLim then s else s.releaseCredit t
          (s.setRefs t.firstTile n).putStream { t with stage := .stored, credit := t.credit && overLim, trk := none }

/-- Step 5: the pending streams, in the order in which they reached `queue`. -/
def State.admission (s : State) : State :=
  ((s.net.streams.filter fun t => t.stage = .pend).map (·.id)).foldl State.admitOne s

/-! ## Results (01 R19, 04 R92, 07 R191) -/

/-- The stream that a result becomes at `queue`. DESIGN CHOICE, log entry 98: no lane and no port has brought it, and the
programs of `queue`, `shape` and `launch` read 16 times its pipeline as m0.in_lane and 0 as m0.in_port. -/
def State.retStream (s : State) (r : Ret) : Stream :=
  let bs := if r.eth then r.bytes else fitBytes (Nat.max 256 r.bytes.length) r.bytes
  { id := s.net.nextId, pipe := r.pipe, stage := .queue, ret := true, inLane := 16 * r.pipe, inPort := 0,
    eth := r.eth, scls := 255, part := r.part, cls := r.cls, epoch := r.epoch, pennant := false,
    flen := bs.length, m1 := 0, mx := List.replicate 14 0, bytes := bs, h := bs.take 128,
    hdr := Hdr.ofBytes r.bytes, ce := false, poison := !r.eth && (Hdr.ofBytes r.bytes).poison, dead := false,
    dropped := false, bucket := none, snap := 0, since := s.beat.bc, alloc := none, credit := false,
    desc := r.desc, tsReq := r.tsReq, pin := r.pin, bcast := r.bcast, mirrorTo := none, trk := r.trk }

/-- m1 of a result (04 R92), with the counts that a dropped one makes. -/
def State.retRoute (s : State) (r : Ret) (t : Stream) : State × Stream :=
  let m := fun (d port group : Nat) => at_ 61 d ||| at_ 51 port ||| at_ 37 group ||| at_ 30 r.subq
  if r.kind = 1 then (s, { t with m1 := m 2 0 r.target })
  else if r.kind = 2 then (s, { t with m1 := m 1 r.target 0 })
  else
    let die := dieOfPipe r.pipe
    match s.emLookup (seatKey r.target) r.epoch die with
    | .hit i d =>
      let s := s.emHit i die
      if seatDead d then (s.bump .fmemCnt1 0 47 32 1, { t with m1 := m 4 0 0 })
      else
        match s.leafPort (seatLeaf d) with
        | some p => (s, { t with m1 := m 1 p 0 })
        | none => (s.count (cntLeaf (seatLeaf d)) 1, { t with m1 := m 4 0 0 })
    | _ => (s.stnDrop t, { t with m1 := m 4 0 0 })

/-- A result ends without being admitted; its tracker entry is freed (10 R285, last row). -/
def State.endResult (s : State) (t : Stream) : State :=
  let s := match t.trk with
    | some k => s.dropTrk k
    | none => s
  s.sendDone t 0x02

/-- A reply TARGET_DEAD of the part leaves a condemned partition, too (10 R311; log entry 33). -/
def State.deadReply (s : State) (t : Stream) : Bool := t.ret && !t.eth && t.hdr.op = 0x42 && s.pst t.part = .condemned

/-- RESULT_PLACEMENT: the first result of a die's return port is placed at `queue`, and held while it
finds no tile; the unit that produced it then waits (07 R191). -/
def State.place (s : State) (die : Nat) : State :=
  match s.net.ret.find? fun r => dieOfPipe r.pipe = die with
  | none => s
  | some r =>
    let t := s.retStream r
    let taken : State := { s with net := { s.net with
        ret := dropFirst (fun x => dieOfPipe x.pipe = die) s.net.ret, nextId := s.net.nextId + 1 } }
    let own := r.kind = 2
    if !own && !s.admits r.part t.hdr.op && !s.deadReply t then (taken.refuse r.part t.cntLane).endResult t
    else
      let (taken, t) := taken.retRoute r t
      let (taken, t) := taken.runStation { stn := 5, pipe := r.pipe } t
      if t.disp = 4 || t.dropped then taken.endResult t
      else
        let (taken, t) := taken.mirrorCopy t
        match taken.queueTiles t false with
        | none =>
          let hold := fun (x : Ret) => { x with held := true }
          { s with net := { s.net with ret := updFirst (fun x => dieOfPipe x.pipe = die) hold s.net.ret } }
        | some (a, s') =>
          { s' with net := { s'.net with streams := s'.net.streams ++ [{ t with stage := .pend, alloc := some a }] } }

/-! ## Shapers (07 R196 to R198) -/

/-- The register of shaper n: port-class below 8,192, partition from there (07 R215). -/
def State.shaper (s : State) (n : Nat) : Word :=
  if n < 8192 then s.reg .qshPc n else s.reg .qshPart (n - 8192)

/-- Tokens of a shaper, signed, in 1/256 byte. -/
def State.tokens (s : State) (n : Nat) : Int := toSigned 36 (SMap.get 0 s.q.tok n)

/-- Set a shaper's tokens. -/
def State.setTokens (s : State) (n : Nat) (v : Int) : State :=
  { s with q := { s.q with tok := SMap.set 0 s.q.tok n (ofSigned 36 v) } }

/-- B in 1/256 byte. -/
def burstOf (w : Word) : Int := (bits w 55 32 * 256 : Nat)

/-- A write of a shaper (07 R197): tokens clamped to the new burst; B on enabling. -/
def State.writeShaper (s : State) (n : Nat) (old new : Word) : State :=
  if bit new 63 && !bit old 63 then s.setTokens n (burstOf new)
  else if burstOf new < s.tokens n then s.setTokens n (burstOf new)
  else s

/-- The enabled shapers. -/
def State.enabledShapers (s : State) : List Nat :=
  let a := 0x2080000 / 8
  let b := 0x2090000 / 8
  s.regs.eff.filterMap fun e =>
    if a ≤ e.1 && e.1 < a + 8192 && bit e.2 63 then some (e.1 - a)
    else if b ≤ e.1 && e.1 < b + 4096 && bit e.2 63 then some (8192 + (e.1 - b))
    else none

/-- Step 6: tokens = min(B, tokens + r). -/
def State.addTokens (s : State) : State :=
  s.enabledShapers.foldl (fun s n =>
    let w := s.shaper n
    let v := s.tokens n + (bits w 31 0 : Nat)
    s.setTokens n (if burstOf w < v then burstOf w else v)) s

/-! ## The beat lists (07 R194 to R196) -/

/-- What the walk has placed so far. -/
structure Walk where
  list : List Nat
  bytes : Nat
  pc : Nat
  part : SMap Nat

/-- The class is not paused by PFC (03 R71). -/
def State.pfcOpen (s : State) (p c : Nat) : Bool := (SMap.get 0 (s.pfcOf p).paused c) = 0

/-- The opcodes whose lane is chosen by address (06 R149). -/
def byAddress (op : Nat) : Bool := isMemOp op

/-- h of 06 R149. -/
def lineHash (dst off : Nat) : Nat :=
  (List.range 7).foldl (fun h i => h ^^^ (off >>> (6 * i + 6)) % 64) (dst % 64)

/-- The lanes over which `launch` may hand a copy over now (06 R147 to R149): none while it must wait. -/
def State.lanesFor (s : State) (t : Stream) (c : Copy) : List Nat :=
  if s.portEth c.port then (if s.portLanesUp c.port then [c.port] else [])
  else
    match t.pin with
    | some n => if s.laneUp n && s.switched n && !(s.lane n).stopped then [n] else []
    | none =>
      if !t.ret && byAddress t.hdr.op then
        let pool := (s.portLanes c.port).filter fun n => s.laneUp n && s.switched n
        match pool[lineHash t.hdr.dst t.hdr.offset % Nat.max 1 pool.length]? with
        | some n => if s.laneCredit n c.cls c.tiles && !(s.lane n).stopped then [n] else []
        | none => []
      else s.eligible c.port c.cls c.tiles

/-- The walk passes over the class entirely (07 R195). -/
def State.classClosed (s : State) (p c : Nat) : Bool :=
  if s.portEth p then !s.pfcOpen p c
  else 5 ≤ c && !(s.goodLanes p).any fun n => s.laneCredit n c 1

/-- A copy may be placed in the list (07 R195, R196). -/
def State.mayPlace (s : State) (w : Walk) (c : Copy) : Bool :=
  let sh := s.reg .qshPart c.part
  let partOk := !bit sh 63 || decide (0 < s.tokens (8192 + c.part) - (SMap.get 0 w.part c.part * 256 : Nat))
  let laneOk := c.cls < 5 || (match s.stream c.sid with
    | some t => !(s.lanesFor t c).isEmpty
    | none => false)
  partOk && laneOk

/-- The port-class shaper still has projected tokens. -/
def State.pcTokens (s : State) (p c : Nat) (w : Walk) : Bool :=
  !bit (s.reg .qshPc (8 * p + c)) 63 || decide (0 < s.tokens (8 * p + c) - (w.pc * 256 : Nat))

/-- The subqueues of a port-class that hold copies, from the round-robin pointer. -/
def subqOrder (ptr : Nat) (l : List Copy) : List Nat :=
  let qs := ((l.map (·.subq)).eraseDups)
  let key := fun q => (q + 128 - ptr) % 128
  sortBy key qs

/-- One pass over the subqueues of a class: the head of each, where it may be placed. -/
def State.walkPass (s : State) (p c : Nat) (goal : Nat) (l : List Copy) : List Nat → Walk → Walk
  | [], w => w
  | q :: qs, w =>
    if goal ≤ w.bytes || !s.pcTokens p c w then w
    else
      let w := match l.find? fun x => x.subq = q && !w.list.contains x.cid with
        | some x =>
          if s.mayPlace w x then
            { list := w.list ++ [x.cid], bytes := w.bytes + x.flen, pc := w.pc + x.flen,
              part := SMap.upd 0 w.part x.part (· + x.flen) }
          else w
        | none => w
      State.walkPass s p c goal l qs w

/-- The passes over a class, until the list closes or a pass places nothing. -/
def State.walkClass (s : State) (p c goal : Nat) (l : List Copy) (qs : List Nat) : Nat → Walk → Walk
  | 0, w => w
  | fuel + 1, w =>
    let w' := s.walkPass p c goal l qs w
    if w'.list.length = w.list.length || goal ≤ w'.bytes then w' else State.walkClass s p c goal l qs fuel w'

/-- The list of one port: classes from 7 down to 0. -/
def State.portList (s : State) (p : Nat) (part : SMap Nat) : Walk :=
  let mine := s.q.copies.filter fun c => c.port = p && c.sending.isNone
  let goal := s.portWidth p * 6400
  [7, 6, 5, 4, 3, 2, 1, 0].foldl (fun w c =>
    if s.classClosed p c then w
    else
      let l := mine.filter fun x => x.cls = c
      let qs := subqOrder (SMap.get 0 s.q.rr (8 * p + c)) l
      s.walkClass p c goal l qs (l.length + 1) { w with pc := 0 })
    { list := [], bytes := 0, pc := 0, part := part }

/-- Step 6: tokens, then the lists, one port at a time from the port pointer (07 R194, R196). -/
def State.schedule (s : State) : State :=
  let s := s.addTokens
  let ports := (s.q.copies.map (·.port)).eraseDups.filter s.portSends
  let key := fun p => (p + 1024 - s.q.portPtr) % 1024
  let ports := sortBy key ports
  let (lists, _) := ports.foldl (fun (m, part) p =>
    let w := s.portList p part
    (SMap.set [] m p w.list, w.part)) (([] : SMap (List Nat)), ([] : SMap Nat))
  { s with q := { s.q with lists := lists, portPtr := (s.q.portPtr + 1) % 1024 } }

/-! ## launch (06 R147 to R149; 04 R93) -/

/-- Charge a copy's bytes to its shapers (07 R196). -/
def State.charge (s : State) (c : Copy) : State :=
  let one := fun (s : State) (n : Nat) =>
    if bit (s.shaper n) 63 then s.setTokens n (s.tokens n - (c.flen * 256 : Nat)) else s
  one (one s (8 * c.port + c.cls)) (8192 + c.part)

/-- The frame that a copy sends: the header window over the packet, with class, epoch, pennant, ce,
poison and hcrc from the descriptor (04 R93), no node as destination of a group's copy (05 R137); an
Ethernet frame is marked as 07 R192. -/
def copyFrame (t : Stream) (c : Copy) : List Byte :=
  if t.eth then (if c.ce then markIp t.packet else t.packet)
  else
    let w := (beWords 1 t.packet).getD 0 0
    let w := setBits w 15 13 t.cls
    let w := setBit (setBit w 12 t.epoch) 11 t.pennant
    let w := setBit w 10 (bit w 10 || t.hdr.ce || t.ce || c.ce)
    let w := setBit w 9 (bit w 9 || t.poison)
    let w := if c.member.isSome then setBits w 63 46 0x3FFFF else w
    withHcrc (overlay t.packet 0 (wordBytes w))

/-- An Ethernet frame with its FCS regenerated; inverted for a poisoned frame (03 R70, 14 R408). -/
def withFcs (bs : List Byte) (inv : Bool) : List Byte :=
  let f := crc32e 0xFFFFFFFF (bs.take (bs.length - 4))
  bs.take (bs.length - 4) ++ leBytes 4 (if inv then f ^^^ 0xFFFFFFFF else f)

/-- The egress pipeline's program at `shape` or `launch`. -/
def State.egressProgram (s : State) (stn : Nat) (c : Copy) (t : Stream) : State × Stream :=
  s.runStation { stn := stn, pipe := pipeOf c.port } t

/-- A copy ends without leaving; a lost branch is recorded (15 R454). -/
def State.loseCopy (s : State) (c : Copy) : State :=
  let s := match s.stream c.sid with
    | some t => s.loseBranch t c.member
    | none => s
  let last := s.lastCopy c
  let s := match s.stream c.sid with
    | some t => if last then s.sendDone t 0x02 else s
    | none => s
  s.endCopy c

/-- A copy is handed over to a lane's transmit FIFO, and begins where the lane sends nothing. -/
def State.handTo (s : State) (n : Nat) (c : Copy) : State :=
  let s := s.putCopy { c with sending := some n }
  (s.setLane n fun l => { l with queue := l.queue ++ [c.cid] }).begin n .copy

/-- What `launch` does with a copy for which lane n is picked: its programs run, and it is charged, counted and handed over
(04 R93, 07 R194, R196). -/
def State.launchOn (s : State) (t : Stream) (c : Copy) (n : Nat) : State :=
  let s := { s with q := { s.q with lists := SMap.upd [] s.q.lists c.port (·.filter (· ≠ c.cid)) } }
  let (s, t') := s.egressProgram 6 c t
  let (s, t') := s.egressProgram 7 c t'
  if t'.dropped then s.loseCopy c
  else if t.poison && !s.carry t.part then (s.partFault t.part 0 t.die 0).loseCopy c
  else
    let s := (s.charge c).progEvent 0x09 (8 * c.port + c.cls) (some c.part) c.flen
    let s := s.progEvent 0x0D (1024 * c.port + 128 * c.cls + c.subq) (some c.part) c.flen
    let s := { s with q := { s.q with rr := SMap.set 0 s.q.rr (8 * c.port + c.cls) ((c.subq + 1) % 128) } }
    s.handTo n { c with frame := copyFrame { t' with m1 := t.m1 } c }

/-- LAUNCH: hand over the first listed copy of a port for which a lane can be picked now (06 R148, 07 R194, 09 R257).
Frames of a lane handed over go first (06 R157), and grants that waited for listed class-7 copies go once those have left
(09 R264). -/
def State.launch (s : State) (port : Nat) : State :=
  let s := s.takeResend port
  let list := SMap.get [] s.q.lists port
  let s := match list.findSome? fun cid => s.q.copies.find? fun c => c.cid = cid && c.sending.isNone with
    | none => s
    | some c =>
      match s.stream c.sid with
      | none => s
      | some t =>
        let (ns, s) := s.startable (s.lanesFor t c)
        match s.fewest ns with
        | (some n, s) => s.launchOn t c n
        | (none, s) => s
  (s.portLanes port).foldl (fun s n => if (State.lane s n).hops.isEmpty then s else s.startNext n) s

/-! ## The end of a frame (06 R152, R160) -/

/-- Counters of a frame whose last byte left (17 R490, R492). -/
def State.countTx (s : State) (n p f : Nat) : State :=
  ((s.partCount p 2).count (cntPart p 3) f).laneSent n p f

/-- A frame handed over has been sent whole: it is numbered and held on this lane, and counts in S (06 R157, 07 R188). -/
def State.aheadSent (s : State) (n : Nat) (f : List Byte) : State :=
  let h := Hdr.ofBytes f
  let s := s.setLane n fun l =>
    let l := { l with now := .idle, ahead := l.ahead.drop 1 }.hold f s.beat.bc
    if 5 ≤ h.cls then l.addS h.cls (tilesOf f.length) else l
  (s.laneSent n h.part f.length).emit (.frame n f)

/-- A copy has been sent whole: its last byte has entered the replay buffer; on an Ethernet port, the PCS. -/
def State.copySent (s : State) (n : Nat) (c : Copy) : State :=
  let eth := s.portEth c.port
  let poison := match s.stream c.sid with
    | some t => t.poison
    | none => false
  let f := c.frame
  let s := s.setLane n fun l =>
    let l := { l with now := .idle, queue := l.queue.drop 1 }
    if eth then l else
      let l := l.hold f s.beat.bc
      if 5 ≤ c.cls then l.addS c.cls c.tiles else l
  let s := if eth then
      (if poison then s.laneCount c.port 22 else s).emit (.eth c.port (withFcs f poison) poison)
    else s.emit (.frame n f)
  let s := s.countTx n c.part c.flen
  let s := match s.stream c.sid with
    | some t => if s.lastCopy c then s.sendDone t 0x00 else s
    | none => s
  s.endCopy c

/-- FRAME_TRANSMIT_END: the frame in progress on a lane has been sent, and the lane goes on (06 R148, R152, R157). -/
def State.transmitEnd (s : State) (n : Nat) : State :=
  match (s.lane n).now, (s.lane n).ahead, s.sendingOn n with
  | .ahead, f :: _, _ => (s.aheadSent n f.2).startNext n
  | .copy, _, some c => (s.copySent n c).startNext n
  | _, _, _ => s

end Sys2Proof.Machine
end

