-- ==== Sys2Proof/Machine/Pools.lean ====
section
/-! DEFINITION. Weevil, cut free lists, the status of the pools, and the headroom (07_buffers_queues_shaping.md R183,
R200 to R204, R208, R209). -/

namespace Sys2Proof.Machine

/-! ## Weevil's items (R204) -/

/-- A weevil item. `more`: it reports an overcount. `beat`: the beat number of the snapshot. -/
def State.weevilItem (s : State) (type : Nat) (list : ListId) (owner : Option Nat) (more : Bool)
    (count reclaimed addr beat : Nat) : State :=
  s.post (s.fld .bufWeevilCfg 0 37 32)
    [⟨at_ 56 type ||| at_ 52 list.pool.1 ||| at_ 42 list.pool.2 ||| at_ 41 (b2n owner.isSome) ||| at_ 40 (b2n more)
        ||| at_ 0 (owner.getD 0),
      at_ 32 count ||| at_ 0 reclaimed, at_ 0 addr, at_ 32 beat⟩]

/-- An item 0x40 or 0x41, with its counts (R213). -/
def State.weevilFinds (s : State) (type : Nat) (list : ListId) (owner : Option Nat) (more : Bool)
    (count reclaimed addr beat : Nat) : State :=
  let s := s.weevilItem type list owner more count reclaimed addr beat
  (s.bump .bufWeevilStatus 0 31 16 1).bump .bufWeevilStatus 0 15 0 reclaimed

/-! ## The audit (R200) -/

/-- The lists of every pool whose lists or records are not all whole and empty: no other can differ. -/
def State.auditLists (s : State) : List ListId :=
  [.tile 0, .tile 1]
    ++ ((s.drawnClusters.filter (· < 768)).map fun c => poolLists 0 c).flatten ++ poolLists 1 0

/-- Free and in-use, less the size: zero for a pool that nothing has left. Tiles on each die in tiles; staging as a whole in
KiB, and spill in 64 KiB, as their use counts (R208). -/
def State.auditDiffs (s : State) : List Int :=
  let part := fun (l : List ListId) (w : ListId → Nat) (use : Nat) =>
    (l.foldl (fun (n : Int) i => n + ((listLen (s.freeList i) * w i : Nat) : Int) - ((s.listSize i * w i : Nat) : Int)) 0)
      + (use : Int)
  let die := fun (d : Nat) =>
    ((s.freeOn d : Int) - 655360)
      + (((s.buf.tileUse.filter fun e => e.1 / 4096 = d).foldl (fun n e => n + e.2) 0 : Nat) : Int)
  [die 0, die 1,
    part (s.auditLists.filter fun i => i.pool.1 = 2) ListId.kib (s.buf.stgUse.foldl (fun n e => n + e.2) 0),
    part (poolLists 1 0) (fun i => i.kib / 64) (s.buf.spillUse.foldl (fun n e => n + e.2) 0)]

/-- The period of audits: 0 stops them. -/
def State.auditPeriod (s : State) : Nat :=
  let p := s.fld .bufWeevilCfg 0 31 0
  if p = 0 then 0 else Nat.max 1024 p

/-- An audit falls due: no walk is in progress, and its period has passed. -/
def State.auditDue (s : State) : Bool :=
  s.boot.running && s.auditPeriod ≠ 0 && s.buf.walk.isNone && s.buf.auditAt + s.auditPeriod ≤ s.beat.bc

/-- An audit is completed. -/
def State.auditEnd (s : State) : State :=
  s.setFld .bufWeevilStatus 0 63 32 (s.fld .bufWeevilStatus 0 63 32 + 1)

/-- The audit at the snapshot of step 1: a difference starts a walk. -/
def State.weevilAudit (s : State) : State :=
  if !s.auditDue then s
  else
    let s := { s with buf := { s.buf with auditAt := s.beat.bc } }
    if s.auditDiffs.all (· = 0) then s.auditEnd
    else { s with buf := { s.buf with walk := some (s.beat.now % 2 ^ 32) } }

/-! ## The walk (R200, R201) -/

/-- Runs from one place on, in rising order, against the buffers of a list: what no run covers, and what two cover. -/
def sweep (size : Nat) : Nat → List Run → List Run × List Run
  | pos, [] => (if pos < size then [⟨pos, size - pos⟩] else [], [])
  | pos, r :: l =>
    let (gaps, twice) := sweep size (Nat.max pos (r.first + r.count)) l
    (if pos < r.first then ⟨pos, r.first - pos⟩ :: gaps else gaps,
     if r.first < pos then ⟨r.first, Nat.min (pos - r.first) r.count⟩ :: twice else twice)

/-- Every run of a list's free buffers, those in the pipelines' caches included. -/
def State.freeRuns (s : State) (i : ListId) : List Run :=
  s.freeList i ++ (match i with
    | .tile d => (rangeFrom (32 * d) (32 * d + 32)).flatMap fun p => (s.cache p).map fun t => ⟨t, 1⟩
    | _ => [])

/-- What a walk finds in a list: buffers of no record and on no list, and those on it twice or in use beside. -/
def State.walkRuns (s : State) (i : ListId) : List Run × List Run :=
  sweep (s.listSize i) 0 (sortBy Run.first (s.freeRuns i ++ (s.ownersOf i).map fun e => ⟨e.1, 1⟩))

/-- The buffers that runs name. -/
def runBufs (l : List Run) : List Nat := (l.map fun r => rangeFrom r.first (r.first + r.count)).flatten

/-- The buffers that a partition's streams, requests and chunks hold of a list. -/
def State.heldOf (s : State) (i : ListId) (p : Nat) : List Nat :=
  let streams := s.net.streams ++ s.mem.trk.map (·.req) ++ s.mem.late.map (·.req)
  let tiles := (streams.filterMap fun t => if t.part = p then t.alloc else none)
    ++ ((s.coll.checks.filter fun c => c.desc.part = p).map fun c => c.retained.map fun r => r.2.2).flatten
  match i with
  | .tile d => ((tiles.filter fun a => a.die = d).map (·.tiles)).flatten
  | _ => (((s.buf.stg ++ s.buf.spill).filter fun u => u.part = p).map fun u => (u.bufs.filter fun b => b.list = i).map (·.idx)).flatten

/-- The use count of a partition that a walk holds against the records of a list: the buffers of the list that the
partition holds, as far as its use count of the pool goes. -/
def State.useOf (s : State) (i : ListId) (p : Nat) : Nat :=
  match i with
  | .tile d => s.tileUse d p
  | .staging _ _ => Nat.min (SMap.get 0 s.buf.stgUse p / i.kib) (s.heldOf i p).length
  | .spill _ => Nat.min (SMap.get 0 s.buf.spillUse p / (i.kib / 64)) (s.heldOf i p).length

/-- Thread buffers of no owner back onto their list. -/
def State.threadBack (s : State) (i : ListId) (l : List Run) : State :=
  if l = [] then s else s.setList i (l ++ s.freeList i)

/-- A buffer of a record goes back to its list, whatever its refs; its use count stands as it is. -/
def State.takeBack (s : State) (i : ListId) (b : Nat) : State :=
  (s.setOwner (Buf.key ⟨i, b⟩) 0).setList i (pushList b (s.freeList i))

/-- The buffers of a list that a partition's records name beyond its use count: the first that none of its work holds. -/
def State.surplus (s : State) (i : ListId) (p : Nat) : List Nat :=
  let mine := ((s.ownersOf i).filter fun e => bits e.2 11 0 = p).map (·.1)
  let held := s.heldOf i p
  (mine.filter fun b => !held.contains b).take (mine.length - s.useOf i p)

/-- Partitions whose surplus buffers are reclaimed. -/
def PSt.reclaims : PSt → Bool
  | .reset => true
  | .quarantine => true
  | .free => true
  | _ => false

/-- What the walk found of one owner in one list: a partition's surplus is reclaimed unless the partition holds its
work. -/
def State.ownerFound (s : State) (i : ListId) (beat p : Nat) : State :=
  match s.surplus i p with
  | [] => s
  | b :: l =>
    let back := p ≠ 0 && (s.pst p).reclaims
    let t := if back then (b :: l).foldl (fun (s : State) x => s.takeBack i x) s else s
    t.weevilFinds 0x40 i (some p) false (l.length + 1) (if back then l.length + 1 else 0) (s.bufAddr ⟨i, b⟩) beat

/-- The end of the walk for one list: buffers of unknown owner, of each partition, and overcounts. -/
def State.walkList (s : State) (beat : Nat) (i : ListId) : State :=
  let (gaps, twice) := s.walkRuns i
  let owners := ((s.ownersOf i).map fun e => bits e.2 11 0).eraseDups
  let t := match gaps with
    | [] => s
    | r :: _ => (s.threadBack i gaps).weevilFinds 0x40 i none false (listLen gaps) (listLen gaps) (s.bufAddr ⟨i, r.first⟩) beat
  let t := owners.foldl (fun (t : State) p => t.ownerFound i beat p) t
  match twice with
  | [] => t
  | r :: _ => t.weevilFinds 0x40 i none true (listLen twice) 0 (s.bufAddr ⟨i, r.first⟩) beat

/-- WEEVIL_WALK_END (R201). -/
def State.walkEnd (s : State) : State :=
  match s.buf.walk with
  | none => s
  | some beat =>
    let t : State := { s with buf := { s.buf with walk := none } }
    (s.auditLists.foldl (fun (t : State) i => t.walkList beat i) t).auditEnd

/-! ## Cut lists (R203) -/

/-- The link in a free buffer is read with an uncorrectable error: the list ends at that buffer. -/
def State.cutList (s : State) (b : Buf) : State :=
  match cutRuns b.idx (s.freeList b.list) with
  | none => s
  | some (keep, gone) =>
    let addr := s.bufAddr b
    ((s.setList b.list keep).raise .freeList [b.list.pool.1, b.list.pool.2, addr]).weevilItem 0x42 b.list none false
      (listLen gone) 0 addr s.beat.now

/-! ## Teardown (R202) -/

/-- A partition's buffers of a list are reclaimed at its 64th boundary, whatever their refs. -/
def State.tearList (s : State) (p : Nat) (i : ListId) : State :=
  match ((s.ownersOf i).filter fun e => bits e.2 11 0 = p).map (·.1) with
  | [] => s
  | b :: l =>
    ((b :: l).foldl (fun (s : State) x => s.takeBack i x) s).weevilFinds 0x41 i (some p) false (l.length + 1) (l.length + 1)
      (s.bufAddr ⟨i, b⟩) s.beat.now

/-- A stream without its tiles. -/
def Stream.bare (t : Stream) (p : Nat) : Stream := if t.part = p then { t with alloc := none } else t

/-- A partition's use count is zero in every pool. -/
def State.unused (s : State) (p : Nat) : Bool :=
  s.tileUse 0 p = 0 && s.tileUse 1 p = 0 && SMap.get 0 s.buf.stgUse p = 0 && SMap.get 0 s.buf.spillUse p = 0

/-- What a teardown check of a partition finds is reclaimed and reported (R202). -/
def State.teardown (s : State) (p : Nat) : State :=
  if s.unused p then s
  else
    let lists := s.auditLists
    let bareTrk := fun (x : Trk) => ({ x with req := x.req.bare p } : Trk)
    let s : State := { s with
      net := { s.net with streams := s.net.streams.map fun (t : Stream) => t.bare p },
      mem := { s.mem with trk := s.mem.trk.map bareTrk, late := s.mem.late.map bareTrk },
      coll := { s.coll with checks := s.coll.checks.map fun c => if c.desc.part = p then { c with retained := [] } else c },
      buf := { s.buf with
        stg := s.buf.stg.filter (fun u => u.part ≠ p), spill := s.buf.spill.filter (fun u => u.part ≠ p),
        tileUse := SMap.set 0 (SMap.set 0 s.buf.tileUse p 0) (4096 + p) 0,
        stgUse := SMap.set 0 s.buf.stgUse p 0, spillUse := SMap.set 0 s.buf.spillUse p 0 } }
    lists.foldl (fun (s : State) i => s.tearList p i) s

/-- WEEVIL_TEARDOWN_CHECK falls due at the 64th boundary of a partition's reset. -/
def State.teardownDue (s : State) (p : Nat) : Bool :=
  let st := s.pst p
  st = .reset && (s.partInfo p).resetAt + 64 ≤ s.beat.bc

/-- WEEVIL_TEARDOWN_CHECK (R202). -/
def State.teardownCheck (s : State) (p : Nat) : State := if s.teardownDue p then s.teardown p else s

/-- A check that was owed when its boundary passed (20 R582): nothing of a partition that is in use again. -/
def State.teardownOwed (s : State) (p : Nat) : State := if (s.pst p).reclaims then s.teardown p else s

/-! ## Status -/

/-- BUF_PART_USE_p. -/
def State.partUseWord (s : State) (p : Nat) : Word :=
  at_ 42 (s.tileUse 0 p + s.tileUse 1 p) ||| at_ 25 (SMap.get 0 s.buf.stgUse p) ||| at_ 0 (SMap.get 0 s.buf.spillUse p)

/-- BUF_TILE_STATUS. -/
def State.tileStatusWord (s : State) : Word := at_ 40 s.buf.headroom ||| at_ 20 (s.freeOn 1) ||| at_ 0 (s.freeOn 0)

/-- The headroom of R183, recomputed at each boundary: every lane in service of an Asune port, and every Ethernet port in
service. -/
def State.headroomNow (s : State) : Nat :=
  let a := RegKind.off .stnPort 0 / 8
  let ports := ((s.regs.eff.filter fun e => a ≤ e.1 && e.1 < a + 1024).map fun e => e.1 - a).filter s.portValid
  ports.foldl (fun n p =>
    let c := s.creditC p 5 + s.creditC p 6 + s.creditC p 7
    if s.portEth p then n + (if s.portInService p then c else 0)
    else n + ((s.portLanes p).filter s.laneUp).length * c) 0

end Sys2Proof.Machine
end

