-- ==== Sys2Proof/Machine/Coll.lean ====
section
/-! DEFINITION. Collectives: contexts, rounds, chunks and the frames and items about them
(11_collectives.md R319 to R355), and the checks on chunks (14_integrity.md R409 to R418). -/

namespace Sys2Proof.Machine

/-! ## Groups and contributors (R319, R320) -/

/-- The leaves of a rectangle, row by row. -/
def Rect.leaves (r : Rect) : List Nat :=
  ((rangeFrom r.rowLo (r.rowHi + 1)).map fun y => (rangeFrom r.colLo (r.colHi + 1)).map fun x => 16 * y + x).flatten

/-- A leaf lies in a rectangle. -/
def Rect.has (r : Rect) (leaf : Nat) : Bool :=
  r.rowLo ≤ leaf / 16 && leaf / 16 ≤ r.rowHi && r.colLo ≤ leaf % 16 && leaf % 16 ≤ r.colHi

/-- Contributors for each leaf of a rectangle. -/
def Rect.per (r : Rect) (seat : Bool) : Nat := if seat then r.slotHi + 1 - r.slotLo else 1

/-- The contributor index of a leaf and slot. -/
def indexIn (seat : Bool) (leaf slot : Nat) : List Rect → Nat → Option Nat
  | [], _ => none
  | r :: rs, base =>
    if r.has leaf && (!seat || (r.slotLo ≤ slot && slot ≤ r.slotHi)) then
      let pos := (leaf / 16 - r.rowLo) * (r.colHi + 1 - r.colLo) + (leaf % 16 - r.colLo)
      some (base + pos * r.per seat + (if seat then slot - r.slotLo else 0))
    else indexIn seat leaf slot rs (base + (r.rowHi + 1 - r.rowLo) * (r.colHi + 1 - r.colLo) * r.per seat)

/-- A seat is a member of the group. -/
def Desc.member (d : Desc) (leaf slot : Nat) : Bool :=
  slot ≠ 0x1FF && d.rects.any fun r => r.has leaf && r.slotLo ≤ slot && slot ≤ r.slotHi

/-- The contributor index of a seat (R320, R335 order 6). -/
def Desc.index (d : Desc) (leaf slot : Nat) : Option Nat :=
  if d.member leaf slot then indexIn d.seat leaf slot d.rects 0 else none

/-- N. -/
def Desc.n (d : Desc) : Nat :=
  d.rects.foldl (fun n r => n + (r.rowHi + 1 - r.rowLo) * (r.colHi + 1 - r.colLo) * r.per d.seat) 0

/-- Bytes of a chunk. -/
def Desc.chunkLen (d : Desc) : Nat := 256 * d.chunkT

/-- Nominal bytes of a segment. -/
def Desc.segSize (d : Desc) : Nat := 256 * d.segT

/-- Segments of a chunk. -/
def Desc.segs (d : Desc) : Nat := ceilDiv d.chunkT d.segT

/-- Bytes of segment i (R334). -/
def Desc.segLen (d : Desc) (i : Nat) : Nat := Nat.min d.segSize (d.chunkLen - i * d.segSize)

/-- KiB that a chunk's partial draws (R337, 12 R364). -/
def Desc.partialKib (d : Desc) : Nat := ceilDiv (partialBytes d.ar.acc d.ar.inFmt d.chunkLen) 1024

/-! ## Contexts and chunks -/

/-- A context that is not FREE. -/
def State.ctx (s : State) (i : Nat) : Option Context := SMap.get none s.coll.ctx i

/-- Set or free a context. -/
def State.setCtx (s : State) (i : Nat) (c : Option Context) : State :=
  { s with coll := { s.coll with ctx := SMap.set none s.coll.ctx i c } }

/-- Change a context. -/
def State.updCtx (s : State) (i : Nat) (f : Context → Context) : State :=
  match s.ctx i with
  | some c => s.setCtx i (some (f c))
  | none => s

/-- The context of a partition and collective id. -/
def State.ctxOf (s : State) (p coll : Nat) : Option Nat :=
  (s.coll.ctx.find? fun e => match e.2 with
    | some c => c.d.part = p && c.d.collId = coll
    | none => false).map (·.1)

/-- An open chunk. -/
def State.chunk (s : State) (i k : Nat) : Option Chunk := s.coll.chunks.find? fun c => c.ctx = i && c.chunk = k

/-- Replace an open chunk. -/
def State.putChunk (s : State) (c : Chunk) : State :=
  { s with coll := { s.coll with chunks := updFirst (fun x => x.ctx = c.ctx && x.chunk = c.chunk) (fun _ => c) s.coll.chunks } }

/-- The round distance d of a chunk (R326). -/
def Context.dist (c : Context) (k : Nat) : Int := sdiff 20 k c.base

/-- A chunk belongs to the round: its round index. -/
def Context.roundIdx (c : Context) (k : Nat) : Option Nat :=
  let d := c.dist k
  if 0 ≤ d && d < (c.span : Int) && d.toNat % c.stride = c.phase then some ((d.toNat - c.phase) / c.stride) else none

/-- The straggler window of a context for chunks that open now (R322, R323, R352). -/
def State.windowOf (s : State) (d : Desc) : Nat :=
  if d.window ≠ 0 then Nat.max 16 d.window
  else Nat.max 16 (s.fld .collLevelWin 0 (16 * d.level + 15) (16 * d.level))

/-- The part's tail (R330). -/
def State.tail (s : State) : Nat := s.fld .devSelf 0 18 18

/-! ## Active clusters (R336, R348; 14 R423, R424; 19 R555) -/

/-- A cluster is in A: not while it is retired or awaits its return, while its domain is disabled in either mode (DEDUCED,
log entry 114), or while the supply of the domain has failed. -/
def State.clusterActive (s : State) (c : Nat) : Bool :=
  s.fld .intClu c 61 58 ≠ 9 && !s.red.rejoin.contains c && !s.disabled 3 (c / 12) && !(SMap.get ({} : Dom) s.pwr.dom (c / 12)).toFault

/-- A, in ascending order. -/
def State.active (s : State) : List Nat := (List.range 768).filter s.clusterActive

/-! ## Frames (R342 to R346) -/

/-- Send one frame to every listed group of a context: one flow_seq, and one result for each group
(R339, R342; 04 R92; log entry 50). `clu` is the cluster that produced it; none for the controller. -/
def State.sendGroups (s : State) (d : Desc) (seq : Nat) (b : Nat) (clu : Option Nat) (h : Hdr) (pay : List Byte) : State :=
  let h := { h with dst := 0x3FFFF, src := s.selfNode, part := d.part, cls := d.resClass, flowTag := d.resTag,
                    flowSeq := seq, coll := d.collId, len := pay.length }
  let bs := h.bytes ++ pay
  (List.range d.groups.length).foldl (fun (s : State) g =>
    s.toReturn
      { pipe := (clu.getD 0) / 12, unit := (clu.map RetUnit.cluster).getD .controller, bytes := bs, eth := false, part := d.part, cls := d.resClass, epoch := h.epoch,
        kind := 1, target := d.groups.getD g 0, subq := (clu.getD 0) % 128, desc := none, tsReq := false, pin := none,
        bcast := some (b, g), trk := none }) s

/-- The next flow_seq of a context. A context freed meanwhile has none: a free value (log entry 51). -/
def State.nextSeq (s : State) (i : Nat) : Nat × State :=
  match s.ctx i with
  | some c => (c.flowSeq, s.setCtx i (some { c with flowSeq := (c.flowSeq + 1) % 65536 }))
  | none => let (f, s) := s.freshWord; (f.toNat % 65536, s)

/-- The bitmap of R343. -/
def bitmap (who : List Nat) : List Byte :=
  (List.range 128).map fun b =>
    BitVec.ofNat 8 ((List.range 8).foldl (fun v k => if who.contains (8 * b + k) then v + 2 ^ k else v) 0)

/-- The payload of a COLL_STATUS frame (R345). -/
def statusPayload (w0 w1 w2 w3 : Word) (who : List Nat) : List Byte :=
  wordBytes w0 ++ wordBytes w1 ++ wordBytes w2 ++ wordBytes w3 ++ List.replicate 96 0 ++ bitmap who

/-- A CHUNK frame. -/
def State.chunkFrame (s : State) (d : Desc) (i k clu : Nat) (e : Bool) (status : Nat) (present : List Nat) : State :=
  let (q, s) := s.nextSeq i
  s.sendGroups d q i (some clu) { op := opCollStatus, epoch := e, chunk := k }
    (statusPayload (at_ 56 2 ||| at_ 48 status ||| at_ 37 present.length ||| at_ 26 d.n) 0 s.beatWord 0 present)

/-- The words of a round in START and ROUND frames. -/
def Context.roundWord (c : Context) : Word := at_ 44 c.base ||| at_ 24 c.span ||| at_ 12 c.stride ||| at_ 0 c.phase

/-- A START frame of a launch (R327), under broadcast number b. -/
def State.startFrame (s : State) (i b : Nat) : State :=
  match s.ctx i with
  | none => s
  | some c =>
    let (q, s) := s.nextSeq i
    s.sendGroups c.d q b none { op := opCollStatus, epoch := s.stn.cur, chunk := c.base }
      (statusPayload (at_ 56 1 ||| at_ 26 c.d.n) c.roundWord s.beatWord 0 [])

/-- A ROUND frame (R328, R345). -/
def State.roundFrame (s : State) (i status : Nat) : State :=
  match s.ctx i with
  | none => s
  | some c =>
    let (q, s) := s.nextSeq i
    let n := at_ 48 c.nOk ||| at_ 32 c.nQuorum ||| at_ 16 c.nTimeout ||| at_ 0 c.nOther
    s.sendGroups c.d q i none { op := opCollStatus, epoch := s.stn.cur, chunk := c.base }
      (statusPayload (at_ 56 3 ||| at_ 48 status ||| at_ 26 c.d.n) c.roundWord s.beatWord n [])

/-! ## Items (R349) -/

/-- Item 0x69. -/
def State.chunkItem (s : State) (d : Desc) (i k status present : Nat) (lost : Bool) : State :=
  s.post (s.fld .collCfg 0 5 0)
    [⟨at_ 56 0x69 ||| at_ 48 status ||| at_ 36 i ||| at_ 24 d.part ||| at_ 8 d.collId ||| at_ 7 (b2n lost),
      at_ 44 k ||| at_ 33 present, 0, s.beatWord⟩]

/-- Item 0x68 of a round that ends. It counts the copies lost in the round, and those of the round's last frames are
made in step 5 of the boundary, so it is posted after that step (DEDUCED, log entry 32). -/
def State.roundItem (s : State) (i status : Nat) (c : Context) : State :=
  let r : RoundDone :=
    { ctx := i, w0 := at_ 56 0x68 ||| at_ 48 status ||| at_ 36 i ||| at_ 24 c.d.part ||| at_ 8 c.d.collId, w1 := at_ 44 c.base,
      w2 := at_ 48 c.nOk ||| at_ 32 c.nQuorum ||| at_ 16 c.nTimeout ||| at_ 0 c.nOther, w3 := s.beatWord,
      lost := c.lost, branchLost := c.branchLost }
  { s with coll := { s.coll with rounds := s.coll.rounds ++ [r] } }

/-- Post the items of the rounds that have ended at this boundary. -/
def State.postRounds (s : State) : State :=
  let l := s.coll.rounds
  let s : State := { s with coll := { s.coll with rounds := [] } }
  l.foldl (fun (s : State) r =>
    s.post (s.fld .collCfg 0 5 0) [⟨r.w0 ||| at_ 7 (b2n r.branchLost), r.w1, r.w2, r.w3 ||| at_ 16 r.lost⟩]) s

/-! ## Keep (R347; 10 R312) -/

/-- The store that keep makes for chunk j of the round, whole. -/
def keepHdr (d : Desc) (j : Nat) : Hdr :=
  { part := d.part, op := opStCnt, offset := d.keepOff + j * d.chunkLen, len := d.chunkLen, ctr := d.keepCtr }

/-- The check of a keep write (10 R288, as a store with counted increment). -/
def State.keepOk (s : State) (d : Desc) (j : Nat) : Bool :=
  d.keepOff + (j + 1) * d.chunkLen ≤ 2 ^ 46 && (s.checkReq (keepHdr d j)).isNone

/-- A chunk that is not kept: counted, and item 0x63. -/
def State.keepErr (s : State) (d : Desc) (k : Nat) : State :=
  (s.bump .fmemCnt1 0 15 0 1).fmemItem 0x63 0 d.part 0 0 0 d.collId k

/-- Write bytes of a kept chunk, from byte `off` of its place. -/
def State.keepWrite (s : State) (d : Desc) (j off : Nat) (bs : List Byte) : State :=
  let w := s.winAddr (keepHdr d j)
  s.writeMem w.1 (w.2 + off) bs false

/-- Keep a chunk that ended with OK or QUORUM: its sent segments, one after the other. -/
def State.keepChunk (s : State) (d : Desc) (k j : Nat) (segs : List Seg) : State :=
  if s.keepOk d j then
    let s := ((List.range segs.length).zip segs).foldl (fun (s : State) x => s.keepWrite d j (x.1 * d.segSize) x.2.data) s
    s.putCtr d.keepCtr (s.ctr d.keepCtr + 1)
  else s.keepErr d k

/-! ## Checks (14 R412 to R418) -/

/-- The check of an open chunk. -/
def State.check (s : State) (i k : Nat) : Option Check :=
  s.coll.checks.find? fun c => c.ctx = i && c.chunk = k && c.endedAt.isNone

/-- The check that compares a segment: its chunk may have ended. -/
def State.checkOf (s : State) (i k seg : Nat) : Option Check :=
  s.coll.checks.find? fun c => c.ctx = i && c.chunk = k && c.cmps.any fun m => m.seg = seg

/-- Two records are of one check. -/
def Check.same (a b : Check) : Bool := a.ctx = b.ctx && a.chunk = b.chunk && a.openedAt = b.openedAt

/-- Replace a check. -/
def State.putCheck (s : State) (c : Check) : State :=
  { s with coll := { s.coll with checks := updFirst (fun x => x.same c) (fun _ => c) s.coll.checks } }

/-- The arbiter draws its own staging for a compare whose digests differ, or waits for it (14 R415): as much as the chunk's
partial takes (DEDUCED, log entry 108). -/
def State.arbDraw (s : State) (c : Check) : State :=
  if c.arbDrawn || !(c.cmps.any fun m => m.differs.isSome) then s
  else
    match s.drawPool 0 c.arb c.ctx c.chunk c.desc.part c.desc.resClass c.desc.partialKib with
    | some s => s.putCheck { c with arbDrawn := true }
    | none => s

/-- Every arbiter that waits for staging draws again. -/
def State.arbDraws (s : State) : State := s.coll.checks.foldl State.arbDraw s

/-- Replace a check. Its arbiter gives its staging back once no compare is left for it. -/
def State.putCheckArb (s : State) (c : Check) : State :=
  if c.arbDrawn && !(c.cmps.any fun m => m.differs.isSome) then
    (s.freeStaging c.arb c.ctx c.chunk).putCheck { c with arbDrawn := false }
  else s.putCheck c

/-- Release the retained tiles that `p` selects by their segment. -/
def State.releaseTiles (s : State) (c : Check) (p : Nat → Bool) : State × Check :=
  let (out, keep) := c.retained.partition fun r => p r.1
  (out.foldl (fun (s : State) r => s.giveTiles r.2.2 c.desc.part) s, { c with retained := keep })

/-- Item 0x72 (14 R436). -/
def State.mismatchRep (s : State) (c : Check) (outcome seg : Nat) : State :=
  (s.bump .intDupCnt1 0 63 48 1).post s.intRing
    [⟨at_ 56 0x72 ||| at_ 48 outcome ||| at_ 36 c.desc.part ||| at_ 26 c.home ||| at_ 16 c.check ||| at_ 6 c.arb,
      at_ 52 c.ctx ||| at_ 32 c.chunk ||| at_ 24 seg, s.beatWord, 0⟩]

/-- A compare whose digests differ ends unresolved: its segment is tainted (14 R415). -/
def State.unresolved (s : State) (c : Check) (m : Cmp) : State × Check :=
  let s := s.mismatchRep c 3 m.seg
  s.releaseTiles { c with cmps := dropFirst (fun x => x.seg = m.seg) c.cmps, tainted := c.tainted ++ [m.seg], partly := true }
    fun g => g = m.seg

/-- Abandon a check: compares whose digests differ end unresolved, the others are dropped, every retained
tile is released, and the check cluster's part of the work goes (14 R412, R418). -/
def State.abandonCheck (s : State) (c : Check) : State :=
  if c.abandoned then s
  else
  let (s, c) := (c.cmps.filter fun m => m.differs.isSome).foldl (fun (x : State × Check) m => x.1.unresolved x.2 m) (s, c)
  let (s, c) := s.releaseTiles c fun _ => true
  let s := ((s.bump .intDupCnt1 0 31 16 1).putCheckArb { c with cmps := [], partly := true, abandoned := true }).freeStaging
    c.check c.ctx c.chunk
  let s := { s with coll := { s.coll with
      inbuf := s.coll.inbuf.filter fun e => !(e.cluster = c.check && e.ctx = c.ctx && e.chunk = c.chunk) } }
  match s.chunk c.ctx c.chunk with
  | some ch => if ch.openedAt = c.openedAt then s.putChunk { ch with check := none } else s
  | none => s

/-- Abandon the check of a chunk, if it has one. -/
def State.skipCheck (s : State) (i k : Nat) : State :=
  match s.check i k with
  | some c => s.abandonCheck c
  | none => s

/-- A segment was sent: its compare begins. -/
def State.startCompare (s : State) (ch : Chunk) (seg : Nat) (sent : List Byte) : State :=
  match s.check ch.ctx ch.chunk with
  | some c =>
    if ch.check.isSome then
      s.putCheck { c with sentAny := true,
                          cmps := c.cmps ++ [{ seg := seg, digest := crc64 sent, differs := none, sentAt := s.beat.bc }] }
    else s.putCheck { c with sentAny := true }
  | none => s

/-- Contributions to a segment wait in its check cluster's input buffer. -/
def State.checkWaits (s : State) (c : Check) (seg : Nat) : Bool :=
  s.coll.inbuf.any fun e => e.cluster = c.check && e.ctx = c.ctx && e.chunk = c.chunk && e.seg = seg

/-- DIGEST_COMPARE: both clusters have encoded a segment (14 R413), the check cluster after it has combined every
contribution in the home's order (R412). -/
def State.digestCompare (s : State) (i k seg : Nat) (dig : Nat) : State :=
  match s.checkOf i k seg with
  | none => s
  | some c =>
    match c.cmps.find? fun m => m.seg = seg && m.differs.isNone with
    | none => s
    | some m =>
      if s.checkWaits c seg then s
      else if m.digest = dig then
        let (s, c) := s.releaseTiles { c with cmps := dropFirst (fun x => x.seg = seg) c.cmps } fun g => g = seg
        s.putCheck c
      else
        let c := { c with cmps := updFirst (fun x => x.seg = seg) (fun x => { x with differs := some dig }) c.cmps }
        (s.putCheck c).arbDraw c

/-- A suspect event of a cluster: one margin step at the next boundary (14 R422). -/
def State.suspectClu (s : State) (c : Nat) : State :=
  { (s.bump .intClu c 57 42 1).raise .suspectCluster [c] with red := { s.red with suspect := s.red.suspect ++ [c] } }

/-- ARBITER_RESULT: the arbiter has recomputed a segment whose digests differ (14 R414). Until it has staging it waits
(R415). -/
def State.arbiterResult (s : State) (i k seg : Nat) (dig : Nat) : State :=
  match s.checkOf i k seg with
  | none => s
  | some c =>
    match c.cmps.find? fun m => m.seg = seg && m.differs.isSome with
    | none => s
    | some m =>
      if !c.arbDrawn then s
      else
      let home := m.differs = some dig || dig ≠ m.digest
      let chk := m.differs ≠ some dig
      let outcome := if home && chk then 2 else if home then 0 else 1
      let s := s.mismatchRep c outcome seg
      let s := if home then s.suspectClu c.home else s
      let s := if chk then s.suspectClu c.check else s
      let (s, c) := s.releaseTiles
        { c with cmps := dropFirst (fun x => x.seg = seg) c.cmps, tainted := if home then c.tainted ++ [seg] else c.tainted }
        fun g => g = seg
      s.putCheckArb c

/-- check_limit, never below 16. -/
def State.checkLimit (s : State) : Nat := Nat.max 16 (s.fld .intCfg 0 47 32)

/-- A compare has waited check_limit. -/
def State.limitDue (s : State) (i k seg : Nat) : Bool :=
  (s.checkOf i k seg).any fun c => (c.cmps.find? fun m => m.seg = seg).any fun m => decide (m.sentAt + s.checkLimit ≤ s.beat.bc)

/-- A compare at check_limit (14 R417). -/
def State.limitExpiry (s : State) (i k seg : Nat) : State :=
  match s.checkOf i k seg with
  | none => s
  | some c =>
    match c.cmps.find? fun m => m.seg = seg with
    | none => s
    | some m =>
      if !s.limitDue i k seg then s
      else if m.differs.isSome then
        let (s, c) := s.unresolved c m
        s.putCheckArb c
      else
        let (s, c) := (s.bump .intDupCnt1 0 15 0 1).releaseTiles
          { c with cmps := dropFirst (fun x => x.seg = seg) c.cmps, partly := true } fun g => g = seg
        s.putCheck c

/-- Every compare at check_limit. -/
def State.limitExpiries (s : State) : State :=
  ((s.coll.checks.map fun c => c.cmps.map fun m => (c.ctx, c.chunk, m.seg)).flatten).foldl
    (fun (s : State) x => s.limitExpiry x.1 x.2.1 x.2.2) s

/-- The bits of `segs` in a RETRACT frame (R346). -/
def segBits (l : List Nat) : List Byte := (bitmap l).take 32

/-- A check whose last compare has ended, at a boundary (14 R416): a tainted chunk is retracted. -/
def State.settleCheck (s : State) (c : Check) : State :=
  match c.endedAt with
  | none => s
  | some b =>
    if c.cmps ≠ [] then s
    else
      let s := (s.freeStaging c.check c.ctx c.chunk)
      let s := { s with coll := { s.coll with checks := dropFirst (fun x => x.same c) s.coll.checks } }
      if c.tainted = [] then
        if c.sentAny && !c.partly then s.setFld .intDupCnt0 0 31 0 (s.fld .intDupCnt0 0 31 0 + 1) else s
      else
        let (q, s) := s.nextSeq c.ctx
        let s := s.sendGroups c.desc q c.ctx (some c.home) { op := opRetract, epoch := c.epoch, chunk := c.chunk }
          (wordBytes (at_ 56 1) ++ wordBytes (at_ 32 b) ++ List.replicate 16 0 ++ segBits c.tainted)
        let s := s.partCount c.desc.part 24
        let s := s.chunkFrame c.desc c.ctx c.chunk c.home c.epoch 4 c.present
        let lost := match s.ctx c.ctx with
          | some x => x.branchLost
          | none => false
        let s := s.chunkItem c.desc c.ctx c.chunk 4 c.present.length lost
        (s.bump .intDupCnt1 0 47 32 1).partCount c.desc.part 22

/-- Every check whose last compare has ended. -/
def State.settleChecks (s : State) : State := s.coll.checks.foldl State.settleCheck s

/-! ## The end of a chunk (R339, R340, R345) -/

/-- Contributors whose every segment has been delivered and combined (log entry 52). -/
def Chunk.present (c : Chunk) : List Nat :=
  match c.segs with
  | [] => []
  | g :: gs => g.done.filter fun w => gs.all fun x => x.done.contains w

/-- A contribution that waits at `merge` is discarded at the end of its chunk (R350), and the partition's counter of
R335 order 4 does not count it (17 R492). -/
def State.lateWaiters (s : State) (i k : Nat) : State :=
  (s.net.streams.filter fun t =>
    t.stage = .collWait && t.hdr.chunk = k && s.ctxOf t.part t.hdr.coll = some i).foldl
    (fun (s : State) t => (s.bump .collCnt0 0 31 16 1).endStream t) s

/-- Count a chunk's end in its context's round; the round ends at the boundary after its last (R328). -/
def Context.countEnd (c : Context) (k status : Nat) : Context :=
  match c.roundIdx k with
  | none => c
  | some j =>
    let c := { c with ended := c.ended ++ [j], ending := c.ended.length + 1 = c.count }
    if status = 0 then { c with nOk := c.nOk + 1 }
    else if status = 1 then { c with nQuorum := c.nQuorum + 1 }
    else if status = 2 then { c with nTimeout := c.nTimeout + 1 }
    else { c with nOther := c.nOther + 1 }

/-- Take an open chunk away: its staging, spill and input go, and contributions that wait are late. -/
def State.dropChunk (s : State) (ch : Chunk) : State :=
  let s := (s.freeStaging ch.home ch.ctx ch.chunk).freeSpill ch.ctx ch.chunk
  let s := { s with coll := { s.coll with
      chunks := dropFirst (fun x => x.ctx = ch.ctx && x.chunk = ch.chunk) s.coll.chunks,
      inbuf := s.coll.inbuf.filter fun e => !(e.cluster = ch.home && e.ctx = ch.ctx && e.chunk = ch.chunk) } }
  s.lateWaiters ch.ctx ch.chunk

/-- A chunk ends with a status. `frame`: the part sends a CHUNK frame. A chunk that would end with OK or
QUORUM and holds a poisoned segment ends with POISON (14 R409). -/
def State.endChunk (s : State) (ch : Chunk) (status : Nat) (frame : Bool) : State :=
  match s.ctx ch.ctx with
  | none => s
  | some c =>
    let poison := status ≤ 1 && ch.segs.any (·.poison)
    let st := if poison then 6 else status
    let sent := ch.segs.any (·.sent)
    let s := s.dropChunk ch
    let s := s.updCtx ch.ctx fun c => c.countEnd ch.chunk st
    let s := (s.partCount c.d.part (if st ≤ 2 then 19 + st else 22)).progEvent 0x14 ch.ctx none 1
    let s := if sent then s.setFld .intDupCnt0 0 63 32 (s.fld .intDupCnt0 0 63 32 + 1) else s
    let s := match s.check ch.ctx ch.chunk with
      | some x => s.putCheck { x with endedAt := some s.beat.now, present := ch.present, n := c.d.n }
      | none => s
    let s := if frame || poison then s.chunkFrame c.d ch.ctx ch.chunk ch.home ch.epoch st ch.present else s
    let s := if st = 2 || 5 ≤ st then s.chunkItem c.d ch.ctx ch.chunk st ch.present.length c.branchLost else s
    if c.d.keep && !c.d.cascade && st ≤ 1 then
      match c.roundIdx ch.chunk with
      | some j => s.keepChunk c.d ch.chunk j ch.segs
      | none => s
    else s

/-! ## Sending a segment (R339, R340, R343; 12 R373, R374) -/

/-- The state of cell k of a cluster (12 R377). -/
def State.cell (s : State) (c k : Nat) : Nat :=
  (SMap.get none s.red.lfsr (128 * c + k)).getD (lfsrSeed (s.reg .redSeed c) k)

/-- The cells of a cluster after a segment. -/
def State.putCells (s : State) (c : Nat) (cells : List Nat) : State :=
  let m := ((List.range 128).zip cells).foldl (fun m x =>
    let v := if x.2 = lfsrSeed (s.reg .redSeed c) x.1 then none else some x.2
    SMap.set none m (128 * c + x.1) v) s.red.lfsr
  { s with red := { s.red with lfsr := m } }

/-- Re-encode a segment's partial at its home: its data, with the counts of RED_CNT. -/
def State.encode (s : State) (d : Desc) (home seg : Nat) (p : Part) : List Byte × State :=
  let cells := if d.ar.stoch then (List.range 128).map (s.cell home) else []
  let (bs, x) := encodeSeg d.ar (seg * (d.segSize / 8)) p s.free { cells := cells, stoch := d.ar.stoch }
  let spare := if fmtKind d.ar.outFmt = some .sparse then p.acc.length - (p.pres.filter id).length else 0
  let s := { s with free := s.free + spare }
  let s := if d.ar.stoch then s.putCells home x.cells else s
  (bs, ((s.bump .redCnt 0 63 48 x.sat).bump .redCnt 0 47 32 x.ovf).bump .redCnt 0 31 16 x.nan)

/-- The quorum record of R343. -/
def quorumRecord (got : List Nat) (n : Nat) : List Byte :=
  wordBytes (at_ 53 got.length ||| at_ 42 n) ++ List.replicate 120 0 ++ bitmap got

/-- Send a segment to the parent under cascade (R333): the flow's own flow_seq (03 R82). -/
def State.sendUp (s : State) (d : Desc) (ch : Chunk) (h : Hdr) (data : List Byte) : State :=
  let key := flowKey s.selfNode d.parent d.part d.resClass d.resTag
  let h := { h with op := opContrib, dst := d.parent, src := s.selfNode, part := d.part, cls := d.resClass,
                    flowTag := d.resTag, flowSeq := SMap.get 0 s.coll.upSeq key, coll := d.collId, len := data.length }
  let s := { s with coll := { s.coll with upSeq := SMap.upd 0 s.coll.upSeq key fun v => (v + 1) % 65536 } }
  s.toReturn (unicastRet (.cluster ch.home) (ch.home / 12) h data)

/-- Send segment `seg` of an open chunk, as RESULT or RESULT_Q. Answers the chunk with the segment sent. -/
def State.sendSeg (s : State) (d : Desc) (ch : Chunk) (seg : Nat) (q : Bool) : State × Chunk :=
  match ch.segs[seg]? with
  | none => (s, ch)
  | some g =>
    let (data, s) := s.encode d ch.home seg g.part
    let h : Hdr := { op := if q then opResultQ else opResult, epoch := ch.epoch, chunk := ch.chunk,
                     offset := seg * d.segSize, contrib := g.contrib, poison := g.poison }
    let pay := if q then quorumRecord g.done d.n ++ data else data
    let s := if d.cascade then s.sendUp d ch h data
      else
        let (n, s) := s.nextSeq ch.ctx
        s.sendGroups d n ch.ctx (some ch.home) h pay
    let s := s.startCompare ch seg (if d.cascade then data else pay)
    (s, { ch with segs := ch.segs.set seg { g with sent := true, data := data } })

/-! ## Combining (12 R357, R362, R376; 14 R409) -/

/-- The damaged addresses of a cluster's combine code (04 R96). -/
def State.combineDamage (s : State) (clu : Nat) (e : Bool) : List Nat :=
  (s.stn.damage.filter fun d => d.pipe = clu && d.station = 8 && d.bank = b2n e).map (·.addr)

/-- The address at which a custom program starts. -/
def State.combEntry (s : State) (d : Desc) (e : Bool) : Nat := ((s.stn.bank e).combEnt.getD d.comb 0)

/-- Combine a contribution into a segment's partial: the partial, and the sparse entries skipped. -/
def State.combineInto (s : State) (d : Desc) (e : Bool) (seg : Nat) (p : Part) (bs : List Byte) : Part × Nat :=
  if d.ar.op = 0x0F then p.custom d.ar (s.stn.bank e).comb (s.combEntry d e % 2 ^ 14) seg d.segSize bs
  else
    let (x, k) := convertSeg d.ar seg d.segSize bs
    (if p.acc = [] then x else p.combine d.ar x, k)

/-- A custom program of the contribution meets damaged code: its chunk ends with POISON (14 R405). -/
def State.combineHits (s : State) (d : Desc) (clu : Nat) (e : Bool) (seg : Nat) (p : Part) (bs : List Byte) : Bool :=
  let bad := s.combineDamage clu e
  d.ar.op = 0x0F && bad ≠ [] &&
    (let n := (convertSeg d.ar seg d.segSize bs).1.acc.length
     let first := p.acc = []
     fetchesDamage (s.stn.bank e).comb bad (s.combEntry d e % 2 ^ 14) first (n / 128 + 1) (customIns d.ar seg d.segSize bs n)
       (if first then List.replicate n 0 else p.acc))

/-- Take an entry out of the input buffers. -/
def State.dropIn (s : State) (e : InBuf) : State :=
  { s with coll := { s.coll with inbuf := dropFirst (fun x => x = e) s.coll.inbuf } }

/-- A forced test step borrows a cluster: until the beat of its sixteenth step has ended (14 R420). -/
def State.borrowed (s : State) (c : Nat) : Bool :=
  s.red.ft.forced && s.red.ft.cur = some c && (s.red.ft.stepped || s.red.ft.steps < 16)

/-- A cluster takes vectors: it is not regulating after a margin step (14 R422), and no forced step borrows
it (14 R420). -/
def State.clusterFree (s : State) (c : Nat) : Bool := SMap.get 0 s.red.idleTill c ≤ s.beat.bc && !s.borrowed c

/-- The home combines an entry; a complete segment is sent at once, and a complete chunk ends (R339). -/
def State.combineEntry (s : State) (ch : Chunk) (d : Desc) (e : InBuf) : State :=
  match ch.segs[e.seg]? with
  | none => s
  | some g =>
    let s := s.dropIn e
    if ch.poisonEnd then s
    else if g.poison && !s.carry d.part then s.putChunk { ch with poisonEnd := true }
    else if s.combineHits d ch.home ch.epoch e.seg g.part e.data then s.putChunk { ch with poisonEnd := true }
    else
      let (p, skipped) := s.combineInto d ch.epoch e.seg g.part e.data
      let g := { g with part := p, done := g.done ++ [e.who], contrib := g.contrib + e.contrib }
      let s := (s.bump .redCnt 0 15 0 skipped).progEvent 0x15 ch.home none (ceilDiv p.acc.length d.ar.perVector)
      let ch := { ch with segs := ch.segs.set e.seg g }
      if g.done.length = d.n then
        let (s, ch) := (s.putChunk ch).sendSeg d ch e.seg false
        let s := s.putChunk ch
        if ch.segs.all (·.sent) then s.endChunk ch 0 false else s
      else s.putChunk ch

/-- CONTRIBUTION_COMBINE: a cluster combines the first contribution of its input buffer that it can. A
check cluster waits for its home's order (14 R412). -/
def State.combineAt (s : State) (c : Nat) : State :=
  let ready := fun (e : InBuf) =>
    e.cluster = c &&
      (match s.chunk e.ctx e.chunk with
      | some ch => if ch.home = c then ch.place = .staging
          else (match ch.segs[e.seg]? with
            | some g => g.done.contains e.who
            | none => true)
      | none => true)
  if !s.clusterFree c then s
  else
    match s.coll.inbuf.find? ready with
    | none => s
    | some e =>
      match s.chunk e.ctx e.chunk, s.ctx e.ctx with
      | some ch, some x => if ch.home = c then s.combineEntry ch x.d e else s.dropIn e
      | _, _ => s.dropIn e

end Sys2Proof.Machine
end

