-- ==== Sys2Proof/Machine/CollFlow.lean ====
section
/-! DEFINITION. Contributions from `merge` to their cluster, windows, spilling, rounds, and the life of a context
(11_collectives.md R323 to R350; 14_integrity.md R410, R411). -/

namespace Sys2Proof.Machine

/-! ## Opening a chunk (R336, R337; 14 R410, R411) -/

/-- The word whose CRC places a chunk. -/
def chunkWord (i k : Nat) : List Byte := wordBytes (BitVec.ofNat 64 (i <<< 20 ||| k))

/-- The chunk is sampled. -/
def State.sampled (s : State) (i k n : Nat) : Bool :=
  4 ≤ n && decide (crc32c (s.fld .intDupCfg 0 63 32) (chunkWord i k) >>> 20 < Nat.min 4096 (s.fld .intDupCfg 0 12 0))

/-- Open a chunk: its epoch, its home, its window, and the check that samples it. -/
def State.openChunk (s : State) (i : Nat) (c : Context) (k : Nat) (e : Bool) : State × Chunk :=
  let a := s.active
  let n := a.length
  let p := crc32c 0xFFFFFFFF (chunkWord i k) % Nat.max 1 n
  let chk := a.getD ((p + n / 2) % Nat.max 1 n) 0
  let arb := a.getD ((p + n / 4) % Nat.max 1 n) 0
  let ch : Chunk :=
    { ctx := i, chunk := k, epoch := e, home := a.getD p 0, check := if s.sampled i k n then some (chk, arb) else none,
      openedAt := s.beat.bc, window := s.windowOf c.d, segs := List.replicate c.d.segs {} }
  let rec' : Check :=
    { ctx := i, chunk := k, desc := c.d, epoch := e, home := ch.home, check := chk, arb := arb, openedAt := s.beat.bc }
  ({ s with coll := { s.coll with
      chunks := s.coll.chunks ++ [ch],
      checks := if ch.check.isSome then s.coll.checks ++ [rec'] else s.coll.checks } }, ch)

/-- Chunks that hold a place in a cluster's chunk table (12 R364). -/
def State.tableUse (s : State) (c : Nat) : Nat :=
  (s.coll.chunks.filter fun x => x.home = c && x.place ≠ .none).length

/-- The check cluster draws its own staging beside the home, or the check is abandoned (14 R412). -/
def State.drawCheck (s : State) (d : Desc) (ch : Chunk) : State :=
  match ch.check with
  | none => s
  | some (k, _) =>
    match s.drawPool 0 k ch.ctx ch.chunk d.part d.resClass d.partialKib with
    | some s => s
    | none => s.skipCheck ch.ctx ch.chunk

/-- The home draws staging for a chunk that has none, or recalls a spilled partial (R337, R338). -/
def State.draw (s : State) (d : Desc) (i k : Nat) : State :=
  match s.chunk i k with
  | none => s
  | some ch =>
    if ch.place = .none then
      if 128 ≤ s.tableUse ch.home then s
      else
        match s.drawPool 0 ch.home i k d.part d.resClass d.partialKib with
        | some s => (s.putChunk { ch with place := .staging, drawnAt := s.beat.bc }).drawCheck d ch
        | none => s
    else if ch.place = .spill then
      match s.drawPool 0 ch.home i k d.part d.resClass d.partialKib with
      | some s => s.putChunk { ch with place := .recall, drawnAt := s.beat.bc }
      | none => s
    else s

/-! ## Contributions at `merge` (R335, R337; 12 R376, R379; 14 R409, R412) -/

/-- Bytes in a cluster's input buffer. -/
def State.inUse (s : State) (c : Nat) : Nat :=
  (s.coll.inbuf.filter fun e => e.cluster = c).foldl (fun n e => n + e.data.length) 0

/-- The input buffer of a cluster has room for n bytes. -/
def State.inRoom (s : State) (c n : Nat) : Bool := decide (s.inUse c + n ≤ 65536)

/-- The coll key of a frame. -/
def collKey (p coll : Nat) : Word := at_ 60 3 ||| at_ 16 p ||| at_ 0 coll

/-- The context that a frame's coll entry names (R335 order 1). -/
def State.collEntry (s : State) (t : Stream) : State × Option Nat :=
  match s.emLookup (collKey t.part t.hdr.coll) t.epoch t.die with
  | .hit i d => (s.emHit i t.die, if (s.ctx (bits d 63 52)).isSome then some (bits d 63 52) else none)
  | _ => (s, none)

/-- The contributor index of a frame's source (R335 order 6). -/
def State.contributor (s : State) (d : Desc) (t : Stream) : Option Nat :=
  match s.emLookup (seatKey t.hdr.src) t.epoch t.die with
  | .hit _ w => d.index (seatLeaf w) (bits w 37 29)
  | _ => none

/-- The lookup of a frame's source sets its hit bit (05 R119). -/
def State.seatHit (s : State) (t : Stream) : State :=
  match s.emLookup (seatKey t.hdr.src) t.epoch t.die with
  | .hit i _ => s.emHit i t.die
  | _ => s

/-- The sum of contrib that a segment would hold: combined, and waiting in the home's input buffer. -/
def State.segSum (s : State) (ch : Chunk) (seg : Nat) : Nat :=
  ((ch.segs[seg]?.map (·.contrib)).getD 0)
    + (s.coll.inbuf.filter fun e => e.cluster = ch.home && e.ctx = ch.ctx && e.chunk = ch.chunk && e.seg = seg).foldl
        (fun n e => n + e.contrib) 0

/-- Orders 2 to 10 of R335 for a frame of context i: the order of the first check that fails. -/
def State.contribFails (s : State) (i : Nat) (c : Context) (t : Stream) : Option Nat :=
  let h := t.hdr
  let ch := s.chunk i h.chunk
  let seg := h.offset / c.d.segSize
  if !(c.st = .running || (c.st = .draining && ch.isSome)) then some 2
  else if h.chunk % 2 ≠ s.tail then some 3
  else if c.dist h.chunk < 0 || (match c.roundIdx h.chunk with
      | some j => c.ended.contains j
      | none => false) then some 4
  else if (c.roundIdx h.chunk).isNone then some 5
  else
    match s.contributor c.d t with
    | none => some 6
    | some who =>
      if !(h.offset % c.d.segSize = 0 && seg < c.d.segs && h.len = c.d.segLen seg && 1 ≤ h.contrib && h.contrib ≤ 131072) then some 7
      else
        match ch with
        | none => none
        | some x =>
          if ((x.segs[seg]?.map fun g => g.got.contains who).getD false) then some 8
          else if 131072 < s.segSum x seg + h.contrib then some 9
          else if x.epoch ≠ t.epoch then some 10
          else none

/-- Count a failed check (R354). -/
def State.contribCount (s : State) (k p : Nat) : State :=
  if k = 1 then s.bump .collCnt0 0 63 48 1
  else if k = 2 then s.bump .collCnt0 0 47 32 1
  else if k = 4 then (s.bump .collCnt0 0 31 16 1).partCount p 23
  else if k = 5 then s.bump .collCnt0 0 15 0 1
  else if k = 6 then s.bump .collCnt1 0 63 48 1
  else if k = 7 || k = 9 then s.bump .collCnt1 0 47 32 1
  else if k = 8 then s.bump .collCnt1 0 31 16 1
  else s.bump .collCnt1 0 15 0 1

/-- The contribution leaves `merge` for its cluster (06 R160, R165; 07 R187). -/
def State.contribLeaves (s : State) (t : Stream) : State :=
  let s := (((s.dropStream t.id).addD t.bucket).releaseCredit t).freeStreamTiles t
  if s.seqFlow t then s.seqAccept t.key t.hdr.flowSeq else s

/-- Hold the tiles of a sampled contribution (14 R412), and hand it to the check cluster; a check that cannot
take it is abandoned. -/
def State.checkTakes (s : State) (ch : Chunk) (t : Stream) (e : InBuf) : State :=
  match ch.check, s.check ch.ctx ch.chunk with
  | some (k, _), some c =>
    if !s.inRoom k e.data.length then s.abandonCheck c
    else
      match s.allocTiles t.pipe t.tiles t.part t.cls false t.die true with
      | none => s.abandonCheck c
      | some (a, s) =>
        let s := s.putCheck { c with retained := c.retained ++ [(e.seg, t.cls, a)] }
        { s with coll := { s.coll with inbuf := s.coll.inbuf ++ [{ e with cluster := k }] } }
  | _, _ => s

/-- The home's input buffer takes a contribution. -/
def State.takeContrib (s : State) (ch : Chunk) (d : Desc) (t : Stream) (who : Nat) : State :=
  let h := t.hdr
  let seg := h.offset / d.segSize
  let e : InBuf := { cluster := ch.home, ctx := ch.ctx, chunk := ch.chunk, seg := seg, who := who, contrib := h.contrib,
                     poison := h.poison, data := fitBytes h.len (t.bytes.drop 48) }
  let carry := s.carry d.part
  let segs := ch.segs.set seg (match ch.segs[seg]? with
    | some g => { g with got := g.got ++ [who], poison := g.poison || (h.poison && carry) }
    | none => {})
  let s := s.putChunk { ch with segs := segs, poisonEnd := ch.poisonEnd || (h.poison && !carry) }
  let s : State := { s with coll := { s.coll with inbuf := s.coll.inbuf ++ [e] } }
  (s.checkTakes ch t e).contribLeaves t

/-- Streams that wait at `merge` ahead of `id` for the same chunk, or for the same home. -/
def State.aheadOf (s : State) (i k home id : Nat) : Bool :=
  (s.net.streams.takeWhile fun t => t.id ≠ id).any fun t =>
    t.stage = .collWait &&
      (match s.ctxOf t.part t.hdr.coll with
      | some j => (j = i && t.hdr.chunk = k) ||
          (match s.chunk j t.hdr.chunk with
          | some x => x.home = home && x.place = .staging
          | none => false)
      | none => false)

/-- Offer a contribution that has passed its checks to its home. Answers whether the home took it. -/
def State.offer (s : State) (i : Nat) (c : Context) (t : Stream) : State × Bool :=
  match s.chunk i t.hdr.chunk, s.contributor c.d t with
  | some ch, some who =>
    if ch.place = .staging && s.inRoom ch.home t.hdr.len && !s.aheadOf i ch.chunk ch.home t.id then
      (s.takeContrib ch c.d t who, true)
    else (s, false)
  | _, _ => (s, false)

/-- A stream waits at `merge`: it takes its place behind those that wait already. -/
def State.waitAt (s : State) (t : Stream) (g : Stage) : State :=
  let s := s.dropStream t.id
  { s with net := { s.net with streams := s.net.streams ++ [{ t with stage := g, since := s.beat.bc }] } }

/-- The custom program's entry of the chunk's epoch is RUN (12 R376). -/
def State.customRuns (s : State) (d : Desc) (e : Bool) : Bool := d.ar.op ≠ 0x0F || s.combEntry d e / 2 ^ 14 = 1

/-- A CONTRIB at `merge`. -/
def State.contribution (s : State) (t : Stream) : State :=
  let (s, i?) := s.collEntry t
  let isOpen := match s.ctxOf t.part t.hdr.coll with
    | some i => (s.chunk i t.hdr.chunk).isSome
    | none => false
  if s.draining 1 t.part && !isOpen then (s.refuse t.part t.cntLane).endStream t
  else
    match i? with
    | none => (s.contribCount 1 t.part).endStream t
    | some i =>
      match s.ctx i with
      | none => (s.contribCount 1 t.part).endStream t
      | some c =>
        match s.contribFails i c t with
        | some k => ((if k < 6 then s else s.seatHit t).contribCount k t.part).endStream t
        | none =>
          let s := s.seatHit t
          match s.chunk i t.hdr.chunk with
          | some _ =>
            let s := s.draw c.d i t.hdr.chunk
            let (s, took) := s.offer i c t
            if took then s else s.waitAt t .collWait
          | none =>
            if !s.customRuns c.d t.epoch then (s.contribCount 7 t.part).endStream t
            else if s.active = [] then s.waitAt t .collWait
            else
              let (s, _) := s.openChunk i c t.hdr.chunk t.epoch
              let s := s.draw c.d i t.hdr.chunk
              let (s, took) := s.offer i c t
              if took then s else s.waitAt t .collWait

/-- A contribution that waits is discarded because its chunk has ended: counted in late (R350, R354), and not in the
partition's counter of R335 order 4 (17 R492). -/
def State.lateWaiter (s : State) (t : Stream) : State := (s.bump .collCnt0 0 31 16 1).endStream t

/-- One waiting contribution: its checks still hold, and its home takes it, or it waits on. -/
def State.serveWaiter (s : State) (t : Stream) : State :=
  match s.ctxOf t.part t.hdr.coll with
  | none => s.lateWaiter t
  | some i =>
    match s.ctx i with
    | none => s
    | some c =>
      match s.contribFails i c t with
      | some k => if k = 2 || k = 4 then s.lateWaiter t else (s.contribCount k t.part).endStream t
      | none =>
        let s := if (s.chunk i t.hdr.chunk).isNone && s.active ≠ [] && s.customRuns c.d t.epoch then
            let s := (s.openChunk i c t.hdr.chunk t.epoch).1
            s.draw c.d i t.hdr.chunk
          else s
        (s.offer i c t).1

/-- The contributions that wait, in their order. -/
def State.serveWaiters (s : State) : State :=
  (s.net.streams.filter fun t => t.stage = .collWait).foldl State.serveWaiter s

/-- Something waits for a chunk's partial to be in staging. -/
def State.wanted (s : State) (i k : Nat) : Bool :=
  (s.coll.inbuf.any fun e => e.ctx = i && e.chunk = k)
    || s.net.streams.any fun t => t.stage = .collWait && t.hdr.chunk = k && s.ctxOf t.part t.hdr.coll = some i

/-- STAGING_DRAW: the home of a chunk whose contributions wait draws again (R337, R338). -/
def State.stagingDraw (s : State) (i k : Nat) : State :=
  match s.ctx i with
  | some c => if s.wanted i k then (s.draw c.d i k).serveWaiters else s
  | none => s

/-- CONTRIBUTION_COMBINE, and the room that it makes. A cluster whose result the return port holds waits (07 R191). -/
def State.combineStep (s : State) (c : Nat) : State :=
  if s.unitWaits (.cluster c) then s else (s.combineAt c).serveWaiters

/-! ## Windows and spilling (R338, R340) -/

/-- An open chunk's window has ended. -/
def State.expireDue (s : State) (i k : Nat) : Bool :=
  (s.chunk i k).any (fun ch => decide (ch.openedAt + ch.window ≤ s.beat.bc)) && (s.ctx i).isSome

/-- A chunk at the end of its window. -/
def State.expireChunk (s : State) (i k : Nat) : State :=
  match s.chunk i k, s.ctx i with
  | some ch, some c =>
    if !s.expireDue i k then s
    else if (ch.segs.any fun g => g.poison && !g.sent) && !s.carry c.d.part then s.endChunk ch 6 true
    else if !c.d.quorum then s.endChunk ch 2 true
    else
      let idx := (List.range ch.segs.length).filter fun g => (ch.segs[g]?.map fun x => !x.sent).getD false
      let enough := fun g => (ch.segs[g]?.map fun x => decide (c.d.k ≤ x.done.length)).getD false
      let (s, ch) := (idx.filter enough).foldl (fun (x : State × Chunk) g =>
        let (s, ch) := x.1.sendSeg c.d x.2 g true
        (s.putChunk ch, ch)) (s, ch)
      s.endChunk ch (if idx.all enough then 1 else 2) true
  | _, _ => s

/-- Every chunk at the end of its window, in the order in which they opened. -/
def State.expireChunks (s : State) : State :=
  (s.coll.chunks.map fun c => (c.ctx, c.chunk)).foldl (fun (s : State) x => s.expireChunk x.1 x.2) s

/-- A chunk is due to spill at this boundary: it has stood in staging since spill_beats boundaries, has not been judged at
this one, and its window has not ended. -/
def State.spillDue (s : State) (i k : Nat) : Bool :=
  (s.chunk i k).any fun ch => ch.place = .staging && decide (ch.drawnAt + Nat.max 1 (s.fld .collCfg 0 63 48) ≤ s.beat.bc)
    && decide (ch.judged ≠ s.beat.bc) && decide (s.beat.bc < ch.openedAt + ch.window) && (s.ctx i).isSome

/-- A chunk is due to spill at this boundary: it spills, or the refusal is counted, once for a boundary. -/
def State.spillChunk (s : State) (i k : Nat) : State :=
  match s.chunk i k, s.ctx i with
  | some ch, some c =>
    if !s.spillDue i k then s
    else
      let kib := c.d.partialKib
      let refused := (s.count (cntPool (if kib ≤ 64 then 3 else 4) 1) 1).putChunk { ch with judged := s.beat.bc }
      if !s.flag .bufSpillCfg 0 0 then refused
      else
        match s.drawPool 1 0 i k c.d.part c.d.resClass kib with
        | some s => (s.freeStaging ch.home i k).putChunk { ch with place := .spill }
        | none => refused
  | _, _ => s

/-- Every chunk that is due to spill. -/
def State.spillChunks (s : State) : State :=
  (s.coll.chunks.map fun c => (c.ctx, c.chunk)).foldl (fun (s : State) x => s.spillChunk x.1 x.2) s

/-- PARTIAL_RECALL_DONE: a recalled partial is back in staging. -/
def State.recallDone (s : State) (i k : Nat) : State :=
  match s.chunk i k with
  | some ch =>
    if ch.place = .recall then
      ((s.putChunk { ch with place := .staging, drawnAt := s.beat.bc }).freeSpill i k).serveWaiters
    else s
  | none => s

/-- A recall ends within 4 beats of its draw. -/
def State.recallsDue (s : State) : State :=
  ((s.coll.chunks.filter fun c => c.place = .recall && c.drawnAt + 4 ≤ s.beat.bc).map fun c => (c.ctx, c.chunk)).foldl
    (fun (s : State) x => s.recallDone x.1 x.2) s

/-- Chunks that end with POISON at this boundary (14 R409). -/
def State.poisonEnds (s : State) : State :=
  (s.coll.chunks.filter (·.poisonEnd)).foldl (fun (s : State) ch => s.endChunk ch 6 true) s

/-! ## Rounds (R326 to R329) -/

/-- A round begins. -/
def Context.begin (c : Context) (base span stride phase : Nat) : Context :=
  { c with st := .running, base := base, span := span, stride := stride, phase := phase,
           count := ceilDiv (span - phase) stride, ended := [], nOk := 0, nQuorum := 0, nTimeout := 0, nOther := 0,
           lost := 0, branchLost := false, open_ := true, ending := false, kept := [] }

/-- A round ends with a status: its item, its ROUND frame where R328 calls for one, and what follows. -/
def State.endRound (s : State) (i status : Nat) (next : Bool) : State :=
  match s.ctx i with
  | none => s
  | some c =>
    if !c.open_ then s
    else
      let s := s.roundItem i status c
      let s := if c.roundStatus || c.d.autoNext || status = 5 then s.roundFrame i status else s
      s.updCtx i fun c =>
        if next && c.d.autoNext && c.st = .running then c.begin ((c.base + c.span) % 2 ^ 20) c.span c.stride c.phase
        else { c with st := .idle, open_ := false, ending := false }

/-- The rounds whose last chunk ended before this boundary. -/
def State.roundEnds (s : State) : State :=
  ((s.coll.ctx.filter fun e => match e.2 with
    | some c => c.ending
    | none => false).map (·.1)).foldl (fun (s : State) i => s.endRound i 0 true) s

/-- The chunks of a context that are open. -/
def State.openOf (s : State) (i : Nat) : List Chunk := s.coll.chunks.filter fun c => c.ctx = i

/-- A launch ends the round that is open: chunks that have not ended end with ABANDONED, opened or not (R326). -/
def State.abandonRound (s : State) (i : Nat) : State :=
  match s.ctx i with
  | none => s
  | some c =>
    if !c.open_ then s
    else
      let s := (s.openOf i).foldl (fun (s : State) ch => s.endChunk ch 3 false) s
      let s := s.updCtx i fun c => { c with nOther := c.nOther + (c.count - c.ended.length) }
      let never := match s.ctx i with
        | some c => c.count - c.ended.length
        | none => 0
      let s := (s.count (cntPart c.d.part 22) never).progEvent 0x14 i none never
      s.endRound i 0 false

/-- ctx.launch (R326, R327): the old round ends, the new one opens, and START goes to the groups. -/
def State.launchCtx (s : State) (i base span stride phase b : Nat) (status : Bool) : State :=
  let s := s.abandonRound i
  let s := s.updCtx i fun c => { c.begin base span stride phase with roundStatus := status }
  s.startFrame i b

/-- The conditions of a launch: RANGE 5, STATE 3. -/
def State.launchFails (s : State) (i base span stride phase : Nat) : Option Nat :=
  match s.ctx i with
  | none => some 3
  | some c =>
    if c.st = .draining || s.disabled 2 i || !(s.pst c.d.part = .running) || s.disabled 1 c.d.part then some 3
    else if !(1 ≤ span && span ≤ 524288 && 1 ≤ stride && stride ≤ 4096 && phase < stride && base < 2 ^ 20) then some 5
    else
      let n := ceilDiv (span - phase) stride
      if n < 1 || 1024 < n then some 5
      else if stride % 2 = 0 && phase % 2 ≠ s.tail then some 3
      else none

/-! ## CUT and DRAIN (R348), and what a partition's discard does (15 R441) -/

/-- A context CUT: every open chunk ends with CUT, the round ends cut, and the context is IDLE. Answers how many
chunks ended. -/
def State.cutCtx (s : State) (i : Nat) : State × Nat :=
  let l := s.openOf i
  let s := l.foldl (fun (s : State) ch => s.endChunk ch 5 false) s
  ((s.endRound i 5 false).updCtx i fun c => { c with st := .idle }, l.length)

/-- Chunks homed on some clusters end with CUT, each with a CHUNK frame; checks that use them are abandoned. -/
def State.cutClusters (s : State) (p : Nat → Bool) : State × Nat :=
  let l := s.coll.chunks.filter fun c => p c.home
  let s := l.foldl (fun (s : State) ch => s.endChunk ch 5 true) s
  ((s.coll.checks.filter fun c => p c.check || p c.arb).foldl State.abandonCheck s, l.length)

/-- Checks of a partition are abandoned at its discard (14 R418): nothing is retracted. -/
def State.dropChecks (s : State) (p : Nat) : State :=
  (s.coll.checks.filter fun c => c.desc.part = p).foldl (fun (s : State) c =>
    let (s, c) := s.releaseTiles c fun _ => true
    let s := ((if c.abandoned then s else s.bump .intDupCnt1 0 31 16 1).freeStaging c.check c.ctx c.chunk).freeStaging
      c.arb c.ctx c.chunk
    { s with coll := { s.coll with
        checks := dropFirst (fun x => x.same c) s.coll.checks,
        inbuf := s.coll.inbuf.filter (fun e => !(e.cluster = c.check && e.ctx = c.ctx && e.chunk = c.chunk)),
        chunks := updFirst (fun x => x.ctx = c.ctx && x.chunk = c.chunk) (fun x => { x with check := none }) s.coll.chunks } }) s

/-- The contexts of a partition. -/
def State.ctxsOf (s : State) (p : Nat) : List Nat :=
  (s.coll.ctx.filter fun e => match e.2 with
    | some c => c.d.part = p
    | none => false).map (·.1)

/-- Remove a context's coll entry and free it. -/
def State.freeCtx (s : State) (i : Nat) : State :=
  match s.ctx i with
  | some c => (s.emDelete (collKey c.d.part c.d.collId) 3).setCtx i none
  | none => s

/-- A partition reset frees its contexts, with no frame and no item (R325). Answers how many chunks ended. -/
def State.freeCtxs (s : State) (p : Nat) : State × Nat :=
  let is := s.ctxsOf p
  let l := s.coll.chunks.filter fun c => is.contains c.ctx
  let s := l.foldl State.dropChunk s
  (is.foldl State.freeCtx s, l.length)

/-- The contexts of a faulted, cut or condemned partition that run are cut (15 R441). -/
def State.cutCtxs (s : State) (p : Nat) : State × Nat :=
  (s.ctxsOf p).foldl (fun (x : State × Nat) i =>
    match x.1.ctx i with
    | some c => if c.st = .idle then x else
        let (s, n) := x.1.cutCtx i
        (s, x.2 + n)
    | none => x) (s, 0)

/-! ## Creating a context (R323, R324) -/

/-- A rectangle word. -/
def rectOf (w : Word) : Rect :=
  { rowLo := bits w 59 56, rowHi := bits w 55 52, colLo := bits w 51 48, colHi := bits w 47 44, slotLo := bits w 43 35,
    slotHi := bits w 34 26 }

/-- The descriptor of sixteen words. -/
def descOf (ws : List Word) : Desc :=
  let w := fun i => ws.getD i 0
  let chunkT := bits (w 2) 63 56
  let segT := bits (w 2) 55 50
  let entry := fun i => bits (w (9 + i / 4)) (16 * (i % 4) + 15) (16 * (i % 4))
  { part := bits (w 0) 63 52, collId := bits (w 0) 51 36, quorum := bit (w 0) 35, seat := bit (w 0) 34,
    cascade := bit (w 0) 33, keep := bit (w 0) 32, autoNext := bit (w 0) 31, resClass := bits (w 0) 30 28,
    level := bits (w 0) 27 26, parent := bits (w 0) 25 8, resTag := bits (w 0) 7 0,
    ar := { op := bits (w 1) 63 56, inFmt := bits (w 1) 55 48, acc := bits (w 1) 47 40, outFmt := bits (w 1) 39 32,
            stoch := bits (w 1) 31 30 = 1 },
    comb := bits (w 1) 29 24, chunkT := if chunkT = 0 then 256 else chunkT, segT := if segT = 0 then 32 else segT,
    k := bits (w 2) 49 39, window := bits (w 2) 38 23, keepCtr := bits (w 3) 63 44, keepOff := bits (w 4) 45 0,
    rects := (([5, 6, 7, 8].map w).filter fun x => bit x 63).map rectOf,
    groups := (((List.range 16).map entry).filter fun e => 2 ^ 15 ≤ e).map (· % 2 ^ 14) }

/-- The bits that R323 does not name are zero. -/
def descZero (ws : List Word) : Bool :=
  let w := fun i => ws.getD i 0
  bits (w 1) 23 0 = 0 && bits (w 2) 22 0 = 0 && bits (w 3) 43 0 = 0 && bits (w 4) 63 46 = 0
    && ([5, 6, 7, 8].all fun i => bits (w i) 62 60 = 0 && bits (w i) 25 0 = 0)
    && ([9, 10, 11, 12].all fun i => [14, 30, 46, 62].all fun b => !bit (w i) b)
    && ([13, 14, 15].all fun i => w i = 0)

/-- Each listed group is valid in both versions and belongs to the partition, and together they name every member
leaf once and no other (R321). -/
def State.groupsOk (s : State) (d : Desc) : Bool :=
  let ok := d.groups.all fun g => [false, true].all fun e =>
    let w := s.mcEntry e g
    bit w 63 && bits w 57 46 = d.part
  let members := (d.rects.map Rect.leaves).flatten
  let named := fun e => (d.groups.map fun g => (groupMembers (s.mcEntry e g)).map (memberLeaf (s.mcEntry e g))).flatten
  ok && [false, true].all fun e =>
    (named e).length = members.length && (members.all fun l => (named e).contains l) && (named e).eraseDups.length = (named e).length

/-- The range conditions of R324. -/
def State.descOk (s : State) (ws : List Word) : Bool :=
  let d := descOf ws
  let w2 := ws.getD 2 0
  let leaves := (d.rects.map Rect.leaves).flatten
  descZero ws && (bits w2 63 56 = 0 || 4 ≤ bits w2 63 56) && d.segT ≤ 32 && 1 ≤ d.segT && d.segT ≤ d.chunkT
    && bits (ws.getD 1 0) 31 30 ≤ 1
    && (d.rects.all fun r => r.rowLo ≤ r.rowHi && r.colLo ≤ r.colHi && r.slotLo ≤ r.slotHi)
    && d.rects ≠ [] && leaves.eraseDups.length = leaves.length && 1 ≤ d.n && d.n ≤ 1024
    && (!d.quorum || (1 ≤ d.k && d.k ≤ d.n && d.segT ≤ 31))
    && formatsOk d.ar.op d.ar.inFmt d.ar.acc d.ar.outFmt d.chunkT d.segT d.chunkLen d.segSize
    && lastSegOk d && s.groupsOk d && partialBytes d.ar.acc d.ar.inFmt d.chunkLen ≤ 131072
where
  /-- For an MX output the last segment too holds whole units (12 R366). -/
  lastSegOk (d : Desc) : Bool :=
    fmtKind d.ar.outFmt ≠ some .mx || elemsOf d.ar.inFmt (d.segLen (d.segs - 1)) % 4096 = 0

/-- The coll entry of context i (05 R117). -/
def ctxEntry (i : Nat) : Word := at_ 52 i ||| at_ 27 1

/-- ctx.new: a status of R324 where it fails. -/
def State.createCtx (s : State) (i : Nat) (ws : List Word) : Except Nat State :=
  let d := descOf ws
  if (s.ctx i).isSome || !(s.pst d.part = .created || s.pst d.part = .running) || s.disabled 1 d.part || d.part = 0 then .error 3
  else if !s.descOk ws then .error 5
  else if (s.ctxOf d.part d.collId).isSome then .error 4
  else
    match s.emWrite (collKey d.part d.collId) (ctxEntry i) 3 with
    | none => .error 4
    | some s =>
      let leaves := d.groups.map fun g => groupMembers (s.mcEntry s.stn.cur g)
      .ok (s.setCtx i (some { d := d, leaves := leaves }))

/-! ## Cascade (R333) -/

/-- A parent's result for a context under cascade, on its way at `merge`: the context. -/
def State.cascadeOf (s : State) (t : Stream) : Option Nat :=
  if !t.eth && t.hdr.dst = 0x3FFFF && (t.hdr.op = opResult || t.hdr.op = opResultQ) then
    match s.ctxOf t.part t.hdr.coll with
    | some i => match s.ctx i with
      | some c => if c.d.cascade then some i else none
      | none => none
    | none => none
  else none

/-- Keep one relayed segment: the counter rises when the whole chunk is there. -/
def State.keepRelayed (s : State) (i : Nat) (c : Context) (h : Hdr) (data : List Byte) : State :=
  match c.roundIdx h.chunk with
  | none => s
  | some j =>
    let n := ((c.kept.find? fun x => x.1 = j).map (·.2)).getD 0 + 1
    let ok := s.keepOk c.d j
    let s := if ok then s.keepWrite c.d j (h.offset % c.d.chunkLen) data else s
    let s := s.updCtx i fun c => { c with kept := (j, n) :: c.kept.filter fun x => x.1 ≠ j }
    if n = c.d.segs then (if ok then s.putCtr c.d.keepCtr (s.ctr c.d.keepCtr + 1) else s.keepErr c.d h.chunk) else s

/-- CASCADE_RESULT_RELAY: the first result of a parent that waits goes to the context's groups, and keep is applied
to it. -/
def State.cascadeRelay (s : State) : State :=
  match s.coll.casc with
  | [] => s
  | t :: rest =>
    if s.unitWaits (.pipeline t.pipe) then s
    else
    let s := { s with coll := { s.coll with casc := rest } }
    match s.cascadeOf t with
    | none => s
    | some i =>
      match s.ctx i with
      | none => s
      | some c =>
        let s := (List.range c.d.groups.length).foldl (fun (s : State) g =>
          s.toReturn
            { pipe := t.pipe, unit := .pipeline t.pipe, bytes := t.bytes, eth := false, part := c.d.part, cls := t.cls, epoch := t.epoch, kind := 1,
              target := c.d.groups.getD g 0, subq := 0, desc := none, tsReq := false, pin := none, bcast := some (i, g),
              trk := none }) s
        if c.d.keep && !t.hdr.poison then
          let data := ((t.bytes.drop 48).take t.hdr.len).drop (if t.hdr.op = opResultQ then 256 else 0)
          s.keepRelayed i c t.hdr data
        else s

/-! ## Job-start broadcasts (15 R454, R455) -/

/-- Item 0x7B for one group. -/
def bcastItem (b : Bcast) (g lost : Nat) (last : Bool) : Item :=
  ⟨at_ 56 0x7B ||| at_ 55 (b2n last) ||| at_ 51 g ||| at_ 39 b.ctx ||| at_ 27 b.part ||| at_ 11 lost,
    at_ 32 b.beat ||| at_ 16 b.tag ||| at_ 0 b.collId, 0, 0⟩

/-- Copies of a broadcast have not all ended. -/
def State.bcastLive (s : State) (id : Nat) : Bool :=
  (s.net.streams.any fun t => match t.bcast with
    | some (b, _) => b = id
    | none => false)
    || s.net.ret.any fun r => match r.bcast with
      | some (b, _) => b = id
      | none => false

/-- BROADCAST_REPORT: every copy of a broadcast of the context has ended. -/
def State.bcastReport (s : State) (ctx : Nat) : State :=
  match s.coll.bcasts.find? fun b => b.ctx = ctx && !s.bcastLive b.id with
  | none => s
  | some b =>
    let lostOf := fun g => ((s.net.lost.filter fun x => x.1 = b.id && x.2.1 = g).map (·.2.2)).eraseDups.foldl (fun m j => m + 2 ^ j) 0
    let gs := (List.range b.groups.length).filter fun g => lostOf g ≠ 0
    let last := gs.getLast?
    let s := match last with
      | none => s.post b.ring [bcastItem b 0 0 true]
      | some z => gs.foldl (fun (s : State) g => s.post b.ring [bcastItem b g (lostOf g) (g = z)]) s
    { s with coll := { s.coll with bcasts := dropFirst (fun x => x.id = b.id) s.coll.bcasts },
             net := { s.net with lost := s.net.lost.filter fun x => x.1 ≠ b.id } }

/-! ## Status (R353) -/

/-- COLL_CTX_STAT_n. -/
def State.ctxStatWord (s : State) (i : Nat) : Word :=
  match s.ctx i with
  | none => 0
  | some c =>
    let st := match c.st with
      | .idle => 1
      | .running => 2
      | .draining => 3
    let sp := ((s.openOf i).filter fun x => x.place = .spill).length
    at_ 62 st ||| at_ 42 c.base ||| at_ 31 c.count ||| at_ 20 c.ended.length ||| at_ 9 (s.openOf i).length
      ||| at_ 0 (Nat.min 511 sp)

end Sys2Proof.Machine
end

