-- ==== Sys2Proof/Machine/Intake.lean ====
section
/-! DEFINITION. `intake`: the arrival of Asune and Ethernet frames, with every check in its order
(03 R68 to R73; 04 R89, R97; 07 R189, R190; 15 R440, R446), and the trace units (17 R511). -/

namespace Sys2Proof.Machine

/-! ## Trace (17 R511, R512) -/

/-- A trace unit's filters hold for a stream. -/
def traceMatches (w : Word) (point : Nat) (t : Stream) : Bool :=
  bit w 63 && b2n (bit w 62) = point && (!bit w 57 || bits w 56 45 = t.part)
    && (!bit w 44 || bits w 43 36 = t.scls) && (!bit w 35 || bits w 34 32 = t.cls)

/-- One unit sees a stream. The core cycle within the beat is a free value (log entry 6). -/
def State.traceUnit (s : State) (point lane : Nat) (t : Stream) (u : Nat) : State :=
  let w := s.reg .cntTrace u
  if !traceMatches w point t then s
  else
    let n := SMap.get 0 s.cnt.traceMatch u + 1
    let k := SMap.get 0 s.cnt.traceBeat u
    let s := { s with cnt := { s.cnt with traceMatch := SMap.set 0 s.cnt.traceMatch u n } }
    if n % 2 ^ bits w 61 58 ≠ 0 then s
    else if 16 ≤ k then s.bump .cntTrace u 31 16 1
    else
      let s := { s with cnt := { s.cnt with traceBeat := SMap.set 0 s.cnt.traceBeat u (k + 1) } }
      let (f, s) := s.freshWord
      s.post (bits w 5 0)
        [⟨at_ 56 0x8A ||| at_ 54 u ||| at_ 53 point ||| at_ 43 lane ||| at_ 35 t.scls ||| at_ 23 t.part
            ||| at_ 20 t.cls ||| at_ 19 (b2n t.eth) ||| at_ 5 t.flen,
          readH t 0 8, readH t 8 8, s.beatWord ||| at_ 22 (f.toNat % 1024)⟩]

/-- Every trace unit sees a stream at a point: 0 `intake`, 1 `launch`. -/
def State.trace (s : State) (point lane : Nat) (t : Stream) : State :=
  [0, 1, 2, 3].foldl (fun s u => s.traceUnit point lane t u) s

/-! ## The stream that a frame becomes -/

/-- A stream that has passed the checks, before its `intake` program. Its header carries the epoch that it goes under,
stamped or not (03 R83). DESIGN CHOICE, log entry 92: m0.flen of an Asune frame whose header and payload take fewer than
256 bytes is 256, its padded length, as the table of 01 R15 counts it and not as 01 R14 words it. -/
def State.newStream (s : State) (lane port : Nat) (eth : Bool) (part cls : Nat) (epoch pennant : Bool)
    (bs : List Byte) (credit : Bool) : Stream :=
  { id := s.net.nextId, pipe := pipeOf lane, stage := .steer, ret := false, inLane := lane, inPort := port,
    eth := eth, scls := 0, part := part, cls := cls, epoch := epoch, pennant := pennant, flen := bs.length,
    m1 := 0, mx := List.replicate 14 0, bytes := bs, h := bs.take 128,
    hdr := if eth then {} else { Hdr.ofBytes bs with epoch := epoch }, ce := false, poison := !eth && (Hdr.ofBytes bs).poison,
    dead := false, dropped := false, bucket := none, snap := 0, since := s.beat.bc, alloc := none,
    credit := credit, desc := none, tsReq := false, pin := none, bcast := none,
    mirrorTo := none, trk := none }

/-- A packet of an epoch passes `intake` (04 R99). -/
def State.passEpoch (s : State) (e : Bool) : State :=
  { s with stn := if e then { s.stn with passed1 := true } else { s.stn with passed0 := true } }

/-- A frame of a CLOSED epoch is discarded, with one event for the first in each beat (04 R97). -/
def State.epochDrop (s : State) (lane : Nat) (e : Bool) : State :=
  let s := s.laneCount lane 14
  if (if e then s.stn.dropEv1 else s.stn.dropEv0) then s
  else
    ({ s with stn := if e then { s.stn with dropEv1 := true } else { s.stn with dropEv0 := true } }).raise
      .epochDrop [b2n e, lane]

/-- Run the `intake` program and send the stream on to `steer` (04 R89). -/
def State.runIntake (s : State) (t : Stream) : State × Stream :=
  let b := s.stn.bank t.epoch
  let (s, t) := s.runEntry { stn := 0, pipe := t.pipe } (if t.eth then b.intakeE else b.intakeA) t
  if t.scls = 255 && !t.dropped then (s.laneCount t.cntLane 15, { t with dropped := true }) else (s, t)

/-- The stream joins the streams in flight. -/
def State.join (s : State) (t : Stream) : State :=
  { s with net := { s.net with streams := s.net.streams ++ [t], nextId := s.net.nextId + 1 } }

/-! ## Asune frames (03 R68) -/

/-- Checks 2 to 4, and what counts the first that fails: delimiter, length, header check. -/
def frameCheck (delim : Byte) (fr : List Byte) : Option Nat :=
  let h := Hdr.ofBytes fr
  if delim ≠ 0xA5 then some 6
  else if fr.length < 48 || fr.length ≠ Nat.max 256 (48 + h.payLen) || 8192 < h.payLen then some 7
  else if beNat ((fr.drop 44).take 4) ≠ hcrcOf fr then some 8
  else none

/-- A lossless frame is within its lane's grant (07 R189). -/
def State.withinGrant (s : State) (lane c t : Nat) : Bool :=
  let l := s.lane lane
  decide (sdiff 32 (l.r c + t) (l.g c) ≤ 0)

/-- A frame that fails a check after its tiles were counted in R: its credit returns at once
(07 R187). -/
def State.discardAt (s : State) (lane k : Nat) : State := (s.laneCount lane k).advanceG lane

/-- The no-node rule of 03 R73. The collective results of R137 leave without a destination node. -/
def noNode (h : Hdr) : Bool :=
  h.src = 0x3FFFF
    || (h.dst = 0x3FFFF && !(h.op = opResult || h.op = opResultQ || h.op = opCollStatus || h.op = opRetract))

/-- An Asune frame that has passed checks 1 to 5, and its place in R. DESIGN CHOICE, log entry 93: a frame that fails both
the no-node rule of 03 R73 and check 6 or 7 of R68 fails by the first, which the manual places nowhere in the order. -/
def State.acceptAsune (s : State) (lane port : Nat) (fr : List Byte) : State :=
  let h := Hdr.ofBytes fr
  let e := if s.flag .stnPort port 10 then s.stn.cur else h.epoch
  if noNode h then s.discardAt lane 10
  else if isTerm h.op && s.isSelf h.dst && !termFieldsOk h then
    (s.discardAt lane 10).sendReply (.pipeline (pipeOf lane)) (pipeOf lane) { h with epoch := e } ⟨6, [], false⟩ none
  else if !s.admits h.part h.op then (s.refuse h.part lane).advanceG lane
  else if s.stn.st e = .closed then (s.epochDrop lane e).advanceG lane
  else
    let lossless := 5 ≤ h.cls
    let s := if lossless then s.setLane lane fun l => l.setHeld h.cls (l.held h.cls + tilesOf fr.length) else s
    let s := (s.partCount h.part 0).count (cntPart h.part 1) fr.length
    let s := (if h.poison then s.poisonIn h.part else s).passEpoch e
    let t := s.newStream lane port false h.part h.cls e h.pennant fr lossless
    let s := s.trace 0 lane t
    let (s, t) := s.runIntake t
    s.join t

/-- A frame's tiles are added to R, in classes 5 to 7 (07 R189). -/
def State.addR (s : State) (lane c t : Nat) : State :=
  if 5 ≤ c then s.setLane lane fun l => l.setR c ((l.r c + t) % 2 ^ 32) else s

/-- A frame that reaches the checks of 03 R68, with the grant check of 07 R189 between check 4 and check 5. `hop` handles a
hop-local frame, whose payload ends after len bytes (03 R61, R627). DESIGN CHOICE, log entry 95: the event of an unknown
opcode is raised at most once in each beat for each lane. -/
def State.asuneChecks (s : State) (hop : State → Nat → Hdr → List Byte → State) (lane port : Nat) (delim : Byte)
    (fr : List Byte) : State :=
  let h := Hdr.ofBytes fr
  let f := fr.length
  let s := (s.laneCount lane 0).count (cntLane lane 1) f
  let s := (s.progEvent 0x01 lane (some h.part) 1).progEvent 0x02 lane (some h.part) f
  match frameCheck delim fr with
  | some k =>
    let s := s.laneCount lane k
    if k = 6 && delim = 0xD5 then s.raise .modeMismatch [lane] else s
  | none =>
    if isHop h.op then hop s lane h ((fr.drop 48).take h.payLen)
    else if 5 ≤ h.cls && !s.withinGrant lane h.cls (tilesOf f) then
      (s.laneCount lane 24).raiseOnce 1 lane .port [lane]
    else
      let s := s.addR lane h.cls (tilesOf f)
      if s.disabled 0 port then s.laneCount lane 12
      else if !opListed h.op then (s.discardAt lane 9).raiseOnce 2 lane .port [lane, h.op]
      else s.acceptAsune lane port fr

/-- ASUNE_FRAME_ARRIVAL: a frame whose codewords the FEC accepted. One that ends in an error block is counted in cut, and
is not numbered (06 R153). A hop-local frame is never numbered, whatever becomes of it (06 R151). A receiver that waits
for a replay start discards every numbered frame (06 R153). -/
def State.asuneArrival (s : State) (hop : State → Nat → Hdr → List Byte → State) (lane : Nat) (delim : Byte)
    (fr : List Byte) (err : Bool) : State :=
  match s.portOf lane with
  | none => s
  | some port =>
    if !s.asuneLane lane || s.rxIgnored lane then s
    else if err then s.bump .stnLaneRpl lane 31 20 1
    else if isHop (Hdr.ofBytes fr).op then s.asuneChecks hop lane port delim fr
    else
      let waits := (s.lane lane).req.isSome
      let s := s.setLane lane Lane.arrive
      if waits then s else s.asuneChecks hop lane port delim fr

/-! ## Ethernet frames (03 R70 to R72) -/

/-- The FCS of an Ethernet frame, over every byte before it. -/
def fcsOf (bs : List Byte) : Nat := crc32e 0xFFFFFFFF (bs.take (bs.length - 4))

/-- A received PFC frame (03 R70, R71): pauses and resumptions of the classes that pfc_rx sets. -/
def State.pfcReceived (s : State) (port : Nat) (bs : List Byte) : State :=
  let vec := halfAt bs 16
  (List.range 8).foldl (fun s c =>
    if (vec >>> c) % 2 = 1 && s.flag .stnPortEth port (32 + c) then
      s.setPfc port fun f => { f with paused := SMap.set 0 f.paused c (halfAt bs (18 + 2 * c)) }
    else s) s

/-- The class of an Ethernet frame: the outer tag's PCP through the port's map, or def_class. -/
def State.ethClass (s : State) (port : Nat) (bs : List Byte) : Nat :=
  match ethPcp bs with
  | some p => bits (s.reg .stnPortEth port) (3 * p + 2) (3 * p)
  | none => s.fld .stnPortEth port 42 40

/-- An Ethernet frame with a good FCS that is no MAC control frame. -/
def State.acceptEth (s : State) (port : Nat) (bs : List Byte) (fifoFull : Bool) : State :=
  let c := s.ethClass port bs
  let t := tilesOf bs.length
  let e := s.stn.cur
  if s.disabled 0 port then s.laneCount port 12
  else
  let s := if fifoFull then s.fifoXoff port else s.fifoDrained port
  if fifoFull && c < 5 then s.laneCount port 13
  else if 5 ≤ c && s.creditC port c < (s.pfcOf port).held c + t then
    (s.laneCount port 24).raiseOnce 1 port .port [port]
  else if s.stn.st e = .closed then s.epochDrop port e
  else
    let lossless := 5 ≤ c
    let s := if lossless then s.setPfc port fun f => f.setHeld c (f.held c + t) else s
    let s := if lossless then s.pfcJudge port c else s
    let s := s.passEpoch e
    let x := s.newStream port port true 0 c e false bs lossless
    let (s, x) := s.runIntake x
    if x.dropped then s.join x
    else if !s.admitsEth x.part then
      (s.refuse x.part port).releaseCredit x
    else
      let s := (s.partCount x.part 0).count (cntPart x.part 1) bs.length
      (s.trace 0 port x).join x

/-- ETHERNET_FRAME_ARRIVAL: a frame from its destination MAC address through its FCS. -/
def State.ethArrival (s : State) (port : Nat) (bs : List Byte) (fifoFull : Bool) : State :=
  if !s.portValid port || !s.portEth port || !s.portLanesUp port || s.portConflict port then s
  else
    let s := (s.laneCount port 0).count (cntLane port 1) bs.length
    let s := (s.progEvent 0x01 port none 1).progEvent 0x02 port none bs.length
    if bs.length < 64 || 9216 < bs.length then s.laneCount port 7
    else if leNat (bs.drop (bs.length - 4)) ≠ fcsOf bs then s.laneCount port 8
    else if halfAt bs 12 = 0x8808 && halfAt bs 14 = 0x0101 then (s.laneCount port 19).pfcReceived port bs
    else if halfAt bs 12 = 0x8808 && halfAt bs 14 = 0x0001 then s.laneCount port 18
    else s.acceptEth port bs fifoFull

/-- PFC_XOFF_REPEAT (07 R190): XOFF again, 32 beats after the last. -/
def State.xoffRepeat (s : State) (p c : Nat) : State :=
  match (s.pfcOf p).xoff c with
  | some b =>
    if b + 32 ≤ s.beat.bc then (s.setPfc p fun f => f.setXoff c (some s.beat.bc)).sendPfc p c 0xFFFF else s
  | none => s

/-- PFC_PAUSE_EXPIRY (03 R71): a received pause runs out. -/
def State.pauseExpiry (s : State) (p c : Nat) : State :=
  s.setPfc p fun f => { f with paused := SMap.erase f.paused c }

end Sys2Proof.Machine
end

