-- ==== Sys2Proof/WellFormed.lean ====
section
/-! DEFINITION. Which commands can reach the part: each names units that the part has, and field values
that fit their fields (01_architecture.md R11; 00_scope.md R2). -/

namespace Sys2Proof

/-- The command names a lane, port, ring, engine or other unit that exists, and its field values fit. -/
def Instr.wellFormed (i : Instr) : Bool :=
  match i with
  | .beatBoundary => true
  | .beatImageCheck _ => true
  | .crossingTimeout dom unit _ =>
    decide (dom < 5 ∧ (if dom = 3 then unit < 8 else if dom = 4 then unit < 16 else unit = 0))
  | .wideLeadRead _ _ => true
  | .rcRead _ _ _ => true
  | .registerWrite _ _ _ _ => true
  | .asuneFrameArrival lane _ _ => decide (lane < 1024)
  | .ethernetFrameArrival port _ _ => decide (port < 1024)
  | .pfcXoffRepeat port cls => decide (port < 1024 ∧ cls < 8)
  | .portReconfig port _ _ width _ => decide (port < 1024 ∧ width < 4)
  | .stationSteer pipe => decide (pipe < 64)
  | .progMemRepairDone pipe station bank _ => decide (pipe < 64 ∧ station < 9 ∧ bank < 2)
  | .stationHold pipe => decide (pipe < 64)
  | .pennantRelease _ => true
  | .seqPennantRelease _ => true
  | .pennantTimeout _ => true
  | .stationMerge pipe => decide (pipe < 64)
  | .stationMirror pipe => decide (pipe < 64)
  | .mirrorDigestTimeout _ => true
  | .shadowDropEnd node => decide (node < 262144)
  | .stationQueue pipe => decide (pipe < 64)
  | .resultPlacement die => decide (die < 2)
  | .launch port => decide (port < 1024)
  | .frameTransmitEnd lane => decide (lane < 1024)
  | .uncorrectableCodeword hit => decide (hit.lane < 1024)
  | .replayRequestReceived lane frame attempt => decide (lane < 1024 ∧ frame < 4294967296 ∧ attempt < 65536)
  | .replayStartReceived lane frame => decide (lane < 1024 ∧ frame < 4294967296)
  | .replayRetryTimeout lane => decide (lane < 1024)
  | .handoverReceived lane pos frame => decide (lane < 1024 ∧ pos < 8 ∧ frame < 4294967296)
  | .linkCreditSend lane => decide (lane < 1024)
  | .linkCreditReceived lane g5 g6 g7 => decide (lane < 1024 ∧ g5 < 4294967296 ∧ g6 < 4294967296 ∧ g7 < 4294967296)
  | .weevilAudit => true
  | .weevilWalkEnd => true
  | .weevilTeardownCheck part => decide (part < 4096)
  | .stgCarveWrite n1 n4 n16 n64 _ => decide (n1 < 256 ∧ n4 < 64 ∧ n16 < 16 ∧ n64 < 4)
  | .stgCarveApply => true
  | .clsMinWrite cls spillMin stgMin tileMin _ =>
    decide (cls < 8 ∧ spillMin < 65536 ∧ stgMin < 256 ∧ tileMin < 2097152)
  | .loadGo epoch => decide (epoch < 2)
  | .loadDone _ => true
  | .cmdFetchComplete ring _ _ _ => decide (ring < 64)
  | .cmdFetchTimeout ring => decide (ring < 64)
  | .cmdProgramRelease ring => decide (ring < 64)
  | .epochDrainComplete epoch => decide (epoch < 2)
  | .loadRequest _ => true
  | .store _ => true
  | .countedStore _ => true
  | .subArm _ => true
  | .atomAdd _ => true
  | .atomFetchAdd _ => true
  | .atomSwap _ => true
  | .atomCas _ => true
  | .atomMinS _ => true
  | .atomMaxS _ => true
  | .atomMinU _ => true
  | .atomMaxU _ => true
  | .atomAnd _ => true
  | .atomOr _ => true
  | .atomXor _ => true
  | .atomFp32Add _ => true
  | .atomBf16Add _ => true
  | .waitingRequestAccept => true
  | .memoryCompletion _ => true
  | .trackerTimeout _ => true
  | .stagingDraw ctx chunk => decide (ctx < 4096 ∧ chunk < 1048576)
  | .contributionCombine cluster => decide (cluster < 768)
  | .stragglerWindowExpiry ctx chunk => decide (ctx < 4096 ∧ chunk < 1048576)
  | .chunkSpill ctx chunk => decide (ctx < 4096 ∧ chunk < 1048576)
  | .partialRecallDone ctx chunk => decide (ctx < 4096 ∧ chunk < 1048576)
  | .cascadeResultRelay => true
  | .digestCompare ctx chunk _ _ => decide (ctx < 4096 ∧ chunk < 1048576)
  | .arbiterResult ctx chunk _ _ => decide (ctx < 4096 ∧ chunk < 1048576)
  | .checkLimitExpiry ctx chunk _ => decide (ctx < 4096 ∧ chunk < 1048576)
  | .mgmtRead => true
  | .mgmtWrite _ => true
  | .mgmtCommand _ => true
  | .mgmtPtp => true
  | .termiteVisit => true
  | .compareEngineStep table => decide (table < 3)
  | .cmpCtrlWrite rate en _ => decide (rate < 32 ∧ en < 8)
  | .emSeedWrite seedA seedB _ => decide (seedA < 4294967296 ∧ seedB < 4294967296)
  | .laserFail engine k => decide (engine < 16 ∧ k < 12)
  | .spareSwitchIn engine k => decide (engine < 16 ∧ 8 ≤ k ∧ k < 12)
  | .laserRetire engine k _ => decide (engine < 16 ∧ k < 12)
  | .retireSwitch engine k => decide (engine < 16 ∧ 8 ≤ k ∧ k < 12)
  | .ringUnlock lane _ => decide (lane < 1024)
  | .pilotWindow lane _ tone => decide (lane < 1024 ∧ tone < 4)
  | .reacqVerified lane _ heat => decide (lane < 1024 ∧ heat < 4096)
  | .reacqTimeout lane => decide (lane < 1024)
  | .lightPresent lane => decide (lane < 1024)
  | .laneTrainComplete lane => decide (lane < 1024)
  | .trainTimeout lane => decide (lane < 1024)
  | .linkFault loss => decide (loss.lane < 1024)
  | .calSlot engine => decide (engine < 16)
  | .calRequest engine pos _ => decide (engine < 16 ∧ pos < 64)
  | .calForce engine pos _ => decide (engine < 16 ∧ pos < 64)
  | .calComplete engine tx rx =>
    decide (engine < 16 ∧ tx.heat < 4096 ∧ rx.heat < 4096 ∧ tx.park < 4096 ∧ rx.park < 4096)
  | .calTimeout engine _ => decide (engine < 16)
  | .laneRetry lane _ => decide (lane < 1024)
  | .loopStart engine target dur => decide (engine < 16 ∧ target < 64 ∧ dur < 65536)
  | .loopEnd engine _ _ _ => decide (engine < 16)
  | .bypDemandReceived lane _ => decide (lane < 1024)
  | .bypassMatching => true
  | .bypassRouting => true
  | .restartReceived lane _ _ => decide (lane < 1024)
  | .planeFallback plane _ => decide (plane < 4)
  | .planeRelock plane => decide (plane < 4)
  | .planeLockTimeout plane => decide (plane < 4)
  | .planeAutoFast plane => decide (plane < 4)
  | .planeCalStart => true
  | .planeCalForce plane _ => decide (plane < 4)
  | .planeCalDone plane => decide (plane < 4)
  | .bypPlaneModeWrite plane mode _ => decide (plane < 4 ∧ mode < 4)
  | .leafEnable leaf anchorPref _ => decide (leaf < 256 ∧ anchorPref < 4)
  | .patrolRead mem die _ _ => decide (mem < 17 ∧ die < 2)
  | .fieldTestSlot => true
  | .fieldTestStep _ => true
  | .fieldTestResult _ => true
  | .testWaitExpiry => true
  | .ftRequest cluster _ => decide (cluster < 768)
  | .ftForce cluster _ => decide (cluster < 768)
  | .clusterStepWrite cluster step _ => decide (cluster < 768 ∧ step < 16)
  | .watchdogExpiry => true
  | .quarantineEntry part => decide (part < 4096)
  | .partitionFree part => decide (part < 4096)
  | .drainEndClean kind _ => decide (kind < 5)
  | .drainDeadline kind _ => decide (kind < 5)
  | .broadcastReport ctx => decide (ctx < 4096)
  | .timeStep _ _ => true
  | .timeSet _ => true
  | .slewAdd rate _ => decide (rate < 65536)
  | .slewComplete => true
  | .triggerFire n => decide (n < 64)
  | .cicadaPeriodic => true
  | .userRefresh => true
  | .dumpComplete => true
  | .deferredSnapshot => true
  | .cicadaDumpRequest _ => true
  | .snapshotRequest _ => true
  | .counterRunAllocate n => decide (n < 512)
  | .counterRunRelease base n _ => decide (base < 8192 ∧ n < 512)
  | .bar2Read _ _ => true
  | .bar2Write _ _ => true
  | .doorbell ring pi => decide (ring < 64 ∧ pi < 4294967296)
  | .cmdRingFlush ring => decide (ring < 64)
  | .cmdRingDisable ring => decide (ring < 64)
  | .cmdRingEnable ring => decide (ring < 64)
  | .d2hPacketWrite ring => decide (ring < 64)
  | .d2hPop ring _ => decide (ring < 64)
  | .d2hFlush ring => decide (ring < 64)
  | .d2hCfgWrite ring _ lg base => decide (ring < 64 ∧ lg < 32 ∧ base < 131072)
  | .d2hHoldoffExpiry ring => decide (ring < 64)
  | .ddrTrainStart _ => true
  | .ddrTrainDone chans =>
    chans.all fun r => decide (r.temp < 256 ∧ r.failStep < 8 ∧ r.cap < 256 ∧ r.ranks < 16)
  | .ddrRecal channel sub => decide (channel < 8 ∧ sub < 2)
  | .domainRequest domain _ _ => decide (domain < 96)
  | .domainRampUpDone domain => decide (domain < 96)
  | .domainRampDownDone domain => decide (domain < 96)
  | .supplyFault domain => decide (domain < 96)
  | .powerTrip temp => decide (temp < 4096)
  | .tripHoldEnd temp => decide (temp < 4096)
  | .thermalWarning unit temp => decide (unit < 18 ∧ temp < 4096)
  | .stretchComparatorFire die temp => decide (die < 2 ∧ temp < 4096)
  | .stretchEnd die => decide (die < 2)
  | .photonicTrip engine temp => decide (engine < 16 ∧ temp < 4096)
  | .sleepEntry => true
  | .wakeD0 => true
  | .lightWake pair => decide (pair < 256)
  | .ageingSample _ => true
  | .marginReplan _ => true
  | .powerOnReset _ _ => true
  | .fundamentalReset => true
  | .softwareReset => true
  | .functionReset _ => true
  | .controllerReset => true
  | .bootStepAdvance => true
  | .bootImageRead _ _ _ => true
  | .bootGo _ => true
  | .writeSlot => true
  | .writeSlotDone _ _ _ => true
  | .activate => true
  | .confirm => true
  | .svnCommit => true
  | .trialTimeout => true
  | .getVersion => true
  | .getCapabilities => true
  | .negotiateAlgorithms => true
  | .getDigests => true
  | .getCertificate slot _ _ => decide (slot < 8)
  | .challenge slot _ => decide (slot < 8)
  | .getMeasurements _ _ _ => true
  | .respondIfReady _ => true
  | .tableDigestWalkDone => true
  | .extest => true
  | .idcode => true
  | .samplePreload _ => true
  | .extestPulse => true
  | .extestTrain => true
  | .clamp => true
  | .highz => true
  | .ecid => true
  | .bypass => true
  | .tapReset => true
  | .trefLost => true
  | .trefRestore => true
  | .vaonFall => true
  | .perstNRelease _ => true
  | .sleepComparatorFire => true
  | .pfcPauseExpiry port cls => decide (port < 1024 ∧ cls < 8)
  | .laserSettled engine => decide (engine < 16)
  | .controllerSend _ => true
  | .pcieLinkTrained speed width _ => decide (speed < 8 ∧ (width = 0 ∨ width = 1 ∨ width = 2 ∨ width = 4))
  | .unsupportedSpdmRequest _ => true
  | .moduleHotRefresh channel temp => decide (channel < 8 ∧ temp < 256)
  | .thermalWarningRearm unit => decide (unit < 18)
  | .vectorUnmask vec _ _ => (vec.map fun v => decide (v < 2048)).getD true

end Sys2Proof
end

