-- ==== Sys2Proof/Machine/Run.lean ====
section
/-! DEFINITION. How every meaning runs: a command that names no unit of the part stops with a fault; while
the part is held in reset or has lost its power, a command reaches nothing (19 R562, R567; 20 R580; 21 R613,
R618). -/

namespace Sys2Proof.Machine

/-- The core runs: no reset holds it, VAON stands, the part does not sleep, and no power trip holds. -/
def State.live (s : State) : Bool :=
  !s.pins.perstLow && !s.pins.vaonLow && !s.pins.tapHold && !s.pwr.asleep && s.pwr.trip.isNone

/-- A command acts on everything but the queue of the commands that wait. -/
def State.act (s : State) (f : State → State) : State := { f s with pending := s.pending }

/-- A command that acts on the core. -/
def run (i : Instr) (s : State) (f : State → State) : Out :=
  if !i.wellFormed then .fault .noSuchUnit
  else if !s.live then .next s
  else .next (s.act f)

/-- A command of the pins, the test port, the supplies or a reset: it acts whether the core runs or not. -/
def runAlways (i : Instr) (s : State) (f : State → State) : Out :=
  if !i.wellFormed then .fault .noSuchUnit else .next (s.act f)

end Sys2Proof.Machine
end

