-- ==== Sys2Proof/Machine/LightEngine.lean ====
section
/-! DEFINITION. The light engines: lasers, rings, lane states, calibration and loopback tests
(08_light_engines.md; 21_package_electrical_test.md R621 to R624). A lane leaves and enters service at a
boundary (`State.serviceStep` of Boundary); what stands here changes its state. -/

namespace Sys2Proof.Machine

/-! ## Lasers (R220 to R222) -/

/-- A laser. -/
def State.laser (s : State) (e k : Nat) : Laser := SMap.get {} s.opt.lasers (12 * e + k)

/-- Change a laser; a change of its state posts item 0x51. -/
def State.setLaser (s : State) (e k : Nat) (f : Laser → Laser) : State :=
  let old := s.laser e k
  let new := f old
  let s := { s with opt := { s.opt with lasers := SMap.set {} s.opt.lasers (12 * e + k) new } }
  if old.st = new.st then s else s.leItem e 0x51 0 new.st old.st 0 k 0

/-- An engine's calibration and loopback state. -/
def State.engine (s : State) (e : Nat) : EngineSt := SMap.get {} s.opt.eng e

/-- Change an engine. -/
def State.setEngine (s : State) (e : Nat) (f : EngineSt → EngineSt) : State :=
  { s with opt := { s.opt with eng := SMap.upd {} s.opt.eng e f } }

/-- The lanes whose transmit fibre an active laser feeds. -/
def fedLanes (e k : Nat) : List Nat := (List.range 8).map fun i => 64 * e + 4 * (8 * (k % 2) + i) + k / 2

/-- The spare of an active laser's wavelength. -/
def spareOf (k : Nat) : Nat := 8 + k / 2

/-- The active laser that feeds a lane. -/
def feederOf (n : Nat) : Nat := 2 * (n % 4) + (n % 64) / 32

/-- The feeding laser of a lane, or the spare in its place, is ON. -/
def State.fed (s : State) (n : Nat) : Bool :=
  let e := n / 64
  let k := feederOf n
  (s.laser e k).st = 2 || ((s.laser e (spareOf k)).st = 2 && (s.laser e (spareOf k)).sub = k)

/-- The engine's domain is ON (19 R552). -/
def State.engineOn (s : State) (e : Nat) : Bool := (SMap.get {} s.pwr.dom (64 + e)).st = 2

/-! ## Calibration and loopback, ended by other events -/

/-- The calibration of a lane, if one runs on it, is abandoned; its pending bit is set (R238). -/
def State.abandonCal (s : State) (n : Nat) : State :=
  s.setEngine (n / 64) fun g =>
    match g.cur with
    | some (p, _, _) =>
      if p = n % 64 then { g with cur := none, pend := if g.pend.contains p then g.pend else g.pend ++ [p] } else g
    | none => g

/-- A loopback test of the lane ends with a status (21 R624). -/
def State.endLoop (s : State) (n status : Nat) : State :=
  match (s.engine (n / 64)).loop with
  | some (p, _, _) =>
    if p = n % 64 then
      (s.setEngine (n / 64) fun g => { g with loop := none }).setReg .leLoopRes n (at_ 62 status)
    else s
  | none => s

/-! ## Rings (R223 to R228) -/

/-- A ring is parked and begins acquisition now; a receive ring waits for light. -/
def OptLane.startRing (o : OptLane) (tx : Bool) (bc : Nat) : OptLane :=
  if tx then { o.park true with txFrom := some bc, winTx := none }
  else { o.park false with rxFrom := if o.noLight then none else some bc, winRx := none }

/-- A ring is lost: it is parked, and its lane goes to REACQ (R225, R227). A lane that already acquires stays where it is,
with its cause: it makes no new entry (R245). -/
def State.ringLost (s : State) (n : Nat) (tx : Bool) (cause : Nat) : State :=
  let o := s.optLane n
  let s := if o.st = .calib then s.abandonCal n else s
  let s := s.setOpt n fun o => o.startRing tx s.beat.bc
  if o.st = .service || o.st = .calib || o.st = .train then s.moveLane n .reacq (some cause) else s

/-- A ring of the lane holds a verified lock that the controller checks. -/
def State.ringLocked (s : State) (n : Nat) (tx : Bool) : Bool :=
  let o := s.optLane n
  (if tx then o.txOk else o.rxOk)
    && (o.st = .service || o.st = .calib || o.st = .train || o.st = .acquire || o.st = .reacq)
    && (tx || !s.byp.rxByp.contains n)

/-- The receive position has no light (R228, R232). -/
def State.darken (s : State) (n : Nat) : State := s.setOpt n fun o => { o with noLight := true }

/-- RING_UNLOCK (R225). `light`: light stands at the receive position; a receive ring that lost lock for want of it
has cause 0xA, no light (log entry 84). While a receive direction is bypassed its checks are suspended (09 R261). -/
def State.ringUnlock (s : State) (n : Nat) (tx light : Bool) : State :=
  if !s.ringLocked n tx then s
  else
    let s := s.bump .leLaneCnt n 47 32 1
    if tx then s.ringLost n true 5
    else if light then s.ringLost n false 6
    else (s.darken n).ringLost n false 10

/-- The part checks the windows of a ring for a mislock: one that holds its lock, and for a receive ring while pilot_rx is
set (R226). -/
def State.ringChecked (s : State) (n : Nat) (tx : Bool) : Bool := s.ringLocked n tx && (tx || s.flag .leCfg (n / 64) 3)

/-- The lane after a window of a ring has named an index (R226): every window's index is recorded; a wrong one counts for
a mislock where the ring is checked. -/
def OptLane.window (o : OptLane) (tx checked bad : Bool) (tone : Nat) : OptLane :=
  let wrong := if bad && checked then some tone else none
  if tx then { o with pilTx := tone, winTx := wrong }
  else { o with pilRx := tone, winRx := wrong, winGood := if bad || !o.rxOk then 0 else o.winGood + 1 }

/-- PILOT_WINDOW (R226, R227): two windows in a row with the same wrong index are a mislock. The rings of a lane that is
OFF have no windows, nor has a receive ring whose direction is bypassed (09 R261). -/
def State.pilotWindow (s : State) (n : Nat) (tx : Bool) (tone : Nat) : State :=
  let o := s.optLane n
  if o.st = .off || (!tx && s.byp.rxByp.contains n) then s
  else
    let checked := s.ringChecked n tx
    let last := if tx then o.winTx else o.winRx
    let bad := decide (tone ≠ n % 4)
    let s := s.setOpt n fun o => o.window tx checked bad tone
    if checked && bad && last = some tone then (s.bump .leLaneCnt n 63 48 1).ringLost n tx (if tx then 3 else 4) else s

/-- Start the transmit rings of the groups of eight lanes whose turn has come (R239 step 3): a group's
turn comes when no lane of an earlier group still acquires its transmit ring. -/
def State.startGroups (s : State) (e : Nat) : State :=
  let busy := fun (s : State) (n : Nat) => (s.optLane n).st = .acquire && !(s.optLane n).txOk
  (List.range 8).foldl (fun s g =>
    let first := 64 * e + 8 * g
    if (rangeFrom (64 * e) first).any (busy s) then s
    else
      (rangeFrom first (first + 8)).foldl (fun s n =>
        let o := s.optLane n
        if o.st = .acquire && !o.txOk && o.txFrom.isNone then
          s.setOpt n fun o => (o.startRing true s.beat.bc).startRing false s.beat.bc
        else s) s) s

/-- The lanes of an engine that are OFF and whose feeding laser is ON acquire, group after group (R230, R239). -/
def State.acquireFed (s : State) (e : Nat) : State :=
  let s := (rangeFrom (64 * e) (64 * e + 64)).foldl (fun s n =>
    if (s.optLane n).st = .off && s.fed n then
      (s.setOpt n fun o => { (o.park true).park false with noLight := true }).moveLane n .acquire none
    else s) s
  s.startGroups e

/-- An active laser of the engine still ramps at start-up. -/
def State.settling (s : State) (e : Nat) : Bool := (List.range 8).any fun k => (s.laser e k).st = 1

/-- LASER_SETTLED (R239): the active lasers reach set power, and the engine's lanes acquire. -/
def State.laserSettled (s : State) (e : Nat) : State :=
  if !(s.engineOn e && s.settling e) then s
  else
    let s := (List.range 8).foldl (fun s k => if (s.laser e k).st = 1 then s.setLaser e k fun l => { l with st := 2 } else s) s
    s.acquireFed e

/-- An engine's domain has come up (R239 step 1): the active lasers ramp, the spares go to STANDBY. -/
def State.engineUp (s : State) (e : Nat) : State :=
  (List.range 12).foldl (fun s k => s.setLaser e k fun l => { l with st := if k < 8 then 1 else 3 }) s

/-- An engine's domain goes off (R230): its lanes and lasers go OFF, and a test ends with status 3. -/
def State.engineDown (s : State) (e : Nat) : State :=
  let s := match (s.engine e).loop with
    | some (p, _, _) => s.endLoop (64 * e + p) 3
    | none => s
  let s := (rangeFrom (64 * e) (64 * e + 64)).foldl (fun s n =>
    if (s.optLane n).st = .off then s
    else (s.setOpt n fun o => (o.park true).park false).moveLane n .off (some 0xC)) s
  let s := (List.range 12).foldl (fun s k => s.setLaser e k fun _ => {}) s
  s.setEngine e fun g => { g with cur := none, forced := [], loop := none }

/-- Both rings are verified: ACQUIRE or REACQ to TRAIN (R230). -/
def State.ringsDone (s : State) (n : Nat) : State :=
  let o := s.optLane n
  if o.txOk && o.rxOk && (o.st = .acquire || o.st = .reacq) then s.moveLane n .train none else s

/-- A ring's 250 µs (977 beats) have run out. -/
def ringLate (start : Option Nat) (bc : Nat) : Bool :=
  match start with
  | some b => decide (b + 977 ≤ bc)
  | none => false

/-- REACQ_TIMEOUT (R228, R230). At start-up the lane's cause names the ring that was not verified
(log entry 20). -/
def State.reacqTimeout (s : State) (n : Nat) : State :=
  let o := s.optLane n
  let tx := !o.txOk && ringLate o.txFrom s.beat.bc
  let rx := !o.rxOk && ringLate o.rxFrom s.beat.bc
  if (o.st = .acquire || o.st = .reacq) && (tx || rx) then
    (s.laneFailed n (if o.st = .reacq then o.cause else if tx then 5 else 6)).startGroups (n / 64)
  else s

/-- A ring of the lane acquires: neither verified nor waiting. -/
def OptLane.acquires (o : OptLane) (tx : Bool) : Bool :=
  (o.st = .acquire || o.st = .reacq) && (if tx then !o.txOk && o.txFrom.isSome else !o.rxOk && o.rxFrom.isSome)

/-- A ring holds a verified lock. -/
def OptLane.verified (o : OptLane) (tx : Bool) (heat wl : Nat) : OptLane :=
  if tx then { o with txOk := true, txFrom := none, heatTx := heat, parkedTx := false, pilTx := wl, winTx := none }
  else { o with rxOk := true, rxFrom := none, heatRx := heat, parkedRx := false, pilRx := wl, winRx := none }

/-- REACQ_VERIFIED (R228). A lock that is verified only after the ring's 250 µs comes too late: the lane FAILS. -/
def State.reacqVerified (s : State) (n : Nat) (tx : Bool) (heat : Nat) : State :=
  let o := s.optLane n
  if !o.acquires tx then s
  else if ringLate (if tx then o.txFrom else o.rxFrom) s.beat.bc then s.reacqTimeout n
  else ((s.setOpt n fun o => o.verified tx heat (n % 4)).ringsDone n).startGroups (n / 64)

/-- LIGHT_PRESENT (R228): the receive ring's time starts. -/
def State.lightPresent (s : State) (n : Nat) : State :=
  s.setOpt n fun o =>
    { o with noLight := false, lightAt := if o.noLight then s.beat.bc else o.lightAt,
             cleanFrom := if o.noLight then s.beat.bc else o.cleanFrom,
             rxFrom := if o.noLight && !o.rxOk && (o.st = .reacq || o.st = .acquire && (o.txFrom.isSome || o.txOk))
               then some s.beat.bc else o.rxFrom }

/-! ## Training (R230, R231) -/

/-- A lane in TRAIN has had light for 50 ms (195,313 beats) without its entry condition (R230). -/
def OptLane.trainLate (o : OptLane) (bc : Nat) : Bool := decide (Nat.max o.since o.lightAt + 195313 ≤ bc)

/-- TRAIN_TIMEOUT (R230; log entry 20). -/
def State.trainTimeout (s : State) (n : Nat) : State :=
  let o := s.optLane n
  if o.st = .train && !o.noLight && o.trainLate s.beat.bc then s.laneFailed n 8 else s

/-- Every lane of an Ethernet port is in SERVICE, or meets the entry condition in TRAIN (R231). -/
def State.portTrained (s : State) (p : Nat) : Bool :=
  (s.portLanes p).all fun m => (s.optLane m).st = .service || ((s.optLane m).st = .train && (s.optLane m).ready)

/-- The lane goes from TRAIN to SERVICE, where it is in TRAIN. -/
def State.trainDone (s : State) (n : Nat) : State :=
  if (s.optLane n).st = .train then s.moveLane n .service none else s

/-- LANE_TRAIN_COMPLETE: the lane has locked, receives no fault and has had 16 clean beats (R231), and enters SERVICE. On
an Ethernet port the lanes that are out of service enter together, once each meets the condition. After 50 ms with
light the lane has failed instead (R230). -/
def State.trainComplete (s : State) (n : Nat) : State :=
  let o := s.optLane n
  if o.st ≠ .train || o.noLight then s
  else if o.trainLate s.beat.bc then s.trainTimeout n
  else if s.beat.bc < o.cleanFrom + 16 then s
  else
    let s := s.setOpt n fun o => { o with ready := true }
    match s.portOf n with
    | some p =>
      if !s.portEth p then s.trainDone n
      else if s.portTrained p then (s.portLanes p).foldl State.trainDone s
      else s
    | none => s.trainDone n

/-- LINK_FAULT: Local or Remote Fault, or PCS lock lost; `light`: light stands at the receive position. A restart after a
bypass is none of them (09 R258). A lane in TRAIN no longer meets its entry condition; without light it waits without
limit (R232). -/
def State.linkFault (s : State) (n : Nat) (light : Bool) : State :=
  let st := (s.optLane n).st
  if st ≠ .train && st ≠ .service then s
  else
    let s := if light then s else s.darken n
    if st = .train then s.notClean n else s.laneToTrain n 8

/-! ## Laser failure and retirement (R221, R222) -/

/-- The lanes of an active laser lose their light: WAIT_LASER, and FAILED where no spare can be used. Groups of rings
that waited for one of them to acquire go on (R239). -/
def State.loseLight (s : State) (e k : Nat) (spare : Bool) : State :=
  ((fedLanes e k).foldl (fun s n =>
    let s := s.endLoop n 2
    if (s.optLane n).st = .off then s
    else
      let s := if (s.optLane n).st = .calib then s.abandonCal n else s
      let s := s.setOpt n fun o => { o with txOk := false, txFrom := none, winTx := none }
      let s := s.moveLane n .waitLaser (some 9)
      if spare then s else s.laneFailed n 9) s).startGroups e

/-- LASER_FAIL (R221). -/
def State.laserFail (s : State) (e k : Nat) : State :=
  let l := s.laser e k
  if l.st = 0 || l.st = 4 then s
  else if k < 8 then
    let sp := s.laser e (spareOf k)
    let s := s.setLaser e k fun l => { l with st := 4 }
    if sp.st = 1 && sp.forK = some k then
      (s.setLaser e (spareOf k) fun x => { x with retiring := false }).loseLight e k true
    else if s.flag .leCfg e 2 && sp.st = 3 then
      (s.loseLight e k true).setLaser e (spareOf k) fun x => { x with st := 1, forK := some k, retiring := false }
    else s.loseLight e k false
  else
    let s := s.setLaser e k fun _ => { st := 4 }
    if l.st = 2 && l.sub < 8 then s.loseLight e l.sub false
    else
      match l.forK with
      | some a => if l.retiring then s else s.loseLight e a false
      | none => s

/-- The lanes of a replaced laser lock their transmit rings again. -/
def State.relock (s : State) (e a : Nat) (from' : OptLane → Bool) : State :=
  ((fedLanes e a).foldl (fun s n =>
    if from' (s.optLane n) then
      (s.setOpt n fun o =>
        let o := o.startRing true s.beat.bc
        if o.rxOk then o else o.startRing false s.beat.bc).moveLane n .reacq (some 9)
    else s) s).startGroups e

/-- Spare k is ON in the place of active laser a. Lanes that are still OFF, for their laser failed at start-up, acquire
once the engine has settled (R230). -/
def State.spareOn (s : State) (e k a : Nat) : State :=
  let s := (s.setLaser e k fun _ => { st := 2, sub := a }).relock e a fun o => o.st = .waitLaser
  if s.engineOn e && !s.settling e then s.acquireFed e else s

/-- SPARE_SWITCH_IN: spare k reaches set power and is switched in for a failed laser (R221). -/
def State.spareSwitchIn (s : State) (e k : Nat) : State :=
  let l := s.laser e k
  match l.forK with
  | some a => if l.st = 1 && !l.retiring then s.spareOn e k a else s
  | none => s

/-- RETIRE_SWITCH: spare k has reached set power for a laser being retired; it is switched in at the next boundary
(R222). -/
def State.retireSwitch (s : State) (e k : Nat) : State :=
  let l := s.laser e k
  if l.forK.isSome && l.st = 1 && l.retiring then s.setLaser e k fun l => { l with atPower := true } else s

/-- At a boundary, a spare at set power replaces the laser being retired (R222): the eight lanes leave service until their
transmit rings lock again. Where that laser has failed meanwhile, the spare is switched in for it (R221). -/
def State.retireDue (s : State) (i : Nat) : State :=
  let e := i / 12
  let k := i % 12
  let l := s.laser e k
  match l.forK with
  | some a =>
    if !l.atPower then s
    else if !l.retiring then s.spareOn e k a
    else
      let s := (s.setLaser e k fun _ => { st := 2, sub := a }).setLaser e a fun _ => {}
      let s := (fedLanes e a).foldl (fun s n => if (s.optLane n).st = .calib then s.abandonCal n else s) s
      s.relock e a fun o => o.st = .service || o.st = .train || o.st = .calib || o.st = .reacq || o.st = .acquire
  | none => s

/-- The spares due at a boundary. -/
def State.retiresDue (s : State) : State := (s.opt.lasers.map (·.1)).foldl State.retireDue s

/-- A retire write finds its active laser ON and the spare in STANDBY (R222, R244). -/
def State.canRetire (s : State) (i : Nat) : Bool :=
  let e := i / 12
  let k := i % 12
  k < 8 && (s.laser e k).st = 2 && (s.laser e (spareOf k)).st = 3

/-- A write of LE_LASER_e_k takes effect (R222, R244): retire. -/
def State.applyLaser (s : State) (i : Nat) (val : Word) : State :=
  if bit val 1 && s.canRetire i then
    s.setLaser (i / 12) (spareOf (i % 12)) fun x => { x with st := 1, forK := some (i % 12), retiring := true }
  else s

/-- A write of LE_LANE_e_m takes effect (R230, R245): retry. -/
def State.applyLane (s : State) (n : Nat) (val : Word) : State :=
  if bit val 0 && (s.optLane n).st = .failed then
    let s := s.endLoop n 3
    (s.setOpt n fun o => (o.startRing true s.beat.bc).startRing false s.beat.bc).moveLane n .acquire none
  else s

/-! ## Calibration (R234 to R238) -/

/-- Start a calibration of position p. -/
def State.calStart (s : State) (e p : Nat) (forced : Bool) : State :=
  let s := s.setEngine e fun g => { g with cur := some (p, forced, s.beat.bc), pend := g.pend.filter (· ≠ p) }
  s.moveLane (64 * e + p) .calib (some (if forced then 2 else 1))

/-- Leaving would take the lane's port out of service (R236). -/
def State.lastLane (s : State) (n : Nat) : Bool :=
  match s.portOf n with
  | some p => s.portEth p || !((s.portLanes p).any fun m => m ≠ n && s.laneUp m)
  | none => false

/-- The lane is in a circuit of its plane (09 R275). -/
def State.inCircuit (s : State) (n : Nat) : Bool :=
  s.byp.circs.any fun c => c.plane = n % 4
    && (s.fld .strLeaf c.src 9 0 / 4 = n / 4 || s.fld .strLeaf c.dst 9 0 / 4 = n / 4)

/-- A slot passes over a lane in SERVICE (R236; 09 R275). -/
def State.slotPasses (s : State) (n : Nat) : Bool := (s.flag .leCfg (n / 64) 1 && s.lastLane n) || s.inCircuit n

/-- The first position of a list that a slot takes, and the lanes that it passes over before that one. A lane that is not
in SERVICE is neither (R235). -/
def State.slotPick (s : State) (e : Nat) : List Nat → Option Nat × List Nat
  | [] => (none, [])
  | p :: ps =>
    let n := 64 * e + p
    if (s.optLane n).st ≠ .service then State.slotPick s e ps
    else if s.slotPasses n then
      let (q, l) := State.slotPick s e ps
      (q, n :: l)
    else (some p, [])

/-- Every lane in SERVICE counts the slot, the one that it took being in CALIB; 256 slots without calibration, and each
further 64, post item 0x52 (R236). -/
def State.countSlots (s : State) (e : Nat) : State :=
  (rangeFrom (64 * e) (64 * e + 64)).foldl (fun s n =>
    let o := s.optLane n
    if o.st ≠ .service then s
    else
      let k := o.slots + 1
      let s := s.setOpt n fun o => { o with slots := k }
      if 256 ≤ k && (k - 256) % 64 = 0 then
        let (w, s) := s.itemWord n
        s.leItem e 0x52 0 o.st.code o.st.code n 0 w
      else s) s

/-- The lane that a slot takes, whether it was pending, and the lanes that it passes over, each once. -/
def State.slotChoice (s : State) (e : Nat) : Option (Nat × Bool) × List Nat :=
  let g := s.engine e
  match s.slotPick e (sortBy id g.pend) with
  | (some p, l) => (some (p, true), l)
  | (none, l) =>
    let (q, l') := s.slotPick e ((List.range 64).map fun i => (g.next + i) % 64)
    (q.map fun p => (p, false), (l ++ l').eraseDups)

/-- A calibration slot opens (R235, R238). -/
def State.calSlot (s : State) (e : Nat) : State :=
  if !s.flag .leCfg e 0 then s
  else if (s.engine e).cur.isSome then s.countSlots e
  else
    let (p, l) := s.slotChoice e
    let s := l.foldl (fun (s : State) n => s.bump .leLaneCnt n 15 8 1) s
    match p with
    | none => s.countSlots e
    | some (p, wasPending) =>
      let s := if wasPending then s else s.setEngine e fun g => { g with next := (p + 1) % 64 }
      (s.calStart e p false).countSlots e

/-- A write of LE_CAL_CTRL_e takes effect (R237, R241): force or request. A forced calibration of a lane
that is not in SERVICE is ignored (21 R624). -/
def State.applyCalCtrl (s : State) (e : Nat) (val : Word) : State :=
  let p := bits val 5 0
  if bit val 17 then
    if (s.optLane (64 * e + p)).st = .service then s.setEngine e fun g => { g with forced := g.forced ++ [p] } else s
  else if bit val 16 then
    s.setEngine e fun g => { g with pend := if g.pend.contains p then g.pend else g.pend ++ [p] }
  else s

/-- At a boundary, the first forced calibration of an engine whose lane is still in SERVICE starts, once no forced one
runs; only then is a scheduled one that runs abandoned (R237, R238). -/
def State.forcedCal (s : State) (e : Nat) : State :=
  let g := s.engine e
  if (match g.cur with | some (_, f, _) => f | none => false) || g.forced = [] then s
  else
    match g.forced.dropWhile fun p => (s.optLane (64 * e + p)).st ≠ .service with
    | [] => s.setEngine e fun g => { g with forced := [] }
    | p :: ps =>
      let s := match g.cur with
        | some (q, _, _) => (s.abandonCal (64 * e + q)).moveLane (64 * e + q) .train none
        | none => s
      (s.setEngine e fun g => { g with forced := ps }).calStart e p true

/-- CAL_TIMEOUT (R234): not complete after 2 ms (7,813 beats), the lane goes to REACQ as for an unlock of
the ring named. -/
def State.calTimeout (s : State) (e : Nat) (tx : Bool) : State :=
  match (s.engine e).cur with
  | some (p, _, since) =>
    if s.beat.bc < since + 7813 then s
    else
      let n := 64 * e + p
      let s := s.setEngine e fun g => { g with cur := none }
      let s := (s.bump .leLaneCnt n 47 32 1).setOpt n fun o => o.startRing tx s.beat.bc
      s.moveLane n .reacq (some (if tx then 5 else 6))
  | none => s

/-- The lane as a calibration leaves it: a new lock point and a new park code for each ring. -/
def OptLane.calibrated (o : OptLane) (heatTx heatRx parkTx parkRx : Nat) : OptLane :=
  { o with heatTx := heatTx, heatRx := heatRx, parkTx := some parkTx, parkRx := some parkRx, slots := 0 }

/-- CAL_COMPLETE (R234): the lane returns to SERVICE, or trains where its port has been reconfigured meanwhile (R238). A
calibration that ends only after 2 ms did not complete in time: the lane goes to REACQ, with cause 5 or 6, of which the
manual does not say which: a free value. -/
def State.calComplete (s : State) (e heatTx heatRx parkTx parkRx : Nat) : State :=
  match (s.engine e).cur with
  | some (p, _, since) =>
    if since + 7813 ≤ s.beat.bc then
      let (f, s) := s.freshWord
      s.calTimeout e (bit f 0)
    else
      let n := 64 * e + p
      let again := (s.optLane n).retrain
      let s := s.setEngine e fun g => { g with cur := none }
      let s := s.setOpt n fun o => o.calibrated heatTx heatRx parkTx parkRx
      (s.bump .leLaneCnt n 31 16 1).moveLane n (if again then .train else .service) none
  | none => s

/-! ## Loopback (21 R621 to R623) -/

/-- A write of LE_LOOP_e (21 R622). One of start is ignored while a test runs or its lane is not in FAILED. -/
def State.loopWrite (s : State) (e : Nat) (val : Word) : State :=
  if !bit val 0 then s.putRw .leLoop e val
  else
    let n := 64 * e + bits val 13 8
    if (s.engine e).loop.isSome then s
    else if (s.optLane n).st ≠ .failed then s.setReg .leLoopRes n (at_ 62 3)
    else (s.putRw .leLoop e val).setEngine e fun g => { g with loop := some (bits val 13 8, Nat.max 1 (bits val 55 40), s.beat.bc) }

/-- LOOP_END: the test has run 1 ms and dur ms, and its result is recorded. rxPwr is in 0.1 dBm. -/
def State.loopEnd (s : State) (e errs : Nat) (pilotOk : Bool) (rxPwr : Int) : State :=
  match (s.engine e).loop with
  | some (p, dur, since) =>
    let pass := errs ≤ 2125 * dur && pilotOk && -40 ≤ rxPwr && rxPwr ≤ 20
    if s.beat.bc < since + msBeats (1 + dur) then s
    else (s.setEngine e fun g => { g with loop := none }).setReg .leLoopRes (64 * e + p)
      (at_ 62 (if pass then 1 else 2) ||| at_ 61 (b2n pilotOk) ||| at_ 36 (ofSigned 12 rxPwr)
        ||| at_ 0 (Nat.min errs (2 ^ 36 - 1)))
  | none => s

/-! ## What the registers report -/

/-- LE_CAL_CTRL_e. -/
def State.calCtrlWord (s : State) (e : Nat) : Word :=
  let g := s.engine e
  match g.cur with
  | some (p, f, _) => at_ 47 1 ||| at_ 46 (b2n f) ||| at_ 40 p ||| at_ 32 g.next
  | none => at_ 32 g.next

/-- LE_CAL_PEND_e. -/
def State.calPendWord (s : State) (e : Nat) : Word :=
  (s.engine e).pend.foldl (fun w p => setBit w p true) 0

/-- LE_STATUS_e in_svc: lanes of the engine in SERVICE. -/
def State.lanesInSvc (s : State) (e : Nat) : Nat :=
  ((rangeFrom (64 * e) (64 * e + 64)).filter fun n => (s.optLane n).st = .service).length

/-- The start-of-life bias of a laser, which boot firmware writes from the device record (R244). -/
def State.laserSol (s : State) (i : Nat) : Nat := if s.opt.record then (Config.solBias i).toNat else 0

/-- LE_LASER_e_k: state, sub and bias_sol beside the bias that samples set; power is measured at the read. -/
def State.laserWord (s : State) (i : Nat) : Word :=
  let l := SMap.get {} s.opt.lasers i
  let w := setBits (setBits (s.reg .leLaser i) 63 61 l.st) 60 57 (if l.st = 2 && 8 ≤ i % 12 then l.sub else 15)
  setBits w 27 16 (s.laserSol i)

/-- A read of LE_LASER_e_k: the monitor power of a laser that is lit is measured at the read, a free value. -/
def State.laserRead (s : State) (i : Nat) (w : Word) : Word × State :=
  let l := SMap.get ({} : Laser) s.opt.lasers i
  if l.st = 1 || l.st = 2 then
    let (f, s) := s.freshWord
    (setBits w 43 32 (bits f 11 0), s)
  else (w, s)

/-- LE_LANE_e_m, but for the heater powers. -/
def State.laneWord (s : State) (n : Nat) : Word :=
  let o := s.optLane n
  at_ 61 o.st.code ||| at_ 57 o.cause ||| at_ 56 (b2n o.noLight) ||| at_ 54 o.pilTx ||| at_ 52 o.pilRx

/-- A read of LE_LANE_e_m, with the heater powers of its moment. -/
def State.laneRead (s : State) (n : Nat) (w : Word) : Word × State :=
  let (h, s) := s.heats n
  (w ||| at_ 24 h.1 ||| at_ 12 h.2, s)

/-- A read of LE_STATUS_e: the highest and the lowest sensor of the photonic die are free values (log entry 73). -/
def State.engineRead (s : State) (e : Nat) : Word × State :=
  let (f, s) := s.freshWord
  let a := bits f 55 44
  let b := bits f 43 32
  (at_ 44 (Nat.max a b) ||| at_ 32 (Nat.min a b) ||| at_ 0 (s.lanesInSvc e), s)

/-- The part sends Remote Fault on the lane's transmit side: its transmit ring is locked, and its receive side is not
(R231). The receive side is locked once the lane has met its entry condition, until the next fault. -/
def State.sendsRemoteFault (s : State) (n : Nat) : Bool :=
  let o := s.optLane n
  o.st ≠ .off && o.txOk && !(o.rxOk && (o.st = .service || o.st = .calib || o.ready))

/-- LE_LOOP_e busy. -/
def State.loopWord (s : State) (e : Nat) : Word := setBit (s.shown .leLoop e) 63 (s.engine e).loop.isSome

end Sys2Proof.Machine
end

