-- ==== Sys2Proof/Machine/Bypass.lean ====
section
/-! DEFINITION. Optical bypass (09_optical_bypass.md R249 to R282): leaves, planes, demand, matching, routing,
grants, circuits and restarts. Slots are counted in boundaries: slot s is the beat that boundary s
begins (02 R37). -/

namespace Sys2Proof.Machine

/-! ## Planes, leaves and lanes -/

/-- A plane. -/
def State.plane (s : State) (w : Nat) : Plane := SMap.get {} s.byp.planes w

/-- Change a plane. -/
def State.setPlane (s : State) (w : Nat) (f : Plane → Plane) : State :=
  { s with byp := { s.byp with planes := SMap.upd {} s.byp.planes w f } }

/-- A leaf in bypass. -/
def State.bleaf (s : State) (n : Nat) : BypLeaf := SMap.get {} s.byp.leaves n

/-- Change a leaf. -/
def State.setBleaf (s : State) (n : Nat) (f : BypLeaf → BypLeaf) : State :=
  { s with byp := { s.byp with leaves := SMap.upd {} s.byp.leaves n f } }

/-- The leaves that take part. -/
def State.bypLeaves (s : State) : List Nat := (s.byp.leaves.filter fun e => e.2.takes).map (·.1)

/-- Bypass items (R282). -/
def State.bypItem (s : State) (type plane old new cause src dst : Nat) : State :=
  s.post (s.fld .bypCfg 0 37 32)
    [⟨at_ 56 type ||| at_ 54 plane ||| at_ 52 old ||| at_ 50 new ||| at_ 47 cause ||| at_ 39 src ||| at_ 31 dst,
      s.beatWord, 0, 0⟩]

/-! ## Circuits and voids (R268, R270) -/

/-- A circuit is ready in slot x. -/
def Circ.isReady (c : Circ) (x : Nat) : Bool :=
  (match c.ready with | some r => decide (r ≤ x) | none => false)
    && (match c.stop with | some g => decide (x < g) | none => true)

/-- Void the granted slots that `p` names, from boundary `from'` on, and count them (R268). -/
def State.voidSlots (s : State) (from' : Nat) (p : Grant → Bool) : State :=
  let hit := fun (g : Grant) => from' ≤ g.slot && !g.void && p g
  let n := s.byp.grants.filter hit
  let s := { s with byp := { s.byp with grants := (updAll hit (fun g => { g with void := true }) s.byp.grants) } }
  n.foldl (fun s g => s.bump .bypCnt g.plane 31 16 1) s

/-- Remove the circuits that `p` names: they end at slot `stop`, and their lanes are switched from slot
`gone`. A circuit already on its way out is left. Each posts item 0x59. -/
def State.removeCircs (s : State) (stop gone cause : Nat) (p : Circ → Bool) : State :=
  let hit := fun (c : Circ) => c.gone.isNone && p c
  let n := s.byp.circs.filter hit
  let s := { s with byp := { s.byp with circs := (updAll hit (fun c => { c with stop := some stop, gone := some gone }) s.byp.circs) } }
  n.foldl (fun s c => s.bypItem 0x59 c.plane 0 0 cause c.src c.dst) s

/-- The circuits that `p` names end at this boundary, whether they were on their way out or not; those that were not post
item 0x59 (R252, R275). -/
def State.endCircsNow (s : State) (cause : Nat) (p : Circ → Bool) : State :=
  let c := s.beat.bc
  let s := s.removeCircs c c cause p
  { s with byp := { s.byp with circs := updAll p (fun x => { x with stop := some c, gone := some c }) s.byp.circs } }

/-- The grant uses a lane: the source's receive direction or the destination's transmit direction. -/
def State.grantOn (s : State) (n : Nat) (g : Grant) : Bool :=
  s.bypLane g.src g.plane = n || s.bypLane g.dst g.plane = n

/-- The circuit uses a lane. -/
def State.circOn (s : State) (n : Nat) (c : Circ) : Bool :=
  s.bypLane c.src c.plane = n || s.bypLane c.dst c.plane = n

/-- A lane leaves service (R268, R270): its slots are void, its circuit ends with the next slot not yet
decided. -/
def State.bypLaneOut (s : State) (n : Nat) : State :=
  let c := s.beat.bc
  (s.voidSlots c (s.grantOn n)).removeCircs (c + 7) (c + 7) 2 (s.circOn n)

/-- A forced calibration starts on a lane of a circuit: it is removed at that boundary (R275). -/
def State.bypCalOut (s : State) (n : Nat) : State := s.endCircsNow 4 (s.circOn n)

/-! ## Anchors (R252) -/

/-- The anchor of a leaf whose anchor lane is out of service: the lowest lane in no circuit, one that is being cleared
counting as a circuit; or the lowest lane, whose circuit ends. The new anchor is switched from this boundary. -/
def State.reAnchor (s : State) (leaf : Nat) : State :=
  let b := s.bleaf leaf
  if !b.takes || s.laneUp (s.bypLane leaf b.anchor) then s
  else
    let c := s.beat.bc
    let up := [0, 1, 2, 3].filter fun w => s.laneUp (s.bypLane leaf w)
    let busy := fun w => s.byp.circs.any fun x => x.plane = w && (x.src = leaf || x.dst = leaf) &&
      (match x.gone with | some g => decide (c < g) | none => true)
    let take := fun (s : State) (w : Nat) =>
      (s.setBleaf leaf fun b => { b with anchor := w }).voidSlots c (s.grantOn (s.bypLane leaf w))
    match up.find? fun w => !busy w with
    | some w => take s w
    | none =>
      match up with
      | w :: _ => take (s.endCircsNow 5 (s.circOn (s.bypLane leaf w))) w
      | [] => s

/-! ## Taking part (R251) -/

/-- The port of a leaf suits bypass. -/
def State.bypSuits (s : State) (n : Nat) : Bool :=
  let p := s.fld .strLeaf n 9 0
  s.flag .strLeaf n 16 && s.portValid p && !s.portEth p && s.portWidth p = 4 && !s.disabled 0 p
    && !((List.range 256).any fun m => m ≠ n && s.flag .bypLeaf m 0 && s.flag .strLeaf m 16 && s.fld .strLeaf m 9 0 = p)

/-- A leaf stops taking part (R268, R275). -/
def State.leafOut (s : State) (n cause : Nat) : State :=
  let c := s.beat.bc
  let s := s.setBleaf n fun b => { b with takes := false, rep := none, fresh := none }
  (s.voidSlots c fun g => g.src = n || g.dst = n).removeCircs (c + 7) (c + 7) cause fun x => x.src = n || x.dst = n

/-- Judge whether a leaf takes part, after the writes of a boundary. -/
def State.leafJudge (s : State) (n : Nat) : State :=
  let b := s.bleaf n
  if !s.flag .bypLeaf n 0 then
    let s := if b.takes then s.leafOut n 1 else s
    s.setBleaf n fun b => { b with refused := false, misalign := false, outside := 0 }
  else if s.bypSuits n then
    if b.takes then s
    else (s.setBleaf n fun b => { b with takes := true, refused := false, anchor := s.fld .bypLeaf n 5 4 }).reAnchor n
  else
    let s := if b.takes then s.leafOut n 2 else s
    if b.refused then s else (s.setBleaf n fun b => { b with refused := true }).bypItem 0x5A 0 0 0 1 n 0

/-- Every leaf whose en is set, or that has taken part. -/
def State.leavesJudge (s : State) : State :=
  let a := 0x400100 / 8
  let en := (s.regs.eff.filter fun e => a ≤ e.1 && e.1 < a + 256 && bit e.2 0).map fun e => e.1 - a
  let l := (s.byp.leaves.map (·.1) ++ en).eraseDups
  l.foldl State.leafJudge s

/-- A write of BYP_LEAF_n takes effect: anchor_pref is ignored while en is set (R275). One that clears en acts at once, so
that one that sets it again at the same boundary starts anew (R267). -/
def State.applyBypLeaf (s : State) (n : Nat) (val : Word) : State :=
  let keep := s.flag .bypLeaf n 0
  let pref := if keep then s.fld .bypLeaf n 5 4 else bits val 5 4
  let s := s.setReg .bypLeaf n (setBits (setBit (s.reg .bypLeaf n) 0 (bit val 0)) 5 4 pref)
  if keep && !bit val 0 then s.leafJudge n else s

/-! ## Plane modes (R271 to R274) -/

/-- Change a plane's mode at boundary c = the boundary count. `gone` causes: of item 0x59. -/
def State.planeMode (s : State) (w new cause circCause : Nat) : State :=
  let p := s.plane w
  let c := s.beat.bc
  if p.cur = new then s
  else
    let s :=
      if new = 0 then
        let s := s.removeCircs (c + 7) (if p.cur = 1 then c + 7 else c + 31) circCause fun x => x.plane = w
        s.setPlane w fun p => { p with cur := 0, cause := cause, lock := false, fall := none, fell := false, handTo := 0 }
      else if p.cur = 0 then
        s.setPlane w fun p => { p with cur := new, cause := cause, burstFrom := c + 7, lock := true, cleanAt := c, handTo := 0 }
      else
        s.setPlane w fun p => { p with cur := new, cause := cause, burstFrom := c + 31, handFrom := c + 7, handTo := c + 31 }
    s.bypItem 0x58 w p.cur new cause 0 0

/-- The mode that software requests: 0b11 is taken as OFF. -/
def State.planeWant (s : State) (w : Nat) : Nat := let m := s.fld .bypPlane w 1 0; if m = 3 then 0 else m

/-- A write of BYP_PLANE_w takes effect (R271, R273). While the plane calibrates, a change to OFF acts at once and ends the
calibration; another is taken when the calibration ends. -/
def State.applyPlane (s : State) (w : Nat) (val : Word) : State :=
  let old := s.planeWant w
  let s := s.setReg .bypPlane w (setBits (s.reg .bypPlane w) 1 0 (bits val 1 0))
  let new := s.planeWant w
  let s := if new ≠ old && !s.disabled 4 w && (new = 0 || !(s.plane w).cal) then
      (s.setPlane w fun p => { p with fell := false, cal := false }).planeMode w new 1 1
    else s
  if bit val 2 && (s.plane w).cur ≠ 0 then s.setPlane w fun p => { p with calWant := true } else s

/-- A calibration of plane w begins at this boundary: a hand-over to thermal holding (R273). -/
def State.planeCalBegin (s : State) (w : Nat) : State :=
  let s := s.setPlane w fun p => { p with cal := true, calAt := s.beat.bc, calWant := false }
  if (s.plane w).cur = 1 then s.planeMode w 2 2 1 else s

/-- At a boundary: the next calibration, forced ones first, one plane at a time. A plane that is OFF is
passed over. -/
def State.planeCalGo (s : State) : State :=
  if [0, 1, 2, 3].any fun w => (s.plane w).cal then s
  else
    match [0, 1, 2, 3].find? fun w => (s.plane w).calWant && (s.plane w).cur ≠ 0 with
    | some w => s.planeCalBegin w
    | none =>
      match s.byp.calDue with
      | [] => s
      | w :: ws =>
        let s := { s with byp := { s.byp with calDue := ws } }
        if (s.plane w).cur = 0 then s else s.planeCalBegin w

/-- The plane-calibration timer fires: the next plane in turn (R273). -/
def State.planeTimer (s : State) : State :=
  { s with byp := { s.byp with calDue := s.byp.calDue ++ [s.byp.nextCal], nextCal := (s.byp.nextCal + 1) % 4 } }

/-- PLANE_CAL_DONE: not before the hand-over has ended (R273). -/
def State.planeCalDone (s : State) (w : Nat) : State :=
  let p := s.plane w
  if p.cal && p.calAt + 31 ≤ s.beat.bc then
    let s := s.setPlane w fun p => { p with cal := false }
    if s.disabled 4 w || p.fell then s else s.planeMode w (s.planeWant w) 2 1
  else s

/-- PLANE_FALLBACK: an element loses lock, or the fast drivers fail; it acts at the next boundary. -/
def State.planeFallback (s : State) (w : Nat) (driver : Bool) : State :=
  if (s.plane w).cur = 0 then s
  else s.setPlane w fun p => { p with fall := some driver, lock := false, lostAt := s.beat.bc }

/-- A fall-back acts at this boundary (R272). -/
def State.planeFall (s : State) (w : Nat) : State :=
  let p := s.plane w
  match p.fall with
  | none => s
  | some d =>
    let cause := if d then 4 else 3
    let s := s.voidSlots s.beat.bc fun g => g.plane = w
    let s := { s with byp := { s.byp with circs := (updAll (fun c => c.plane = w) (fun c => { c with ready := none }) s.byp.circs) } }
    let s := s.setPlane w fun p => { p with fall := none, fell := true, cur := 2, cause := cause, handTo := 0 }
    (s.bump .bypCnt w 15 0 1).bypItem 0x58 w p.cur 2 cause 0 0

/-- PLANE_RELOCK: every element has locked again; its circuits are ready 24 beats later. -/
def State.planeRelock (s : State) (w : Nat) : State :=
  let p := s.plane w
  if p.cur = 0 || p.lock || p.fall.isSome then s
  else
    let s := s.setPlane w fun p => { p with lock := true, cleanAt := s.beat.bc }
    { s with byp := { s.byp with circs := (updAll (fun c => c.plane = w && c.ready.isNone) (fun c => { c with ready := some (s.beat.bc + 24) }) s.byp.circs) } }

/-- PLANE_LOCK_TIMEOUT: 250 µs (977 beats) without lock (R272). -/
def State.planeLockTimeout (s : State) (w : Nat) : State :=
  let p := s.plane w
  if p.cur ≠ 0 && !p.lock && p.lostAt + 977 ≤ s.beat.bc then s.planeMode w 0 p.cause 3 else s

/-- PLANE_AUTO_FAST: 1 ms (3,907 beats) of clean lock (R272). -/
def State.planeAutoFast (s : State) (w : Nat) : State :=
  let p := s.plane w
  if p.fell && p.cur = 2 && p.lock && !p.cal && s.flag .bypCfg 0 1 && s.planeWant w = 1 && !s.disabled 4 w
      && p.cleanAt + 3907 ≤ s.beat.bc then
    (s.setPlane w fun p => { p with fell := false }).planeMode w 1 1 1
  else s

/-- A CUT of a plane (R274): as a change to OFF, and every granted slot is void from the next boundary. -/
def State.planeCut (s : State) (w : Nat) : State :=
  (s.voidSlots (s.beat.bc + 1) fun g => g.plane = w).planeMode w 0 5 1

/-- An `ena` of a plane (15 R446): as from OFF. -/
def State.planeEna (s : State) (w : Nat) : State := s.planeMode w (s.planeWant w) 1 1

/-! ## byp.set (R269, R270) -/

/-- Why byp.set fails: 1 RANGE, 2 STATE. -/
def State.bypSetFails (s : State) (w i j : Nat) (clear : Bool) : Option Nat :=
  let lane := fun l => s.bypLane l w
  let bad := fun l => !(s.bleaf l).takes || (s.bleaf l).misalign || (s.bleaf l).anchor = w || !s.laneUp (lane l)
  let at' := fun (x : Circ) => x.plane = w && (match x.gone with | some g => decide (s.beat.bc + 7 < g) | none => true)
  if i = j then some 1
  else if (s.plane w).cur = 0 || bad i || bad j then some 2
  else if clear then
    (if s.byp.circs.any fun x => x.plane = w && x.src = i && x.dst = j && x.gone.isNone then none else some 2)
  else if s.byp.circs.any fun x => at' x && (x.src = i || x.dst = j) then some 2
  else none

/-- byp.set, applied at boundary c. -/
def State.bypSet (s : State) (w i j : Nat) (clear : Bool) : State :=
  let c := s.beat.bc
  let slow := (s.plane w).cur = 2
  if clear then
    { s with byp := { s.byp with circs := (updAll (fun x => x.plane = w && x.src = i && x.dst = j && x.gone.isNone)
        (fun x => { x with stop := some (c + 7), gone := some (if slow then c + 31 else c + 7) }) s.byp.circs) } }
  else
    { s with byp := { s.byp with circs := s.byp.circs ++
        [{ plane := w, src := i, dst := j, start := c + 7, ready := some (if slow then c + 31 else c + 7),
           stop := none, gone := none }] } }

/-! ## Demand (R262, R266, R267) -/

/-- The leaf that a port stands for in bypass: the one that takes part with it, else the lowest valid one (R251, R262). -/
def State.bypLeafOf (s : State) (p : Nat) : Option Nat :=
  match s.bypLeaves.find? fun n => s.fld .strLeaf n 9 0 = p with
  | some n => some n
  | none => s.leafOfPort p

/-- BYP_DEMAND_RECEIVED: a report on a lane of a leaf's port. -/
def State.demand (s : State) (lane : Nat) (payload : List Byte) : State :=
  match s.portOf lane with
  | none => s
  | some p =>
    match s.bypLeafOf p with
    | none => s
    | some n =>
      if !s.laneUp lane then s
      else
        let ws := beWords 32 payload
        let w0 := ws.getD 0 0
        let s := s.bump .bypLeafCnt n 31 0 1
        let count := bits w0 23 16
        if !(s.bleaf n).takes || 62 < count then s
        else
          let seen := bits w0 63 32
          let half := fun i => let w := ws.getD (1 + i / 2) 0; if i % 2 = 0 then bits w 63 32 else bits w 31 0
          let es := (List.range count).map fun i => (half i / 2 ^ 24, half i % 2 ^ 20)
          let lost := sdiff 32 (s.beat.now + 2) seen
          let s := s.bump .bypLeafCnt n 63 48 lost.toNat
          let rep : Report := ⟨seen, bits w0 31 28, bits w0 27 24, es, s.beat.bc⟩
          s.setBleaf n fun b => { b with fresh := some rep, repAt := some s.beat.bc }

/-- report_life, 1 to 16. -/
def State.reportLife (s : State) : Nat := Nat.min 16 (Nat.max 1 (s.fld .bypCfg 0 31 24))

/-- min_tiles, 1 to 24. -/
def State.minTiles (s : State) : Nat := Nat.min 24 (Nat.max 1 (s.fld .bypCfg 0 15 8))

/-- A leaf's report in force. -/
def State.reportOf (s : State) (n : Nat) : Option Report :=
  match (s.bleaf n).rep with
  | some r => if s.beat.bc ≤ r.at_ + s.reportLife then some r else none
  | none => none

/-- The beat number of a slot. -/
def State.slotBeat (s : State) (slot : Nat) : Nat := ofSigned 32 ((s.beat.now : Int) + slot - s.beat.bc)

/-- d[i][j] (R266). -/
def State.demandOf (s : State) (i j : Nat) : Nat :=
  match s.reportOf i with
  | none => 0
  | some r =>
    match r.entries.find? fun e => e.1 = j with
    | none => 0
    | some e =>
      e.2 - (s.byp.grants.filter fun g => g.src = i && g.dst = j && 0 < sdiff 32 (s.slotBeat g.slot) r.seen).foldl
        (fun n g => n + g.tiles) 0

/-! ## Stage 1 (R265) -/

/-- Conditions that src_ok and dst_ok share: leaf, plane, slot; against the state after the boundary that began the beat
(R264). -/
def State.endOk (s : State) (n w slot : Nat) (src : Bool) : Bool :=
  let b := s.bleaf n
  let lane := s.bypLane n w
  let p := s.plane w
  b.takes && !b.misAt
    && (match s.reportOf n with
        | some r => ((if src then r.send else r.recv) >>> w) % 2 = 1
        | none => false)
    && s.laneUp lane && b.anchor ≠ w
    && !(s.byp.circs.any fun c => c.plane = w && (if src then c.src = n else c.dst = n) && c.holds slot)
    && !s.byp.busyAt.contains lane
    && p.cur = 1 && p.burstFrom ≤ slot && !(p.handFrom ≤ slot && slot < p.handTo) && !p.cal && !s.disabled 4 w

/-- The demand that is left in a round whose planes have granted `done` so far. -/
def State.leftOf (s : State) (done : List Grant) (i j : Nat) : Nat :=
  s.demandOf i j - ((done.filter fun g => g.src = i && g.dst = j).map (·.tiles)).sum

/-- The best destination of source i: the largest demand, the first in order of (j − i) mod 256. -/
def State.bestDst (s : State) (done : List Grant) (i w slot : Nat) (taken : List Nat) : Option (Nat × Nat) :=
  let cand := match s.reportOf i with
    | some r => (r.entries.map (·.1)).eraseDups.filter fun j =>
        j ≠ i && !taken.contains j && s.minTiles ≤ s.leftOf done i j && s.endOk j w slot false
    | none => []
  (sortBy (fun j => (j + 256 - i) % 256) cand).foldl (fun b j =>
    let d := s.leftOf done i j
    match b with
    | some (_, e) => if e < d then some (j, d) else b
    | none => some (j, d)) none

/-- One plane's matching for a slot, after the grants that the planes before it in the round have made. -/
def State.matchPlane (s : State) (slot w : Nat) (done : List Grant) : List Grant :=
  let ptr := SMap.get 0 s.byp.ptr w
  let srcs := sortBy (fun i => (i + 256 - ptr) % 256) s.bypLeaves
  (srcs.foldl (fun (done, taken) i =>
    if !s.endOk i w slot true then (done, taken)
    else
      match s.bestDst done i w slot taken with
      | none => (done, taken)
      | some (j, d) =>
        let g : Grant := { slot := slot, plane := w, src := i, dst := j, tiles := Nat.min 24 d, void := false, routed := false }
        (done ++ [g], j :: taken)) (done, ([] : List Nat))).1

/-- BYPASS_MATCHING: in beat s − 7, the matchings of slot s, once in each beat. -/
def State.matching (s : State) : State :=
  if s.byp.matched then s
  else
    let slot := s.beat.bc + 7
    let s := { s with byp := { s.byp with matched := true } }
    if s.flag .bypCfg 0 0 then
      let k := s.slotBeat slot
      let done := [0, 1, 2, 3].foldl (fun l i => s.matchPlane slot ((k + i) % 4) l) []
      let ptr := [0, 1, 2, 3].foldl (fun m w => SMap.upd 0 m w fun p => (p + 1) % 256) s.byp.ptr
      { s with byp := { s.byp with grants := s.byp.grants ++ done, ptr := ptr } }
    else s

/-! ## Stage 2: the routing of a matching through a plane (R249, R264)

A plane is a Beneš network: a stage of elements, two networks of half the size, and a stage of elements. Element e of the
first stage has inputs 2e and 2e + 1; bar sends the even one to the upper network. Many settings carry a matching, and
the manual names none: the model takes those that the looping method gives (DESIGN CHOICE, log entry 55). -/

/-- Follow one loop of the looping method from input i: it goes through the upper network, the input whose output shares
an element with its output through the lower one, and so on. -/
def benesLoop (p q : List Nat) : Nat → Nat → List (Option Bool) → List (Option Bool)
  | 0, _, c => c
  | fuel + 1, i, c =>
    if (c.getD i none).isSome then c
    else
      let k := q.getD (p.getD i 0 ^^^ 1) 0
      benesLoop p q fuel (k ^^^ 1) ((c.set i (some false)).set k (some true))

/-- Which inputs go through the lower network. -/
def benesLower (p q : List Nat) : List Bool :=
  let n := p.length
  ((List.range (n / 2)).foldl (fun c e => benesLoop p q n (2 * e) c) (List.replicate n none)).map (·.getD true)

/-- The inverse of a permutation. -/
def inversePerm (p : List Nat) : List Nat := (List.range p.length).map fun j => (p.findIdx? (· = j)).getD 0

/-- The stages that take input i of 2^k to output p i: the cross elements of each. -/
def benes : Nat → List Nat → List (List Bool)
  | 0, _ => []
  | 1, p => [[p.getD 0 0 = 1]]
  | k + 2, p =>
    let q := inversePerm p
    let low := benesLower p q
    let half := List.range (p.length / 2)
    let first := half.map fun e => low.getD (2 * e) false
    let last := half.map fun f => low.getD (q.getD (2 * f) 0) false
    let up := half.map fun e => p.getD (if low.getD (2 * e) false then 2 * e + 1 else 2 * e) 0 / 2
    let down := half.map fun e => p.getD (if low.getD (2 * e) false then 2 * e else 2 * e + 1) 0 / 2
    [first] ++ List.zipWith (· ++ ·) (benes (k + 1) up) (benes (k + 1) down) ++ [last]

/-- Where a network of 2^k inputs with these settings takes an input. -/
def benesOut : Nat → List (List Bool) → Nat → Nat
  | 0, _, i => i
  | 1, st, i => if (st.getD 0 []).getD 0 false then i ^^^ 1 else i
  | k + 2, st, i =>
    let cross := fun (l : List Bool) (j : Nat) => if l.getD (j / 2) false then j ^^^ 1 else j
    let a := cross (st.getD 0 []) i
    let inner := ((st.drop 1).take (2 * k + 1)).map fun l => if a % 2 = 0 then l.take (2 ^ k) else l.drop (2 ^ k)
    let b := benesOut (k + 1) inner (a / 2)
    cross (st.getLastD []) (2 * b + a % 2)

/-- A permutation that holds the joinings `l`: free inputs go to free outputs, in order. -/
def fillPerm (n : Nat) (l : List (Nat × Nat)) : List Nat :=
  let outs := (List.range n).filter fun j => !l.any fun x => x.2 = j
  let ins := (List.range n).filter fun i => !l.any fun x => x.1 = i
  (List.range n).map fun i =>
    match l.find? fun x => x.1 = i with
    | some x => x.2
    | none => outs.getD ((ins.findIdx? (· = i)).getD 0) 0

/-- The pairs that plane w joins in a slot: those of its grants, and those of its circuits (R249, R250). -/
def State.joinings (s : State) (w slot : Nat) : List (Nat × Nat) :=
  let pair := fun (leaf : Nat) => s.bypLane leaf w / 4
  ((s.byp.grants.filter fun g => g.slot = slot && g.plane = w && !g.void).map fun g => (pair g.src, pair g.dst))
    ++ (s.byp.circs.filter fun c => c.plane = w && c.holds slot).map fun c => (pair c.src, pair c.dst)

/-- BYPASS_ROUTING: in beat s − 6, the matchings of slot s are routed; this never fails (R264). -/
def State.routing (s : State) : State :=
  let slot := s.beat.bc + 6
  let gs := updAll (fun (g : Grant) => g.slot = slot) (fun g => { g with routed := true }) s.byp.grants
  let routes := [0, 1, 2, 3].foldl (fun m w =>
    match s.joinings w slot with
    | [] => m
    | l => SMap.set [] m (4 * slot + w) (benes 8 (fillPerm 256 l))) s.byp.routes
  { s with byp := { s.byp with routed := true, grants := gs, routes := routes } }

/-! ## Grant frames (R263) -/

/-- What a leaf's light does on w in a slot, or what arrives: the code, the other leaf, the tiles. -/
def State.slotUse (s : State) (leaf w slot : Nat) (src : Bool) : Nat × Nat × Nat :=
  match s.byp.grants.find? fun g => g.slot = slot && g.plane = w && !g.void && (if src then g.src = leaf else g.dst = leaf) with
  | some g => (1, if src then g.dst else g.src, g.tiles)
  | none =>
    match s.byp.circs.find? fun c => c.plane = w && c.holds slot && (if src then c.src = leaf else c.dst = leaf) with
    | some c => (if c.isReady slot then 3 else 2, if src then c.dst else c.src, 0)
    | none => (0, 0, 0)

/-- One wavelength's half word of a grant. -/
def State.grantHalf (s : State) (leaf slot w : Nat) : Nat :=
  let (a, b, t) := s.slotUse leaf w slot true
  let (c, d, _) := s.slotUse leaf w slot false
  a <<< 30 ||| b <<< 22 ||| t <<< 17 ||| c <<< 15 ||| d <<< 7

/-- The BYP_GRANT frame of one leaf for the slot five boundaries ahead, sent on its anchor after the listed class-7
copies `after` (R263, R264). -/
def State.sendGrant (s : State) (leaf : Nat) (after : Nat → List Nat) : State :=
  let slot := s.beat.bc + 5
  let b := s.bleaf leaf
  let lane := s.bypLane leaf b.anchor
  let h := s.grantHalf leaf slot
  if !s.laneUp lane then s
  else
    s.sendHop lane opBypGrant ((wordBytes (at_ 32 (s.slotBeat slot) ||| at_ 30 b.anchor))
      ++ wordBytes (at_ 32 (h 0) ||| at_ 0 (h 1)) ++ wordBytes (at_ 32 (h 2) ||| at_ 0 (h 3)) ++ wordBytes 0) (after lane)

/-! ## Step 7 (R264, R268) -/

/-- The lane directions bypassed in the beat that this boundary begins. -/
def State.slotLanes (s : State) : List Nat × List Nat :=
  let c := s.beat.bc
  let gs := s.byp.grants.filter fun g => g.slot = c && !g.void && g.routed
  let cs := s.byp.circs.filter fun x => x.holds c
  (gs.map (fun g => s.bypLane g.src g.plane) ++ cs.map (fun x => s.bypLane x.src x.plane),
   gs.map (fun g => s.bypLane g.dst g.plane) ++ cs.map (fun x => s.bypLane x.dst x.plane))

/-- A grant that may still count against a report to come: its source takes part, and its slot is not yet half the range of
beat numbers behind (R266). -/
def State.grantLives (s : State) (g : Grant) : Bool :=
  decide (s.beat.bc < g.slot + 64) || ((s.bleaf g.src).takes && decide (s.beat.bc < g.slot + 2 ^ 31))

/-- A transmit direction that returns from bypass: its stream restarts, and what waited for the restart goes
(R258, R260). -/
def State.txReturns (s : State) (n : Nat) : State := (s.emit (.restart n)).startNext n

/-- Step 7: the settings and the select states of the slot are applied, and past slots and ended circuits are forgotten.
What arrives on the source lane of a void slot is ignored, and its next restart accepted (R268). -/
def State.bypassStep (s : State) : State :=
  let c := s.beat.bc
  let s := (s.byp.grants.filter fun g => g.slot = c && !g.void && g.routed).foldl
    (fun s g => (s.bump .bypCnt g.plane 63 32 1).progEvent 0x1C g.plane none 1) s
  let (rx, tx) := s.slotLanes
  let voids := ((s.byp.grants.filter fun g => g.slot = c && g.void).map fun g => s.bypLane g.src g.plane).filter
    fun n => !rx.contains n
  let came := s.byp.rxByp.filter fun n => !rx.contains n
  let went := rx.filter fun n => !s.byp.rxByp.contains n
  let back := came.foldl (fun m n => SMap.set 0 m n (Nat.max 1 (c - SMap.get c s.byp.rxSince n))) s.byp.back
  let back := voids.foldl (fun m n => SMap.upd 0 m n (Nat.max 1)) back
  let back := rx.foldl (fun m n => SMap.erase m n) back
  let since := came.foldl (fun m n => SMap.erase m n) s.byp.rxSince
  let since := went.foldl (fun m n => SMap.insert m n c) since
  let s := came.foldl (fun s n => s.setOpt n fun o => { o with winGood := 0 }) s
  let gs := s.byp.grants.filter s.grantLives
  let cs := s.byp.circs.filter fun x => match x.gone with | some g => decide (c < g) | none => true
  let elems := [0, 1, 2, 3].foldl (fun m w =>
    match SMap.get [] s.byp.routes (4 * c + w) with
    | [] => m
    | l => SMap.set [] m w l) s.byp.elems
  let elems := [0, 1, 2, 3].foldl (fun m w => if (s.plane w).cur = 0 && !cs.any (fun x => x.plane = w) then SMap.erase m w else m) elems
  let outTx := s.byp.txByp.filter fun n => !tx.contains n
  let busy := (s.lnk.lanes.filter fun e => e.2.req.isSome || e.2.asked.isSome).map (·.1)
  let leaves := s.byp.leaves.map fun e => (e.1, { e.2 with misAt := e.2.misalign })
  let s := { s with byp := { s.byp with
    rxByp := rx, txByp := tx, back := back, rxSince := since, grants := gs, circs := cs, ignored := voids, elems := elems,
    routes := s.byp.routes.filter fun e => 4 * c + 4 ≤ e.1, busyAt := busy, leaves := leaves } }
  outTx.foldl State.txReturns s

/-! ## Restarts (R258 to R261, R267; 16 R487) -/

/-- The measurement of a restart, in 0.125 ns from 8 ns into the beat. -/
def State.alignMeasure (s : State) (n : Nat) (meas : Int) : State :=
  let old := toSigned 16 (s.fld .timeAlign n 47 32)
  let s := (s.bump .timeAlign n 63 48 1).setFld .timeAlign n 15 0 (ofSigned 16 meas)
  let s := if old.natAbs < meas.natAbs then s.setFld .timeAlign n 47 32 (ofSigned 16 meas) else s
  if meas < -16 || 16 < meas then
    let s := s.bump .bypLeafCnt n 47 32 1
    let k := (s.bleaf n).outside + 1
    let s := s.setBleaf n fun b => { b with outside := k }
    if k = 16 && !(s.bleaf n).misalign then
      (s.setBleaf n fun b => { b with misalign := true }).bypItem 0x5A 0 0 0 2 n 0
    else s
  else s.setBleaf n fun b => { b with outside := 0 }

/-- RESTART_RECEIVED: a receive direction that came back from bypass restarts; frames that its leaf sent
into the bypass count as discarded and are asked for again (R259). After more than 1 s in bypass, the ring must first have named
its wavelength in two pilot windows (R261). -/
def State.restart (s : State) (lane : Nat) (meas : Int) (first : Nat) : State :=
  let k := SMap.get 0 s.byp.back lane
  if k = 0 then s
  else
    let s := { s with byp := { s.byp with back := SMap.erase s.byp.back lane } }
    match (s.portOf lane).bind s.bypLeafOf with
    | none => s
    | some n =>
      let s := s.alignMeasure n meas
      if 3906250 < k && (s.optLane lane).winGood < 2 then s.ringLost lane false 6
      else
        let gap := sdiff 32 first (s.lane lane).rxNum
        if (s.lane lane).req.isNone && 0 < gap then s.damaged lane gap.toNat else s

/-! ## What the registers report -/

/-- BYP_PLANE_w. -/
def State.planeWord (s : State) (w : Nat) : Word :=
  let p := s.plane w
  at_ 38 p.cur ||| at_ 35 p.cause ||| at_ 34 (b2n (p.handFrom ≤ s.beat.bc && s.beat.bc < p.handTo))
    ||| at_ 33 (b2n p.cal) ||| at_ 32 (b2n p.lock)

/-- BYP_LEAF_n. -/
def State.bleafWord (s : State) (n : Nat) : Word :=
  let b := s.bleaf n
  let age := match b.repAt with
    | some at' => Nat.min 255 (s.beat.bc - at')
    | none => 255
  let (rr, sr) := match s.reportOf n with
    | some r => (r.recv, r.send)
    | none => (0, 0)
  at_ 44 rr ||| at_ 40 sr ||| at_ 32 age ||| at_ 8 b.anchor ||| at_ 2 (b2n b.misalign) ||| at_ 1 (b2n b.refused)

/-- BYP_CIRC_w_i. -/
def State.circWord (s : State) (i : Nat) : Word :=
  match s.byp.circs.find? fun c => c.plane = i / 256 && c.src = i % 256 with
  | some c => at_ 14 (if c.gone.isSome then 3 else if c.isReady s.beat.bc then 2 else 1) ||| at_ 0 c.dst
  | none => 0

end Sys2Proof.Machine
end

