-- ==== Sys2Proof/Machine/Counters.lean ====
section
/-! DEFINITION. The counter block: allocation, snapshots, cicada dumps and the sampled counters
(17_telemetry.md R495 to R513). -/

namespace Sys2Proof.Machine

/-! ## Local time as read (16 R465) -/

/-- Whole nanoseconds of local time. -/
def TimeState.ns (t : TimeState) : Nat := t.img / 2 ^ 33

/-- Seconds. -/
def TimeState.secOf (t : TimeState) : Nat := t.ns / 10 ^ 9

/-- Nanoseconds within the second. -/
def TimeState.nsOf (t : TimeState) : Nat := t.ns % 10 ^ 9

/-- The fraction in units of 2^-32 ns. -/
def TimeState.fracOf (t : TimeState) : Nat := t.img % 2 ^ 33 / 2

/-! ## Occupancies (R497) -/

/-- KiB of the buffers of some chunks. -/
def kibOfUses (l : List BufUse) : Nat := l.foldl (fun n u => n + (u.bufs.map fun b => b.list.kib).sum) 0

/-- The occupancy of a source; none where no state shows it (log entry 21). -/
def State.occupancy (s : State) (src idx : Nat) (pf : Option Nat) : Option Nat :=
  if src = 0x20 then some (SMap.get 0 s.q.occ idx)
  else if src = 0x21 then
    some (s.q.copies.filter fun c => 1024 * c.port + 128 * c.cls + c.subq = idx).length
  else if src = 0x22 then
    match pf with
    | some p => some ((if idx ≠ 1 then s.tileUse 0 p else 0) + (if idx ≠ 0 then s.tileUse 1 p else 0))
    | none => some ((if idx ≠ 1 then 655360 - s.freeOn 0 else 0) + (if idx ≠ 0 then 655360 - s.freeOn 1 else 0))
  else if src = 0x23 then
    some (kibOfUses (s.buf.stg.filter fun u => u.cluster = idx))
  else if src = 0x24 then some (s.net.streams.filter fun t => t.stage = .penHeld || t.stage = .seqHeld).length
  else if src = 0x25 then
    some (match pf with
      | some p => s.trkUse p
      | none => s.mem.trk.length)
  else if src = 0x27 then
    some (kibOfUses (s.buf.spill.filter fun u => pf.isNone || pf = some u.part) / 64)
  else if src = 0x28 then some s.q.copies.length
  else none

/-- The dies that may hold the occupancy of a source: the one where its port, its lane, its cluster or its tiles lie, or
either, where the manual names none (log entry 21). -/
def diesOfSource (src idx : Nat) : List Nat :=
  if src = 0x20 then [dieOfLane (idx / 8)]
  else if src = 0x21 then [dieOfLane (idx / 1024)]
  else if src = 0x22 && idx < 2 then [idx]
  else if src = 0x23 then [idx / 384]
  else if src = 0x26 then [dieOfLane idx]
  else [0, 1]

/-- The core cycles that a beat adds at most: 384 while the die is stretched (02 R36). -/
def State.cyclesTop (s : State) (src idx : Nat) : Nat :=
  if (diesOfSource src idx).all fun d => if d = 0 then s.beat.stretchW else s.beat.stretchE then 384 else 512

/-- Sample one programmable counter of mode 1 or 2 at a boundary. How many cycles of a beat an occupancy
was above n, and an occupancy that no state shows, are free values (log entry 21). -/
def State.sampleProg (s : State) (i : Nat) (w : Word) : State :=
  let pf := if bit w 59 then some (bits w 58 47) else none
  let n := bits w 20 0
  let o := s.occupancy (bits w 46 41) (bits w 40 21) pf
  if bits w 61 60 = 2 then
    match o with
    | some v => if n < v then s.count (cntProg i) 1 else s
    | none =>
      let (f, s) := s.freshWord
      s.count (cntProg i) (f.toNat % 2)
  else
    let (f, s) := s.freshWord
    s.count (cntProg i) (f.toNat % (s.cyclesTop (bits w 46 41) (bits w 40 21) + 1))

/-- Every enabled counter of modes 1 and 2, and counters 28 and 29 of the partitions (R492). -/
def State.sampleAll (s : State) : State :=
  let s := (s.progCfgs.filter fun e => bit e.2 63 && bit e.2 62 && (bits e.2 61 60 = 1 || bits e.2 61 60 = 2)).foldl
    (fun s e => s.sampleProg e.1 e.2) s
  let users := (s.buf.tileUse.map fun e => e.1 % 4096).eraseDups
  let s := users.foldl (fun (s : State) p => if s.pminTile p < s.tileUse 0 p + s.tileUse 1 p then s.partCount p 28 else s) s
  ((s.net.streams.filter fun t => t.stage = .memWait).map (·.part)).eraseDups.foldl (fun s p => s.partCount p 29) s

/-- Codewords that the FEC has corrected in the beat that ends: no row of the table brings them, so how many is free
(R490, R497; log entry 64). -/
def State.fecCounts (s : State) : State :=
  (List.range 1024).foldl (fun (s : State) n =>
    let k := Config.corrected n s.beat.bc
    (s.count (cntLane n 4) k).progEvent 0x05 n none k) s

/-! ## Snapshots (R501, R502) -/

/-- Copy every counter into its shadow, once for a boundary. -/
def State.takeSnapshot (s : State) : State :=
  if s.cnt.taken then s
  else { s with cnt := { s.cnt with shadow := s.cnt.live, shadowBeat := s.beat.now, taken := true } }

/-- A dump of an earlier boundary still reads the shadows. -/
def State.dumping (s : State) : Bool :=
  match s.cnt.dump with
  | some d => decide (d.bc < s.beat.bc)
  | none => false

/-- A cause without a dump falls due. -/
def State.snapCause (s : State) : State :=
  if s.dumping then
    let s := s.bump .cntStatus 0 31 16 1
    { s with cnt := { s.cnt with deferred := true } }
  else s.takeSnapshot

/-- A due dump is skipped: once for a boundary. -/
def State.skipDump (s : State) : State :=
  if s.cnt.skipDone then s
  else
    let s := s.bump .cntCicadaCtrl 0 31 16 1
    { s with cnt := { s.cnt with skipped := satAdd 16 s.cnt.skipped 1, skipDone := true } }

/-- The power domains that are off, as a mask. -/
def State.domainsOff (s : State) : Nat :=
  (List.range 96).foldl (fun m d =>
    let st := (SMap.get ({} : Dom) s.pwr.dom d).st
    if st = 0 || st = 4 then m ||| 2 ^ d else m) 0

/-- A dump falls due at this boundary. -/
def State.dumpCause (s : State) : State :=
  if s.dumping then s.skipDump
  else if s.cnt.dump.isSome then s
  else
    let s := s.takeSnapshot
    let host := s.flag .cntCicadaCfg 0 62
    if !host && !s.flag .cntCicadaRegion 0 63 then s.skipDump
    else
      let slots := Nat.max 1 (s.fld .cntCicadaRegion 0 15 0)
      let d : Dump :=
        { bc := s.beat.bc, ring := if host then some (s.fld .cntCicadaCfg 0 53 48) else none,
          seq := s.cnt.seqNext, slot := s.cnt.seqNext % slots, sections := s.fld .cntCicadaCfg 0 60 56,
          overrun := s.cnt.skipped, beat := s.beat.now, sec := s.time.secOf, ns := s.time.nsOf, off := s.domainsOff }
      { s with cnt := { s.cnt with dump := some d, seqNext := (s.cnt.seqNext + 1) % 2 ^ 32, skipped := 0 } }

/-- K of the periodic dump. -/
def State.cicadaK (s : State) : Nat := Nat.max 64 (s.fld .cntCicadaCfg 0 31 0)

/-- The periodic dump falls due at this boundary. -/
def State.periodicDue (s : State) : Bool :=
  let d := s.beat.bc - s.cnt.sinceEn
  s.flag .cntCicadaCfg 0 63 && d ≠ 0 && d % s.cicadaK = 0

/-- The periodic dump, every K boundaries. -/
def State.cicadaPeriodic (s : State) : State :=
  if s.cnt.periodicDone || !s.periodicDue then s
  else
    let s := s.dumpCause
    { s with cnt := { s.cnt with periodicDone := true } }

/-- The user refresh falls due at this boundary. -/
def State.refreshDue (s : State) : Bool :=
  let u := s.fld .cntCfg 0 47 32
  let d := s.beat.bc - s.cnt.sinceUser
  u ≠ 0 && d ≠ 0 && d % Nat.max 16 u = 0

/-- The user refresh, every usnap boundaries. -/
def State.userRefresh (s : State) : State :=
  if s.cnt.userDone || !s.refreshDue then s
  else
    let s := s.snapCause
    { s with cnt := { s.cnt with userDone := true } }

/-- A deferred snapshot waits, and no dump runs any more. -/
def State.deferredDue (s : State) : Bool := s.cnt.deferred && s.cnt.dump.isNone

/-- The snapshot that served no earlier boundary, at the first boundary after the dump ended. -/
def State.deferredSnap (s : State) : State :=
  if s.deferredDue then
    let s := s.takeSnapshot
    { s with cnt := { s.cnt with deferred := false } }
  else s

/-- A write of CNT_CICADA_CTRL with bit n waits for this boundary (R509). -/
def State.ctrlWants (s : State) (n : Nat) : Bool :=
  s.regs.pend.any fun p => p.kind = .cntCicadaCtrl && !p.late && bit p.val n

/-- Step 1: what the beat that ends still adds; every cause that falls due, one snapshot; then the sampled counters. -/
def State.snapshotStep (s : State) : State :=
  let s := s.fecCounts
  let s := s.deferredSnap
  let s := s.cicadaPeriodic
  let s := if s.cnt.wantDump || s.ctrlWants 2 then s.dumpCause else s
  let s := if s.ctrlWants 1 then s.snapCause else s
  let s := s.userRefresh
  let s := s.sampleAll
  { s with cnt := { s.cnt with taken := false, periodicDone := false, userDone := false, skipDone := false,
                               wantDump := false, traceBeat := [] } }

/-! ## Dumps (R503 to R506) -/

/-- Write `n` whole lines of spine memory with zeros: the bytes and the marks go. -/
def State.zeroSpine (s : State) (a n : Nat) : State :=
  { s with mem := { s.mem with
      spine := s.mem.spine.filter fun c => !(decide (a ≤ c.1) && decide (c.1 < a + n)),
      poisonS := s.mem.poisonS.filter fun c => !(decide (a ≤ 64 * c.1) && decide (64 * c.1 < a + n)) } }

/-- Put the shadows of a run of counter keys into spine memory from an address. `place` gives a counter's
byte within the section. -/
def State.dumpSection (s : State) (a len lo hi : Nat) (place : Nat → Nat) : State :=
  (s.cnt.shadow.filter fun e => lo ≤ e.1 && e.1 < hi).foldl
    (fun s e => s.putSpine (a + place e.1) (BitVec.ofNat 64 e.2)) (s.zeroSpine a len)

/-- Bytes of a section, header excluded. -/
def sectionBytes (k : Nat) : Nat := [65536, 262144, 262144, 4096, 2097152].getD k 0

/-- One selected section of a dump. -/
def State.writeSection (s : State) (d : Dump) (base k : Nat) : State :=
  if (d.sections >>> k) % 2 = 0 then s
  else if k = 0 then s.dumpSection (base + 0x1000) 65536 (cntProg 0) (cntProg 8192) fun i => 8 * (i - cntProg 0)
  else if k = 1 then s.dumpSection (base + 0x11000) 262144 (cntLane 0 0) (cntLane 1024 0) fun i => 8 * (i - cntLane 0 0)
  else if k = 2 then s.dumpSection (base + 0x51000) 262144 (cntPc 0 0) (cntPc 8192 0) fun i => 8 * (i - cntPc 0 0)
  else if k = 3 then s.dumpSection (base + 0x91000) 4096 (cntLeaf 0) (cntLeaf 0 + 512) fun i => 8 * (i - cntLeaf 0)
  else
    let s := s.dumpSection (base + 0x92000) 2097152 (cntPart 0 0) (cntPart 4096 0) fun i => 8 * (i - cntPart 0 0)
    (List.range 4096).foldl (fun s p =>
      s.putSpine (base + 0x92000 + 512 * p + 504) (BitVec.ofNat 64 d.beat)) s

/-- The header of a dump (R505). -/
def dumpHeader (d : Dump) : List Word :=
  let bytes := 256 + (List.range 5).foldl (fun n k => if (d.sections >>> k) % 2 = 1 then n + sectionBytes k else n) 0
  [at_ 32 0x43494341 ||| at_ 16 1 ||| at_ 1 d.sections, at_ 32 d.seq ||| at_ 0 d.beat, at_ 0 d.sec, at_ 32 d.ns,
   at_ 48 d.overrun ||| at_ 0 bytes, BitVec.ofNat 64 d.off, BitVec.ofNat 64 (d.off / 2 ^ 64)]

/-- A dump into its slot of the region; nothing is written while DDR5 is not READY. -/
def State.dumpToSpine (s : State) (d : Dump) : State :=
  if !s.ddrReady then s
  else
    let base := s.fld .cntCicadaRegion 0 62 34 * 4096 + 0x300000 * d.slot
    let s := (List.range 5).foldl (fun s k => s.writeSection d base k) s
    let s := s.zeroSpine base 4096
    ((List.range 7).zip (dumpHeader d)).foldl (fun s x => s.putSpine (base + 8 * x.1) x.2) s

/-- The items 0x89 of the enabled counters: three to an item. -/
def counterItems : List (Nat × Nat) → List Item
  | (i, a) :: (j, b) :: (k, c) :: l =>
    ⟨at_ 56 0x89 ||| at_ 54 3 ||| at_ 26 i ||| at_ 13 j ||| at_ 0 k, BitVec.ofNat 64 a, BitVec.ofNat 64 b,
      BitVec.ofNat 64 c⟩ :: counterItems l
  | [(i, a), (j, b)] =>
    [⟨at_ 56 0x89 ||| at_ 54 2 ||| at_ 26 i ||| at_ 13 j, BitVec.ofNat 64 a, BitVec.ofNat 64 b, 0⟩]
  | [(i, a)] => [⟨at_ 56 0x89 ||| at_ 54 1 ||| at_ 26 i, BitVec.ofNat 64 a, 0, 0⟩]
  | [] => []

/-- A dump as one packet on a host ring (R506). -/
def State.dumpToRing (s : State) (d : Dump) (ring : Nat) : State :=
  let cs := (s.progCfgs.filter fun e => bit e.2 63).map fun e => (e.1, SMap.get 0 s.cnt.shadow (cntProg e.1))
  let items := counterItems cs
  s.post ring (⟨at_ 56 0x88 ||| at_ 32 items.length ||| at_ 0 d.overrun, at_ 32 d.seq ||| at_ 0 d.beat, at_ 0 d.sec,
    at_ 32 d.ns⟩ :: items)

/-- DUMP_COMPLETE: the last byte of the dump is written, the header last. -/
def State.dumpComplete (s : State) : State :=
  match s.cnt.dump with
  | none => s
  | some d =>
    let s := match d.ring with
      | some r => s.dumpToRing d r
      | none => s.dumpToSpine d
    let s := s.setFld .cntCicadaCtrl 0 63 32 d.seq
    { s with cnt := { s.cnt with dump := none } }

/-! ## Programmable counters (R496 to R500) -/

/-- A counter is held. -/
def State.held (s : State) (i : Nat) : Bool := s.flag .cntPcfg i 62

/-- The lowest run of n counters that are not held, from counter i on; `fuel` counters remain and `run` of
those just before i are free. -/
def State.freeRun (s : State) (n : Nat) : Nat → Nat → Nat → Option Nat
  | 0, _, _ => none
  | fuel + 1, i, run =>
    if s.held i then State.freeRun s n fuel (i + 1) 0
    else if n ≤ run + 1 then some (i + 1 - n)
    else State.freeRun s n fuel (i + 1) (run + 1)

/-- An allocate write of n. -/
def State.cntAllocate (s : State) (n : Nat) : State :=
  if n = 0 || 256 < n then s
  else
    match s.freeRun n 8192 0 0 with
    | some b =>
      let s := (List.range n).foldl (fun s k => s.setFlag .cntPcfg (b + k) 62 true) s
      ((s.setFld .cntAlloc 0 44 32 b).setFlag .cntAlloc 0 63 true).setFlag .cntAlloc 0 62 false
    | none =>
      ((s.setFlag .cntAlloc 0 63 false).setFlag .cntAlloc 0 62 true).bump .cntStatus 0 63 48 1

/-- A release takes effect: held and en are cleared on n counters from base. -/
def State.cntRelease (s : State) (base n : Nat) : State :=
  if n = 0 || 256 < n then s
  else (rangeFrom base (Nat.min 8192 (base + n))).foldl
    (fun s i => (s.setFlag .cntPcfg i 62 false).setFlag .cntPcfg i 63 false) s

/-- The modes that suit a source, its highest index and whether pf may be set (R497). -/
def sourceInfo (src : Nat) : Option (Bool × Nat × Bool) :=
  if src = 0x01 || src = 0x02 || src = 0x03 || src = 0x04 then some (true, 1023, true)
  else if src = 0x05 then some (true, 1023, false)
  else if 0x08 ≤ src && src ≤ 0x0B then some (true, 8191, true)
  else if src = 0x0C || src = 0x0D then some (true, 1048575, true)
  else if src = 0x10 then some (true, 2047, true)
  else if src = 0x14 then some (true, 4095, false)
  else if src = 0x15 then some (true, 767, false)
  else if src = 0x18 then some (true, 1, true)
  else if src = 0x19 then some (true, 7, false)
  else if src = 0x1C then some (true, 3, false)
  else if src = 0x20 then some (false, 8191, false)
  else if src = 0x21 then some (false, 1048575, false)
  else if src = 0x22 then some (false, 2, true)
  else if src = 0x23 then some (false, 767, false)
  else if src = 0x24 then some (false, 0, false)
  else if src = 0x25 then some (false, 0, true)
  else if src = 0x26 then some (false, 1023, false)
  else if src = 0x27 then some (false, 0, true)
  else if src = 0x28 then some (false, 0, false)
  else none

/-- A configuration is one that R497 allows. One that leaves en clear selects nothing (log entry 22). -/
def pcfgOk (w : Word) : Bool :=
  let m := bits w 61 60
  !bit w 63 || m = 3 ||
    (match sourceInfo (bits w 46 41) with
    | some (ev, top, pf) => (if m = 0 then ev else !ev) && bits w 40 21 ≤ top && (pf || !bit w 59)
    | none => false)

/-- A write of CNT_CICADA_CFG takes effect: the count of K restarts when en goes from 0 to 1. -/
def State.applyCicadaCfg (s : State) (val : Word) : State :=
  let was := s.flag .cntCicadaCfg 0 63
  let s := s.putRw .cntCicadaCfg 0 val
  if !was && bit val 63 then { s with cnt := { s.cnt with sinceEn := s.beat.bc } } else s

/-- A write of CNT_CFG takes effect: the count of user refreshes starts again. -/
def State.applyCntCfg (s : State) (val : Word) : State :=
  let s := s.putRw .cntCfg 0 val
  { s with cnt := { s.cnt with sinceUser := s.beat.bc } }

/-- A write of CNT_TRACE_t takes effect: matches are counted from en. -/
def State.applyTrace (s : State) (t : Nat) (val : Word) : State :=
  let was := s.flag .cntTrace t 63
  let s := s.putRw .cntTrace t val
  if !was && bit val 63 then { s with cnt := { s.cnt with traceMatch := SMap.erase s.cnt.traceMatch t } } else s

/-- A write of CNT_PROG_n takes effect. -/
def State.applyProg (s : State) (i : Nat) (val : Word) : State :=
  { s with cnt := { s.cnt with live := SMap.set 0 s.cnt.live (cntProg i) val.toNat } }

/-- part.new sets counters 0 to 29 of its partition to zero (R492). -/
def State.clearPart (s : State) (p : Nat) : State :=
  { s with cnt := { s.cnt with live := s.cnt.live.filter fun e => !(cntPart p 0 ≤ e.1 && e.1 < cntPart p 30) } }

/-- The live counter j of a partition (R492). -/
def State.partCounter (s : State) (p j : Nat) : Word :=
  if j = 63 then BitVec.ofNat 64 s.beat.now
  else if 30 ≤ j then 0
  else BitVec.ofNat 64 (SMap.get 0 s.cnt.live (cntPart p j))

end Sys2Proof.Machine
end

