-- ==== Sys2Proof/Machine/HostRings.lean ====
section
/-! DEFINITION. MSI-X and the device-to-host rings (18_host_and_memory_interfaces.md R520, R531 to R540). -/

namespace Sys2Proof.Machine

/-! ## MSI-X (R520) -/

/-- An entry of the MSI-X table. -/
def State.msix (s : State) (v : Nat) : Msix := SMap.get Msix.reset s.host.msix v

/-- Mark a vector pending, or not. -/
def State.setPba (s : State) (v : Nat) (b : Bool) : State :=
  { s with host := { s.host with pba := SMap.set false s.host.pba v b } }

/-- Send a vector, or hold it pending under its entry's mask and the function's mask. -/
def State.sendVector (s : State) (v : Nat) : State :=
  let e := s.msix v
  if e.mask || s.host.funcMask then s.setPba v true
  else (s.setPba v false).emit (.msix v e.addr e.data)

/-- Send what is pending and no longer masked. -/
def State.sendPending (s : State) : State :=
  s.host.pba.foldl (fun s e => if e.2 then s.sendVector e.1 else s) s

/-- The host unmasks an entry, which its one write of 16 bytes sets whole, or the function. -/
def State.unmask (s : State) (entry : Option Nat) (addr data : Word) : State :=
  match entry with
  | none => ({ s with host := { s.host with funcMask := false } }).sendPending
  | some v =>
    let e : Msix := { addr := addr, data := data, mask := false }
    let s := { s with host := { s.host with msix := SMap.set Msix.reset s.host.msix v e } }
    if SMap.get false s.host.pba v then s.sendVector v else s

/-! ## Device-to-host rings (R531 to R537) -/

/-- A device-to-host ring. -/
def State.ring (s : State) (r : Nat) : D2hRing := SMap.get {} s.host.d2h r

/-- Change a ring. -/
def State.setRing (s : State) (r : Nat) (f : D2hRing → D2hRing) : State :=
  { s with host := { s.host with d2h := SMap.upd {} s.host.d2h r f } }

/-- lg of a ring. -/
def State.ringLg (s : State) (r : Nat) : Nat :=
  let l := s.fld .hostD2hCfg r 56 52
  if 6 ≤ l && l ≤ 17 then l else 6

/-- The stored word of pointer v of a ring. -/
def State.ringSlot (s : State) (r v : Nat) : Nat :=
  let n := 2 ^ s.ringLg r
  (s.fld .hostD2hCfg r 16 0 / n * n + v % n) % 131072

/-- The stored word at an index. -/
def State.stored (s : State) (i : Nat) : Stored := SMap.get Stored.none s.host.sram i

/-- Change a stored word. -/
def State.putStored (s : State) (i : Nat) (x : Stored) : State :=
  { s with host := { s.host with sram := SMap.set Stored.none s.host.sram i x } }

/-- A pointer moved on by one; pointers are lg + 1 bits wide. -/
def State.ringNext (s : State) (r v : Nat) : Nat := (v + 1) % 2 ^ (s.ringLg r + 1)

/-- The ring is full: wr and rd differ only in bit lg. -/
def State.ringFull (s : State) (r : Nat) : Bool :=
  let g := s.ring r
  (g.wr + 2 ^ s.ringLg r) % 2 ^ (s.ringLg r + 1) = g.rd

/-- Packets fall by one; at zero the holdoff count starts anew. -/
def D2hRing.lessPkt (g : D2hRing) : D2hRing :=
  { g with pkts := g.pkts - 1, nonzero := if g.pkts ≤ 1 then 0 else g.nonzero }

/-- A write that finds its ring full discards the oldest item (R534). -/
def State.ringShed (s : State) (r : Nat) : State :=
  if s.ringFull r then
    let g := s.ring r
    let x := s.stored (s.ringSlot r g.rd)
    let s := s.bump .hostD2hCfg r 51 36 1
    let s := s.setRing r fun g => { g with rd := s.ringNext r g.rd }
    if x.last then s.setRing r D2hRing.lessPkt
    else
      let i := s.ringSlot r (s.ring r).rd
      s.putStored i { s.stored i with brk := true }
  else s

/-- Write one item. -/
def State.ringWrite (s : State) (r : Nat) (x : Item) (last : Bool) : State :=
  let s := s.ringShed r
  let g := s.ring r
  let s := s.putStored (s.ringSlot r g.wr) { item := x, last := last, brk := false }
  s.setRing r fun g => { g with wr := s.ringNext r g.wr, pkts := g.pkts + b2n last }

/-- Write the items of a packet; the last carries the end mark (R532). -/
def State.ringItems (s : State) (r : Nat) : List Item → State
  | [] => s
  | [x] => s.ringWrite r x true
  | x :: xs => State.ringItems (s.ringWrite r x false) r xs

/-! ## Interrupts of a ring (R539) -/

/-- The condition on packets, or on boundaries, holds. -/
def State.ringCond (s : State) (r : Nat) : Bool :=
  let g := s.ring r
  let h := s.fld .hostD2hIrq r 31 16
  Nat.max 1 (s.fld .hostD2hIrq r 47 32) ≤ g.pkts || (h ≠ 0 && g.pkts ≠ 0 && h ≤ g.nonzero)

/-- Test the interrupt: it is sent and disarmed in the first cycle in which a condition holds. -/
def State.ringIrq (s : State) (r : Nat) : State :=
  if s.flag .hostD2hIrq r 63 && (s.ring r).armed && s.ringCond r then
    (s.setRing r fun g => { g with armed := false }).sendVector (s.fld .hostD2hIrq r 58 48)
  else s

/-- A completion with irq set sends the ring's vector at once; the interrupt is disarmed afterwards. -/
def State.ringIrqNow (s : State) (r : Nat) : State :=
  if s.flag .hostD2hIrq r 63 then
    (s.sendVector (s.fld .hostD2hIrq r 58 48)).setRing r fun g => { g with armed := false }
  else s

/-- D2H_PACKET_WRITE: the first packet that waits for the ring's write port is written whole. -/
def State.packetWrite (s : State) (r : Nat) : State :=
  match s.host.outbox.find? fun p => p.1 = r with
  | none => s
  | some p =>
    let s := { s with host := { s.host with outbox := dropFirst (fun q => q.1 = r) s.host.outbox } }
    if s.flag .hostD2hCfg r 63 then (s.ringItems r p.2).ringIrq r
    else s.bump .hostD2hCfg r 51 36 p.2.length

/-- The tag word of a popped item, without its pois bits (R540). -/
def tagWord (x : Stored) : Word := at_ 55 (b2n x.last) ||| at_ 54 (b2n x.brk)

/-- Reading word 0 of the pop window (R533): the item is captured with its tag word, and the interrupt is
armed again. -/
def State.ringPop (s : State) (r pois : Nat) : State :=
  let g := s.ring r
  let arm := fun (s : State) => (s.setRing r fun g => { g with armed := true }).ringIrq r
  if g.pkts = 0 then arm (s.setRing r fun g => { g with cap := [0, 0, 0, 0, 0] })
  else
    let x := s.stored (s.ringSlot r g.rd)
    let s := s.setRing r fun g =>
      { (if x.last then g.lessPkt else g) with
        rd := s.ringNext r g.rd, cap := [x.item.w0, x.item.w1, x.item.w2, x.item.w3, tagWord x ||| at_ 56 (pois % 256)] }
    arm s

/-- Flush (R535): a packet is written whole, so none is in progress. -/
def State.ringFlush (s : State) (r : Nat) : State :=
  s.setRing r fun g => { g with rd := g.wr, pkts := 0, nonzero := 0 }

/-- A write of HOST_D2H_CFG_r (R537). -/
def State.ringCfg (s : State) (r : Nat) (val : Word) : State :=
  let s := if bit val 62 then s.ringFlush r else s
  if s.flag .hostD2hCfg r 63 && bit val 63 then s
  else
    let l := s.ringLg r
    let b := s.fld .hostD2hCfg r 16 0
    let s := s.putRw .hostD2hCfg r val
    if s.ringLg r = l && s.fld .hostD2hCfg r 16 0 = b then s
    else s.setRing r fun g => { g with wr := 0, rd := 0, pkts := 0, nonzero := 0 }

/-- A write of HOST_D2H_IRQ_r (R539). -/
def State.ringIrqWrite (s : State) (r : Nat) (val : Word) : State :=
  let was := s.flag .hostD2hIrq r 63
  let s := s.putRw .hostD2hIrq r val
  let s := if !was && bit val 63 then s.setRing r fun g => { g with armed := true } else s
  s.ringIrq r

/-- A ring at a boundary: one more boundary at which pkts is not zero. -/
def State.ringBoundary (s : State) (r : Nat) : State :=
  if (s.ring r).pkts = 0 then s else (s.setRing r fun g => { g with nonzero := g.nonzero + 1 }).ringIrq r

/-- The timed condition of an armed interrupt holds at the coming boundary. -/
def State.holdoffDue (s : State) (r : Nat) : Bool :=
  let g := s.ring r
  let h := s.fld .hostD2hIrq r 31 16
  h ≠ 0 && g.pkts ≠ 0 && decide (h ≤ g.nonzero + 1) && s.flag .hostD2hIrq r 63 && g.armed

/-- HOST_D2H_STAT_r. -/
def State.d2hStatWord (s : State) (r : Nat) : Word :=
  let g := s.ring r
  at_ 46 g.wr ||| at_ 28 g.rd ||| at_ 10 g.pkts

end Sys2Proof.Machine
end

