-- ==== Sys2Proof/Machine/Time.lean ====
section
/-! DEFINITION. Local time, the length of beats, triggers and the class-7 bound (16_time.md;
02_beat_and_clocks.md R33 to R40, R48 to R52). The image of local time is held in units of 2^-33 ns, of which
each core cycle adds as many as TIME_INC holds units of 2^-32 ns for a reference cycle. -/

namespace Sys2Proof.Machine

/-! ## The clock (R465 to R467) -/

/-- Units in 256 ns. -/
def unitsBeat : Nat := 2 ^ 41

/-- The span of local time: seconds are 48 bits wide. -/
def unitsSpan : Nat := 2 ^ 48 * 10 ^ 9 * 2 ^ 33

/-- The increment in force without slew, clamped as R466. -/
def State.timeInc (s : State) : Nat :=
  Nat.min 0x100200000 (Nat.max 0xFFE00000 (s.reg .timeInc 0).toNat)

/-- The excess of each core cycle while slew remains. -/
def State.slewStep (s : State) : Nat := s.timeInc * Nat.min 48828 (s.fld .timeSlew 0 63 48) / 10 ^ 8

/-- Local time `n` core cycles later. -/
def TimeState.adv (t : TimeState) (inc e n : Nat) : TimeState :=
  let x := Nat.min (n * e) t.remain.natAbs
  let left := t.remain.natAbs - x
  if 0 ≤ t.remain then
    { t with img := (t.img + n * inc + x) % unitsSpan, cyc := t.cyc + n, remain := (left : Int),
             switching := t.switching && decide (left ≠ 0) }
  else
    { t with img := (t.img + n * inc - x) % unitsSpan, cyc := t.cyc + n, remain := -(left : Int),
             switching := t.switching && decide (left ≠ 0) }

/-- Cycles until the image reaches the next multiple of 256 ns (02 R33). -/
def TimeState.reach (t : TimeState) (inc e : Nat) : Nat :=
  let d := unitsBeat - t.img % unitsBeat
  let r := t.remain.natAbs
  if r = 0 || e = 0 then ceilDiv d inc
  else if 0 < t.remain then Nat.max (ceilDiv d (inc + e)) (ceilDiv (d - r) inc)
  else Nat.min (ceilDiv d (inc - e)) (ceilDiv (d + r) inc)

/-- Cycles from `cyc` to the coming boundary: a realignment beat is never shorter than 512 cycles
(02 R35). -/
def State.toBoundary (s : State) : Nat :=
  let t := s.time
  let inc := s.timeInc
  let e := s.slewStep
  if t.stepped || s.beat.reload then
    let k := 511 - t.cyc
    k + (t.adv inc e k).reach inc e
  else t.reach inc e

/-- Local time moves on by n core cycles within the beat. -/
def State.advTime (s : State) (n : Nat) : State := { s with time := s.time.adv s.timeInc s.slewStep n }

/-- Core cycles of the west die, where the beat generator is, in `n` cycles of the unstretched clock: while the die is
stretched, three in four (02 R36). -/
def State.westCycles (s : State) (n : Nat) : Nat := if s.beat.stretchW then 3 * n / 4 else n

/-- Cycles of the unstretched clock up to a core cycle of the west die. -/
def State.fullCycles (s : State) (n : Nat) : Nat := if s.beat.stretchW then ceilDiv (4 * n) 3 else n

/-- Local time moves on to a core cycle of the beat in progress. -/
def State.timeTo (s : State) (cycle : Nat) : State :=
  s.advTime (Nat.min (s.fullCycles cycle - s.time.cyc) (s.toBoundary - 1))

/-- Local time moves on to some core cycle of the beat: which one is free (log entry 6). -/
def State.timeFree (s : State) : State :=
  let (f, s) := s.freshWord
  s.advTime (f.toNat % Nat.max 1 s.toBoundary)

/-- Nanoseconds of local time at the coming boundary. -/
def State.comingNs (s : State) : Nat := (s.time.adv s.timeInc s.slewStep s.toBoundary).ns

/-! ## Grids (R475, R477) -/

/-- The first point t0 + k·p after `now`, for whole k. -/
def gridAfter (t0 p now : Nat) : Nat :=
  if p = 0 then t0
  else if t0 ≤ now then t0 + ((now - t0) / p + 1) * p
  else t0 - ((t0 - now - 1) / p) * p

/-- The calibration grid of an engine: its offset and its period, in ns. -/
def State.calGrid (s : State) (e : Nat) : Nat × Nat :=
  let p := Nat.max 10 (s.fld .leCfg e 31 16) * 10 ^ 6
  (e * p / 16, p)

/-- The first calibration slot of an engine after a time. -/
def State.calAfter (s : State) (e now : Nat) : Nat := gridAfter (s.calGrid e).1 (s.calGrid e).2 now

/-- The period of plane calibrations, in ns; 0 stops them. -/
def State.planePeriod (s : State) : Nat := s.fld .bypCfg 0 63 48 * 60 * 10 ^ 9

/-- The period of field tests, in ns. -/
def State.testPeriod (s : State) : Nat := Nat.max 10 (s.fld .intFtCfg 0 31 16) * 10 ^ 6

/-- Set an engine's next slot. -/
def State.setCalAt (s : State) (e : Nat) (x : Option Nat) : State :=
  { s with time := { s.time with calAt := SMap.set none s.time.calAt e x } }

/-- Every internal trigger starts at the first grid point after a time. -/
def State.internalFrom (s : State) (now : Nat) : State :=
  let s := (List.range 16).foldl (fun s e => s.setCalAt e (some (s.calAfter e now))) s
  let pl := if s.planePeriod = 0 then none else some (gridAfter 0 s.planePeriod now)
  { s with time := { s.time with planeAt := pl, testAt := some (gridAfter 0 s.testPeriod now) } }

/-! ## Triggers (R473 to R475, R486) -/

/-- A trigger's next target, while it is armed. -/
def State.trigAt (s : State) (n : Nat) : Option Nat := SMap.get none s.time.armed n

/-- Arm or disarm a trigger. -/
def State.setTrig (s : State) (n : Nat) (x : Option Nat) : State :=
  { s with time := { s.time with armed := SMap.set none s.time.armed n x } }

/-- The target that software wrote, in ns. -/
def State.trigTarget (s : State) (n : Nat) : Nat :=
  s.fld .timeTrigSec n 47 0 * 10 ^ 9 + Nat.min 999999999 (s.fld .timeTrigNs n 29 0)

/-- p of a trigger in ns. -/
def State.trigPeriod (s : State) (n : Nat) : Nat := s.fld .timeTrigCtl n 31 0 * 256

/-- A target is due at a time (R473). -/
def dueAt (target now : Nat) : Bool :=
  let d := sdiff 48 (now / 10 ^ 9) (target / 10 ^ 9)
  0 < d || (d = 0 && target % 10 ^ 9 ≤ now % 10 ^ 9)

/-- Trigger n is due at a time. -/
def State.trigDue (s : State) (n now : Nat) : Bool :=
  match s.trigAt n with
  | some t => dueAt t now
  | none => false

/-- Trigger n fires at the boundary whose beat starts at `now` (R474, R475). -/
def State.trigFire (s : State) (n now : Nat) : State :=
  match s.trigAt n with
  | none => s
  | some t =>
    if !dueAt t now then s
    else
      let action := s.fld .timeTrigCtl n 60 58
      let arg := s.fld .timeTrigCtl n 57 47
      let s := if t + 256 ≤ now / 256 * 256 then s.setFlag .timeTrigCtl n 61 true else s
      let s := s.setFld .timeTrigCnt n 63 32 (s.fld .timeTrigCnt n 63 32 + 1)
      let p := s.trigPeriod n
      let s :=
        if p = 0 then s.setTrig n none
        else
          let x := gridAfter t p now
          (s.bump .timeTrigCnt n 31 16 ((x - t) / p - 1)).setTrig n (some x)
      if action = 1 then s.sendVector arg
      else if action = 3 then s.emit .pulse
      else if action = 4 then s.raise .trigger [n, arg]
      else s

/-- A due trigger with action 2 asks for a dump in step 1 of the same boundary. -/
def State.trigDump (s : State) (n now : Nat) : State :=
  if s.trigDue n now && s.fld .timeTrigCtl n 60 58 = 2 then { s with cnt := { s.cnt with wantDump := true } } else s

/-- Every trigger, before step 1. -/
def State.trigDumps (s : State) (now : Nat) : State :=
  (List.range 64).foldl (fun s n => s.trigDump n now) s

/-- A write of TIME_TRIG_CTL_n takes effect: en arms. -/
def State.applyTrigCtl (s : State) (n : Nat) (val : Word) : State :=
  let s := s.putRw .timeTrigCtl n val
  s.setTrig n (if bit val 63 then some (s.trigTarget n) else none)

/-- A write of an armed trigger's target takes effect. -/
def State.applyTrigTarget (s : State) (k : RegKind) (n : Nat) (val : Word) : State :=
  let s := s.putRw k n val
  if (s.trigAt n).isSome then s.setTrig n (some (s.trigTarget n)) else s

/-- An internal trigger's next point has been reached at `now`. -/
def pointDue (point : Option Nat) (now : Nat) : Bool :=
  match point with
  | some t => decide (t ≤ now)
  | none => false

/-- The point of the field test's grid that is due at `now` has had its slot. -/
def State.testPast (s : State) (now : Nat) : State :=
  match s.time.testAt with
  | some t => if t ≤ now then { s with time := { s.time with testAt := some (gridAfter 0 s.testPeriod now) } } else s
  | none => s

/-- A calibration slot of an engine that is due at `now`, or the first grid point where none is set. -/
def State.calDueAt (s : State) (e now : Nat) : State :=
  match SMap.get none s.time.calAt e with
  | none => s.setCalAt e (some (s.calAfter e now))
  | some t => if t ≤ now then (s.calSlot e).setCalAt e (some (s.calAfter e now)) else s

/-- The plane timer, where it is due at `now`. -/
def State.planeDueAt (s : State) (now : Nat) : State :=
  if s.planePeriod = 0 then s
  else
    let next := some (gridAfter 0 s.planePeriod now)
    match s.time.planeAt with
    | none => { s with time := { s.time with planeAt := next } }
    | some t =>
      if t ≤ now then
        let s := s.planeTimer
        { s with time := { s.time with planeAt := next } }
      else s

/-! ## Steps, slews and domains (R467, R468, R472) -/

/-- A step has been made: the beat in progress is a realignment beat, and the grids move. -/
def State.afterStep (s : State) : State :=
  let now := s.time.ns
  let s := { s with
    time := { s.time with stepped := true, isSet := true, steps := (s.time.steps + 1) % 256 },
    beat := { s.beat with realign := true } }
  let s := s.time.armed.foldl (fun s e =>
    if s.trigPeriod e.1 = 0 then s else s.setTrig e.1 (e.2.map fun t => gridAfter t (s.trigPeriod e.1) now)) s
  s.internalFrom now

/-- A write of TIME_STEP. -/
def State.stepTime (s : State) (ns : Int) : State :=
  let img := (((s.time.img : Int) + ns * 2 ^ 33) % (unitsSpan : Int)).toNat
  ({ s with time := { s.time with img := img } }).afterStep

/-- A write of go in TIME_SET1; one whose ns is 10^9 or more is ignored. -/
def State.setTime (s : State) : State :=
  let ns := s.fld .timeSet1 0 61 32
  if 10 ^ 9 ≤ ns then s
  else
    let img := (s.fld .timeSet0 0 47 0 * 10 ^ 9 + ns) * 2 ^ 33
    ({ s with time := { s.time with img := img } }).afterStep

/-- Set remain, from units of 2^-16 ns. A sum that 48 bits do not hold is not stated: a free value. -/
def State.setRemain (s : State) (v : Int) : State :=
  if -(2 ^ 64 : Int) ≤ v && v < (2 ^ 64 : Int) then { s with time := { s.time with remain := v } }
  else
    let (f, s) := s.freshWord
    { s with time := { s.time with remain := toSigned 48 f.toNat * 2 ^ 17 } }

/-- A write of TIME_SLEW: the rate, and add. -/
def State.slew (s : State) (rate : Nat) (add : Int) : State :=
  let s := s.setFld .timeSlew 0 63 48 rate
  s.setRemain (s.time.remain + add * 2 ^ 17)

/-- SLEW_COMPLETE: local time moves on to the cycle in which remain reaches zero, where the beat holds it;
switching clears. -/
def State.slewComplete (s : State) : State :=
  let e := s.slewStep
  if s.time.remain = 0 then { s with time := { s.time with switching := false } }
  else if e = 0 then s
  else
    let k := ceilDiv s.time.remain.natAbs e
    if k < s.toBoundary then s.advTime k else s

/-- A write of TIME_DOM_CFG takes effect (R472). -/
def State.applyDomCfg (s : State) (val : Word) : State :=
  let s := s.putRw .timeDomCfg 0 val
  let sel := s.flag .timeDomCfg 0 8
  if sel = s.time.cur then s
  else
    let off := toSigned 64 (s.reg .timeDomOff (b2n sel)).toNat
    if 2 ^ 47 ≤ off.natAbs then
      (s.setFlag .timeStatus 0 61 true).post (s.fld .timeTsCfg 0 5 0)
        [⟨at_ 56 0x82, s.reg .timeDomOff (b2n sel), s.beatWord, 0⟩]
    else { s with time := { s.time with remain := off * 2 ^ 17, cur := sel, switching := decide (off ≠ 0) } }

/-- TIME_STATUS. -/
def State.timeStatusWord (s : State) : Word :=
  at_ 63 (b2n s.time.cur) ||| at_ 62 (b2n s.time.switching) ||| at_ 61 (b2n (s.flag .timeStatus 0 61))
    ||| at_ 48 s.time.steps ||| at_ 0 (ofSigned 48 (s.time.remain / 2 ^ 17))

/-! ## The boundary of a beat (02 R33 to R40, R52) -/

/-- Units of local time in a number of picoseconds. -/
def psUnits (ps : Int) : Int := ps * 2 ^ 33 / 1000

/-- BEAT_IMAGE_CHECK: local time stands `diff` ps ahead of the core's image of it, behind where `diff` is negative; more than
1 ns makes the next boundary a realignment boundary, at which the image is loaded with local time (02 R34). The state
holds one time for the two, which until now ran with the image: it takes the value of local time, and the boundary
falls on a multiple of 256 ns of that (02 R35; log entry 85). -/
def State.imageCheck (s : State) (diff : Int) : State :=
  if diff.natAbs ≤ 1000 then s
  else
    let img := (((s.time.img : Int) + psUnits diff) % (unitsSpan : Int)).toNat
    let s := { s with time := { s.time with img := img }, beat := { s.beat with reload := true, realign := true } }
    (s.setFlag .beatStatus 0 8 true).raise .beatImage [s.beat.now, diff.natAbs]

/-- CROSSING_TIMEOUT (02 R45): a read completes with all bits set, and a write is discarded. -/
def State.crossingFault (s : State) (dom unit : Nat) (read : Bool) : State :=
  let s := ((s.setFlag .beatStatus 0 9 true).setFld .beatStatus 0 15 12 dom).setFld .beatStatus 0 23 16 unit
  let s := s.raise .crossing [dom, unit]
  if read then s.emit (.cplRegs [BitVec.allOnes 64]) else s

/-- The beat in progress ends: its length is counted, local time moves on to the boundary, and the next
beat has its number. -/
def State.endBeat (s : State) : State :=
  let n := s.time.cyc + s.toBoundary
  let re := s.time.stepped || s.beat.reload
  let st := s.beat.stretchW || s.beat.stretchE
  let s := if re then s.bump .beatAdjCnt 0 47 32 1 else s
  let s := if st then s.bump .beatAdjCnt 0 63 48 1
    else if n = 513 then s.bump .beatAdjCnt 0 31 16 1
    else if n = 511 then s.bump .beatAdjCnt 0 15 0 1 else s
  let t := s.time.adv s.timeInc s.slewStep s.toBoundary
  let tied := s.beat.tied || (re && t.isSet)
  { s with
    time := { t with cyc := 0, stepped := false, captures := 0 },
    beat := { s.beat with bc := s.beat.bc + 1, tied := tied, reload := false, length := s.westCycles n,
                          realign := false,
                          now := if tied then t.ns / 256 % 2 ^ 32 else (s.beat.now + 1) % 2 ^ 32 } }

/-- BEAT_NOW, at a cycle of the beat. -/
def State.beatNowWord (s : State) : Word := at_ 32 (s.westCycles s.time.cyc) ||| at_ 0 s.beat.now

/-- BEAT_STATUS. -/
def State.beatStatusWord (s : State) : Word :=
  s.reg .beatStatus 0 ||| at_ 2 (b2n s.beat.realign) ||| at_ 1 (b2n s.beat.stretchE) ||| at_ 0 (b2n s.beat.stretchW)

/-! ## The class-7 bound (02 R48 to R51) -/

/-- The valid ports. -/
def State.validPorts (s : State) : List Nat :=
  let a := RegKind.off .stnPort 0 / 8
  ((s.regs.eff.filter fun e => a ≤ e.1 && e.1 < a + 1024).map fun e => e.1 - a).filter s.portValid

/-- The class-7 shaper of a port keeps to at most 200 Gb/s (6,400 bytes in each beat) and 1,536 bytes. -/
def State.c7Shaper (s : State) (p : Nat) : Bool :=
  let w := s.reg .qshPc (8 * p + 7)
  bit w 63 && bits w 31 0 ≤ 1638400 && bits w 55 32 ≤ 1536

/-- The conditions of R48 that the state shows, for the beat that a boundary begins. -/
def State.c7Holds (s : State) (p : Nat) : Bool :=
  s.portValid p && !s.portConflict p && !s.portEth p && !s.disabled 0 p && s.c7Shaper p
    && (s.portLanes p).all s.laneUp && !s.beat.stretchW && !s.beat.stretchE && !s.beat.realign

/-- Judge one port at a boundary; `re` says that the beat that ended was a realignment beat. -/
def State.c7Judge (s : State) (re : Bool) (p : Nat) : State :=
  let c := s.beat.bc
  let broke := re || (s.portLanes p).any (fun n => s.beat.c7hit.contains n || s.replaying n)
    || !(SMap.get [] s.lnk.resend p).isEmpty
  let on := s.beat.c7on.contains p
  let holds := s.c7Holds p
  let since := SMap.get 0 s.beat.c7ok p
  let set := fun (s : State) v => { s with beat := { s.beat with c7ok := SMap.set 0 s.beat.c7ok p v } }
  if holds && !broke && since ≠ 0 then
    if on || c < since then s
    else ({ s with beat := { s.beat with c7on := s.beat.c7on ++ [p] } }).raise .c7Resume [p]
  else
    let s := set s (if holds then c + 1 else 0)
    if on then ({ s with beat := { s.beat with c7on := s.beat.c7on.filter (· ≠ p) } }).raise .c7Suspend [p] else s

/-- Judge every port at a boundary. -/
def State.c7Step (s : State) (re : Bool) : State :=
  let s := (s.validPorts ++ s.beat.c7on).eraseDups.foldl (fun s p => s.c7Judge re p) s
  { s with beat := { s.beat with c7hit := [] } }

/-- BEAT_C7_SUSP_n. -/
def State.c7Word (s : State) (n : Nat) : Word :=
  BitVec.ofNat 64 ((List.range 64).foldl (fun w k =>
    match s.portOf (64 * n + k) with
    | some p => if s.beat.c7on.contains p then w else w + 2 ^ k
    | none => w + 2 ^ k) 0)

/-! ## Timestamps (R469 to R471) -/

/-- A capture of a PTP message on a lane: item 0x80 or 0x81. The time of the capture within the beat is free
(log entry 6). -/
def State.capture (s : State) (type lane : Nat) (msg : List Byte) : State :=
  let dom := byteAt msg 4
  let ok := dom = s.fld .timeDomCfg 0 31 24 || dom = s.fld .timeDomCfg 0 39 32
  if 3 < byteAt msg 0 % 16 then s
  else if !ok then s.bump .timeTsCfg 0 47 32 1
  else if 64 ≤ s.time.captures then s.bump .timeTsCfg 0 63 48 1
  else
    let s := s.timeFree
    let t := s.time
    ({ s with time := { t with captures := t.captures + 1 } }).post (s.fld .timeTsCfg 0 5 0)
      [⟨at_ 56 type ||| at_ 46 lane ||| at_ 38 dom ||| at_ 34 (byteAt msg 0 % 16) ||| at_ 18 (halfAt msg 30),
        at_ 0 t.secOf, at_ 32 t.nsOf ||| at_ 16 (t.fracOf / 2 ^ 16), s.beatWord⟩]

/-- The PTP message of an Ethernet frame: Annex E, or UDP ports 319 and 320 (R469). -/
def ptpOfEth (bs : List Byte) : Option (List Byte) :=
  let l3 := 14 + 4 * ethTags bs
  let ty := halfAt bs (l3 - 2)
  let udp := fun (l4 : Nat) =>
    if halfAt bs (l4 + 2) = 319 || halfAt bs (l4 + 2) = 320 then some (bs.drop (l4 + 8)) else none
  if ty = 0x88F7 then some (bs.drop l3)
  else if ty = 0x0800 && byteAt bs (l3 + 9) = 17 then udp (l3 + 4 * (byteAt bs l3 % 16))
  else if ty = 0x86DD && byteAt bs (l3 + 6) = 17 then udp (l3 + 40)
  else none

end Sys2Proof.Machine
end

