-- ==== Sys2Proof/Machine/Merge.lean ====
section
/-! DEFINITION. The station `merge` and the memory engines' commands (01_architecture.md R19;
10_fabric_memory.md R284 to R303, R310). -/

namespace Sys2Proof.Machine

/-! ## Requests -/

/-- A request is accepted: it takes an entry, and its sequence number counts as accepted (06 R165). -/
def State.acceptReq (s : State) (t : Stream) (since : Nat) : State :=
  let s := s.trkAccept t since
  if s.seqFlow t then s.seqAccept t.key t.hdr.flowSeq else s

/-- Take the waiting requests that may now be accepted, in the order in which they reached `merge`, passing
over those whose partition is at its quota (10 R301). -/
def State.acceptWaiting (s : State) : State :=
  (s.net.streams.filter fun t => t.stage = .memWait).foldl (fun (s : State) t =>
    if s.trkRoom t.part then s.acceptReq t t.since else s) s

/-- A request of this partition already waits. -/
def State.waits (s : State) (p : Nat) : Bool := s.net.streams.any fun t => t.stage = .memWait && t.part = p

/-- A request waits at `merge` with its payload in tiles; one that finds none is dropped (10 R301). -/
def State.reqWait (s : State) (t : Stream) : State :=
  match s.allocTiles t.pipe t.tiles t.part t.cls (decide (5 ≤ t.cls)) t.die true with
  | some (a, s) => s.waitAt { t with alloc := some a } .memWait
  | none =>
    if 5 ≤ t.cls then s.losslessDrop t
    else ((s.count (cntPc (8 * t.inPort + t.cls) 2) 1).partCount t.part 7).endStream t

/-- A request at `merge`: those that wait and may now be accepted come first. -/
def State.request (s : State) (t : Stream) : State :=
  let s := s.acceptWaiting
  if s.trkRoom t.part && !s.waits t.part then s.acceptReq t s.beat.bc else s.reqWait t

/-! ## Dead targets (10 R310, R311) -/

/-- The outcome of a stream marked for a dead target. -/
def State.deadOutcome (s : State) (t : Stream) : State :=
  if isMemOp t.hdr.op then
    let s := (s.bump .fmemCnt1 0 63 48 1).partCondemn t.part 1 0 0 0
    let hit : DeadHit := { part := t.part, node := t.hdr.dst, opTag := t.hdr.opTag, offset := t.hdr.offset }
    let s : State := { s with mem := { s.mem with dead := s.mem.dead ++ [hit] } }
    let s := s.endStream t
    if s.nodeValid then s.sendReply (.pipeline t.pipe) t.pipe t.hdr ⟨2, [], false⟩ none else s
  else (s.bump .fmemCnt1 0 47 32 1).endStream t

/-! ## Management frames (18 R541; 16 R469) -/

/-- The payload of a MGMT frame begins with the bytes 0x88, 0xF7. -/
def isPtp (t : Stream) : Bool := 2 ≤ t.hdr.payLen && halfAt t.bytes 48 = 0x88F7

/-- A node is named by a valid HOST_MGMT_PEER_i. -/
def State.isPeer (s : State) (n : Nat) : Bool :=
  (List.range 8).any fun i => s.flag .hostMgmtPeer i 63 && s.fld .hostMgmtPeer i 17 0 = n

/-- A MGMT frame to the part that is not accepted. -/
def State.mgmtDrop (s : State) (t : Stream) : State := (s.laneCount t.cntLane 11).endStream t

/-- The management controller takes a stream. -/
def State.mgmtTake (s : State) (t : Stream) : State :=
  let s := s.endStream t
  { s with net := { s.net with mgmt := s.net.mgmt ++ [{ t with bucket := none, credit := false, alloc := none }] } }

/-- A MGMT frame that terminates at the part. While the firmware does not run it is discarded (20 R582), and a frame of kind
0x0003 is not accepted while en is clear in HOST_MGMT_CFG (18 R543; log entry 106). -/
def State.mgmtFrame (s : State) (t : Stream) : State :=
  if !s.boot.running || t.part ≠ 0 then s.mgmtDrop t
  else if isPtp t then (if s.flag .timeTsCfg 0 9 then s.mgmtTake t else s.mgmtDrop t)
  else if halfAt t.bytes 48 = 3 && 8 ≤ t.hdr.len && !s.flag .hostMgmtCfg 0 63 then s.mgmtDrop t
  else if s.isPeer t.hdr.src then s.mgmtTake t
  else s.mgmtDrop t

/-- An Ethernet PTP frame that the programs divert to the management controller: its ingress time is captured
while en_eth is set, and the firmware gets it (16 R471). -/
def State.ethPtp (s : State) (t : Stream) (msg : List Byte) : State :=
  if !s.boot.running then s.mgmtDrop t
  else
    let s := s.endStream t
    let s := if s.flag .timeTsCfg 0 8 then s.capture 0x80 t.inLane msg else s
    s.emit (.toController msg)

/-- MGMT_PTP: the first waiting PTP frame reaches the timestamp unit and the firmware. -/
def State.mgmtPtp (s : State) : State :=
  match s.net.mgmt.find? isPtp with
  | none => s
  | some t =>
    let s := { s with net := { s.net with mgmt := dropFirst (fun x => x.id = t.id) s.net.mgmt } }
    let msg := (t.bytes.drop 50).take (t.hdr.len - 2)
    (s.capture 0x80 t.inLane msg).emit (.toController msg)

/-! ## merge -/

/-- A stream that terminates at the part goes to its unit (01 R19). The digest of a mirrored pair's frame is
taken first, and a shadow's frame ends here (15 R451, R452). -/
def State.divert (s : State) (t : Stream) : State :=
  let s := s.takeDigest t
  if s.fromShadow t then s.endStream t
  else if isMemOp t.hdr.op then s.request t
  else if t.hdr.op = opContrib then s.contribution t
  else s.mgmtFrame t

/-- A stream terminates at the part (10 R284). -/
def State.terminates (s : State) (t : Stream) : Bool := !t.eth && !t.ret && s.isSelf t.hdr.dst && isTerm t.hdr.op

/-- STATION_MERGE: the first stream of a pipeline that waits for `merge`. A stream with disp 3 that does not
terminate at the part is dropped (13 R394), a PTP frame of an Ethernet port apart (16 R471). A pipeline whose own reply the
return port holds waits (07 R191). -/
def State.merge (s : State) (pipe : Nat) : State :=
  match if s.unitWaits (.pipeline pipe) then none else s.firstAt pipe .merge with
  | none => s
  | some t =>
    let (s, t) := s.runStation { stn := 3, pipe := pipe } t
    if t.dead && !t.ret then
      if isMemOp t.hdr.op && s.fromShadow t then (s.takeDigest t).endStream t else s.deadOutcome t
    else if t.dropped || t.disp = 4 then s.endStream t
    else if s.terminates t then s.divert t
    else if t.disp = 3 then
      match (if t.eth then ptpOfEth t.packet else none) with
      | some msg => s.ethPtp t msg
      | none => (s.stnDrop t).endStream t
    else if (s.cascadeOf t).isSome then
      let s := s.endStream t
      { s with coll := { s.coll with casc := s.coll.casc ++ [{ t with bucket := none, credit := false, alloc := none }] } }
    else s.toStage t .mirror

/-! ## Memory engine commands -/

/-- The lines of counters and subscriptions that a request uses. -/
def counterLines (h : Hdr) : List Nat :=
  let own := (countersOf h).flatMap fun i => [8 * i / 64, (0x800000 + 16 * i) / 64]
  if h.op ≠ opSub && spaceOf h.offset = 2 then linesOf (offIn h.offset) (reqBytes h) ++ own else own

/-- A request that meets a damaged counter or subscription: the owner of the block is condemned (14 R405). -/
def State.counterDamage (s : State) (h : Hdr) : State :=
  if (s.checkReq h).isSome then s
  else
    match (counterLines h).find? fun l => s.poisoned .near l with
    | some l => s.partCondemn h.part 2 0x03 (nearDie (64 * l)) (64 * l)
    | none => s

/-- Perform an atomic of operation `sub`. -/
def State.atomic (s : State) (id sub : Nat) : State :=
  s.perform id (fun op => op = 0x10 + sub) fun s t => (s.counterDamage t.req.hdr).opAtom t.toReq t.reset

/-- Perform a load, a store or a subscription. -/
def State.simpleOp (s : State) (id op : Nat) (f : State → Req → Reply × State) : State :=
  s.perform id (fun o => o = op) fun s t => let (r, s) := f (s.counterDamage t.req.hdr) t.toReq; (some r, s)

/-- STATION_MERGE. -/
def execStationMerge (pipe : Nat) (s : State) : Out := run (.stationMerge pipe) s fun s => s.merge pipe

/-- LOAD_REQUEST. -/
def execLoadRequest (id : Nat) (s : State) : Out :=
  run (.loadRequest id) s fun s => s.simpleOp id opLdReq State.opLoad

/-- STORE. -/
def execStore (id : Nat) (s : State) : Out := run (.store id) s fun s => s.simpleOp id opSt State.opStore

/-- COUNTED_STORE. -/
def execCountedStore (id : Nat) (s : State) : Out :=
  run (.countedStore id) s fun s => s.perform id (fun o => o = opStCnt) fun s t =>
    let (r, s) := (s.counterDamage t.req.hdr).opCounted t.toReq t.owned t.reset
    (some r, s)

/-- SUB_ARM. -/
def execSubArm (id : Nat) (s : State) : Out := run (.subArm id) s fun s => s.simpleOp id opSub State.opSubscribe

/-- ATOM_ADD. -/
def execAtomAdd (id : Nat) (s : State) : Out := run (.atomAdd id) s fun s => s.atomic id 0

/-- ATOM_FETCH_ADD. -/
def execAtomFetchAdd (id : Nat) (s : State) : Out := run (.atomFetchAdd id) s fun s => s.atomic id 1

/-- ATOM_SWAP. -/
def execAtomSwap (id : Nat) (s : State) : Out := run (.atomSwap id) s fun s => s.atomic id 2

/-- ATOM_CAS. -/
def execAtomCas (id : Nat) (s : State) : Out := run (.atomCas id) s fun s => s.atomic id 3

/-- ATOM_MIN_S. -/
def execAtomMinS (id : Nat) (s : State) : Out := run (.atomMinS id) s fun s => s.atomic id 4

/-- ATOM_MAX_S. -/
def execAtomMaxS (id : Nat) (s : State) : Out := run (.atomMaxS id) s fun s => s.atomic id 5

/-- ATOM_MIN_U. -/
def execAtomMinU (id : Nat) (s : State) : Out := run (.atomMinU id) s fun s => s.atomic id 6

/-- ATOM_MAX_U. -/
def execAtomMaxU (id : Nat) (s : State) : Out := run (.atomMaxU id) s fun s => s.atomic id 7

/-- ATOM_AND. -/
def execAtomAnd (id : Nat) (s : State) : Out := run (.atomAnd id) s fun s => s.atomic id 8

/-- ATOM_OR. -/
def execAtomOr (id : Nat) (s : State) : Out := run (.atomOr id) s fun s => s.atomic id 9

/-- ATOM_XOR. -/
def execAtomXor (id : Nat) (s : State) : Out := run (.atomXor id) s fun s => s.atomic id 0xA

/-- ATOM_FP32_ADD. -/
def execAtomFp32Add (id : Nat) (s : State) : Out := run (.atomFp32Add id) s fun s => s.atomic id 0xB

/-- ATOM_BF16_ADD. -/
def execAtomBf16Add (id : Nat) (s : State) : Out := run (.atomBf16Add id) s fun s => s.atomic id 0xC

/-- WAITING_REQUEST_ACCEPT. -/
def execWaitingRequestAccept (s : State) : Out := run .waitingRequestAccept s State.acceptWaiting

/-- MEMORY_COMPLETION. -/
def execMemoryCompletion (id : Nat) (s : State) : Out := run (.memoryCompletion id) s fun s => s.complete id

/-- Give up one request, an entry's or a waiting one's, at its timeout (10 R302). -/
def State.giveUpId (s : State) (id : Nat) : State :=
  match s.trkAt id with
  | some t => s.giveUp t
  | none =>
    match s.stream id with
    | some t => if t.stage = .memWait then s.giveUpWaiting t else s
    | none => s

/-- Every request at its timeout, entries first. -/
def State.giveUps (s : State) : State :=
  let ids := s.mem.trk.map (·.id) ++ (s.net.streams.filter fun t => t.stage = .memWait).map (·.id)
  ids.foldl State.giveUpId s

/-- A request has waited trk_timeout and has made no reply (10 R302). -/
def State.giveUpDue (s : State) (id : Nat) : Bool :=
  match s.trkAt id with
  | some t => !t.sent && decide (t.since + s.trkTimeout ≤ s.beat.bc)
  | none => (s.stream id).any fun t => t.stage = .memWait && decide (t.since + s.trkTimeout ≤ s.beat.bc)

/-- TRACKER_TIMEOUT: called for the coming boundary (log entry 3). -/
def execTrackerTimeout (id : Nat) (s : State) : Out :=
  run (.trackerTimeout id) s fun s => s.call (.trackerTimeout id) (s.coming (·.giveUpDue id))

/-- MGMT_PTP. -/
def execMgmtPtp (s : State) : Out := run .mgmtPtp s State.mgmtPtp

end Sys2Proof.Machine
end

