-- ==== Sys2Proof/Machine/StationCmds.lean ====
section
/-! DEFINITION. The commands of frames, stations, lanes and buffers (spec files 03, 05, 06, 07). -/

namespace Sys2Proof.Machine

/-! ## Arrivals (03 R68, R627) -/

/-- A hop-local frame that has passed checks 1 to 5: LINK_REPLAY (06 R154), LINK_CREDIT (07 R188) and
BYP_DEMAND (09 R262). A neighbour's BYP_GRANT asks nothing of the part. -/
def State.hopFrame (s : State) (lane : Nat) (h : Hdr) (pay : List Byte) : State :=
  let ws := beWords 2 pay
  let w0 := ws.getD 0 0
  if h.op = opLinkReplay then
    if bits w0 63 56 = 1 then s.replayRequested lane (bits w0 31 0)
    else if bits w0 63 56 = 2 then s.startReceived lane (bits w0 31 0)
    else if bits w0 63 56 = 3 then s.handReceived lane (bits w0 51 48) (bits w0 31 0)
    else s
  else if h.op = opLinkCredit then s.creditReceived lane (bits w0 63 32) (bits w0 31 0) (bits (ws.getD 1 0) 63 32)
  else if h.op = opBypDemand then s.demand lane pay
  else s

/-- ASUNE_FRAME_ARRIVAL. -/
def execAsuneFrameArrival (lane : Nat) (delim : Byte) (frame : RxFrame) (s : State) : Out :=
  run (.asuneFrameArrival lane delim frame) s fun s =>
    s.asuneArrival State.hopFrame lane delim frame.bytes frame.errBlock

/-- ETHERNET_FRAME_ARRIVAL. -/
def execEthernetFrameArrival (port : Nat) (frame : List Byte) (fifoFull : Bool) (s : State) : Out :=
  run (.ethernetFrameArrival port frame fifoFull) s fun s => s.ethArrival port frame fifoFull

/-- PFC_XOFF_REPEAT. -/
def execPfcXoffRepeat (port cls : Nat) (s : State) : Out :=
  run (.pfcXoffRepeat port cls) s fun s => s.xoffRepeat port cls

/-- PFC_PAUSE_EXPIRY. -/
def execPfcPauseExpiry (port cls : Nat) (s : State) : Out :=
  run (.pfcPauseExpiry port cls) s fun s => s.pauseExpiry port cls

/-! ## Stations -/

/-- STATION_STEER. -/
def execStationSteer (pipe : Nat) (s : State) : Out := run (.stationSteer pipe) s fun s => s.steer pipe

/-- STATION_HOLD. -/
def execStationHold (pipe : Nat) (s : State) : Out := run (.stationHold pipe) s fun s => s.hold pipe

/-- PENNANT_RELEASE. -/
def execPennantRelease (id : Nat) (s : State) : Out := run (.pennantRelease id) s fun s => s.releasePennant id

/-- SEQ_PENNANT_RELEASE. -/
def execSeqPennantRelease (id : Nat) (s : State) : Out := run (.seqPennantRelease id) s fun s => s.releaseSeq id

/-- PENNANT_TIMEOUT: called for the coming boundary. -/
def execPennantTimeout (id : Nat) (s : State) : Out :=
  run (.pennantTimeout id) s fun s => s.call (.pennantTimeout id) (s.coming (·.pennantDue id))

/-- STATION_MIRROR. -/
def execStationMirror (pipe : Nat) (s : State) : Out := run (.stationMirror pipe) s fun s => s.mirror pipe

/-- MIRROR_DIGEST_TIMEOUT: called for the coming boundary. -/
def execMirrorDigestTimeout (idx : Nat) (s : State) : Out :=
  run (.mirrorDigestTimeout idx) s fun s => s.call (.mirrorDigestTimeout idx) (s.coming (·.digestDue idx))

/-- The drop of a former shadow's frames ends 64 boundaries after its mir.clr (15 R452). -/
def State.endShadowDrop (s : State) (node : Nat) : State :=
  let keep := s.part.shadowDrop.filter fun x => !(x.1 = node && decide (x.2 + 64 ≤ s.beat.bc))
  { s with part := { s.part with shadowDrop := keep } }

/-- A drop for a node has run out. -/
def State.shadowDropDue (s : State) (node : Nat) : Bool :=
  s.part.shadowDrop.any fun x => x.1 = node && decide (x.2 + 64 ≤ s.beat.bc)

/-- Every drop that has run out. -/
def State.endShadowDrops (s : State) : State := (s.part.shadowDrop.map (·.1)).foldl State.endShadowDrop s

/-- SHADOW_DROP_END: called for the coming boundary. -/
def execShadowDropEnd (node : Nat) (s : State) : Out :=
  run (.shadowDropEnd node) s fun s => s.call (.shadowDropEnd node) (s.coming (·.shadowDropDue node))

/-- STATION_QUEUE. -/
def execStationQueue (pipe : Nat) (s : State) : Out := run (.stationQueue pipe) s fun s => s.queue pipe

/-- RESULT_PLACEMENT, and the BAR2 accesses of an engine that waited for it. -/
def execResultPlacement (die : Nat) (s : State) : Out := run (.resultPlacement die) s fun s => (s.place die).hostGoes

/-- LAUNCH: a copy that starts is seen by the trace units (17 R511). -/
def State.launchTraced (s : State) (port : Nat) : State :=
  let t := s.launch port
  match t.q.copies.find? fun c => c.sending.isSome && (s.q.copies.find? fun x => x.cid = c.cid && x.sending.isNone).isSome with
  | none => t
  | some c =>
    match t.stream c.sid with
    | none => t
    | some x => t.trace 1 (c.sending.getD 0) { x with h := c.frame.take 256 }

/-- LAUNCH. -/
def execLaunch (port : Nat) (s : State) : Out := run (.launch port) s fun s => s.launchTraced port

/-- The PTP message of a frame: in a MGMT payload, or on Ethernet (16 R469). -/
def ptpMsg (eth : Bool) (f : List Byte) : Option (List Byte) :=
  if eth then ptpOfEth f else
    let h := Hdr.ofBytes f
    if 2 ≤ h.len && halfAt f 48 = 0x88F7 then some ((f.drop 50).take (h.len - 2)) else none

/-- FRAME_TRANSMIT_END, with the egress capture of a frame sent with ts_req (16 R471). -/
def State.sendEnd (s : State) (lane : Nat) : State :=
  let t := s.transmitEnd lane
  match s.sendingOn lane with
  | none => t
  | some c =>
    match s.stream c.sid with
    | none => t
    | some x =>
      if !x.tsReq then t
      else
        match ptpMsg (s.portEth c.port) c.frame with
        | some m => t.capture 0x81 lane m
        | none => t

/-- FRAME_TRANSMIT_END. -/
def execFrameTransmitEnd (lane : Nat) (s : State) : Out := run (.frameTransmitEnd lane) s fun s => s.sendEnd lane

/-! ## Lane replay and credits (06, 07) -/

/-- UNCORRECTABLE_CODEWORD. -/
def execUncorrectableCodeword (hit : CodewordHit) (s : State) : Out :=
  run (.uncorrectableCodeword hit) s fun s => s.codeword hit.lane hit.touched

/-- REPLAY_REQUEST_RECEIVED. -/
def execReplayRequestReceived (lane frame attempt : Nat) (s : State) : Out :=
  run (.replayRequestReceived lane frame attempt) s fun s => s.replayRequested lane frame

/-- REPLAY_START_RECEIVED. -/
def execReplayStartReceived (lane frame : Nat) (s : State) : Out :=
  run (.replayStartReceived lane frame) s fun s => s.startReceived lane frame

/-- REPLAY_RETRY_TIMEOUT. -/
def execReplayRetryTimeout (lane : Nat) (s : State) : Out :=
  run (.replayRetryTimeout lane) s fun s => s.retryTimeout lane

/-- HANDOVER_RECEIVED. -/
def execHandoverReceived (lane pos frame : Nat) (s : State) : Out :=
  run (.handoverReceived lane pos frame) s fun s => s.handReceived lane pos frame

/-- LINK_CREDIT_SEND. -/
def execLinkCreditSend (lane : Nat) (s : State) : Out := run (.linkCreditSend lane) s fun s => s.sendCredit lane

/-- LINK_CREDIT_RECEIVED. -/
def execLinkCreditReceived (lane g5 g6 g7 : Nat) (s : State) : Out :=
  run (.linkCreditReceived lane g5 g6 g7) s fun s => s.creditReceived lane g5 g6 g7

end Sys2Proof.Machine
end

