-- ==== Sys2Proof/Machine/Integrity.lean ====
section
/-! DEFINITION. Codes on memories, the field test and the margin steps (14_integrity.md R402 to R406, R419 to
R424, R430, R431). -/

namespace Sys2Proof.Machine

/-! ## Which unit a damaged word belongs to

The manual gives a word's address within its memory and not what lies there. Where the model does not place
its records by address, a free value names one of those that the memory holds, or none (log entry 60). -/

/-- A free number below n + 1. -/
def State.choose (s : State) (n : Nat) : Nat × State :=
  let (f, s) := s.freshWord
  (f.toNat % (n + 1), s)

/-- A free element of a list, or none. -/
def State.oneOf {α : Type} (s : State) (l : List α) : Option α × State :=
  let (n, s) := s.choose l.length
  (if n = 0 then none else l[n - 1]?, s)

/-- Item 0x70 (R436). -/
def State.eccItem (s : State) (mem die part addr : Nat) : State :=
  s.post s.intRing [⟨at_ 56 0x70 ||| at_ 51 mem ||| at_ 50 die ||| at_ 36 part, at_ 0 addr, s.beatWord, 0⟩]

/-! ## Program memory (04 R96) -/

/-- Other copies of a damaged pair, on the same die: pipelines of the station, or clusters. -/
def otherCopies (d : Damage) : List Nat :=
  let n := if d.station = 8 then 384 else 32
  let lo := d.pipe / n * n
  (rangeFrom lo (lo + n)).filter fun p => p ≠ d.pipe

/-- The same pair of instructions, whichever copy. -/
def samePair (a b : Damage) : Bool := a.station = b.station && a.bank = b.bank && a.addr / 2 = b.addr / 2

/-- The DDR5 line that holds the retained words of a pair. The region is the firmware's: its place is open (log entry 60). -/
def retainedLine (d : Damage) : Nat :=
  lineOf (Config.retained (2 ^ 15 * d.station + 2 ^ 14 * d.bank + d.addr / 2 * 2)).toNat

/-- A good source for the rewrite exists: the retained image, where its words can be read, or another copy. -/
def State.goodSource (s : State) (d : Damage) : Bool :=
  (s.ddrReady && (s.stn.bank (d.bank = 1)).retained && !s.poisoned .spine (retainedLine d))
    || (otherCopies d).any fun p => !(s.stn.damage.any fun x => samePair x d && x.pipe = p)

/-- The program-memory event of a damaged pair. -/
def State.progMemEvent (s : State) (d : Damage) (made : Bool) : State :=
  s.raise .progMem [d.pipe, d.station, d.bank, d.addr, b2n made]

/-- The rewrite of a pair cannot be made: the event says so, and the pair waits for a later load. -/
def State.unrepaired (s : State) (d : Damage) : State :=
  let mark := fun (x : Damage) => { x with given := true }
  ({ s with stn := { s.stn with damage := updFirst (fun x => x = d) mark s.stn.damage } }).progMemEvent d false

/-- An uncorrectable error in a pair of instructions. -/
def State.damageProg (s : State) (d : Damage) : State :=
  if s.stn.damage.any fun x => samePair x d && x.pipe = d.pipe then s
  else
    let s := { s with stn := { s.stn with damage := s.stn.damage ++ [d] } }
    if s.goodSource d then s else s.unrepaired d

/-- PROG_MEM_REPAIR_DONE: the two instructions have been rewritten, where a good source exists. A pair reported as not
rewritten waits for a load. -/
def State.repairDone (s : State) (d : Damage) : State :=
  match s.stn.damage.find? fun x => samePair x d && x.pipe = d.pipe with
  | none => s
  | some x =>
    if x.given then s
    else if !s.goodSource x then s.unrepaired x
    else ({ s with stn := { s.stn with damage := dropFirst (fun y => y = x) s.stn.damage } }).progMemEvent x true

/-- PROG_MEM_REPAIR_DONE. -/
def execProgMemRepairDone (pipe station bank addr : Nat) (s : State) : Out :=
  run (.progMemRepairDone pipe station bank addr) s fun s =>
    s.repairDone { pipe := pipe, station := station, bank := bank, addr := addr }

/-! ## Uncorrectable errors (R404, R405) -/

/-- A free segment of a chunk is poisoned. -/
def State.poisonSeg (s : State) (ch : Chunk) : State :=
  let (n, s) := s.choose (ch.segs.length - 1)
  match ch.segs[n]? with
  | some g => s.putChunk { ch with segs := ch.segs.set n { g with poison := true } }
  | none => s

/-- A word of the staging store, or of the spill region: the segment's partial, at its next use (R409). -/
def State.damagePartial (s : State) (p : Chunk → Bool) : State :=
  let (c, s) := s.oneOf (s.coll.chunks.filter p)
  match c with
  | some ch => s.poisonSeg ch
  | none => s

/-- The die of a cluster. -/
def dieOfCluster (c : Nat) : Nat := c / 384

/-- A word of an input buffer, which poisons its segment, or of a chunk table, which ends its chunk. -/
def State.damageCluster (s : State) (die : Nat) : State :=
  let (b, s) := s.oneOf (s.coll.inbuf.filter fun e => dieOfCluster e.cluster = die)
  match b with
  | some e =>
    match s.chunk e.ctx e.chunk, s.ctx e.ctx with
    | some ch, some c =>
      let segs := match ch.segs[e.seg]? with
        | some g => ch.segs.set e.seg { g with poison := true }
        | none => ch.segs
      s.putChunk { ch with segs := segs, poisonEnd := ch.poisonEnd || !s.carry c.d.part }
    | _, _ => s
  | none =>
    let (c, s) := s.oneOf (s.coll.chunks.filter fun c => dieOfCluster c.home = die)
    match c with
    | some ch => s.putChunk { ch with poisonEnd := true }
    | none => s

/-- A word of the exact-match memories (05 R116, R120): below 2,097,216 the entry of that slot, and above it the tag words,
each of which covers 16 slots in order (log entry 87). Every entry that the word covers becomes suspect on the die; the
item names the first. -/
def State.damageEm (s : State) (die w : Nat) : State :=
  let a := w % (emTotal + emTotal / 16)
  let slots := if a < emTotal then [a] else rangeFrom (16 * (a - emTotal)) (16 * (a - emTotal) + 16)
  let live := slots.filter fun i => (emAt s.tbl.em i).vmask ≠ 0
  let x := emAt s.tbl.em (live.headD a)
  (live.foldl (fun (s : State) i => s.slotSuspect i die) s).tableItem 0x35 0 x.vmask die false 0 0 x.key x.shown

/-- A node of the LPM tries (05 R134). Which one a word of memory belongs to is a free value (log entry 60). -/
def State.damageTrie (s : State) (die : Nat) : State :=
  let nodes := s.trieNodes
  let (f, s) := s.freshWord
  let (v6, len, addr) := nodes.getD (f.toNat % nodes.length) (false, 0, 0)
  (s.lpmDamage v6 len addr die).tableItem 0x35 1 3 die false 0 0 (at_ 63 (b2n v6) ||| at_ 56 len ||| at_ 0 (if v6 then 0 else addr))
    (if v6 then at_ 0 (addr / 2 ^ 64) else 0)

/-- A group entry of the multicast table (R405). -/
def State.damageGroup (s : State) (die k : Nat) : State :=
  let s : State := if s.tbl.mcBad.contains (k, die) then s
    else { s with tbl := { s.tbl with mcBad := s.tbl.mcBad ++ [(k, die)] } }
  s.tableItem 0x35 2 (if k < 16384 then 1 else 2) die false 0 0 (at_ 0 (k % 16384)) (SMap.get 0 s.tbl.mc k)

/-- A bucket of the occupancy table (06 R162): E = D = 0, and every pennant held on it goes. -/
def State.damageBucket (s : State) (b : Nat) : State :=
  let s := { s with net := { s.net with occE := SMap.erase s.net.occE b, occD := SMap.erase s.net.occD b } }
  let held := s.net.streams.filter fun t => (t.stage = .penHeld || t.stage = .penWait) && t.bucket = some b
  (held.foldl (fun (s : State) t => s.pennantGoes t) s).raise .occupancy [b]

/-- An entry of the hold table: its pennant is discarded as at timeout (06 R166). -/
def State.damageHold (s : State) : State :=
  let (t, s) := s.oneOf (s.net.streams.filter fun t => t.stage = .penHeld || t.stage = .seqHeld)
  match t with
  | none => s
  | some t =>
    let (s, missing, n, g) := if t.stage = .seqHeld then s.seqGiveUp t else (s, 0, 0, 0)
    let s := (s.bump .stnHoldCnt 0 63 52 1).bump .stnHoldCnt 0 51 40 missing
    let s := (s.partCount t.part 25).raise .penTimeout (if t.stage = .seqHeld then [t.key, n, g] else [t.key])
    ((s.endStream t).advanceG t.inLane).holdRefill

/-- A word of the memory that holds the free-list links, at the numbers of their buffers, and above 2^33 the owner records.
A record that is lost leaves its buffer to weevil (R405; log entry 60). -/
def State.damageBuf (s : State) (die a : Nat) : State :=
  let b := bufOfKey die (a % 2 ^ 33)
  if a < 2 ^ 33 then s.cutList b else s.setOwner b.key 0

/-- A descriptor of an admitted copy (R405). The partition that its first tile's owner record names takes the fault. -/
def State.damageCopy (s : State) (die addr : Nat) : State :=
  let (c, s) := s.oneOf (s.q.copies.filter fun c => c.sending.isNone && dieOfLane c.port = die)
  match c with
  | some c => (s.partFault (bits (s.owner c.tile) 11 0) 0x0B die addr).loseCopy c
  | none => s

/-- A word of a lane's ingress FIFO, or of its replay buffer, whose frame is lost (06 R155). -/
def State.damageLane (s : State) (die addr : Nat) : State :=
  let n := 512 * die + addr % 512
  if addr / 512 % 2 = 0 then s.codeword n 1
  else
    let (h, s) := s.oneOf (s.lane n).replay
    match h with
    | some h => (s.setLane n fun l => { l with replay := dropFirst (fun x => x = h) l.replay }).bump .stnLaneRpl n 19 8 1
    | none => s

/-- A tracker entry: its request is given up, without a reply (10 R302). -/
def State.damageTrk (s : State) : State :=
  let (t, s) := s.oneOf (s.mem.trk.filter fun t => !t.sent)
  match t with
  | none => s
  | some t =>
    let s := ((s.dropTrk t.id).bump .fmemCnt0 0 31 16 1).partCount t.req.part 18
    let s := { s with mem := { s.mem with late := s.mem.late ++ [t] } }
    s.fmemItem 0x61 0 t.req.part t.req.hdr.src t.req.hdr.offset t.req.hdr.opTag 0 0

/-- A byte of the tile buffer: the packet whose tile it lies in is poisoned (R405, R408). -/
def State.damageTile (s : State) (die addr : Nat) : State :=
  let held := fun (t : Stream) => match t.alloc with
    | some a => a.die = die && a.tiles.contains (addr / 256)
    | none => false
  match s.net.streams.find? held with
  | some t => s.putStream { t with poison := true }
  | none => s

/-- A flit on a die bridge or a data path: a packet on its way to that die's tiles, a free choice (log entry 60). -/
def State.damageFlit (s : State) (die : Nat) : State :=
  let held := fun (t : Stream) => (t.stage = .stored || t.stage = .pend) && (match t.alloc with
    | some a => a.die = die
    | none => false)
  let (t, s) := s.oneOf (s.net.streams.filter held)
  match t with
  | some t => s.putStream { t with poison := true }
  | none => s

/-- The addresses of the replay-window and sequence records in use, which the near store may cache (10 R292). -/
def State.recordsHeld (s : State) : List Nat :=
  let awin := s.fld .fmemAwinRegion 0 62 34 * 4096
  let seq := s.fld .stnSeqRegion 0 62 34 * 4096
  let inAwin := fun (a : Nat) => s.flag .fmemAwinRegion 0 63 && awin ≤ a && a < awin + 2048 * 2 ^ s.awinK && a % 512 = 0
  let inSeq := fun (a : Nat) => s.flag .stnSeqRegion 0 63 && seq ≤ a && a < seq + 128 * 2 ^ s.seqK && a % 32 = 0
  ((s.mem.spine.map fun c => c.1 / 32 * 32).eraseDups).filter fun a => (inAwin a || inSeq a) && bit (s.spineWord a) 63

/-- A near-store or DDR5 word: its line is marked poisoned, and its use decides (R404, R405). A word of the
spill region poisons a spilled partial, and one of the near store's cache breaks the record that stands there: which one is a
free choice (log entry 96). -/
def State.damageLine (s : State) (sp : Space) (addr : Nat) : State :=
  let s := s.setPoison sp (lineOf addr) true
  let base := s.fld .bufSpillCfg 0 63 39 * 2 ^ 16
  let size := s.fld .bufSpillCfg 0 38 28 * 2 ^ 20 + s.fld .bufSpillCfg 0 27 12 * 2 ^ 16
  if sp = .spine && s.flag .bufSpillCfg 0 0 && base ≤ addr && addr < base + size then
    s.damagePartial fun c => c.place = .spill || c.place = .recall
  else if sp = .near && inRecordCache addr then
    let (r, s) := s.oneOf s.recordsHeld
    match r with
    | some a => s.setPoison .spine (lineOf a) true
    | none => s
  else s

/-- The action on an uncorrectable word. -/
def State.uncorrectable (s : State) (mem die addr : Nat) : State :=
  let s := (s.bump .intEcc (2 * mem + die) 31 16 1).eccItem mem die 0 addr
  let s := if mem = 5 || mem = 6 || mem = 7 then s.bump .strTblCnt1 0 15 0 1 else s
  let s := s.raise .ecc [mem, die, addr]
  match mem with
  | 0x00 => s.damageTile die addr
  | 0x01 => s.damagePartial fun c => c.place = .staging && dieOfCluster c.home = die
  | 0x02 => s.damageCluster die
  | 0x03 => s.damageLine .near (addr % 2 ^ 25)
  | 0x04 => s.damageLine .spine (addr % 2 ^ 41)
  | 0x05 => s.damageEm die addr
  | 0x06 => s.damageTrie die
  | 0x07 => s.damageGroup die (addr % 32768)
  | 0x08 =>
    let st := addr / 32768 % 9
    let n := if st = 8 then 384 else 32
    s.damageProg { pipe := n * die + addr / 294912 % n, station := st, bank := addr / 16384 % 2, addr := addr % 16384 }
  | 0x09 => if addr < 65536 then s.damageBucket addr else s.damageHold
  | 0x0A => s.damageBuf die addr
  | 0x0B => s.damageCopy die addr
  | 0x0C => s.damageLane die addr
  | 0x0D => s.damageTrk
  | 0x0F => s.damageFlit die
  | _ => s

/-- PATROL_READ: a read of a memory word that its code does not pass. -/
def State.patrol (s : State) (mem die addr : Nat) (kind : EccKind) : State :=
  match kind with
  | .single =>
    let s := s.bump .intEcc (2 * mem + die) 63 32 1
    if mem = 5 || mem = 6 || mem = 7 then s.bump .strTblCnt1 0 31 16 1 else s
  | .double => s.uncorrectable mem die addr

/-! ## The field test (R419 to R421) -/

/-- Change the field test. -/
def State.setFt (s : State) (f : FieldTest → FieldTest) : State := { s with red := { s.red with ft := f s.red.ft } }

/-- The first active cluster at or after n, in turn. -/
def State.nextActive (s : State) (n : Nat) : Option Nat :=
  match s.active with
  | [] => none
  | a :: l => some (((a :: l).find? fun c => n ≤ c).getD a)

/-- Start a test of a cluster. -/
def State.startTest (s : State) (c : Nat) (forced : Bool) : State :=
  s.setFt fun f => { f with cur := some c, forced := forced, steps := 0, startAt := s.beat.bc, stepped := false,
                            pend := f.pend.filter (· ≠ c) }

/-- A test slot opens: the lowest pending cluster, else the one at next. A slot that opens while a test runs is
lost. -/
def State.ftSlot (s : State) : State :=
  if !s.flag .intFtCfg 0 63 || s.red.ft.cur.isSome then s
  else
    match (sortBy id s.red.ft.pend).find? s.clusterActive with
    | some c => s.startTest c false
    | none =>
      match s.nextActive s.red.ft.next with
      | some c => (s.startTest c false).setFt fun f => { f with next := (s.nextActive (c + 1)).getD c }
      | none => s

/-- A forced test starts at a boundary at which no test runs. -/
def State.forcedTest (s : State) : State :=
  match s.red.ft.cur, s.red.ft.force with
  | none, c :: rest => (s.startTest c true).setFt fun f => { f with force := rest }
  | _, _ => s

/-- FIELD_TEST_STEP: one step in this beat: a forced one borrows the cluster, a requested one runs in an idle
beat only. -/
def State.ftStep (s : State) (idle : Bool) : State :=
  match s.red.ft.cur with
  | none => s
  | some c =>
    if s.red.ft.stepped || 16 ≤ s.red.ft.steps then s
    else if s.red.ft.forced || (idle && s.inUse c = 0) then
      s.setFt fun f => { f with steps := f.steps + 1, stepped := true }
    else s

/-- last_pass of a cluster. -/
def State.lastPass (s : State) (c : Nat) : Nat := s.fld .intClu c 31 0

/-- FIELD_TEST_RESULT: the sixteen steps are done. -/
def State.ftResult (s : State) (pass : Bool) : State :=
  match s.red.ft.cur with
  | none => s
  | some c =>
    if s.red.ft.steps < 16 then s
    else
      let forced := s.red.ft.forced
      let s := s.setFt fun f => { f with cur := none, forced := false, steps := 0, stepped := false }
      if pass then
        let s := s.setFld .intClu c 31 0 ((s.beat.now + 1) % 2 ^ 32)
        if forced && s.red.rejoin.contains c then { s with red := { s.red with passed := s.red.passed ++ [c] } } else s
      else
        let s := ((s.bump .intClu c 41 34 1).suspectClu c).raise .fieldTest [c, s.lastPass c]
        s.post s.intRing [⟨at_ 56 0x74 ||| at_ 26 c, 0, s.beatWord, at_ 32 (s.lastPass c)⟩]

/-- wait of INT_FT_CFG: at least 1 ms. -/
def State.ftWait (s : State) : Nat := Nat.max 1 (s.fld .intFtCfg 0 15 0)

/-- TEST_WAIT_EXPIRY: the steps of a requested test that remain after wait become forced. -/
def State.testWaitDue (s : State) : Bool :=
  s.red.ft.cur.isSome && !s.red.ft.forced && decide (s.red.ft.steps < 16) && decide (s.red.ft.startAt + msBeats s.ftWait ≤ s.beat.bc)

/-- A field test that has waited ft_wait is forced. -/
def State.testWait (s : State) : State := if s.testWaitDue then s.setFt fun f => { f with forced := true } else s

/-- A write of INT_FT_CTRL takes effect (R431). A retired cluster takes no test (log entry 61). -/
def State.applyFtCtrl (s : State) (val : Word) : State :=
  let c := bits val 9 0
  if 768 ≤ c || s.fld .intClu c 61 58 = 9 then s
  else if bit val 17 then s.setFt fun f => { f with force := f.force ++ [c] }
  else if bit val 16 then s.setFt fun f => { f with pend := (f.pend.filter (· ≠ c)) ++ [c] }
  else s

/-! ## Margin steps (R422 to R424) -/

/-- A cluster's regulator moves to a step: it takes no vector for 4 beats, and the change is posted. -/
def State.moveStep (s : State) (c new : Nat) : State :=
  let old := s.fld .intClu c 61 58
  let s := s.setFld .intClu c 61 58 new
  let s := { s with red := { s.red with idleTill := SMap.set 0 s.red.idleTill c (s.beat.bc + 4) } }
  s.post s.intRing [⟨at_ 56 0x73 ||| at_ 26 c, 0, s.beatWord, at_ 60 old ||| at_ 56 new⟩]

/-- A test of the cluster is made pending. -/
def State.testPending (s : State) (c : Nat) : State :=
  s.setFt fun f => { f with pend := (f.pend.filter (· ≠ c)) ++ [c] }

/-- A cluster reaches step 9 (R423). -/
def State.retireClu (s : State) (c : Nat) : State :=
  let s := (s.cutClusters fun x => x = c).1
  s.setFt fun f => { f with pend := f.pend.filter (· ≠ c), force := f.force.filter (· ≠ c),
                            cur := if f.cur = some c then none else f.cur }

/-- One step further, at a boundary. -/
def State.marginStep (s : State) (c : Nat) : State :=
  let old := s.fld .intClu c 61 58
  if 9 ≤ old then s
  else
    let s := s.moveStep c (old + 1)
    if old + 1 = 9 then s.retireClu c else s.testPending c

/-- The suspect events of the beat that ended: one step for each cluster (R418). -/
def State.marginSteps (s : State) : State :=
  let l := s.red.suspect.eraseDups
  l.foldl State.marginStep { s with red := { s.red with suspect := [] } }

/-- Clusters that passed a forced test rejoin A (R424). -/
def State.rejoins (s : State) : State :=
  { s with red := { s.red with rejoin := s.red.rejoin.filter (fun c => !s.red.passed.contains c), passed := [] } }

/-- A write of step takes effect: it lowers a cluster's step (R424). -/
def State.lowerStep (s : State) (c new : Nat) : State :=
  let old := s.fld .intClu c 61 58
  if old ≤ new then s
  else
    let s := s.moveStep c new
    if old = 9 then
      ({ s with red := { s.red with rejoin := s.red.rejoin ++ [c] } }).setFt fun f => { f with force := f.force ++ [c] }
    else s.testPending c

/-- INT_CLU_c. -/
def State.cluWord (s : State) (c : Nat) : Word :=
  let st := if s.fld .intClu c 61 58 = 9 then 2
    else if s.disabled 3 (c / 12) then 3
    else if s.borrowed c then 1
    else 0
  setBits (s.shown .intClu c) 63 62 st

/-- INT_RED_STATUS. -/
def State.redStatusWord (s : State) : Word :=
  at_ 32 ((List.range 768).filter fun c => s.fld .intClu c 61 58 = 9).length ||| at_ 0 s.active.length

/-- INT_FT_CTRL. -/
def State.ftCtrlWord (s : State) : Word :=
  let f := s.red.ft
  at_ 63 (b2n f.cur.isSome) ||| at_ 62 (b2n (f.cur.isSome && f.forced)) ||| at_ 52 (f.cur.getD 0) ||| at_ 42 f.next

/-- FIELD_TEST_SLOT. -/
def execFieldTestSlot (s : State) : Out :=
  run .fieldTestSlot s fun s => s.call .fieldTestSlot (s.flag .intFtCfg 0 63 && pointDue s.time.testAt s.comingNs)

/-- FIELD_TEST_STEP. -/
def execFieldTestStep (idle : Bool) (s : State) : Out := run (.fieldTestStep idle) s fun s => s.ftStep idle

/-- FIELD_TEST_RESULT. -/
def execFieldTestResult (pass : Bool) (s : State) : Out := run (.fieldTestResult pass) s fun s => s.ftResult pass

/-- TEST_WAIT_EXPIRY. -/
def execTestWaitExpiry (s : State) : Out :=
  run .testWaitExpiry s fun s => s.call .testWaitExpiry (s.coming State.testWaitDue)

end Sys2Proof.Machine
end

