-- ==== Sys2Proof/Machine/Sha512.lean ====
section
/-! DEFINITION. SHA-512 (FIPS 180-4), by which images and tables are measured (04_station_programming.md R106;
20_boot_and_security.md R585, R593). -/

namespace Sys2Proof

/-- The largest number below r + 2^n whose k-th power is at most x, found one binary digit at a time from the top;
r is a multiple of 2^n whose k-th power is at most x. -/
def rootDigits (k x : Nat) : Nat → Nat → Nat
  | 0, r => r
  | n + 1, r =>
    let t := r + 2 ^ n
    rootDigits k x n (if t ^ k ≤ x then t else r)

/-- The first 64 binary digits after the point of the k-th root of p, for a root below 16. -/
def rootFraction (k p : Nat) : Nat := rootDigits k (p * 2 ^ (64 * k)) 68 0 % 2 ^ 64

/-- The first eighty primes: those up to 409, none of which has a divisor from 2 to 20 but itself. -/
def shaPrimes : List Nat := (rangeFrom 2 410).filter fun n => (rangeFrom 2 21).all fun d => n = d || n % d ≠ 0

/-- The eighty round constants: fractions of the cube roots of the first eighty primes. -/
def shaK : List Nat := shaPrimes.map (rootFraction 3)

/-- The initial hash value: fractions of the square roots of the first eight. -/
def shaInit : List Nat := (shaPrimes.take 8).map (rootFraction 2)

/-- A number below 2^64 with its lowest `n` binary digits moved to the top. -/
def turn (n x : Nat) : Nat := x % 2 ^ n * 2 ^ (64 - n) + x / 2 ^ n

/-- `x` turned by each of the distances and added digit by digit without carry; `start` is added too. -/
def turns (start : Nat) (ns : List Nat) (x : Nat) : Nat := (ns.map (turn · x)).foldl Nat.xor start

/-- The next word of the message schedule, from the sixteen words before it, newest first. -/
def shaNext (w : List Nat) : Nat :=
  let old := w.getD 14 0
  let late := w.getD 1 0
  (w.getD 15 0 + w.getD 6 0 + turns (old / 2 ^ 7) [1, 8] old + turns (late / 2 ^ 6) [19, 61] late) % 2 ^ 64

/-- The message schedule: `n` more words after the words of `w`, which is held newest first. -/
def shaSched (n : Nat) (w : List Nat) : List Nat := (n.repeat (fun l => shaNext l :: l) w).reverse

/-- The working variables of a block: one half starts at a, the other at e. -/
structure ShaVars where
  near : Nat × Nat × Nat × Nat
  far : Nat × Nat × Nat × Nat
deriving DecidableEq, Repr

/-- One round, with the sum of its constant and its schedule word. -/
def ShaVars.round (v : ShaVars) (kw : Nat) : ShaVars :=
  let (e, f, g, h) := v.far
  let (a, b, c, d) := v.near
  -- Each digit of f where e has a 1, of g where it has a 0; then the digit that two of a, b and c agree on.
  let pick := (e &&& (f ^^^ g)) ^^^ g
  let most := (a &&& (b ||| c)) ||| (b &&& c)
  let t := kw + h + pick + turns 0 [14, 18, 41] e
  { near := ((t + most + turns 0 [28, 34, 39] a) % 2 ^ 64, a, b, c), far := ((d + t) % 2 ^ 64, e, f, g) }

/-- The eight variables in order. -/
def ShaVars.list (v : ShaVars) : List Nat :=
  [v.near.1, v.near.2.1, v.near.2.2.1, v.near.2.2.2, v.far.1, v.far.2.1, v.far.2.2.1, v.far.2.2.2]

/-- The working variables that a hash value starts a block with. -/
def ShaVars.ofList (l : List Nat) : ShaVars :=
  let x := fun i => l.getD i 0
  { near := (x 0, x 1, x 2, x 3), far := (x 4, x 5, x 6, x 7) }

/-- One block of 128 bytes. -/
def shaBlock (hs : List Nat) (block : List Byte) : List Nat :=
  let w := shaSched 64 ((beWords 16 block).map (·.toNat)).reverse
  let v := (List.zipWith Nat.add shaK w).foldl ShaVars.round (ShaVars.ofList hs)
  List.zipWith (fun x y => (x + y) % 2 ^ 64) hs v.list

/-- The blocks of a padded message, one after the other. -/
def shaBlocks : Nat → List Byte → List Nat → List Nat
  | 0, _, hs => hs
  | n + 1, bs, hs => shaBlocks n (bs.drop 128) (shaBlock hs (bs.take 128))

/-- The message with its padding: a 1 bit, zeros, and its length in bits as 128 bits. -/
def shaPad (bs : List Byte) : List Byte :=
  let z := (239 - bs.length % 128) % 128
  bs ++ [0x80] ++ List.replicate z 0 ++ beBytes 16 (8 * bs.length)

/-- The digest, as a number of 512 bits. -/
def sha512 (bs : List Byte) : Nat :=
  let p := shaPad bs
  (shaBlocks (p.length / 128) p shaInit).foldl (fun n x => n * 2 ^ 64 + x) 0

end Sys2Proof
end

