-- ==== Sys2Proof/Machine/Loader.lean ====
section
/-! DEFINITION. The loader: images, the longest-path check, and the measurement (04_station_programming.md R103
to R110; 13_figer_reference.md R384, R387). -/

namespace Sys2Proof.Machine

/-! ## Paths (R104, R387) -/

/-- Where and why a load is refused. -/
structure Refuse where
  code : Nat
  station : Nat := 0
  addr : Nat := 0
  path : Nat := 0
deriving DecidableEq, Repr

/-- `br`. -/
def isBr (w : Word) : Bool := fOp w = 0x62

/-- The instruction ends its path, where its guard holds. -/
def isEnd (w : Word) : Bool := fOp w = 0x60 || fOp w = 0x61 || fOp w = 0xA0

/-- The addresses that follow an instruction on a path. -/
def succs (a : Nat) (w : Word) : List Nat :=
  if isBr w then (if unguarded w then [fTarget w] else [fTarget w, a + 1])
  else if isEnd w then (if unguarded w then [] else [a + 1])
  else [a + 1]

/-- What a section checks an instruction against: its station, its cost, and the longest path allowed. -/
structure Section where
  station : Nat
  allowed : Word → Bool
  cost : Word → Nat
  limit : Nat
  limitCode : Nat

/-- The section of a station's code. -/
def stnSection (stn : Nat) : Section :=
  { station := stn, allowed := fun w => stnDefined w && permitted stn w, cost := slotCost, limit := slotBudget stn,
    limitCode := 8 }

/-- The section of the combine code. -/
def combSection : Section :=
  { station := 8, allowed := cluDefined, cost := fun _ => 1, limit := 8, limitCode := 9 }

/-- Note that a path of length `n` reaches address `a`; 1 + the longest is kept. -/
def reachAt (m : SMap Nat) (a n : Nat) : SMap Nat := SMap.upd 0 m a fun x => Nat.max x (n + 1)

/-- The encoding is defined for one of Figer's three users (13, its opening). -/
def figerDefined (w : Word) : Bool := stnDefined w || cluDefined w || ctlDefined w

/-- The longest path that goes on from the addresses reached so far, whatever lies on it (R109; log entry 62). -/
def longestPath (x : Section) : Nat → List Word → SMap Nat → Nat → Nat
  | _, [], _, best => best
  | a, w :: ws, m, best =>
    let before := SMap.get 0 m a
    if before = 0 then longestPath x (a + 1) ws m best
    else
      let n := before - 1 + x.cost w
      longestPath x (a + 1) ws (((succs a w).filter (a < ·)).foldl (fun m b => reachAt m b n) (SMap.erase m a)) (Nat.max best n)

/-- A word of an image: none where its read ends in an error (R104, code 0x0A). -/
abbrev Read := Option Word

/-- The refusal of one instruction, and the paths that go on from it. `len` is the section's length, and `rest` what follows
the instruction. One that another user owns is not permitted; where a branch leads counts only on a path (R104, R387). The
first address in order whose longest path is over the limit is the one named (log entry 62). -/
def checkInstr (x : Section) (len a : Nat) (w : Word) (rest : List Word) (m : SMap Nat) : Option Refuse × SMap Nat :=
  let at_ := fun c p => some { code := c, station := x.station, addr := a, path := p : Refuse }
  let before := SMap.get 0 m a
  if !figerDefined w then (at_ 6 0, m)
  else if !x.allowed w then (at_ 7 0, m)
  else if before = 0 then (none, m)
  else if isBr w && fTarget w ≤ a then (at_ 4 0, m)
  else if isBr w && len ≤ fTarget w then (at_ 3 0, m)
  else
    let n := before - 1 + x.cost w
    if x.limit < n then (at_ x.limitCode (longestPath x a (w :: rest) m n), m)
    else if (succs a w).any fun b => len ≤ b then (at_ 5 0, m)
    else (none, (succs a w).foldl (fun m b => reachAt m b n) (SMap.erase m a))

/-- The first refusal of a section in address order. -/
def checkCode (x : Section) (len : Nat) : Nat → List Read → SMap Nat → Option Refuse
  | _, [], _ => none
  | a, none :: _, _ => some { code := 0x0A, station := x.station, addr := a }
  | a, some w :: ws, m =>
    match checkInstr x len a w (ws.map (·.getD 0)) m with
    | (some r, _) => some r
    | (none, m) => checkCode x len (a + 1) ws m

/-! ## The image (R103) -/

/-- Dispatch entries of a section: four to a word, low entry first. -/
def entriesOf (ws : List Word) : List Nat :=
  ws.flatMap fun w => [bits w 15 0, bits w 31 16, bits w 47 32, bits w 63 48]

/-- A section of the image, or none where it lies outside. -/
def sliceOf (img : List Read) (n off len : Nat) : Option (List Read) :=
  if off + len ≤ n && off + len ≤ img.length then some ((img.drop off).take len) else none

/-- A section of plain words: refused where it lies outside the image, or cannot be read. -/
def plainOf (img : List Read) (n off len stn : Nat) : Except Refuse (List Word) :=
  match sliceOf img n off len with
  | none => .error { code := 3, station := stn }
  | some l => if l.all (·.isSome) then .ok (l.map (·.getD 0)) else .error { code := 0x0A, station := stn }

/-- Mode of an entry. -/
def entMode (e : Nat) : Nat := e / 2 ^ 14 % 4

/-- Address of an entry. -/
def entAddr (e : Nat) : Nat := e % 2 ^ 14

/-- The starting points of a section: its RUN entries that lie within it. -/
def startsOf (len : Nat) (es : List Nat) : SMap Nat :=
  (es.filter fun e => entMode e = 1 && entAddr e < len).foldl (fun m e => reachAt m (entAddr e) 0) []

/-- The refusal of an entry: the reserved mode, or an address outside its section. -/
def checkEntry (stn len e : Nat) : Option Refuse :=
  if entMode e = 3 then some { code := 6, station := stn, addr := entAddr e }
  else if entMode e = 1 && len ≤ entAddr e then some { code := 3, station := stn, addr := entAddr e }
  else none

/-- The entries of one station within the dispatch section. -/
def stnEntries (es : List Nat) (stn : Nat) : List Nat :=
  if stn = 0 then es.take 2 else (es.drop (2 + 256 * (stn - 1))).take 256

/-- The entries of a section as they can be read, for the paths that start from them. -/
def readEntries (img : List Read) (n off len : Nat) : List Nat :=
  entriesOf (((sliceOf img n off len).getD []).map (·.getD 0))

/-- Fail with a refusal, if there is one. -/
def orRefuse (r : Option Refuse) : Except Refuse Unit :=
  match r with
  | some r => .error r
  | none => .ok ()

/-- The header's words are as R103 says. -/
def headerOk (h : List Word) : Bool :=
  let w := fun i => h.getD i 0
  bits (w 0) 63 32 = 0x46494752 && bits (w 0) 31 16 = 1 && ((List.range 8).all fun i => bits (w (i + 1)) 31 15 = 0)
    && w 14 = 0 && w 15 = 0

/-- Check an image: the refusal, in section order and then in address order, or the bank that it makes (R104, R106). -/
def checkImage (img : List Read) : Except Refuse Bank := do
  let head := img.take 16
  if head.any (·.isNone) then throw { code := 0x0A : Refuse }
  let hw := head.map (·.getD 0)
  if img.length < 16 || !headerOk hw then throw { code := 1 : Refuse }
  let h := fun (i : Nat) => hw.getD i 0
  let off := fun (i : Nat) => bits (h i) 63 32
  let len := fun (i : Nat) => bits (h i) 14 0
  let n := bits (h 13) 31 0
  let es := readEntries img n (off 10) 449
  let ces := readEntries img n (off 12) 16
  let part := fun (i stn limit : Nat) (x : Section) (starts : List Nat) =>
    match if limit < len i then none else sliceOf img n (off i) (len i) with
    | none => some { code := 3, station := stn : Refuse }
    | some l => checkCode x l.length 0 l (startsOf l.length starts)
  orRefuse ((List.range 8).findSome? fun (s : Nat) => part (s + 1) s 16384 (stnSection s) (stnEntries es s))
  orRefuse (part 9 8 2048 combSection ces)
  let disp ← plainOf img n (off 10) 449 0
  let es := entriesOf disp
  orRefuse ((List.range 8).findSome? fun (s : Nat) => (stnEntries es s).findSome? fun e => checkEntry s (len (s + 1)) e)
  let ks ← plainOf img n (off 11) 64 0
  let cw ← plainOf img n (off 12) 16 8
  let ces := entriesOf cw
  orRefuse (ces.findSome? fun e => checkEntry 8 (len 9) e)
  if ((img.take n).any (·.isNone)) then throw { code := 0x0A : Refuse }
  let words := fun (i : Nat) => ((sliceOf img n (off i) (len i)).getD []).map (·.getD 0)
  return { code := (List.range 8).map fun s => words (s + 1), intakeA := es.getD 0 0, intakeE := es.getD 1 0,
           disp := (List.range 7).map fun s => stnEntries es (s + 1),
           consts := (List.range 8).map fun s => (ks.drop (8 * s)).take 8,
           comb := words 9, combEnt := ces, loaded := true, retained := false }

/-! ## A load (R106, R108, R109) -/

/-- Words of the measurement of bank e. -/
def State.setMeas (s : State) (e : Nat) (d : Nat) : State :=
  (List.range 8).foldl (fun (s : State) k => s.setReg .stnMeas (8 * e + k) (BitVec.ofNat 64 (d / 2 ^ (64 * (7 - k))))) s

/-- A load ends with a refusal: the bank cannot run until a later load succeeds. -/
def State.loadRefused (s : State) (r : Refuse) (version : Nat) : State :=
  let e := s.stn.loadEpoch
  let stn := s.stn.setBank (e = 1) fun b => { b with loaded := false, retained := false }
  let s := { s with stn := { stn with loadState := 3, loadCode := r.code, loadStation := r.station, loadAddr := r.addr,
                                      loadPath := r.path, loadVersion := version } }
  (s.setMeas e 0).raise .load [e, r.code, r.station, r.addr, r.path]

/-- A write of go in STN_LOAD_CTRL, with its epoch (R108). -/
def State.loadStart (s : State) (e : Nat) : State :=
  if s.stn.loadState = 1 then s
  else
    let s := { s with stn := { s.stn with loadState := 1, loadEpoch := e, loadCode := 0, loadStation := 0, loadAddr := 0,
                                          loadPath := 0, loadVersion := 0 } }
    if s.stn.st (e = 1) = .closed then s else s.loadRefused { code := 2 } 0

/-- The image in spine memory at an address; a line that reads badly leaves none for each of its words (R104, code
0x0A). -/
def State.spineImage (s : State) (a : Nat) : List Read :=
  let n := Nat.max 16 (bits (memWord s.mem.spine (a + 104)) 31 0)
  (List.range n).map fun i => if s.badRead .spine (a + 8 * i) 8 then none else some (memWord s.mem.spine (a + 8 * i))

/-- The bytes of an image, as they are stored. -/
def imageBytes (img : List Word) : List Byte := img.flatMap fun w => leBytes 8 w.toNat

/-- An image has been read: checked, it is written into every copy of the bank, and measured. -/
def State.loadImage (s : State) (img : List Read) : State :=
  let version := bits ((img.getD 0 none).getD 0) 15 0
  match checkImage img with
  | .error r => s.loadRefused r version
  | .ok b =>
    let e := s.stn.loadEpoch
    let n := bits ((img.getD 13 none).getD 0) 31 0
    let stn := s.stn.setBank (e = 1) fun _ => { b with retained := s.ddrReady }
    let s := { s with stn := { stn with loadState := 2, loadVersion := version,
                                        damage := stn.damage.filter fun d => d.bank ≠ e } }
    (s.setMeas e (sha512 (imageBytes ((img.take n).map (·.getD 0))))).raise .load [e, 0]

/-- LOAD_DONE: the source has been read. `image` is what host memory answers, word for word: none where the read ends in
a PCIe error. -/
def State.loadDone (s : State) (image : List Read) : State :=
  if s.stn.loadState ≠ 1 then s
  else s.loadImage (if s.flag .stnLoadSrc 0 63 then s.spineImage (s.fld .stnLoadSrc 0 62 12 * 4096) else image)

/-- STN_LOAD_STATUS. -/
def State.loadStatusWord (s : State) : Word :=
  let t := s.stn
  at_ 62 t.loadState ||| at_ 48 t.loadCode ||| at_ 44 t.loadStation ||| at_ 30 t.loadAddr ||| at_ 16 t.loadPath
    ||| at_ 0 t.loadVersion

/-- LOAD_GO: the write of go takes effect at once; while a load is BUSY it is ignored. -/
def execLoadGo (epoch : Nat) (s : State) : Out :=
  run (.loadGo epoch) s fun s =>
    if s.stn.loadState = 1 then s else (s.setFld .stnLoadCtrl 0 8 8 epoch).loadStart epoch

/-- LOAD_DONE. -/
def execLoadDone (image : List (Option Word)) (s : State) : Out := run (.loadDone image) s fun s => s.loadDone image

/-! ## Epochs (R97 to R101) -/

/-- Packets of epoch e in flight (R99). -/
def State.inflight (s : State) (e : Bool) : Nat :=
  let streams := (s.net.streams.filter fun t => t.epoch = e).length
  let trk := (s.mem.trk.filter fun t => t.req.epoch = e && !t.sent).length
  let rets := (s.net.ret.filter fun r => r.epoch = e).length
  let chunks := (s.coll.chunks.filter fun c => c.epoch = e).foldl
    (fun n c => n + c.segs.foldl (fun n g => n + g.got.length) 0) 0
  let cmps := (s.coll.checks.filter fun c => c.epoch = e).foldl (fun n c => n + c.cmps.length) 0
  let casc := (s.coll.casc.filter fun t => t.epoch = e).length
  let mgmt := (s.net.mgmt.filter fun t => t.epoch = e).length
  streams + trk + rets + chunks + cmps + casc + mgmt

/-- The quiet count of an epoch. -/
def StnState.quiet (t : StnState) (e : Bool) : Nat := if e then t.quiet1 else t.quiet0

/-- Set the quiet count of an epoch. -/
def StnState.setQuiet (t : StnState) (e : Bool) (n : Nat) : StnState :=
  if e then { t with quiet1 := n } else { t with quiet0 := n }

/-- A packet of the epoch passed `intake` in the beat that ends. -/
def StnState.passed (t : StnState) (e : Bool) : Bool := if e then t.passed1 else t.passed0

/-- drain_beats, never below 16. -/
def State.drainBeats (s : State) : Nat := Nat.max 16 (s.fld .stnEpoch 0 47 32)

/-- Nothing of the epoch was in flight at the snapshot, and none of its packets passed `intake` in the beat. -/
def State.quietNow (s : State) (e : Bool) : Bool := s.inflight e = 0 && !s.stn.passed e

/-- Step 4 of a boundary for one epoch: `quiet` as found at its snapshot. -/
def State.drainStep (s : State) (e quiet : Bool) : State :=
  if s.stn.st e ≠ .closing then s
  else
    let n := if quiet then Nat.min 0xFFFF (s.stn.quiet e + 1) else 0
    let stn := s.stn.setQuiet e n
    { s with stn := if s.drainBeats ≤ n then stn.setSt e .closed else stn }

/-- The quiet count of a CLOSING epoch reaches drain_beats at the coming boundary. -/
def State.drainDue (s : State) (e : Bool) : Bool :=
  s.stn.st e = .closing && (s.drainStep e (s.quietNow e)).stn.st e = .closed

/-- EPOCH_DRAIN_COMPLETE: called for the coming boundary. -/
def execEpochDrainComplete (epoch : Nat) (s : State) : Out :=
  run (.epochDrainComplete epoch) s fun s => s.call (.epochDrainComplete epoch) (s.drainDue (epoch = 1))

/-- STN_EPOCH. -/
def State.epochWord (s : State) : Word :=
  setBits (setBits (setBits (s.shown .stnEpoch 0) 27 26 s.stn.st1.code) 25 24 s.stn.st0.code) 0 0 (b2n s.stn.cur)

/-- STN_DRAIN_e. -/
def State.drainWord (s : State) (e : Bool) : Word := at_ 32 (Nat.min (2 ^ 32 - 1) (s.inflight e)) ||| at_ 16 (s.stn.quiet e)

end Sys2Proof.Machine
end

