-- ==== Sys2Proof/Machine/Compare.lean ====
section
/-! DEFINITION. The compare engine and the commands of the tables (05_steer_tables.md R130, R138 to R143). -/

namespace Sys2Proof.Machine

/-! ## The compare engine -/

/-- Where table t's shadow lies. -/
def State.cmpBase (s : State) (t : Nat) : Nat := s.fld .strCmpSrc t 63 35 * 4096

/-- Records of table t's shadow. -/
def State.cmpCount (s : State) (t : Nat) : Nat := if t = 2 then 32768 else s.fld .strCmpSrc t 21 0

/-- Word j of record p of a shadow of 32-byte records. -/
def State.cmpWord (s : State) (t p j : Nat) : Word := memWord s.mem.spine (s.cmpBase t + 32 * p + 8 * j)

/-- A mismatch: counted, and posted as item 0x36. -/
def State.mismatch (s : State) (t vmask die kind : Nat) (key data : Word) : State :=
  (s.bump .strTblCnt1 0 47 32 1).tableItem 0x36 t vmask die false 0 kind key data

/-- The bits of a data word that the engine compares: hit and learned apart (log entry 63). -/
def cmpData (d : Word) : Word := setBits d 26 25 0

/-- The versions of a mask. -/
def versionsOf (M : Nat) : List Bool := [false, true].filter fun e => M &&& vbit e ≠ 0

/-- A mask of versions. -/
def maskOf (l : List Bool) : Nat := l.foldl (fun m e => m ||| vbit e) 0

/-- Look up record p of the exact-match shadow in every version of its vmask. -/
def State.cmpEmRecord (s : State) (die p : Nat) : State :=
  let k := s.cmpWord 0 p 0
  let d := s.cmpWord 0 p 1
  let w2 := s.cmpWord 0 p 2
  if s.cmpCount 0 ≤ p || bit w2 61 then s
  else
    let vs := versionsOf (bits w2 63 62)
    let gone := vs.filter fun e => (s.emFind k e).isNone
    let s := if gone = [] then s else s.mismatch 0 (maskOf gone) die 2 k d
    (vs.filterMap fun e => s.emFind k e).eraseDups.foldl (fun (s : State) i =>
      let x := emAt s.tbl.em i
      if x.suspect &&& dieBit die ≠ 0 || cmpData x.data = cmpData d then s
      else (s.slotSuspect i die).mismatch 0 x.vmask die 1 k x.data) s

/-- Find slot p of the store in the shadow. -/
def State.cmpSlot (s : State) (die p : Nat) : State :=
  let x := emAt s.tbl.em p
  if x.vmask = 0 || bit x.data 25 || x.suspect &&& dieBit die ≠ 0 then s
  else
    let recs := (List.range (s.cmpCount 0)).filter fun r => s.cmpWord 0 r 0 = x.key
    if recs.any fun r => bit (s.cmpWord 0 r 2) 61 then s
    else
      let extra := (versionsOf x.vmask).filter fun e => !recs.any fun r => bits (s.cmpWord 0 r 2) 63 62 &&& vbit e ≠ 0
      if extra = [] then s else (s.slotSuspect p die).mismatch 0 (maskOf extra) die 3 x.key x.data

/-- The key word of an LPM item (R128). -/
def lpmKey (v6 : Bool) (len addr : Nat) : Word := at_ 63 (b2n v6) ||| at_ 56 len ||| at_ 0 (if v6 then 0 else addr)

/-- The data word of an LPM item. -/
def lpmData (v6 : Bool) (addr res : Nat) : Word := at_ 0 (if v6 then addr / 2 ^ 64 else res)

/-- A prefix is suspect on a die already, or lies under a damaged node. -/
def State.lpmIsBad (s : State) (v6 : Bool) (len addr die : Nat) : Bool :=
  (s.tbl.lpm.any fun p => p.v6 = v6 && p.len = len && p.addr = addr && p.suspect &&& dieBit die ≠ 0)
    || s.tbl.lpmBad.any fun b => b.die = die && b.v6 = v6 && b.len ≤ len && inPrefix v6 b.len b.addr addr

/-- The family, length, address, vmask, pending mark and result of an LPM record. -/
def State.lpmRecord (s : State) (p : Nat) : Bool × Nat × Nat × Nat × Bool × Nat :=
  let w0 := s.cmpWord 1 p 0
  let w3 := s.cmpWord 1 p 3
  let a := (s.cmpWord 1 p 1).toNat * 2 ^ 64 + (s.cmpWord 1 p 2).toNat
  (bit w0 63, bits w0 62 56, if bit w0 63 then a else a % 2 ^ 32, bits w3 63 62, bit w3 61, bits w3 31 0)

/-- Look up record p of the LPM shadow. -/
def State.cmpLpmRecord (s : State) (die p : Nat) : State :=
  let (v6, len, addr, vm, pend, res) := s.lpmRecord p
  if s.cmpCount 1 ≤ p || pend then s
  else
    let at_ := fun (x : Prefix) => x.v6 = v6 && x.len = len && x.addr = addr
    let vs := versionsOf vm
    let gone := vs.filter fun e => !s.tbl.lpm.any fun x => at_ x && x.vmask &&& vbit e ≠ 0
    let s := if gone = [] then s else s.mismatch 1 (maskOf gone) die 2 (lpmKey v6 len addr) (lpmData v6 addr res)
    let wrong := s.tbl.lpm.filter fun x => at_ x && x.vmask &&& vm ≠ 0 && x.result ≠ res
    match wrong with
    | x :: _ =>
      if s.lpmIsBad v6 len addr die then s
      else (s.prefixSuspect v6 len addr die).mismatch 1 x.vmask die 1 (lpmKey v6 len addr) (lpmData v6 addr x.result)
    | [] => s

/-- Find prefix p of the tables in the shadow. -/
def State.cmpPrefix (s : State) (die p : Nat) : State :=
  match s.tbl.lpm[p]? with
  | none => s
  | some x =>
    let recs := ((List.range (s.cmpCount 1)).map s.lpmRecord).filter fun r => r.1 = x.v6 && r.2.1 = x.len && r.2.2.1 = x.addr
    if s.lpmIsBad x.v6 x.len x.addr die || recs.any fun r => r.2.2.2.2.1 then s
    else
      let extra := (versionsOf x.vmask).filter fun e => !recs.any fun r => r.2.2.2.1 &&& vbit e ≠ 0
      if extra = [] then s
      else (s.prefixSuspect x.v6 x.len x.addr die).mismatch 1 (maskOf extra) die 3 (lpmKey x.v6 x.len x.addr)
        (lpmData x.v6 x.addr x.result)

/-- Compare group entry p, version 0 first. -/
def State.cmpGroup (s : State) (die p : Nat) : State :=
  let w := memWord s.mem.spine (s.cmpBase 2 + 8 * p)
  let x := SMap.get 0 s.tbl.mc p
  if 32768 ≤ p || bit w 45 || s.tbl.mcBad.contains (p, die) then s
  else
    let vm := if p < 16384 then 1 else 2
    let key := at_ 0 (p % 16384)
    let kept := fun (v : Word) => setBits v 45 16 0
    let bad : State := { s with tbl := { s.tbl with mcBad := s.tbl.mcBad ++ [(p, die)] } }
    if !bit x 63 then (if bit w 63 then s.mismatch 2 vm die 2 key w else s)
    else if !bit w 63 then bad.mismatch 2 vm die 3 key x
    else if kept w = kept x then s
    else bad.mismatch 2 vm die 1 key x

/-- Positions of a pass over one copy: the records of the shadow beside the slots of the table. -/
def State.cmpLen (s : State) (t : Nat) : Nat :=
  if t = 0 then Nat.max (s.cmpCount 0) emTotal
  else if t = 1 then Nat.max (s.cmpCount 1) s.tbl.lpm.length
  else 32768

/-- One position of a pass. -/
def State.cmpAt (s : State) (t die p : Nat) : State :=
  if t = 0 then (s.cmpEmRecord die p).cmpSlot die p
  else if t = 1 then (s.cmpLpmRecord die p).cmpPrefix die p
  else s.cmpGroup die p

/-- rate, 1 to 16. -/
def State.cmpRate (s : State) : Nat := Nat.min 16 (Nat.max 1 (s.fld .strCmpCtrl 0 12 8))

/-- COMPARE_ENGINE_STEP: the records of one beat for a table. While the shadow cannot be read, or the firmware
does not run (20 R582), the engine waits. -/
def State.cmpStep (s : State) (t : Nat) : State :=
  if !s.flag .strCmpCtrl 0 t || !s.ddrReady || !s.boot.running then s
  else
    let pos := SMap.get 0 s.tbl.cmpPos t
    let die := SMap.get 0 s.tbl.cmpDie t
    let n := s.cmpLen t
    let stop := Nat.min n (pos + s.cmpRate)
    let s := (rangeFrom pos stop).foldl (fun (s : State) p => s.cmpAt t die p) s
    let done := decide (n ≤ stop)
    let s := { s with tbl := { s.tbl with cmpPos := SMap.set 0 s.tbl.cmpPos t (if done then 0 else stop),
                                          cmpDie := SMap.set 0 s.tbl.cmpDie t (if done then 1 - die else die) } }
    if done && die = 1 then s.setFld .strCmpCtrl 0 63 32 (s.fld .strCmpCtrl 0 63 32 + 1) else s

/-- A write of STR_CMP_CTRL takes effect: a table whose enable bit is clear starts from the beginning. -/
def State.applyCmpCtrl (s : State) (val : Word) : State :=
  let s := s.putRw .strCmpCtrl 0 val
  [0, 1, 2].foldl (fun (s : State) t =>
    if s.flag .strCmpCtrl 0 t then s
    else { s with tbl := { s.tbl with cmpPos := SMap.erase s.tbl.cmpPos t, cmpDie := SMap.erase s.tbl.cmpDie t } }) s

/-- A write of STR_EM_SEED takes effect only while no slot is used (R143). -/
def State.applyEmSeed (s : State) (val : Word) : State :=
  if emUsed s.tbl.em = 0 then s.putRw .strEmSeed 0 val else s

/-- COMPARE_ENGINE_STEP. -/
def execCompareEngineStep (table : Nat) (s : State) : Out :=
  run (.compareEngineStep table) s fun s => s.cmpStep table

/-- TERMITE_VISIT: paused while the firmware does not run (20 R582). -/
def execTermiteVisit (s : State) : Out :=
  run .termiteVisit s fun s => if s.boot.running then s.termiteVisit else s

/-! ## Buffers (07) -/

/-- WEEVIL_AUDIT: called for the coming boundary; paused while the firmware does not run. -/
def execWeevilAudit (s : State) : Out := run .weevilAudit s fun s => s.call .weevilAudit (s.coming State.auditDue)

/-- WEEVIL_WALK_END. -/
def execWeevilWalkEnd (s : State) : Out := run .weevilWalkEnd s State.walkEnd

/-- WEEVIL_TEARDOWN_CHECK: called for the 64th boundary of a partition's reset; while the firmware does not run, it is
owed until it does (20 R582). -/
def execWeevilTeardownCheck (part : Nat) (s : State) : Out :=
  run (.weevilTeardownCheck part) s fun s => s.call (.weevilTeardownCheck part) (s.coming (·.teardownDue part))

/-- STG_CARVE_APPLY: called for the coming boundary. -/
def execStgCarveApply (s : State) : Out := run .stgCarveApply s fun s => s.call .stgCarveApply s.carveDue

end Sys2Proof.Machine
end

