-- ==== Sys2Proof/Machine/LightCmds.lean ====
section
/-! DEFINITION. The meanings of the commands of the light engines and of optical bypass that no register write
causes (08_light_engines.md, 09_optical_bypass.md, 21 R622 to R624). -/

namespace Sys2Proof.Machine

/-- LASER_FAIL (08 R221). -/
def execLaserFail (engine k : Nat) (s : State) : Out :=
  run (.laserFail engine k) s fun s => s.laserFail engine k

/-- SPARE_SWITCH_IN (08 R221). -/
def execSpareSwitchIn (engine k : Nat) (s : State) : Out :=
  run (.spareSwitchIn engine k) s fun s => s.spareSwitchIn engine k

/-- RETIRE_SWITCH (08 R222). -/
def execRetireSwitch (engine k : Nat) (s : State) : Out :=
  run (.retireSwitch engine k) s fun s => s.retireSwitch engine k

/-- LASER_SETTLED (08 R239). -/
def execLaserSettled (engine : Nat) (s : State) : Out :=
  run (.laserSettled engine) s fun s => s.laserSettled engine

/-- RING_UNLOCK (08 R225). -/
def execRingUnlock (lane : Nat) (ring : RingLoss) (s : State) : Out :=
  run (.ringUnlock lane ring) s fun s => s.ringUnlock lane ring.tx ring.light

/-- PILOT_WINDOW (08 R226, R227). -/
def execPilotWindow (lane : Nat) (tx : Bool) (tone : Nat) (s : State) : Out :=
  run (.pilotWindow lane tx tone) s fun s => s.pilotWindow lane tx tone

/-- REACQ_VERIFIED (08 R228). -/
def execReacqVerified (lane : Nat) (tx : Bool) (heat : Nat) (s : State) : Out :=
  run (.reacqVerified lane tx heat) s fun s => s.reacqVerified lane tx heat

/-- REACQ_TIMEOUT (08 R228). -/
def execReacqTimeout (lane : Nat) (s : State) : Out := run (.reacqTimeout lane) s fun s => s.reacqTimeout lane

/-- LIGHT_PRESENT (08 R228). -/
def execLightPresent (lane : Nat) (s : State) : Out := run (.lightPresent lane) s fun s => s.lightPresent lane

/-- LANE_TRAIN_COMPLETE (08 R231). -/
def execLaneTrainComplete (lane : Nat) (s : State) : Out :=
  run (.laneTrainComplete lane) s fun s => s.trainComplete lane

/-- TRAIN_TIMEOUT (08 R230). -/
def execTrainTimeout (lane : Nat) (s : State) : Out := run (.trainTimeout lane) s fun s => s.trainTimeout lane

/-- LINK_FAULT (08 R230). -/
def execLinkFault (loss : LinkLoss) (s : State) : Out :=
  run (.linkFault loss) s fun s => s.linkFault loss.lane loss.light

/-- CAL_SLOT: called for the coming boundary, where the engine's grid has a point due (08 R235; 16 R477). -/
def execCalSlot (engine : Nat) (s : State) : Out :=
  run (.calSlot engine) s fun s =>
    s.call (.calSlot engine) (pointDue (SMap.get none s.time.calAt engine) s.comingNs && s.flag .leCfg engine 0)

/-- CAL_COMPLETE (08 R234). -/
def execCalComplete (engine : Nat) (tx rx : RingCal) (s : State) : Out :=
  run (.calComplete engine tx rx) s fun s => s.calComplete engine tx.heat rx.heat tx.park rx.park

/-- CAL_TIMEOUT (08 R234). -/
def execCalTimeout (engine : Nat) (tx : Bool) (s : State) : Out :=
  run (.calTimeout engine tx) s fun s => s.calTimeout engine tx

/-- LOOP_START: a write of start in LE_LOOP_e, with its dur (21 R622). -/
def execLoopStart (engine target dur : Nat) (s : State) : Out :=
  run (.loopStart engine target dur) s fun s => s.loopWrite engine (at_ 40 dur ||| at_ 8 target ||| at_ 0 1)

/-- LOOP_END (21 R623). -/
def execLoopEnd (engine errs : Nat) (pilotOk : Bool) (rxPwr : Int) (s : State) : Out :=
  run (.loopEnd engine errs pilotOk rxPwr) s fun s => s.loopEnd engine errs pilotOk rxPwr

/-- BYP_DEMAND_RECEIVED (09 R262). -/
def execBypDemandReceived (lane : Nat) (payload : List Byte) (s : State) : Out :=
  run (.bypDemandReceived lane payload) s fun s => s.demand lane payload

/-- BYPASS_MATCHING (09 R264, R266). -/
def execBypassMatching (s : State) : Out := run .bypassMatching s State.matching

/-- BYPASS_ROUTING (09 R264). -/
def execBypassRouting (s : State) : Out := run .bypassRouting s State.routing

/-- RESTART_RECEIVED (09 R259). -/
def execRestartReceived (lane : Nat) (meas : Int) (firstFrame : Nat) (s : State) : Out :=
  run (.restartReceived lane meas firstFrame) s fun s => s.restart lane meas firstFrame

/-- PLANE_FALLBACK (09 R272). -/
def execPlaneFallback (plane : Nat) (driver : Bool) (s : State) : Out :=
  run (.planeFallback plane driver) s fun s => s.planeFallback plane driver

/-- PLANE_RELOCK (09 R272). -/
def execPlaneRelock (plane : Nat) (s : State) : Out := run (.planeRelock plane) s fun s => s.planeRelock plane

/-- PLANE_LOCK_TIMEOUT (09 R272). -/
def execPlaneLockTimeout (plane : Nat) (s : State) : Out :=
  run (.planeLockTimeout plane) s fun s => s.planeLockTimeout plane

/-- PLANE_AUTO_FAST (09 R272). -/
def execPlaneAutoFast (plane : Nat) (s : State) : Out :=
  run (.planeAutoFast plane) s fun s => s.planeAutoFast plane

/-- PLANE_CAL_START: called for the coming boundary, where the planes' grid has a point due (09 R273; 16 R477). -/
def execPlaneCalStart (s : State) : Out :=
  run .planeCalStart s fun s => s.call .planeCalStart (s.planePeriod ≠ 0 && pointDue s.time.planeAt s.comingNs)

/-- PLANE_CAL_DONE (09 R273). -/
def execPlaneCalDone (plane : Nat) (s : State) : Out :=
  run (.planeCalDone plane) s fun s => s.planeCalDone plane

end Sys2Proof.Machine
end

