-- ==== Sys2Proof/Machine/CollCmds.lean ====
section
/-! DEFINITION. The meanings of the commands of the collectives and of the checks on them (11_collectives.md,
14_integrity.md R412 to R418, 15 R455). -/

namespace Sys2Proof.Machine

/-- STAGING_DRAW (11 R337). -/
def execStagingDraw (ctx chunk : Nat) (s : State) : Out :=
  run (.stagingDraw ctx chunk) s fun s => s.stagingDraw ctx chunk

/-- CONTRIBUTION_COMBINE (11 R339). -/
def execContributionCombine (cluster : Nat) (s : State) : Out :=
  run (.contributionCombine cluster) s fun s => s.combineStep cluster

/-- STRAGGLER_WINDOW_EXPIRY: called for the coming boundary (11 R340). -/
def execStragglerWindowExpiry (ctx chunk : Nat) (s : State) : Out :=
  run (.stragglerWindowExpiry ctx chunk) s fun s =>
    s.call (.stragglerWindowExpiry ctx chunk) (s.coming (·.expireDue ctx chunk))

/-- CHUNK_SPILL: called for the coming boundary (11 R338). -/
def execChunkSpill (ctx chunk : Nat) (s : State) : Out :=
  run (.chunkSpill ctx chunk) s fun s => s.call (.chunkSpill ctx chunk) (s.coming (·.spillDue ctx chunk))

/-- PARTIAL_RECALL_DONE (11 R338). -/
def execPartialRecallDone (ctx chunk : Nat) (s : State) : Out :=
  run (.partialRecallDone ctx chunk) s fun s => s.recallDone ctx chunk

/-- CASCADE_RESULT_RELAY (11 R333). -/
def execCascadeResultRelay (s : State) : Out := run .cascadeResultRelay s State.cascadeRelay

/-- DIGEST_COMPARE (14 R413). -/
def execDigestCompare (ctx chunk seg : Nat) (checkDigest : Word) (s : State) : Out :=
  run (.digestCompare ctx chunk seg checkDigest) s fun s => s.digestCompare ctx chunk seg checkDigest.toNat

/-- ARBITER_RESULT (14 R414). -/
def execArbiterResult (ctx chunk seg : Nat) (digest : Word) (s : State) : Out :=
  run (.arbiterResult ctx chunk seg digest) s fun s => s.arbiterResult ctx chunk seg digest.toNat

/-- CHECK_LIMIT_EXPIRY: called for the coming boundary (14 R417). -/
def execCheckLimitExpiry (ctx chunk seg : Nat) (s : State) : Out :=
  run (.checkLimitExpiry ctx chunk seg) s fun s =>
    s.call (.checkLimitExpiry ctx chunk seg) (s.coming (·.limitDue ctx chunk seg))

/-- BROADCAST_REPORT (15 R455). -/
def execBroadcastReport (ctx : Nat) (s : State) : Out :=
  run (.broadcastReport ctx) s fun s => s.bcastReport ctx

end Sys2Proof.Machine
end

