-- ==== Sys2Proof/Machine/TimeCmds.lean ====
section
/-! DEFINITION. The meanings of the commands of time, of the counters and of the host rings that no posted register
write causes (02 R34, R45; 16_time.md; 17_telemetry.md; 18 R520, R531 to R539). -/

namespace Sys2Proof.Machine

/-- BEAT_IMAGE_CHECK (02 R34). -/
def execBeatImageCheck (diff : Int) (s : State) : Out :=
  run (.beatImageCheck diff) s fun s => s.imageCheck diff

/-- CROSSING_TIMEOUT (02 R45). -/
def execCrossingTimeout (dom unit : Nat) (read : Bool) (s : State) : Out :=
  run (.crossingTimeout dom unit read) s fun s => s.crossingFault dom unit read

/-- TIME_STEP: a write at a core cycle of the beat (16 R468). -/
def execTimeStep (ns : Int) (cycle : Nat) (s : State) : Out :=
  run (.timeStep ns cycle) s fun s => (s.timeTo cycle).stepTime ns

/-- TIME_SET: a write of go at a core cycle of the beat (16 R468). -/
def execTimeSet (cycle : Nat) (s : State) : Out := run (.timeSet cycle) s fun s => (s.timeTo cycle).setTime

/-- SLEW_ADD: a write of TIME_SLEW (16 R467). -/
def execSlewAdd (rate : Nat) (add : Int) (s : State) : Out :=
  run (.slewAdd rate add) s fun s => s.timeFree.slew rate add

/-- SLEW_COMPLETE (16 R467). -/
def execSlewComplete (s : State) : Out := run .slewComplete s State.slewComplete

/-- TRIGGER_FIRE: called for the coming boundary, where it is due (16 R473, R474). -/
def execTriggerFire (n : Nat) (s : State) : Out :=
  run (.triggerFire n) s fun s => s.call (.triggerFire n) (s.trigDue n s.comingNs)

/-- CICADA_PERIODIC: called for the coming boundary (17 R502). -/
def execCicadaPeriodic (s : State) : Out :=
  run .cicadaPeriodic s fun s => s.call .cicadaPeriodic (s.coming State.periodicDue)

/-- USER_REFRESH: called for the coming boundary (17 R494). -/
def execUserRefresh (s : State) : Out := run .userRefresh s fun s => s.call .userRefresh (s.coming State.refreshDue)

/-- DUMP_COMPLETE (17 R504). -/
def execDumpComplete (s : State) : Out := run .dumpComplete s State.dumpComplete

/-- DEFERRED_SNAPSHOT: called for the coming boundary (17 R494). -/
def execDeferredSnapshot (s : State) : Out :=
  run .deferredSnapshot s fun s => s.call .deferredSnapshot s.deferredDue

/-- COUNTER_RUN_ALLOCATE: a write of CNT_ALLOC takes effect at once (17 R500). -/
def execCounterRunAllocate (n : Nat) (s : State) : Out :=
  run (.counterRunAllocate n) s fun s => s.cntAllocate n

/-- D2H_PACKET_WRITE (18 R532). -/
def execD2hPacketWrite (ring : Nat) (s : State) : Out :=
  run (.d2hPacketWrite ring) s fun s => s.packetWrite ring

/-- D2H_POP (18 R533). -/
def execD2hPop (ring pois : Nat) (s : State) : Out := run (.d2hPop ring pois) s fun s => s.ringPop ring pois

/-- D2H_FLUSH (18 R535). -/
def execD2hFlush (ring : Nat) (s : State) : Out := run (.d2hFlush ring) s fun s => s.ringFlush ring

/-- D2H_HOLDOFF_EXPIRY: called for the coming boundary (18 R539). -/
def execD2hHoldoffExpiry (ring : Nat) (s : State) : Out :=
  run (.d2hHoldoffExpiry ring) s fun s => s.call (.d2hHoldoffExpiry ring) (s.holdoffDue ring)

/-- VECTOR_UNMASK (18 R520). -/
def execVectorUnmask (entry : Option Nat) (addr data : Word) (s : State) : Out :=
  run (.vectorUnmask entry addr data) s fun s => s.unmask entry addr data

end Sys2Proof.Machine
end

