-- ==== Sys2Proof/Machine/PartDiscard.lean ====
section
/-! DEFINITION. Discards of work in flight, disables and drains, and what a partition's reset does
(15_partitions_and_recovery.md R438 to R448, R457, R459, R461; 03 R57, R58; 06 R150; 10 R297, R311; 11 R348;
14 R406). -/

namespace Sys2Proof.Machine

/-! ## Counter blocks (10 R297) -/

/-- The subscriptions of block k are cleared. -/
def State.clearSubs (s : State) (k : Nat) : State :=
  { s with mem := { s.mem with subs := s.mem.subs.filter fun e => e.1 / 64 ≠ k } }

/-- Give block k to partition p: its counters are zero and its subscriptions cleared. -/
def State.allocBlock (s : State) (k p : Nat) : State :=
  let s := (s.clearSubs k).setReg .fmemCntOwn k (at_ 12 1 ||| at_ 0 p)
  { s with mem := { s.mem with near := memWrite s.mem.near (512 * k) (List.replicate 512 0) } }

/-- Release block k. -/
def State.releaseBlock (s : State) (k : Nat) : State := (s.clearSubs k).setReg .fmemCntOwn k 0

/-- The blocks of a partition. -/
def State.blocksOf (s : State) (p : Nat) : List Nat :=
  let b := RegKind.fmemCntOwn.off 0 / 8
  (s.regs.eff.filter fun e => b ≤ e.1 && e.1 < b + 16384 && bit e.2 12 && bits e.2 11 0 = p).map fun e => e.1 - b

/-! ## Sequence and replay-window records (06 R163, 10 R306) -/

/-- The addresses of the records of `step` bytes, in a region, that hold a byte other than zero. -/
def recordsIn (m : List Host.Cell) (base size step : Nat) : List Nat :=
  ((m.filter fun e => base ≤ e.1 && e.1 < base + size).map fun e => base + (e.1 - base) / step * step).eraseDups

/-- Free the records whose first word `p` selects: `used` and what stands with it are cleared. -/
def State.freeRecords (s : State) (l : List Nat) (p : Word → Bool) : State × Nat :=
  l.foldl (fun (x : State × Nat) a => if p (x.1.spineWord a) then (x.1.putSpine a 0, x.2 + 1) else x) (s, 0)

/-- Free the sequence records of a partition. -/
def State.freeSeq (s : State) (p : Nat) : State :=
  if !s.flag .stnSeqRegion 0 63 then s
  else
    let l := recordsIn s.mem.spine (s.fld .stnSeqRegion 0 62 34 * 4096) (2 ^ (s.seqK + 7)) 32
    let (s, n) := s.freeRecords l fun w => bit w 63 && bits w 22 11 = p
    { s with net := { s.net with seqUsed := s.net.seqUsed - n } }

/-- Free the replay-window records of a partition. -/
def State.freeAwin (s : State) (p : Nat) : State :=
  if !s.flag .fmemAwinRegion 0 63 then s
  else
    let l := recordsIn s.mem.spine (s.fld .fmemAwinRegion 0 62 34 * 4096) (2 ^ (s.awinK + 11)) 512
    (s.freeRecords l fun w => bit w 63 && bits w 43 32 = p).1

/-! ## Ending streams and copies (R441) -/

/-- A pennant in the hold table, or waiting at `hold`. -/
def Stage.isPen (g : Stage) : Bool := g = .penHeld || g = .penWait || g = .seqHeld || g = .seqWait

/-- Discard a stream that holds no copy yet. -/
def stopStream (x : State × Tally) (t : Stream) : State × Tally :=
  let s := match t.trk with
    | some k => x.1.dropTrk k
    | none => x.1
  let s := ((s.loseGroup t).discarded t.part).endStream t
  let s := if t.stage.isPen then (s.advanceG t.inLane).holdRefill else s
  let y := x.2
  (s, if t.stage.isPen then { y with pennants := y.pennants + 1 }
      else if t.stage = .memWait then { y with requests := y.requests + 1 }
      else { y with packets := y.packets + 1 })

/-- Discard a copy; one being sent ends at once with an error block (06 R153), and its lane goes on. -/
def stopCopy (x : State × Tally) (c : Copy) : State × Tally :=
  let s := x.1.discarded c.part
  let s := match c.sending with
    | some n =>
      if (s.sendingOn n).any fun (x : Copy) => x.cid = c.cid then (s.cutFrame n).startNext n else s.unsend n c.cid
    | none => s
  let list := (SMap.get [] s.q.lists c.port).filter (· ≠ c.cid)
  let s := { s with q := { s.q with lists := SMap.set [] s.q.lists c.port list } }
  (s.loseCopy c, { x.2 with packets := x.2.packets + 1 })

/-- Discard the streams without copies, and the copies, that the predicates name. -/
def State.stopWork (s : State) (p : Stream → Bool) (q : Copy → Bool) : State × Tally :=
  let x := (s.net.streams.filter fun t => t.stage ≠ .stored && p t).foldl stopStream (s, {})
  (s.q.copies.filter q).foldl stopCopy x

/-! ## Discards (R441, R446) -/

/-- A reply TARGET_DEAD, which a condemnation leaves to be sent (10 R311; log entry 33). -/
def Stream.isDeadReply (t : Stream) : Bool := t.ret && !t.eth && t.hdr.op = 0x42

/-- Results of a partition that the return port holds for want of a tile are pending, and end as streams do; so do its MGMT
frames that wait for the controller (R441; DEDUCED, log entry 109). -/
def State.stopHeld (s : State) (p : Nat) (keepDead : Bool) : State × Tally :=
  let due := fun (r : Ret) => r.part = p && r.held && !(keepDead && (s.retStream r).isDeadReply)
  let (held, ret) := s.net.ret.partition due
  let (mgmt, rest) := s.net.mgmt.partition fun t => t.part = p
  let s : State := { s with net := { s.net with ret := ret, mgmt := rest } }
  let x := held.foldl (fun (x : State × Tally) r => stopStream x (x.1.retStream r)) (s, {})
  mgmt.foldl (fun (x : State × Tally) t => (x.1.discarded t.part, { x.2 with packets := x.2.packets + 1 })) x

/-- Requests issued to memory complete there without a reply. -/
def State.silence (s : State) (p : Nat) (reset : Bool) : State × Nat :=
  let n := (s.mem.trk.filter fun e => e.req.part = p && !e.sent && !e.silent).length
  let mark := fun (e : Trk) => if e.req.part = p && !e.sent then { e with silent := true, reset := e.reset || reset } else e
  let late := fun (e : Trk) => if e.req.part = p then { e with reset := e.reset || reset } else e
  ({ s with mem := { s.mem with trk := s.mem.trk.map mark, late := s.mem.late.map late } }, n)

/-- Results of a parent and digests of the partition go. -/
def State.dropOther (s : State) (p : Nat) : State × Nat :=
  let n := (s.coll.casc.filter fun t => t.part = p).length
  ({ s with coll := { s.coll with casc := s.coll.casc.filter fun t => t.part ≠ p },
            part := { s.part with digests := s.part.digests.filter fun d => d.key.getD 2 0 ≠ p } }, n)

/-- The state that a reset's discard frees beside the work (R443). -/
def State.resetFrees (s : State) (p : Nat) : State :=
  (((s.blocksOf p).foldl State.releaseBlock s).freeSeq p).freeAwin p

/-- Change the record of a disable. -/
def State.setDisable (s : State) (kind idx : Nat) (f : Disable → Disable) : State :=
  { s with part := { s.part with dis := updFirst (fun d => d.kind = kind && d.idx = idx) f s.part.dis } }

/-- A reset ends the drains of the partition's contexts, with outcome 4 (R457). -/
def State.endCtxDrains (s : State) (p : Nat) : State :=
  ((s.ctxsOf p).filter fun i => s.draining 2 i).foldl (fun (s : State) i =>
    (s.setDisable 2 i fun d => { d with draining := false }).discardItem 2 true 4 i {}) s

/-- Discard a partition's work. -/
def State.discardPart (s : State) (p outcome : Nat) (drain : Bool) : State :=
  let free := s.freeTiles
  let (s, t) := s.stopWork (fun x => x.part = p && !(outcome = 7 && x.isDeadReply)) (fun x => x.part = p)
  let (s, h) := s.stopHeld p (outcome = 7)
  let (s, reqs) := s.silence p (outcome = 4)
  let (s, casc) := s.dropOther p
  let s := s.dropChecks p
  let s := if outcome = 4 then s.endCtxDrains p else s
  let (s, chunks) := if outcome = 4 then s.freeCtxs p else s.cutCtxs p
  let s := if outcome = 4 then s.resetFrees p else s
  s.discardItem 1 drain outcome p
    { t with packets := t.packets + h.packets + casc, requests := t.requests + reqs, tiles := s.freeTiles - free, chunks := chunks }

/-- The work of a port (R446). -/
def portWork (p : Nat) (t : Stream) : Bool := !t.ret && t.inPort = p || t.stage = .pend && t.disp = 1 && t.port = p

/-- Discard a port's work. -/
def State.discardPort (s : State) (p outcome : Nat) (drain : Bool) : State :=
  let free := s.freeTiles
  let (s, t) := s.stopWork (portWork p) (fun x => x.port = p)
  s.discardItem 0 drain outcome p { t with tiles := s.freeTiles - free }

/-- Discard the work of a function: kinds as `dis` (13 R400). -/
def State.discardFn (s : State) (kind idx outcome : Nat) (drain : Bool) : State :=
  let free := s.freeTiles
  if kind = 0 then s.discardPort idx outcome drain
  else if kind = 1 then s.discardPart idx outcome drain
  else if kind = 2 then
    let (s, n) := s.cutCtx idx
    s.discardItem 2 drain outcome idx { chunks := n, tiles := s.freeTiles - free }
  else if kind = 3 then
    let (s, n) := s.cutClusters fun c => c / 12 = idx
    s.discardItem 3 drain outcome idx { chunks := n, tiles := s.freeTiles - free }
  else
    let s := if drain then s.planeMode idx 0 5 1 else s
    s.discardItem 4 drain outcome idx {}

/-- Pieces of a partition's work in flight (R459). -/
def State.partInflight (s : State) (p : Nat) : Nat :=
  let cmps := (s.coll.checks.filter fun c => c.desc.part = p).foldl (fun n c => n + c.cmps.length) 0
  let chunks := (s.coll.chunks.filter fun c => match s.ctx c.ctx with
    | some x => x.d.part = p
    | none => false).length
  (s.net.streams.filter fun t => t.part = p).length + s.trkUse p + chunks + cmps
    + (s.coll.casc.filter fun t => t.part = p).length + (s.net.ret.filter fun r => r.part = p).length
    + (s.net.mgmt.filter fun t => t.part = p).length

/-- A draining function has no work left (R445). -/
def State.drained (s : State) (kind idx : Nat) : Bool :=
  if kind = 0 then !(s.net.streams.any fun t => t.stage ≠ .stored && portWork idx t) && !(s.q.copies.any fun c => c.port = idx)
  else if kind = 1 then s.partInflight idx = 0
  else if kind = 2 then (s.openOf idx).isEmpty
  else if kind = 3 then !(s.coll.chunks.any fun c => c.home / 12 = idx)
  else !(s.byp.circs.any fun c => c.plane = idx) && !(s.byp.grants.any fun g => g.plane = idx && !g.void && s.beat.bc ≤ g.slot)

/-- Remove the record of a disable. -/
def State.dropDisable (s : State) (kind idx : Nat) : State :=
  { s with part := { s.part with dis := dropFirst (fun d => d.kind = kind && d.idx = idx) s.part.dis } }

/-- The drain finds no work left. -/
def State.cleanDue (s : State) (kind idx : Nat) : Bool := s.draining kind idx && s.drained kind idx

/-- A drain that finds no work left ends clean: a context is then IDLE, and a plane OFF. -/
def State.drainClean (s : State) (kind idx : Nat) : State :=
  if !s.cleanDue kind idx then s
  else
    let s := s.setDisable kind idx fun d => { d with draining := false }
    let s := if kind = 2 then (s.cutCtx idx).1 else if kind = 4 then s.planeMode idx 0 5 1 else s
    s.discardItem kind true 1 idx {}

/-- The drain has reached its deadline. -/
def State.deadlineDue (s : State) (kind idx : Nat) : Bool :=
  match s.disable kind idx with
  | some d => d.draining && d.deadline ≤ s.beat.bc
  | none => false

/-- A drain at its deadline is cut. -/
def State.drainDeadline (s : State) (kind idx : Nat) : State :=
  if s.deadlineDue kind idx then
    (s.setDisable kind idx fun d => { d with draining := false }).discardFn kind idx 2 true
  else s

/-- The functions that drain. -/
def State.drains (s : State) : List (Nat × Nat) := (s.part.dis.filter (·.draining)).map fun d => (d.kind, d.idx)

/-! ## dis and ena (R445 to R447) -/

/-- dis, once its conditions hold. -/
def State.applyDis (s : State) (kind idx : Nat) (drain : Bool) (beats : Nat) : State :=
  let d : Disable :=
    { kind := kind, idx := idx, drainMode := drain, at_ := s.beat.bc, deadline := s.beat.bc + beats, draining := drain,
      cutDue := !drain }
  let s := { s with part := { s.part with dis := s.part.dis ++ [d] } }
  if kind = 2 then
    match s.ctx idx with
    | some c => if c.st = .running then s.updCtx idx fun c => { c with st := .draining } else s
    | none => s
  else if kind = 3 then
    (s.coll.checks.filter fun c => c.check / 12 = idx || c.arb / 12 = idx).foldl State.abandonCheck s
  else s

/-- Planes cut at this boundary: as a change to OFF, with every granted slot void from the next one (09 R274). -/
def State.planeCuts (s : State) : State :=
  (s.part.dis.filter fun d => d.kind = 4 && d.cutDue && d.at_ = s.beat.bc).foldl (fun (s : State) d => s.planeCut d.idx) s

/-- A port or a reduction domain comes back at the next boundary. -/
def State.comesBack (s : State) (kind idx : Nat) : State :=
  { s with part := { s.part with back := s.part.back ++ [(kind, idx)] } }

/-- ena, once its conditions hold. -/
def State.applyEna (s : State) (kind idx : Nat) : State :=
  match s.disable kind idx with
  | none => s
  | some d =>
    let s := s.dropDisable kind idx
    if d.draining || d.cutDue then
      let s := if kind = 2 then
          match s.ctx idx with
          | some c => if c.st = .draining then s.updCtx idx fun c => { c with st := .running } else s
          | none => s
        else s
      let s := s.discardItem kind d.drainMode 3 idx {}
      if kind = 0 then (s.portLanes idx).foldl State.advanceG s else s
    else if kind = 4 then s.planeEna idx
    else if kind = 0 || kind = 3 then s.comesBack kind idx
    else s

/-- At a boundary, ports and reduction domains come back. G of a port's lanes advances by every tile discarded
meanwhile (R446). -/
def State.comeBack (s : State) : State :=
  let l := s.part.back
  let s : State := { s with part := { s.part with back := [] } }
  l.foldl (fun (s : State) x => if x.1 = 0 then (s.portLanes x.2).foldl State.advanceG s else s) s

/-! ## The partition's own changes (R438, R439, R443, R457) -/

/-- Schedule a discard for step 2 of the next boundary. -/
def State.schedule_ (s : State) (kind idx outcome : Nat) (drain : Bool) : State :=
  { s with part := { s.part with discards :=
      (s.part.discards.filter fun d => !(d.kind = kind && d.idx = idx))
        ++ [{ kind := kind, idx := idx, outcome := outcome, drain := drain }] } }

/-- part.cond (outcome 7) or part.reset (outcome 4): the disable ends, and the discard is due. -/
def State.endPart (s : State) (p outcome : Nat) : State :=
  let drain := s.draining 1 p
  ((s.setPst p (if outcome = 4 then .reset else .condemned) 0).dropDisable 1 p).schedule_ 1 p outcome drain

/-- A condemnation by the part: a RUNNING partition only, and once. -/
def State.condemnNow (s : State) (p cause mem die addr : Nat) : State :=
  if s.pst p ≠ .running || p = 0 then s
  else
    let drain := s.draining 1 p
    let s := (s.setPst p .condemned cause).dropDisable 1 p
    let s := { s with part := { s.part with discards := s.part.discards.filter fun d => !(d.kind = 1 && d.idx = p) } }
    let s := if cause = 2 then s.faultItem p mem die 1 addr else s
    s.discardPart p 7 drain

/-- The first dead target that each partition's requests met: one item 0x60 and a condemnation (10 R311). -/
def State.deadHits (s : State) : State :=
  let hits := s.mem.dead
  let s := { s with mem := { s.mem with dead := [] } }
  ((hits.map (·.part)).eraseDups).foldl (fun (s : State) p =>
    match hits.find? fun h => h.part = p with
    | some h => if s.pst p = .running && p ≠ 0 then
        (s.fmemItem 0x60 0 p h.node h.offset h.opTag 0 0).condemnNow p 1 0 0 0 else s
    | none => s) s

/-- Condemnations of the beat that ended. -/
def State.condemnsDue (s : State) : State :=
  let l := s.part.condemns
  let s := { s with part := { s.part with condemns := [] } }
  l.foldl (fun (s : State) x => s.condemnNow x.1 x.2.1 x.2.2.1 x.2.2.2.1 x.2.2.2.2) s

/-- Discards that a command program, a CUT or an internal cut made due. One at a drain's deadline takes the place of
the drain's own (02 R31). -/
def State.discardsDue (s : State) : State :=
  let l := s.part.discards
  let cuts := s.part.dis.filter (·.cutDue)
  let s := { s with part := { s.part with discards := [], dis := s.part.dis.map fun d => { d with cutDue := false } } }
  let s := l.foldl (fun (s : State) d => (s.setDisable d.kind d.idx fun x =>
    { x with draining := x.draining && s.beat.bc < x.deadline }).discardFn d.kind d.idx d.outcome d.drain) s
  (cuts.filter fun d => !(l.any fun x => x.kind = d.kind && x.idx = d.idx)).foldl
    (fun (s : State) d => s.discardFn d.kind d.idx 0 false) s

/-- Partition faults of the beat that ended (14 R406): each posts item 0x71; a partition whose work has already
been discarded at this boundary (`done`) has no second discard. -/
def State.faultsDue (s : State) (done : List Nat) : State :=
  let l := s.part.faults
  let s := { s with part := { s.part with faults := [] } }
  let s := l.foldl (fun (s : State) x => s.faultItem x.1 x.2.1 x.2.2.1 0 x.2.2.2) s
  (((l.map (·.1)).eraseDups).filter fun p => !done.contains p && s.pst p = .running).foldl (fun (s : State) p =>
    let drain := s.draining 1 p
    (s.setDisable 1 p fun d => { d with draining := false }).discardPart p 6 drain) s

/-- The drains whose work the snapshot of a boundary finds ended (R445). -/
def State.cleanDrains (s : State) : List (Nat × Nat) := s.drains.filter fun d => s.drained d.1 d.2

/-- The function whose drain's end has been called for a boundary. -/
def calledDrain : Instr → Option (Nat × Nat)
  | .drainEndClean kind idx => some (kind, idx)
  | .drainDeadline kind idx => some (kind, idx)
  | _ => none

/-- Step 2: containment. Drains whose end has been called for come first. `clean`: the drains that end clean at this boundary. -/
def State.containment (s : State) (clean : List (Nat × Nat)) : State :=
  let before := s.part.dis.filter (fun d => d.cutDue && d.kind = 1)
  let due := (s.part.discards.filter (·.kind = 1)).map (·.idx) ++ before.map (·.idx)
  let cond := s.mem.dead.map (·.part) ++ s.part.condemns.map (·.1)
  let s := (s.deadHits.condemnsDue.discardsDue).faultsDue (due ++ cond)
  (s.beat.calls.filterMap calledDrain ++ s.drains).eraseDups.foldl (fun (s : State) d =>
    if clean.contains d then s.drainClean d.1 d.2 else s.drainDeadline d.1 d.2) s

/-- The partition's reset has reached its 64th boundary. -/
def State.quarantineDue (s : State) (p : Nat) : Bool :=
  let i := s.partInfo p
  i.st = .reset && i.resetAt + 64 ≤ s.beat.bc

/-- A partition's reset enters QUARANTINE at its 64th boundary (R439). -/
def State.quarantine (s : State) (p : Nat) : State := if s.quarantineDue p then s.setPst p .quarantine 3 else s

/-- The partition in QUARANTINE has reached the 3,907th boundary after its reset. -/
def State.freeDue (s : State) (p : Nat) : Bool :=
  let i := s.partInfo p
  i.st = .quarantine && i.resetAt + 3907 ≤ s.beat.bc

/-- A partition in QUARANTINE becomes FREE at the 3,907th boundary after its reset (R439). -/
def State.partFree (s : State) (p : Nat) : State := if s.freeDue p then s.setPst p .free 3 else s

/-- The partition whose own change has been called for a boundary. -/
def calledPart : Instr → Option Nat
  | .quarantineEntry p => some p
  | .partitionFree p => some p
  | _ => none

/-- Every partition's own change, those called for first. -/
def State.partSteps (s : State) : State :=
  (s.calledFirst calledPart (s.part.st.map (·.1))).foldl (fun (s : State) p => (s.quarantine p).partFree p) s

/-! ## Status (R459, R461) -/

/-- STN_PART_p. -/
def State.partWord (s : State) (p : Nat) : Word :=
  let i := s.partInfo p
  let dis := match s.disable 1 p with
    | some d => if d.draining then 1 else 2
    | none => 0
  let left := match i.st, s.disable 1 p with
    | .reset, _ => i.resetAt + 64 - s.beat.bc
    | .quarantine, _ => i.resetAt + 3907 - s.beat.bc
    | _, some d => if d.draining then d.deadline - s.beat.bc else 0
    | _, none => 0
  at_ 61 i.st.code ||| at_ 59 dis ||| at_ 32 (Nat.min 65535 left) ||| at_ 0 (Nat.min (2 ^ 32 - 1) (s.partInflight p))

/-- STN_DIS_MAP_t_i, or STN_DRAIN_MAP_t_i. -/
def State.disMapWord (s : State) (drain : Bool) (t i : Nat) : Word :=
  (s.part.dis.filter fun d => d.kind = t && d.idx / 64 = i && (!drain || d.draining)).foldl
    (fun (w : Word) d => setBit w (d.idx % 64) true) 0

/-! ## Commands -/

/-- QUARANTINE_ENTRY: called for the coming boundary. -/
def execQuarantineEntry (part : Nat) (s : State) : Out :=
  run (.quarantineEntry part) s fun s => s.call (.quarantineEntry part) (s.coming (·.quarantineDue part))

/-- PARTITION_FREE: called for the coming boundary. -/
def execPartitionFree (part : Nat) (s : State) : Out :=
  run (.partitionFree part) s fun s => s.call (.partitionFree part) (s.coming (·.freeDue part))

/-- DRAIN_END_CLEAN: called for the coming boundary. -/
def execDrainEndClean (kind idx : Nat) (s : State) : Out :=
  run (.drainEndClean kind idx) s fun s => s.call (.drainEndClean kind idx) (s.coming (·.cleanDue kind idx))

/-- DRAIN_DEADLINE: called for the coming boundary. -/
def execDrainDeadline (kind idx : Nat) (s : State) : Out :=
  run (.drainDeadline kind idx) s fun s => s.call (.drainDeadline kind idx) (s.coming (·.deadlineDue kind idx))

end Sys2Proof.Machine
end

