-- ==== Sys2Proof/Machine/Host.lean ====
section
/-! DEFINITION. The host attachment: command rings and send descriptors, BAR2, the DDR5 channels and the link
(18_host_and_memory_interfaces.md R518 to R530, R544 to R550; 04 R111 to R115). -/

namespace Sys2Proof.Machine

/-! ## Command rings (R522 to R528) -/

/-- A command ring. -/
def State.cring (s : State) (r : Nat) : CmdRing := SMap.get {} s.host.cmd r

/-- Change a command ring. -/
def State.setCring (s : State) (r : Nat) (f : CmdRing → CmdRing) : State :=
  { s with host := { s.host with cmd := SMap.upd {} s.host.cmd r f } }

/-- pi of a ring. -/
def State.ringPi (s : State) (r : Nat) : Nat := s.fld .hostCmdIdx r 63 32

/-- The ring is fetched. -/
def State.cringEn (s : State) (r : Nat) : Bool := s.flag .hostCmdCtl r 63

/-- Words from ci up to pi. -/
def State.ringAvail (s : State) (r : Nat) : Nat := (s.ringPi r + 2 ^ 32 - (s.cring r).ci) % 2 ^ 32

/-- lg of a ring: 9 to 20, other values taken as 9. -/
def State.cringLg (s : State) (r : Nat) : Nat :=
  let n := s.fld .hostCmdBase r 4 0
  if 9 ≤ n && n ≤ 20 then n else 9

/-- A ring enters ERROR. -/
def State.cringError (s : State) (r err : Nat) : State :=
  (s.setCring r fun g => { g with error := true, err := err }).sendVector (s.fld .hostCfg 0 42 32)

/-- Write ci back, where that is due: at most once for each beat (R523). -/
def State.writeBack (s : State) (r : Nat) : State :=
  let g := s.cring r
  if s.flag .hostCmdCtl r 61 && g.wrote ≠ g.ci && g.wbAt ≠ s.beat.bc + 1 then
    (s.setCring r fun g => { g with wrote := g.ci, wbAt := s.beat.bc + 1 }).emit
      (.hostWrite (8 * s.fld .hostCmdCtl r 51 3) (at_ 0 g.ci))
  else s

/-- ci moves past n words. -/
def State.cringAdvance (s : State) (r n : Nat) : State :=
  (s.setCring r fun g => { g with ci := (g.ci + n) % 2 ^ 32 }).writeBack r

/-- A doorbell, or an enable, that finds more words than the ring holds puts it in ERROR. -/
def State.cringCheck (s : State) (r : Nat) : State :=
  if s.cringEn r && !(s.cring r).error && 2 ^ s.cringLg r < s.ringAvail r then s.cringError r 1 else s

/-- DOORBELL: a write of pi. -/
def State.doorbell (s : State) (r pi : Nat) : State := (s.setFld .hostCmdIdx r 63 32 pi).cringCheck r

/-! ## Completions (04 R115) -/

/-- The completion item of a command program. -/
def State.doneItem (s : State) (ring tag status index writes : Nat) (late : Bool) : Item :=
  ⟨at_ 56 0x21 ||| at_ 48 status ||| at_ 32 tag ||| at_ 26 ring ||| at_ 25 (b2n late),
    s.beatWord ||| at_ 20 index, at_ 32 writes, 0⟩

/-- A MGMT_RSP (R542): the kind, the status, the count done and the words that follow. -/
def State.mgmtReply (s : State) (h : Hdr) (kind status done : Nat) (ws : List Word) : State :=
  let pay := ((at_ 48 kind ||| at_ 40 status ||| at_ 0 done) :: ws).flatMap wordBytes
  s.toReturn (unicastRet .controller 0 (s.replyHdr h opMgmtRsp pay.length false) pay)

/-- Complete a command program: its item on the paired ring, its vector, and for a program posted by a MGMT frame
the reply. -/
def State.cmdDone (s : State) (p : CmdProg) (status index writes : Nat) : State :=
  let x := s.doneItem p.ring p.tag status index writes p.late
  let s := s.post p.ring [x]
  let s := if p.irq then s.ringIrqNow p.ring else s
  match p.mgmt with
  | some h => s.mgmtReply h 3 0 1 [x.w0, x.w1, x.w2, x.w3]
  | none => s

/-! ## Send descriptors (R529, R530) -/

/-- Frame bytes of a descriptor. -/
def descLen (w : Word) : Nat := bits w 57 44

/-- Words of a descriptor's entry. -/
def descWords (w : Word) : Nat := 2 + ceilDiv (descLen w) 8

/-- The item of a descriptor that yields no frame. -/
def State.descItem (s : State) (src : Option Nat) (tag status : Nat) : State :=
  match src with
  | some r => s.post r [⟨at_ 56 0x22 ||| at_ 48 status ||| at_ 32 tag ||| at_ 26 r, s.beatWord, 0, 0⟩]
  | none => s

/-- Take a send descriptor from a ring, or from the controller's own queue (`none`). One with a bit set that R529 calls zero
is answered RANGE (DEDUCED, log entry 113). -/
def State.takeDesc (s : State) (src : Option Nat) (ws : List Word) : State :=
  let w := ws.getD 0 0
  let port := bits w 24 15
  let n := descLen w
  let eth := s.portEth port
  let bytes := ((ws.drop 2).flatMap wordBytes).take n
  let ok := s.portValid port && bits w 14 0 = 0 && ws.getD 1 0 = 0 && bits w 60 58 < s.portWidth port
    && (if eth then 60 ≤ n && n ≤ 9212 else 48 ≤ n && n ≤ 8240)
  if !ok then s.descItem src (bits w 43 28) 1
  else
    s.toReturn
      { pipe := 0, unit := .controller, bytes := bytes, eth := eth, part := 0, cls := bits w 27 25, epoch := s.stn.cur, kind := 2,
        target := port, subq := 0, desc := src.map fun r => (r, bits w 43 28), tsReq := bit w 62,
        pin := if bit w 61 then some (port + bits w 60 58) else none, bcast := none, trk := none }

/-! ## Fetching (04 R111, R112; R523 to R525) -/

/-- The program that a MGMT frame posted at ci of a ring. -/
def State.postedAt (s : State) (r : Nat) : Option MgmtPost :=
  if r = s.fld .hostMgmtCfg 0 5 0 then s.host.mgmtIn.find? fun m => m.at_ = (s.cring r).ci else none

/-- That program is done with. -/
def State.unpost (s : State) (m : Option MgmtPost) : State :=
  match m with
  | some m => { s with host := { s.host with mgmtIn := dropFirst (fun x => x = m) s.host.mgmtIn } }
  | none => s

/-- The program of an entry's words. -/
def progOf (r : Nat) (ws : List Word) (cut : Bool) (m : Option MgmtPost) : CmdProg :=
  let w := ws.getD 0 0
  let n := bits w 54 44
  { ring := r, tag := bits w 43 28, part := bits w 27 16, irq := bit w 14, atBeatEn := bit w 15,
    atBeat := bits (ws.getD 1 0) 31 0, late := false, code := (ws.drop 2).take n, cut := cut, words := 2 + n,
    mgmt := m.map (·.hdr) }

/-- The header bits that R111 marks Zero are zero. -/
def headZero (ws : List Word) : Bool :=
  bits (ws.getD 0 0) 63 55 = 0 && bits (ws.getD 0 0) 13 0 = 0 && bits (ws.getD 1 0) 63 32 = 0

/-- The cost of a program (13 R399). -/
def CmdProg.cost (p : CmdProg) : Nat := p.code.foldl (fun n w => n + ctlCost w) 0

/-- The first instruction with an undefined encoding. -/
def CmdProg.badAt (p : CmdProg) : Option Nat := p.code.findIdx? fun w => !ctlDefined w

/-- The sixteen words of a descriptor; none where the address is no multiple of 128 or they cannot be read whole. -/
def State.readDesc (s : State) (a : Nat) : Option (List Word) :=
  if a % 128 = 0 && a + 128 ≤ s.spineSize && !s.badRead .spine a 128 then
    some ((List.range 16).map fun j => s.spineWord (a + 8 * j))
  else none

/-- A literal instruction on the sequencer's registers (13 R400). -/
def litStep (w : Word) (c : List Word) : List Word :=
  if fOp w = 0xC0 then c.set (fCa w) (setBits (c.getD (fCa w) 0) 31 0 (fImmU w))
  else if fOp w = 0xC1 then c.set (fCa w) (setBits (c.getD (fCa w) 0) 63 32 (fImmU w))
  else c

/-- The descriptors that a program's ctx.new instructions name (11 R323): only literals change the registers that hold
their addresses. -/
def State.readDescs (s : State) : Nat → List Word → List Word → List (Nat × Option (List Word))
  | _, [], _ => []
  | i, w :: ws, c =>
    let rest := State.readDescs s (i + 1) ws (litStep w c)
    if fOp w = 0xDC then (i, s.readDesc (c.getD (fCa w) 0).toNat) :: rest else rest

/-- A program commits: the descriptors that it names are read (11 R323). -/
def State.commit (s : State) (p : CmdProg) : State :=
  { s with host := { s.host with commits := s.host.commits ++
      [{ p with descs := s.readDescs 0 p.code (List.replicate 16 0) }] } }

/-- A program fetched whole: it fails, is held, or commits. -/
def State.takeProg (s : State) (r : Nat) (ws : List Word) (cut : Bool) (m : Option MgmtPost) : State :=
  let p := progOf r ws cut m
  let past := (s.unpost m).cringAdvance r p.words
  if !headZero ws then past.cmdDone p 1 0xFFF 0
  else
    match p.badAt with
    | some i => past.cmdDone p 1 i 0
    | none =>
      if 8192 < p.cost then past.cmdDone p 2 0xFFF p.cost
      else if p.atBeatEn && 0 < sdiff 32 p.atBeat s.beat.now then s.setCring r fun g => { g with held := some p }
      else past.commit { p with late := p.atBeatEn }

/-- A flush takes effect: the entry at ci answers FLUSHED, and ci is pi. -/
def State.flushEntry (s : State) (r : Nat) (ws : List Word) (m : Option MgmtPost) : State :=
  let w := ws.getD 0 0
  let s := s.unpost m
  let s := if bit w 63 then s.descItem (some r) (bits w 43 28) 3 else s.cmdDone (progOf r ws false m) 6 0xFFF 0
  (s.setCring r fun g => { g with flush := false, held := none, ci := s.ringPi r }).writeBack r

/-- CMD_FETCH_COMPLETE: the words from ci have been fetched. For a flush the entry at ci is read on a ring that does
not fetch, too, to name what is discarded (R525). -/
def State.fetched (s : State) (r : Nat) (words : List Word) (how : FetchEnd) (cut : Bool) : State :=
  let g := s.cring r
  let avail := s.ringAvail r
  if ((!s.cringEn r || g.error) && !g.flush) || g.held.isSome || avail = 0 then s
  else
    match how with
    | .refused => s.cringError r 2
    | .poisoned => s.cringError r 4
    | .data =>
      let m := s.postedAt r
      let ws := match m with
        | some m => m.words
        | none => words
      match ws with
      | [] => s
      | w :: _ =>
        if g.flush then s.flushEntry r ws m
        else if bit w 63 then
          let n := descWords w
          if s.unitWaits .controller || avail < n || ws.length < n then s else (s.cringAdvance r n).takeDesc (some r) (ws.take n)
        else
          let n := bits w 54 44
          if n = 0 || 1024 < n then
            ((s.unpost m).cmdDone (progOf r ws cut m) 2 0xFFF 0).cringError r 5
          else if avail < 2 + n || ws.length < 2 + n then s
          else s.takeProg r ws cut m

/-- CMD_FETCH_TIMEOUT. -/
def State.fetchTimeout (s : State) (r : Nat) : State :=
  let g := s.cring r
  if !s.cringEn r || g.error || g.held.isSome || s.ringAvail r = 0 then s else s.cringError r 3

/-- The program that a ring holds is due (16 R473, R476). -/
def State.releaseDue (s : State) (r : Nat) : Bool :=
  match (s.cring r).held with
  | some p => decide (0 ≤ sdiff 32 s.beat.now p.atBeat)
  | none => false

/-- CMD_PROGRAM_RELEASE: a held program is due (16 R473, R476). -/
def State.releaseProg (s : State) (r : Nat) : State :=
  match (s.cring r).held with
  | none => s
  | some p =>
    let d := sdiff 32 s.beat.now p.atBeat
    if d < 0 then s
    else
      let s := (s.unpost (s.postedAt r)).setCring r fun g => { g with held := none }
      (s.cringAdvance r p.words).commit { p with late := decide (0 < d), cut := false }

/-! ## HOST_CMD_CTL_r and HOST_CMD_BASE_r (R525 to R527) -/

/-- A write of flush. Without an entry before pi it takes effect at once; with a held program too. -/
def State.cringFlush (s : State) (r : Nat) : State :=
  let g := s.cring r
  match g.held with
  | some p =>
    let s := (s.unpost (s.postedAt r)).cmdDone p 6 0xFFF 0
    (s.setCring r fun g => { g with held := none, ci := s.ringPi r }).writeBack r
  | none => if s.ringAvail r = 0 then s else s.setCring r fun g => { g with flush := true }

/-- A write of HOST_CMD_CTL_r: flush, then the RW fields. Clearing en releases a held program; writing en leaves
ERROR. -/
def State.cringCtl (s : State) (r : Nat) (val : Word) : State :=
  let s := if bit val 62 then s.cringFlush r else s
  let s := s.putRw .hostCmdCtl r val
  if bit val 63 then (s.setCring r fun g => { g with error := false }).cringCheck r
  else s.setCring r fun g => { g with held := none }

/-- A write of HOST_CMD_BASE_r is ignored while en is set. -/
def State.cringBase (s : State) (r : Nat) (val : Word) : State :=
  if s.cringEn r then s else s.putRw .hostCmdBase r val

/-- HOST_CMD_CTL_r as it reads. -/
def State.cringWord (s : State) (r : Nat) : Word :=
  let g := s.cring r
  let st := if !s.cringEn r then 0 else if g.error then 4 else if g.flush then 3 else if g.held.isSome then 2 else 1
  s.reg .hostCmdCtl r ||| at_ 58 st ||| at_ 54 g.err

/-- HOST_CMD_IDX_r as it reads. -/
def State.cringIdxWord (s : State) (r : Nat) : Word := at_ 32 (s.ringPi r) ||| at_ 0 (s.cring r).ci

/-- CMD_FETCH_COMPLETE. -/
def execCmdFetchComplete (ring : Nat) (words : List Word) (how : FetchEnd) (late : Bool) (s : State) : Out :=
  run (.cmdFetchComplete ring words how late) s fun s => s.fetched ring words how late

/-- CMD_FETCH_TIMEOUT. -/
def execCmdFetchTimeout (ring : Nat) (s : State) : Out := run (.cmdFetchTimeout ring) s fun s => s.fetchTimeout ring

/-- CMD_PROGRAM_RELEASE: called for the coming boundary. -/
def execCmdProgramRelease (ring : Nat) (s : State) : Out :=
  run (.cmdProgramRelease ring) s fun s => s.call (.cmdProgramRelease ring) (s.coming (·.releaseDue ring))

/-- DOORBELL. -/
def execDoorbell (ring pi : Nat) (s : State) : Out := run (.doorbell ring pi) s fun s => s.doorbell ring pi

/-- CMD_RING_FLUSH: a write of HOST_CMD_CTL_r that writes flush and keeps the rest. -/
def execCmdRingFlush (ring : Nat) (s : State) : Out :=
  run (.cmdRingFlush ring) s fun s => s.cringFlush ring

/-- CMD_RING_DISABLE: a write that clears en and keeps the rest. -/
def execCmdRingDisable (ring : Nat) (s : State) : Out :=
  run (.cmdRingDisable ring) s fun s => s.cringCtl ring (setBit (s.reg .hostCmdCtl ring &&& RegKind.hostCmdCtl.rwMask) 63 false)

/-- CMD_RING_ENABLE: a write that sets en and keeps the rest. -/
def execCmdRingEnable (ring : Nat) (s : State) : Out :=
  run (.cmdRingEnable ring) s fun s => s.cringCtl ring (setBit (s.reg .hostCmdCtl ring &&& RegKind.hostCmdCtl.rwMask) 63 true)

/-- CONTROLLER_SEND: a descriptor on the controller's own queue, while the firmware runs (20 R582). -/
def execControllerSend (words : List Word) (s : State) : Out :=
  run (.controllerSend words) s fun s =>
    if s.boot.running && !s.unitWaits .controller && descWords (words.getD 0 0) ≤ words.length && bit (words.getD 0 0) 63 then s.takeDesc none words
    else s

/-! ## BAR2 (R518, R519) -/

/-- Where a BAR2 access of n bytes lands: none where the first row of R519's table, or its last, holds. -/
def State.bar2At (s : State) (addr n : Nat) : Option (Space × Nat) :=
  let i := addr / 2 ^ 30
  let o := addr % 2 ^ 30
  let w := s.reg .hostBar2Page i
  if 64 ≤ i || 2 ^ 30 < o + n || !bit w 63 then none
  else if bit w 62 then (if bits w 10 0 = 0 && o + n ≤ 2 ^ 25 then some (.near, o) else none)
  else
    let a := bits w 10 0 * 2 ^ 30 + o
    if a + n ≤ s.spineSize then some (.spine, a) else none

/-- BAR2_READ. -/
def State.bar2Read (s : State) (addr n : Nat) : State :=
  match s.bar2At addr n with
  | none => s.emit .cplUR
  | some (sp, a) => s.hostAccess (sp = .spine) a (some n) []

/-- BAR2_WRITE. -/
def State.bar2Write (s : State) (addr : Nat) (data : List (Option Byte)) : State :=
  match s.bar2At addr data.length with
  | none => s.emit .aerUR
  | some (sp, a) => s.hostAccess (sp = .spine) a none data

/-- BAR2_READ. -/
def execBar2Read (addr len : Nat) (s : State) : Out := run (.bar2Read addr len) s fun s => s.bar2Read addr len

/-- BAR2_WRITE. -/
def execBar2Write (addr : Nat) (data : List (Option Byte)) (s : State) : Out :=
  run (.bar2Write addr data) s fun s => s.bar2Write addr data

/-! ## DDR5 (R544, R545, R548, R549) -/

/-- A channel. -/
def State.chan (s : State) (c : Nat) : DdrChan := SMap.get {} s.host.ddr c

/-- Change every channel. -/
def State.setChans (s : State) (f : Nat → DdrChan → DdrChan) : State :=
  { s with host := { s.host with
      ddr := (List.range 8).foldl (fun m c => SMap.upd ({} : DdrChan) m c (f c)) s.host.ddr } }

/-- A write of HOST_DDR_CFG, at once: speed is kept while en is set. -/
def State.ddrCfg (s : State) (val : Word) : State :=
  let was := s.flag .hostDdrCfg 0 63
  let val := if was then setBit val 62 (s.flag .hostDdrCfg 0 62) else val
  let s := s.putRw .hostDdrCfg 0 val
  if bit val 63 && !was then
    let s := s.setChans fun _ c => { c with state := 1, failStep := 0 }
    { s with host := { s.host with ddrState := 1 } }
  else if !bit val 63 && was then
    let s := s.setChans fun _ _ => {}
    { s with host := { s.host with ddrState := 0 } }
  else s

/-- A module that the part supports: 64 GiB with one rank, 128 GiB or 256 GiB with two. -/
def moduleFits (r : ChannelResult) : Bool := r.cap = 2 && r.ranks = 1 || (r.cap = 4 || r.cap = 8) && r.ranks = 2

/-- The result of channel c, judged against all of them: fail_step. A channel is unlike the others where fewer than
five of the eight agree with it. -/
def failStepOf (l : List ChannelResult) (r : ChannelResult) : Nat :=
  if !r.present then 1
  else if r.failStep ≠ 0 then r.failStep
  else if !moduleFits r || (l.filter fun x => x.present && x.cap = r.cap && x.ranks = r.ranks).length < 5 then 7
  else 0

/-- DDR_TRAIN_DONE. -/
def State.ddrDone (s : State) (l : List ChannelResult) : State :=
  if s.host.ddrState ≠ 1 then s
  else
    let absent : ChannelResult := { present := false, cap := 0, ranks := 0, failStep := 1, temp := 0 }
    let res := fun c => l.getD c absent
    let step := fun c => failStepOf l (res c)
    let ok := (List.range 8).all fun c => step c = 0
    let s := s.setChans fun c x =>
      { x with state := if step c = 0 then 2 else 3, present := (res c).present, cap := (res c).cap, ranks := (res c).ranks,
               failStep := step c, temp := (res c).temp, hot := decide (85 ≤ (res c).temp) }
    { s with host := { s.host with ddrState := if ok then 2 else 3 } }

/-- DDR_RECAL: the subchannel is taken for at most 4 beats; how many is free. -/
def State.ddrRecal (s : State) (c sub : Nat) : State :=
  if s.host.ddrState ≠ 2 then s
  else
    let (n, s) := s.choose 4
    let till := s.beat.bc + n
    s.setChans fun i x => if i ≠ c then x else if sub = 0 then { x with recalA := till } else { x with recalB := till }

/-- MODULE_HOT_REFRESH: the module's temperature, and whether its refresh is doubled. -/
def State.hotRefresh (s : State) (c temp : Nat) : State :=
  s.setChans fun i x => if i = c && x.present then { x with temp := temp, hot := decide (85 ≤ temp) } else x

/-- HOST_DDR_CFG as it reads. -/
def State.ddrCfgWord (s : State) : Word :=
  s.reg .hostDdrCfg 0 ||| at_ 59 s.host.ddrState ||| at_ 40 (if s.ddrReady then (s.chan 0).cap else 0)

/-- HOST_DDR_STATUS_c. -/
def State.ddrStatusWord (s : State) (c : Nat) : Word :=
  let x := s.chan c
  at_ 61 x.state ||| at_ 60 (b2n x.present) ||| at_ 52 x.temp ||| at_ 44 x.cap ||| at_ 40 x.ranks ||| at_ 32 x.failStep

/-- DDR_TRAIN_START: a write of HOST_DDR_CFG with en set. -/
def execDdrTrainStart (speed : Bool) (s : State) : Out :=
  run (.ddrTrainStart speed) s fun s => s.ddrCfg (at_ 63 1 ||| at_ 62 (b2n speed))

/-- DDR_TRAIN_DONE. -/
def execDdrTrainDone (chans : List ChannelResult) (s : State) : Out :=
  run (.ddrTrainDone chans) s fun s => s.ddrDone chans

/-- DDR_RECAL. -/
def execDdrRecal (channel sub : Nat) (s : State) : Out := run (.ddrRecal channel sub) s fun s => s.ddrRecal channel sub

/-- MODULE_HOT_REFRESH. -/
def execModuleHotRefresh (channel temp : Nat) (s : State) : Out :=
  run (.moduleHotRefresh channel temp) s fun s => s.hotRefresh channel temp

/-! ## The configuration header (R515) -/

/-- What the configuration header reports of the part, and the Device Serial Number. -/
structure PciIdentity where
  vendor : BitVec 16
  device : BitVec 16
  revision : BitVec 8
  classCode : BitVec 24
  serial : Word
deriving DecidableEq, Repr

/-- The identity that the part reports: the serial number is the low 64 bits of the fused device identity. -/
def State.pciIdentity (s : State) : PciIdentity :=
  { vendor := 0x1D5A, device := 0x5016, revision := 0xB0, classCode := 0x028000, serial := s.boot.fuses.serial }

/-! ## The link (R521) -/

/-- HOST_CFG as it reads. -/
def State.hostCfgWord (s : State) : Word :=
  s.reg .hostCfg 0 ||| at_ 60 s.host.speed ||| at_ 56 s.host.width ||| at_ 55 (b2n s.host.flit)

/-- PCIE_LINK_TRAINED. -/
def execPcieLinkTrained (speed width : Nat) (flit : Bool) (s : State) : Out :=
  run (.pcieLinkTrained speed width flit) s fun s =>
    { s with host := { s.host with speed := speed, width := width, flit := flit } }

end Sys2Proof.Machine
end

