-- ==== Sys2Proof/Machine/Reset.lean ====
section
/-! DEFINITION. The resets of the part and how a start begins (20_boot_and_security.md R580 to R583, R601; 19 R571,
R579; 14 R437; 21 R613, R626). -/

namespace Sys2Proof.Machine

/-- The registers that every reset other than power-on keeps: PWR_WAKE, PWR_WAKE_MASK_i, PWR_AGE_d, and the
margin steps in INT_CLU_c. -/
def keptRegs (m : SMap Word) : SMap Word :=
  let w := RegKind.pwrWakeMask.off 0 / 8
  let g := RegKind.pwrAge.off 0 / 8
  let c := RegKind.intClu.off 0 / 8
  m.filterMap fun e =>
    if w ≤ e.1 && e.1 ≤ w + 4 || g ≤ e.1 && e.1 < g + 94 then some e
    else if c ≤ e.1 && e.1 < c + 768 then
      let v := at_ 58 (bits e.2 61 58)
      if v = 0 then none else some (e.1, v)
    else none

/-- What fuses and SPI NOR keep over every reset. -/
def BootState.flash (b : BootState) : BootState :=
  { step := 0, fuses := b.fuses, active := b.active, validA := b.validA, validB := b.validB, trial := b.trial }

/-- What a power-on reset leaves: everything is reset but the fuses and the flash, with PERST_N low (log entry 7).
In manufacturing test, domain 95 is ON and nothing boots (21 R620). -/
def State.powerOn (s : State) (testMode bootSrc : Bool) : State :=
  let test := testMode && !s.boot.fuses.prod
  let t := State.reset
  let dom := if test then SMap.upd ({} : Dom) t.pwr.dom 95 fun d => { d with st := 2 } else t.pwr.dom
  let pins : PinState := { testSeen := testMode, bootSrc := bootSrc, manufacturing := test }
  { t with
    pending := s.pending, out := s.out, free := s.free, pins := pins,
    boot := { s.boot.flash with step := 1 },
    pwr := { t.pwr with dom := dom } }

/-- What a fundamental reset leaves, or with `soft` a software reset, which keeps domain 92, the link and the
MSI-X table. -/
def State.deviceReset (s : State) (soft : Bool) : State :=
  let t := State.reset
  let host : HostState :=
    if soft then
      { speed := s.host.speed, width := s.host.width, flit := s.host.flit, msix := s.host.msix, funcMask := s.host.funcMask,
        pba := s.host.pba }
    else {}
  let dom := if soft then SMap.set ({} : Dom) t.pwr.dom 92 (SMap.get {} s.pwr.dom 92) else t.pwr.dom
  { t with
    pending := s.pending, out := s.out, free := s.free,
    regs := { t.regs with eff := keptRegs s.regs.eff },
    red := { t.red with rejoin := s.red.rejoin },
    host := host,
    boot := s.boot.flash,
    pins := { s.pins with alarmLow := false, refSel := false },
    pwr := { t.pwr with dom := dom } }

/-- The part is held where no start may begin: by PERST_N, an instruction of the TAP (21 R618), or the lack of
VAON. -/
def State.heldReset (s : State) : Bool := s.pins.perstLow || s.pins.tapHold || s.pins.vaonLow

end Sys2Proof.Machine
end

