-- ==== Sys2Proof/Machine/Power.lean ====
section
/-! DEFINITION. Power domains, stretches, thermal limits, sleep, ageing and the daily re-plan
(19_power_and_ageing.md R552 to R579; 20 R587). -/

namespace Sys2Proof.Machine

/-! ## Domains (R552 to R556) -/

/-- A domain. -/
def State.dom (s : State) (d : Nat) : Dom := SMap.get {} s.pwr.dom d

/-- Change a domain. -/
def State.setDom (s : State) (d : Nat) (f : Dom → Dom) : State :=
  { s with pwr := { s.pwr with dom := SMap.upd {} s.pwr.dom d f } }

/-- The domain that a domain requires (R552). -/
def requires (d : Nat) : Option Nat :=
  if d < 64 then some (80 + d / 8)
  else if d < 80 then some (80 + (d - 64) / 2)
  else if d < 92 then some 93
  else if d < 94 then some 94
  else if d = 95 then some 93
  else none

/-- The ring for the items of the chapter (R577). -/
def State.pwrRing (s : State) : Nat := s.fld .pwrThermCfg 0 5 0

/-- Items 0x90 to 0x93 (R577). -/
def State.pwrItem (s : State) (type code dom lane laser a b : Nat) : State :=
  s.post s.pwrRing
    [⟨at_ 56 type ||| at_ 52 code ||| at_ 45 dom ||| at_ 35 lane ||| at_ 31 laser, at_ 32 (a % 2 ^ 32) ||| at_ 0 (b % 2 ^ 32),
      s.beatWord, 0⟩]

/-- A domain moves to a state, which posts item 0x90: code 0, or 3 for a supply fault. -/
def State.moveDom (s : State) (d st code : Nat) (f : Dom → Dom) : State :=
  let old := (s.dom d).st
  (s.setDom d fun x => { f x with st := st }).pwrItem 0x90 code d 0 0 old st

/-- A domain will not stay or come ON: it is OFF, and not asked on. -/
def Dom.quietOff (x : Dom) : Bool := x.st = 0 && !(match x.asked with
  | some (on, _) => on
  | none => false)

/-- A request to turn a domain on may stand (R553). -/
def State.canOn (s : State) (d : Nat) : Bool :=
  match requires d with
  | none => true
  | some r => let x := s.dom r
    x.st = 2 && x.force.isNone && (match x.asked with
      | some (on, _) => on
      | none => true)

/-- A request to turn a domain off may stand (R552, R553). -/
def State.canOff (s : State) (d : Nat) : Bool :=
  let free := (List.range 96).all fun e => requires e ≠ some d || (s.dom e).quietOff
  free && (if d < 64 then s.disabled 3 d && !s.draining 3 d
           else if d < 88 then true
           else if d < 92 then !s.flag .hostDdrCfg 0 63
           else d = 95)

/-- The lane and port-class counters of core slice k are zero again when it comes up (17 R489). -/
def State.zeroSlice (s : State) (k : Nat) : State :=
  { s with cnt := { s.cnt with live := s.cnt.live.filter fun e =>
      !(cntLane (128 * k) 0 ≤ e.1 && e.1 < cntLane (128 * (k + 1)) 0
        || cntPc (1024 * k) 0 ≤ e.1 && e.1 < cntPc (1024 * (k + 1)) 0) } }

/-- The consequence of a domain's going ON. Its guard band takes plan_vg (R579). -/
def State.domOn (s : State) (d : Nat) : State :=
  let vg := if d < 94 then s.fld .pwrAge d 47 40 else 0
  let s := s.moveDom d 2 0 fun x => { x with inRange := false, vg := vg, goal := vg, nextMove := 0 }
  if 64 ≤ d && d < 80 then s.engineUp (d - 64) else if 80 ≤ d && d < 88 then s.zeroSlice (d - 80) else s

/-- The consequence of a domain's leaving ON: the clamps are applied. -/
def State.domLeaves (s : State) (d : Nat) : State := if 64 ≤ d && d < 80 then s.engineDown (d - 64) else s

/-- A domain ramps. -/
def Dom.ramping (x : Dom) : Bool := x.st = 1 || x.st = 3

/-- The sequencer begins the ramp of the lowest domain asked, where no domain ramps (R554). -/
def State.nextRamp (s : State) : State :=
  if s.pwr.dom.any fun e => e.2.ramping then s
  else
    match s.pwr.dom.find? fun e => e.2.asked.isSome with
    | none => s
    | some (d, x) =>
      match x.asked with
      | none => s
      | some (true, cause) => s.moveDom d 1 0 fun x => { x with asked := none, cause := cause, inRange := false, toFault := false }
      | some (false, cause) => (s.domLeaves d).moveDom d 3 0 fun x => { x with asked := none, cause := cause, toFault := false }

/-- Begin a ramp at once while no boundary can come. -/
def State.rampNow (s : State) : State := if s.beat.running then s else s.nextRamp

/-- A request of the part's own start-up (20 R583): cause 2. -/
def State.askOn (s : State) (d : Nat) : State :=
  let s := s.setFlag .pwrDom d 57 true
  if (s.dom d).st = 0 then s.setDom d fun x => { x with asked := some (true, 2) } else s

/-- A start (20 R583): its cause goes into PWR_WAKE (R571), and in step 2 cricket ramps domains 92 and 93. `pair`
goes with cause 2. -/
def State.start (s : State) (cause pair : Nat) : State :=
  let s := s.setFld .pwrWake 0 63 60 cause
  let s := if cause = 2 then s.setFld .pwrWake 0 59 52 pair else s
  let s : State := { s with boot := { s.boot with step := 2 } }
  ((s.askOn 92).askOn 93).rampNow

/-- A write of PWR_DOM_d takes effect (R553). In FAULT, req = 0 makes the domain OFF, and req = 1 does nothing. -/
def State.applyDom (s : State) (d : Nat) (val : Word) : State :=
  let on := bit val 57
  let x := s.dom d
  let st := x.st
  let refused := s.pwrItem 0x90 1 d 0 0 st st
  let accept := fun (s : State) => s.setFlag .pwrDom d 57 on
  if x.force = some 3 || x.faultAt = s.beat.bc + 1 then refused
  else if st = 4 then
    if on then s else (accept s).moveDom d 0 0 fun x => { x with cause := 1, toFault := false }
  else if on && (st = 2 || st = 1) || !on && (st = 0 || st = 3) then
    if (on || d < 92 || d = 95) then (accept s).setDom d fun x => { x with asked := none } else refused
  else if on && !s.canOn d || !on && !s.canOff d then refused
  else (accept s).setDom d fun x => { x with asked := some (on, 1) }

/-- DOMAIN_RAMP_UP_DONE: the supply is in range. -/
def State.rampUpDone (s : State) (d : Nat) : State :=
  if (s.dom d).st ≠ 1 then s
  else if s.beat.running then s.setDom d fun x => { x with inRange := true }
  else (s.domOn d).rampNow

/-- DOMAIN_RAMP_DOWN_DONE: OFF, or FAULT. -/
def State.rampDownDone (s : State) (d : Nat) : State :=
  if (s.dom d).st ≠ 3 then s
  else (s.moveDom d (if (s.dom d).toFault then 4 else 0) 0 fun x => { x with vg := 0, goal := 0 }).rampNow

/-- At a boundary, domains whose supplies are in range go ON. -/
def State.domsOn (s : State) : State :=
  (s.pwr.dom.filter fun e => e.2.st = 1 && e.2.inRange).foldl (fun (s : State) e => s.domOn e.1) s

/-- A ramp down that no request made begins at a boundary (R555, R563). The clusters of a reduction domain leave A,
and their chunks end with CUT. -/
def State.forceDown (s : State) (d cause : Nat) : State :=
  let x := s.dom d
  let fault := cause = 3
  let s := if x.st = 2 then s.domLeaves d else s
  let s := s.moveDom d 3 (if fault then 3 else 0) fun x =>
    { x with force := none, asked := none, inRange := false, cause := cause, toFault := fault,
             faultAt := if fault then s.beat.bc + 1 else x.faultAt }
  if d < 64 then (s.cutClusters fun c => c / 12 = d).1 else s

/-- Every ramp down that is due at a boundary. -/
def State.forcedRamps (s : State) : State :=
  s.pwr.dom.foldl (fun (s : State) e =>
    match e.2.force with
    | some c =>
      if e.2.st = 1 || e.2.st = 2 || e.2.st = 3 && c = 3 then s.forceDown e.1 c
      else s.setDom e.1 fun x => { x with force := none }
    | none => s) s

/-- PWR_DOM_d. -/
def State.domWord (s : State) (d : Nat) : Word :=
  let x := s.dom d
  let req := if d = 94 then 1 else b2n (bit (s.shown .pwrDom d) 57)
  at_ 61 x.st ||| at_ 58 x.cause ||| at_ 57 req ||| at_ 40 x.vg

/-! ## Power trips (R564) and supply faults (R555; 20 R587) -/

/-- Every domain but cricket is off at once, the alarm pin is driven, and the PCIe link is down. `a` and `b` give
the field of PWR_WAKE that the cause records. -/
def State.takeTrip (s : State) (cause hi lo v : Nat) : State :=
  let off := (s.pwr.dom.filter fun e => e.1 ≠ 94 && e.2.st ≠ 0).foldl
    (fun (s : State) e => s.setDom e.1 fun _ => { cause := 4 }) s
  let s := off.setFld .pwrWake 0 hi lo v
  { s with
    pwr := { s.pwr with trip := some cause },
    pins := { s.pins with alarmLow := true },
    host := { s.host with speed := 0, width := 0, flit := false, outbox := [] } }

/-- POWER_TRIP: a switch-die sensor reads 105 °C or more. -/
def State.thermalTrip (s : State) (temp : Nat) : State :=
  if temp < 16 * 105 || s.pwr.trip.isSome || s.pwr.asleep || s.pins.vaonLow then s else s.takeTrip 3 44 33 temp

/-- SUPPLY_FAULT: a fault has persisted for 2 µs. In the start's steps 5, 7 and 10 a domain that they ramp is left
in FAULT, with err 0x08. -/
def State.faultDom (s : State) (d : Nat) : State :=
  let x := s.dom d
  let step := s.boot.step
  let starting := step = 5 || step = 7 || step = 10
  if x.st = 0 || x.st = 4 then s
  else if starting && 80 ≤ d && d < 92 then
    let s := s.moveDom d 4 3 fun x => { x with asked := none, inRange := false, cause := 3, toFault := true }
    ({ s with boot := { s.boot with err := 8 } }).rampNow
  else if d < 80 then
    let s := if starting then { s with boot := { s.boot with err := 8 } } else s
    s.setDom d fun x => { x with force := some 3 }
  else s.takeTrip 4 51 45 d

/-- A sensor's limit in 1/16 °C, after a number of °C is taken off. -/
def belowLimit (limit less temp : Nat) : Bool := decide (temp + 16 * less < 16 * limit)

/-- t_warn. -/
def State.tWarn (s : State) : Nat := s.fld .pwrThermCfg 0 63 56

/-- t_warn_ph: values above 84 are taken as 84. -/
def State.tWarnPh (s : State) : Nat := Nat.min 84 (s.fld .pwrThermCfg 0 47 40)

/-- TRIP_HOLD_END: every switch-die sensor reads below t_warn − 10 °C, and a fundamental reset starts the part. -/
def State.tripEnd (s : State) (temp : Nat) : State :=
  match s.pwr.trip with
  | none => s
  | some cause =>
    if !belowLimit s.tWarn 10 temp then s
    else
      let t := s.deviceReset false
      if t.heldReset then { t with boot := { t.boot with step := 0 } } else t.start cause 0

/-! ## Warnings and trips of engines (R561, R563) -/

/-- The domain that an item 0x91 names for a warning unit. -/
def unitDom (u : Nat) : Nat := if u = 0 then 80 else if u = 1 then 84 else 62 + u

/-- The warning limit of a unit, in °C. -/
def State.unitLimit (s : State) (u : Nat) : Nat := if u < 2 then s.tWarn else s.tWarnPh

/-- THERMAL_WARNING. -/
def State.warn (s : State) (u temp : Nat) : State :=
  if SMap.get false s.pwr.warned u || temp < 16 * s.unitLimit u then s
  else ({ s with pwr := { s.pwr with warned := SMap.set false s.pwr.warned u true } }).pwrItem 0x91
    (if u < 2 then 1 else 3) (unitDom u) 0 0 temp 0

/-- THERMAL_WARNING_REARM: all the die's sensors have read below the limit less 5 °C. -/
def State.rearm (s : State) (u : Nat) : State :=
  { s with pwr := { s.pwr with warned := SMap.set false s.pwr.warned u false } }

/-- PHOTONIC_TRIP: a photonic sensor has read 85 °C or more for 100 µs. -/
def State.engineTrip (s : State) (e temp : Nat) : State :=
  let x := s.dom (64 + e)
  if temp < 16 * 85 || !(x.st = 1 || x.st = 2) || x.force.isSome then s
  else (s.setDom (64 + e) fun x => { x with force := some 6 }).pwrItem 0x91 4 (64 + e) 0 0 temp 0

/-! ## Stretches (R559, R560) -/

/-- The die's clock is stretched. -/
def State.stretched (s : State) (e : Bool) : Bool := if e then s.beat.stretchE else s.beat.stretchW

/-- STRETCH_COMPARATOR_FIRE: the clock is stretched from the first boundary at least 64 core cycles later: the
next, or the one after it, which is free (log entry 6). -/
def State.comparator (s : State) (east : Bool) (temp : Nat) : State :=
  let (n, s) := s.choose 1
  let at_ := s.beat.bc + 1 + n
  let first := fun (o : Option Nat) => match o with
    | some b => some b
    | none => if s.stretched east then none else some at_
  if east then { s with pwr := { s.pwr with fireE := true, tempE := temp, startE := first s.pwr.startE } }
  else { s with pwr := { s.pwr with fireW := true, tempW := temp, startW := first s.pwr.startW } }

/-- release: at least 16. -/
def State.release (s : State) : Nat := Nat.max 16 (s.fld .pwrThermCfg 0 23 8)

/-- Quiet beats of a die, with the beat that ends. -/
def State.quietBeats (s : State) (east : Bool) : Nat :=
  if east then (if s.pwr.fireE then 0 else s.pwr.quietE + 1) else if s.pwr.fireW then 0 else s.pwr.quietW + 1

/-- The item of a stretch's start, code 0, or its end, code 2. -/
def State.stretchItem (s : State) (east : Bool) (code : Nat) : State :=
  s.pwrItem 0x91 code (if east then 84 else 80) 0 0 (if east then s.pwr.tempE else s.pwr.tempW) 0

/-- Set a die's stretch. -/
def State.setStretch (s : State) (east b : Bool) : State :=
  if east then { s with beat := { s.beat with stretchE := b } } else { s with beat := { s.beat with stretchW := b } }

/-- The comparators of a stretched die have stayed quiet for release whole beats. -/
def State.stretchDue (s : State) (east : Bool) : Bool := s.stretched east && s.release ≤ s.quietBeats east

/-- A stretch ends at a boundary, where its comparators have stayed quiet for release whole beats. -/
def State.stretchEnds (s : State) (east : Bool) : State :=
  if s.stretchDue east then (s.setStretch east false).stretchItem east 2 else s

/-- The step of a die's stretch at a boundary. -/
def State.stretchStep (s : State) (east : Bool) : State :=
  let q := s.quietBeats east
  let s := s.stretchEnds east
  let begin_ := match (if east then s.pwr.startE else s.pwr.startW) with
    | some b => b ≤ s.beat.bc
    | none => false
  let s := if begin_ then (s.setStretch east true).stretchItem east 0 else s
  let q := if begin_ || !s.stretched east then 0 else q
  if east then
    { s with pwr := { s.pwr with fireE := false, quietE := q, startE := if begin_ then none else s.pwr.startE } }
  else { s with pwr := { s.pwr with fireW := false, quietW := q, startW := if begin_ then none else s.pwr.startW } }

/-! ## Sleep (R567 to R571) -/

/-- The work in flight, of every partition and port, is dropped without items or completions. -/
def State.dropAll (s : State) : State :=
  { s with
    net := {}, q := {}, coll := {}, buf := {}, lnk := {}, opt := {}, byp := {},
    mem := { s.mem with subs := [], trk := [], late := [], dead := [] },
    cnt := { s.cnt with dump := none, deferred := false },
    stn := { s.stn with loadState := 0 },
    part := { s.part with discards := [], digests := [], faults := [], condemns := [] },
    host := { s.host with outbox := [], commits := [], mgmtIn := [] } }

/-- The boundary at which sleep is entered: domains 0–91, 93 and 95 go OFF, with cause 5. -/
def State.sleep (s : State) : State :=
  if !s.pwr.sleepDue then s
  else
    let s := (s.pwr.dom.filter fun e => e.1 ≠ 94 && e.1 ≠ 92 && e.2.st ≠ 0).foldl
      (fun (s : State) e => s.setDom e.1 fun _ => { cause := 5 }) s
    let s := s.dropAll
    { s with
      pwr := { s.pwr with asleep := true, sleepDue := false, wakePair := none },
      beat := { s.beat with running := false },
      boot := { s.boot with running := false } }

/-- WAKE_D0: software writes D0 in sleep. After light has woken cricket the cause is light. -/
def State.wake (s : State) : State :=
  if !s.pwr.asleep then s
  else
    let t := s.deviceReset false
    if t.heldReset then t
    else
      match s.pwr.wakePair with
      | some p => t.start 2 p
      | none => t.start 1 0

/-- LIGHT_WAKE: light has been present for 1 ms on a fibre whose bit is set; cricket sends a PME. -/
def State.light (s : State) (pair : Nat) : State :=
  if s.pwr.asleep && s.pwr.wakePair.isNone && s.flag .pwrWakeMask (pair / 64) (pair % 64) then
    ({ s with pwr := { s.pwr with wakePair := some pair } }).emit .pme
  else s

/-- SLEEP_COMPARATOR_FIRE. -/
def State.sleepFire (s : State) : State := if s.pwr.asleep then s.setFlag .pwrWake 0 32 true else s

/-! ## Ageing and the re-plan (R572 to R576) -/

/-- A monitor's sample crosses its limit: an item 0x93 the first time (R572). -/
def State.ageJudge (s : State) (code unit dom lane laser : Nat) (bad : Bool) (a b : Nat) : State :=
  let was := s.pwr.aged.contains (code, unit)
  if bad && !was then
    ({ s with pwr := { s.pwr with aged := s.pwr.aged ++ [(code, unit)] } }).pwrItem 0x93 code dom lane laser a b
  else if !bad && was then { s with pwr := { s.pwr with aged := s.pwr.aged.filter (· ≠ (code, unit)) } }
  else s

/-- The oscillator's limit: fmargin below 2.0 % at a guard of 60 mV. -/
def State.oscJudge (s : State) (d vg fmargin : Nat) : State :=
  s.ageJudge 1 d d 0 0 (vg = 12 && fmargin < 20) (1000 * fmargin) 20000

/-- A sample. -/
def State.ageSample (s : State) : AgeReading → State
  | .oscillator d deg fmargin =>
    if d < 94 then (s.setFld .pwrAge d 63 48 (Nat.min 65535 deg)).oscJudge d (s.dom d).vg fmargin else s
  | .laser e k bias =>
    if 16 ≤ e || 12 ≤ k then s
    else
      let i := 12 * e + k
      let s := s.setFld .leLaser i 55 44 (Nat.min 4095 bias)
      let sol := s.laserSol i
      s.ageJudge 2 i (64 + e) 0 k (sol ≠ 0 && 1250 * sol < 1000 * bias) (1000 * bias / sol) 1250
  | .heater n off =>
    if 1024 ≤ n then s else s.ageJudge 3 n (64 + n / 64) n 0 (decide (800 < off.natAbs)) (ofSigned 32 off) 800
  | .eye n mv ui =>
    if 1024 ≤ n then s
    else if mv < 12 then s.ageJudge 4 n (64 + n / 64) n 0 true mv 12
    else s.ageJudge 4 n (64 + n / 64) n 0 (decide (ui < 80)) ui 80

/-- The planned guard in units of 5 mV (R574): need = 5 + deg / 400 mV, rounded up. -/
def planUnits (deg now : Nat) : Nat :=
  let p := Nat.min 12 (ceilDiv (2000 + deg) 2000)
  if p < now then now - 1 else p

/-- The plan of one domain. -/
def State.planDom (s : State) (fm : List Nat) (d : Nat) : State :=
  let x := s.dom d
  if x.st ≠ 2 then s
  else
    let p := planUnits (s.fld .pwrAge d 63 48) x.vg
    let m := fm.getD d 0
    let due := (s.beat.now + 1) % 2 ^ 32
    let s := ((s.setFld .pwrAge d 47 40 p).setFld .pwrAge d 39 32 (Nat.min 255 m)).setFld .pwrAge d 31 0 due
    let s := s.setDom d fun x => { x with goal := p, nextMove := s.beat.bc + 1, waitTill := s.beat.bc + 17 }
    let s := if p = x.vg then s
      else s.post s.pwrRing [⟨at_ 56 0x92 ||| at_ 52 1 ||| at_ 45 d, at_ 32 x.vg ||| at_ 0 p, at_ 32 due, 0⟩]
    s.oscJudge d p m

/-- MARGIN_REPLAN: paused while the firmware does not run (20 R582). It waits while a die is stretched or a domain
ramps; at the fourth wait it is skipped. -/
def State.replan (s : State) (fm : List Nat) : State :=
  let busy := s.beat.stretchW || s.beat.stretchE || s.pwr.dom.any fun e => e.2.ramping
  let waits := fun (s : State) n => { s with pwr := { s.pwr with waits := n } }
  if busy then
    if s.pwr.waits + 1 < 4 then waits s (s.pwr.waits + 1) else (waits s 0).pwrItem 0x92 2 0 0 0 0 0
  else (List.range 94).foldl (fun (s : State) d => s.planDom fm d) (waits s 0)

/-- A plan waits for the test of a cluster in its reduction domain, up to 16 beats (R578). -/
def State.planWaits (s : State) (d : Nat) (x : Dom) : Bool :=
  s.beat.bc < x.waitTill && s.red.ft.cur.any fun c => c / 12 = d

/-- One step of 5 mV every 4 beats, towards the new guard (R575). -/
def State.guardSteps (s : State) : State :=
  { s with pwr := { s.pwr with dom := s.pwr.dom.map fun e =>
      if e.2.st = 2 && e.2.vg ≠ e.2.goal && e.2.nextMove ≤ s.beat.bc && !s.planWaits e.1 e.2 then
        (e.1, { e.2 with vg := if e.2.vg < e.2.goal then e.2.vg + 1 else e.2.vg - 1, nextMove := s.beat.bc + 4 })
      else e } }

/-- A read of PWR_THERM_STATUS: measurements, so each read's values are free (log entry 5). -/
def State.thermRead (s : State) : Word × State :=
  let (f, s) := s.freshWord
  (setBits f 15 0 0, s)

end Sys2Proof.Machine
end

