-- ==== Sys2Proof/Machine/PowerCmds.lean ====
section
/-! DEFINITION. The meanings of the commands of power, temperature and ageing that no register write causes
(19_power_and_ageing.md). -/

namespace Sys2Proof.Machine

/-- DOMAIN_RAMP_UP_DONE (19 R554). -/
def execDomainRampUpDone (domain : Nat) (s : State) : Out :=
  run (.domainRampUpDone domain) s fun s => s.rampUpDone domain

/-- DOMAIN_RAMP_DOWN_DONE (19 R554). -/
def execDomainRampDownDone (domain : Nat) (s : State) : Out :=
  run (.domainRampDownDone domain) s fun s => s.rampDownDone domain

/-- SUPPLY_FAULT (19 R555; 20 R587). -/
def execSupplyFault (domain : Nat) (s : State) : Out := run (.supplyFault domain) s fun s => s.faultDom domain

/-- POWER_TRIP (19 R564); under an instruction of the TAP it acts too (21 R625). -/
def execPowerTrip (temp : Nat) (s : State) : Out := runAlways (.powerTrip temp) s fun s => s.thermalTrip temp

/-- TRIP_HOLD_END (19 R564). -/
def execTripHoldEnd (temp : Nat) (s : State) : Out := runAlways (.tripHoldEnd temp) s fun s => s.tripEnd temp

/-- THERMAL_WARNING (19 R561). -/
def execThermalWarning (unit temp : Nat) (s : State) : Out :=
  run (.thermalWarning unit temp) s fun s => s.warn unit temp

/-- STRETCH_COMPARATOR_FIRE (19 R559). -/
def execStretchComparatorFire (die temp : Nat) (s : State) : Out :=
  run (.stretchComparatorFire die temp) s fun s => s.comparator (die = 1) temp

/-- STRETCH_END: judged for the coming boundary (19 R560). -/
def execStretchEnd (die : Nat) (s : State) : Out :=
  run (.stretchEnd die) s fun s => s.call (.stretchEnd die) (s.stretchDue (die = 1))

/-- PHOTONIC_TRIP (19 R563). -/
def execPhotonicTrip (engine temp : Nat) (s : State) : Out :=
  run (.photonicTrip engine temp) s fun s => s.engineTrip engine temp

/-- SLEEP_ENTRY: software writes D3hot; the part sleeps from the next boundary (19 R567). -/
def execSleepEntry (s : State) : Out :=
  run .sleepEntry s fun s => { s with pwr := { s.pwr with sleepDue := true } }

/-- WAKE_D0 (19 R569). -/
def execWakeD0 (s : State) : Out := runAlways .wakeD0 s State.wake

/-- LIGHT_WAKE (19 R569). -/
def execLightWake (pair : Nat) (s : State) : Out := runAlways (.lightWake pair) s fun s => s.light pair

/-- SLEEP_COMPARATOR_FIRE (19 R569). -/
def execSleepComparatorFire (s : State) : Out := runAlways .sleepComparatorFire s State.sleepFire

/-- AGEING_SAMPLE: paused while the firmware does not run (19 R572; 20 R582). -/
def execAgeingSample (r : AgeReading) (s : State) : Out :=
  run (.ageingSample r) s fun s => if s.boot.running then s.ageSample r else s

/-- MARGIN_REPLAN: paused while the firmware does not run (19 R573 to R575; 20 R582). -/
def execMarginReplan (fmargin : List Nat) (s : State) : Out :=
  run (.marginReplan fmargin) s fun s => if s.boot.running then s.replan fmargin else s

/-- THERMAL_WARNING_REARM (19 R561). -/
def execThermalWarningRearm (unit : Nat) (s : State) : Out :=
  run (.thermalWarningRearm unit) s fun s => s.rearm unit

end Sys2Proof.Machine
end

