-- ==== Sys2Proof/Machine/Boot.lean ====
section
/-! DEFINITION. Resets, the start-up order, the boot ROM's checks and the firmware roll
(20_boot_and_security.md R580 to R591, R596 to R599; 14 R426). -/

namespace Sys2Proof.Machine

/-! ## Sources and images (R584 to R586) -/

/-- The code of a source, as SEC_BOOT_STATUS.src has it. -/
def srcCode : ImageSource → Nat
  | .slotA => 0
  | .slotB => 1
  | .hostMem => 2

/-- The sources in the order in which the boot ROM tries them. A restart tries the source of the last start first
(R582), and a start after a failed trial the previous slot (R590). -/
def State.bootSources (s : State) : List Nat :=
  let l := if s.pins.bootSrc then [2] else if s.boot.active then [1, 0, 2] else [0, 1, 2]
  match s.boot.first with
  | some f => f :: l.filter (· ≠ f)
  | none => l

/-- The boot ROM looks for an image: in step 3, or after a controller reset, and it has not halted. -/
def State.romLooks (s : State) : Bool :=
  !s.boot.running && !s.boot.halted && !s.pins.manufacturing && (s.boot.step = 3 || 4 ≤ s.boot.step)

/-- The source that it reads next: the host only once go is written. -/
def State.romSource (s : State) : Option Nat :=
  match s.bootSources[s.boot.tried]? with
  | some c => if c = 2 && !s.boot.go then none else some c
  | none => none

/-- A little-endian field of an image. -/
def imgField (img : List Byte) (pos n : Nat) : Nat := leNat ((img.drop pos).take n)

/-- body_len. -/
def imgBody (img : List Byte) : Nat := imgField img 16 4

/-- The whole image, header and body. -/
def imgWhole (img : List Byte) : List Byte := fitBytes (1024 + imgBody img) img

/-- The first check that an image fails (R585), in the order of the codes. That the signature verifies is an
operand: `sigOk`. -/
def BootState.checkFw (b : BootState) (image : Option (List Byte)) (sigOk : Bool) : Option Nat :=
  match image with
  | none => some 7
  | some img =>
    let slot := imgField img 9 1
    if imgField img 0 4 ≠ 0x46575931 || imgField img 4 2 ≠ 1 || imgBody img % 8 ≠ 0 || 2 ^ 22 < imgBody img then some 1
    else if 3 < slot || b.fuses.keyHash[slot]? ≠ some (sha512 (fitBytes 133 ((img.drop 128).take 133))) then some 2
    else if b.fuses.revoked.contains slot then some 3
    else if !sigOk then some 4
    else if imgField img 8 1 < b.fuses.svn then some 5
    else none

/-- Change the start-up state. -/
def State.setBoot (s : State) (f : BootState → BootState) : State := { s with boot := f s.boot }

/-- The measurement of the firmware (R586, R600). -/
def State.measureFw (s : State) (img : List Byte) : State :=
  let d := sha512 (imgWhole img)
  (List.range 8).foldl (fun (s : State) k => s.setReg .secMeasFw k (BitVec.ofNat 64 (d >>> (64 * (7 - k))))) s

/-- The firmware runs. Teardown checks that were owed are made (R582). -/
def State.firmwareUp (s : State) (img : List Byte) (src : Nat) : State :=
  let s := s.measureFw img
  let owed := s.boot.owed
  let s := s.setBoot fun b =>
    { b with running := true, halted := false, src := src, fwVersion := imgField img 6 2, svn := imgField img 8 1,
             starts := (b.starts + 1) % 65536, tried := 0, first := none, go := false, owed := [], trialAt := s.beat.bc,
             step := if b.step = 3 then 4 else b.step, stage := if b.step = 3 then 2 else b.stage }
  owed.foldl (fun (s : State) p => s.teardownOwed p) s

/-- The boot ROM rejects a source; when every source has failed it halts (R585). -/
def State.bootReject (s : State) (code : Nat) : State :=
  s.setBoot fun b =>
    let n := b.tried + 1
    { b with err := code, go := false, tried := n, halted := decide (s.bootSources.length ≤ n) }

/-- BOOT_IMAGE_READ: the boot ROM has read an image from the source that it tries. -/
def State.imageRead (s : State) (src : ImageSource) (image : Option (List Byte)) (sigOk : Bool) : State :=
  if !s.romLooks || s.romSource ≠ some (srcCode src) then s
  else
    match s.boot.checkFw image sigOk, image with
    | some code, _ => s.bootReject code
    | none, some img => s.firmwareUp img (srcCode src)
    | none, none => s

/-- BOOT_GO: go is accepted while the boot ROM looks for an image, or has halted; then it tries the host again. -/
def State.bootGo (s : State) (addr : Nat) : State :=
  let s := s.setFld .secBootCtrl 0 63 12 (addr / 4096)
  if s.boot.running || s.pins.manufacturing || s.boot.step < 2 then s
  else if s.boot.halted then s.setBoot fun b => { b with halted := false, go := true, tried := s.bootSources.length - 1 }
  else s.setBoot fun b => { b with go := true }

/-! ## The start-up order (R583, R586 to R588) -/

/-- Every domain of a range that was asked for is ON or in FAULT, or was not asked for. -/
def State.rangeUp (s : State) (lo hi : Nat) : Bool :=
  (rangeFrom lo hi).all fun d => let x := s.dom d
    x.st = 2 || x.st = 4 || x.st = 0 && x.asked.isNone && x.force.isNone

/-- The firmware requests a range of domains: those whose required domain is ON (R587). -/
def State.askRange (s : State) (lo hi : Nat) : State :=
  ((rangeFrom lo hi).foldl (fun (s : State) d => if s.canOn d then s.askOn d else s) s).rampNow

/-- Local time is set (R588): after a start of cause 1 or 2 to cricket's free-running time, which is free (log
entry 82). -/
def State.bootTime (s : State) : State :=
  let cause := s.fld .pwrWake 0 63 60
  if cause = 1 || cause = 2 then
    let (a, s) := s.freshWord
    let (b, s) := s.freshWord
    ((s.setFld .timeSet0 0 47 0 a.toNat).setFld .timeSet1 0 61 32 (b.toNat % 10 ^ 9)).setTime
  else s.setTime

/-- Every lane of the engines that are ON is in TRAIN or beyond, or waits for light. -/
def State.lanesReady (s : State) : Bool :=
  (List.range 16).all fun e => !s.engineOn e || (rangeFrom (64 * e) (64 * e + 64)).all fun n =>
    let o := s.optLane n
    o.st ≠ .off && (o.st ≠ .acquire || o.noLight)

/-- The stock entry (R586): VLAN 4094 maps to partition 0, static, in both versions. -/
def State.stockEntry (s : State) : State :=
  match s.emWrite (at_ 60 8 ||| at_ 0 4094) (at_ 27 1) 3 with
  | some t => t
  | none => s

/-- Step 9 ends: epoch 0 is opened where the load succeeded. -/
def State.bootLoaded (s : State) : State :=
  let s := s.stockEntry
  if s.stn.bank0.loaded then { s with stn := { s.stn.setSt false .open_ with cur := false } }
  else s.setBoot fun b => { b with err := 0x0A }

/-- The engine has a lane in service. -/
def State.engineServes (s : State) (e : Nat) : Bool := (rangeFrom (64 * e) (64 * e + 64)).any s.laneUp

/-- Step 10's register writes: en in INT_FT_CFG, and cal_en. -/
def State.bootEnables (s : State) : State :=
  let s := s.queueWrite .intFtCfg 0 (setBit (s.shown .intFtCfg 0) 63 true) false
  (List.range 16).foldl (fun (s : State) e =>
    if s.engineServes e then s.queueWrite .leCfg e (setBit (s.shown .leCfg e) 0 true) false else s) s

/-- Step 11: the firmware enables its own command ring. -/
def State.bootReady (s : State) : State :=
  let s := s.queueWrite .hostMgmtCfg 0 (setBit (s.shown .hostMgmtCfg 0) 63 true) false
  let r := bits (s.shown .hostMgmtCfg 0) 5 0
  s.cringCtl r (setBit (s.reg .hostCmdCtl r) 63 true)

/-- Boot firmware loads the device record: the lasers' start-of-life biases, and the ring calibration data, before the
engines' domains come up (08 R244, R248). -/
def State.loadRecord (s : State) : State := { s with opt := { s.opt with record := true } }

/-- A step begins. -/
def State.stepTo (s : State) (step stage : Nat) : State := s.setBoot fun b => { b with step := step, stage := stage }

/-- BOOT_STEP_ADVANCE: the step in progress is done, and the next begins. Step 8 is no step that another waits
for; steps 3 and 4 end with the image (R584, R585). -/
def State.bootAdvance (s : State) : State :=
  let n := s.boot.step
  if s.pins.manufacturing || s.boot.halted || 4 ≤ n && !s.boot.running then s
  else if n = 1 then s.start 0 0
  else if n = 2 && (s.dom 92).st = 2 && (s.dom 93).st = 2 then s.stepTo 3 1
  else if n = 4 then (s.stepTo 5 3).askRange 80 92
  else if n = 5 && s.rangeUp 80 92 then
    -- Without TREF the PLLs lock to the synthesizer (21 R611).
    let s : State := { s with beat := { s.beat with running := true }, pins := { s.pins with refSel := !s.pins.refOk } }
    ((s.bootTime).stepTo 6 4).ddrCfg (at_ 63 1)
  else if n = 6 && (s.host.ddrState = 2 || s.host.ddrState = 3) then (s.loadRecord.stepTo 7 5).askRange 64 80
  else if n = 7 && s.rangeUp 64 80 && s.lanesReady then (s.stepTo 9 6).loadStart 0
  else if n = 9 && (s.stn.loadState = 2 || s.stn.loadState = 3) then (((s.bootLoaded).stepTo 10 7).askRange 0 64).bootEnables
  else if n = 10 && s.rangeUp 0 64 then (s.stepTo 12 8).bootReady
  else s

/-! ## Resets (R580 to R582) -/

/-- The controller and its memory are reset, and the boot ROM looks for an image: `first` is the source that it
tries first. An SPDM exchange is aborted, and a slot write in progress leaves its slot empty (R596). -/
def State.restartCtl (s : State) (first : Option Nat) : State :=
  let s := s.setBoot fun b =>
    let busy := b.opState = 1
    { b with running := false, halted := false, tried := 0, go := false, first := first, walk := none, spdm := 0,
             opState := if busy then 3 else b.opState, opErr := if busy then 7 else b.opErr,
             validA := b.validA && !(busy && b.active), validB := b.validB && !(busy && !b.active) }
  let s : State := { s with net := { s.net with mgmt := [] }, host := { s.host with mgmtIn := [] } }
  if first = some 2 then s.sendVector (s.fld .hostCfg 0 10 0) else s

/-- The slot that is not active becomes active, and the trial is over (R590). -/
def State.revertTrial (s : State) : State :=
  (s.setBoot fun b => { b with active := !b.active, trial := false, err := 0x0B }).restartCtl
    (some (if s.boot.active then 0 else 1))

/-- A controller reset. -/
def State.ctlReset (s : State) : State :=
  if s.boot.trial then s.revertTrial
  else s.restartCtl (if s.boot.running then some s.boot.src else s.boot.first)

/-- WATCHDOG_EXPIRY (14 R426): a controller reset, and wd_vec. -/
def State.watchdog (s : State) : State :=
  let s := (s.raise .watchdog [s.beat.now]).ctlReset
  if s.boot.first = some 2 then s else s.sendVector (s.fld .hostCfg 0 10 0)

/-- Names of the registers of the host block keep nothing over a function reset (18 R551). -/
def notHost (e : Nat × Word) : Bool := !(RegKind.off .hostCfg 0 / 8 ≤ e.1 && e.1 < RegKind.off .pwrThermCfg 0 / 8)

/-- A function reset (18 R551). Host reads that the part has issued are abandoned: an image that a load or
write_slot reads, or the boot ROM (R596). -/
def State.fnReset (s : State) (linkDown : Bool) : State :=
  let loading := s.stn.loadState = 1 && !s.flag .stnLoadSrc 0 63
  let s := if loading then s.loadDone [none] else s
  let s := if s.boot.opState = 1 then s.setBoot fun b => { b with opState := 3, opErr := 7 } else s
  let s := if s.romLooks && s.romSource = some 2 then s.bootReject 7 else s
  let h := s.host
  let host : HostState :=
    { commits := h.commits, mgmtIn := [], speed := if linkDown then 0 else h.speed, width := if linkDown then 0 else h.width,
      flit := !linkDown && h.flit }
  { s with
    host := host,
    regs := { s.regs with eff := s.regs.eff.filter notHost,
                          pend := s.regs.pend.filter fun p => notHost (p.kind.off p.idx / 8, 0) } }

/-- SOFTWARE_RESET: reset in SEC_FW_CTRL. -/
def State.softReset (s : State) : State :=
  let t := s.deviceReset true
  if t.heldReset then t else t.start 6 0

/-- FUNDAMENTAL_RESET: PERST# is asserted, which ends the hold of the TAP (21 R618). A power-trip hold stands
(19 R564). -/
def State.perst (s : State) : State :=
  let t := s.deviceReset false
  { t with
    pins := { t.pins with perstLow := true, tapHold := false, alarmLow := s.pwr.trip.isSome },
    pwr := { t.pwr with trip := s.pwr.trip } }

/-- PERST_N_RELEASE: BOOT_SRC is sampled, and the start begins with step 2, or after a power-on goes on with
step 1. -/
def State.perstRelease (s : State) (bootSrc : Bool) : State :=
  if !s.pins.perstLow then s
  else
    let s : State := { s with pins := { s.pins with perstLow := false, bootSrc := bootSrc } }
    if s.boot.step = 1 || s.heldReset || s.pwr.trip.isSome || s.pins.manufacturing then s else s.start 5 0

/-! ## The firmware roll (R589 to R591) -/

/-- An operation of SEC_FW_CTRL ends. -/
def State.opEnds (s : State) (st err : Nat) : State := s.setBoot fun b => { b with opState := st, opErr := err }

/-- WRITE_SLOT. -/
def State.slotStart (s : State) : State := if s.boot.running && s.boot.opState ≠ 1 then s.opEnds 1 0 else s

/-- The slot that is not active is valid, or empty. -/
def State.setSpare (s : State) (b : Bool) : State :=
  s.setBoot fun x => if x.active then { x with validA := b } else { x with validB := b }

/-- WRITE_SLOT_DONE: an image that passes is written; `flashOk` says that the read-back matches. -/
def State.slotEnd (s : State) (image : Option (List Byte)) (sigOk flashOk : Bool) : State :=
  if !s.boot.running || s.boot.opState ≠ 1 then s
  else
    match s.boot.checkFw image sigOk with
    | some code => s.opEnds 3 code
    | none => if flashOk then (s.setSpare true).opEnds 2 0 else (s.setSpare false).opEnds 3 7

/-- ACTIVATE: refused while trial is set (R596). -/
def State.activateNew (s : State) : State :=
  if !s.boot.running then s
  else if s.boot.trial then s.opEnds 3 0x0C
  else (s.setBoot fun b => { b with active := !b.active, trial := true }).restartCtl (some (if s.boot.active then 0 else 1))

/-- CONFIRM. -/
def State.confirm (s : State) : State := if s.boot.running then s.setBoot fun b => { b with trial := false } else s

/-- SVN_COMMIT. -/
def State.commitSvn (s : State) : State :=
  if !s.boot.running then s
  else if s.boot.trial then s.opEnds 3 0x0C
  else
    (s.setBoot fun b => { b with fuses := { b.fuses with svn := Nat.max b.fuses.svn b.svn } }).opEnds 2 0

/-- TRIAL_TIMEOUT: 60 s (234,375,000 beats) since the start. -/
def State.trialDue (s : State) : Bool :=
  s.boot.trial && s.boot.running && decide (s.boot.trialAt + 234375000 ≤ s.beat.bc)

/-- A write of SEC_FW_CTRL: one that sets more than one WO bit is ignored (R599). -/
def State.fwCtrl (s : State) (val : Word) : State :=
  let n := bits val 4 0
  if n = 1 then s.slotStart
  else if n = 2 then s.activateNew
  else if n = 4 then s.confirm
  else if n = 8 then s.commitSvn
  else if n = 16 then s.softReset
  else s

/-! ## Registers (R597 to R599) -/

/-- The running image is on trial. -/
def BootState.onTrial (b : BootState) : Bool := b.trial && b.src = b2n b.active

/-- SEC_BOOT_STATUS. -/
def State.bootWord (s : State) : Word :=
  let b := s.boot
  at_ 60 b.stage ||| at_ 58 b.src ||| at_ 57 (b2n b.onTrial) ||| at_ 56 (b2n b.halted) ||| at_ 48 b.err
    ||| at_ 32 b.fwVersion ||| at_ 24 b.svn ||| at_ 16 b.fuses.svn ||| at_ 0 b.starts

/-- SEC_FW_CTRL. -/
def State.fwCtrlWord (s : State) : Word := at_ 62 s.boot.opState ||| at_ 54 s.boot.opErr ||| at_ 53 (b2n s.boot.active)

end Sys2Proof.Machine
end

