-- ==== Sys2Proof/Machine/Spdm.lean ====
section
/-! DEFINITION. Identity and attestation: the SPDM responder (20_boot_and_security.md R582, R592 to R596). The
layouts of responses are those of SPDM 1.3, which the manual names (PRESUMED, log entry 70). -/

namespace Sys2Proof.Machine

/-! ## Responses -/

/-- Answer with a response. -/
def State.answer (s : State) (code : Nat) (body : List Byte) : State := s.emit (.spdm code body)

/-- Answer ERROR with an error code and its data. -/
def State.spdmError (s : State) (code data : Nat) : State :=
  s.answer 0x7F [BitVec.ofNat 8 code, BitVec.ofNat 8 data]

/-- The words of the firmware measurement. -/
def State.fwMeas (s : State) : List Word := (List.range 8).map fun k => s.reg .secMeasFw k

/-- Bytes of the certificate chain from an offset. -/
def State.certBytes (s : State) (off n : Nat) : List Byte :=
  (List.range n).map fun i => Config.certByte s.boot.fuses.serial s.fwMeas (off + i)

/-- Length of the chain. -/
def State.certLen (s : State) : Nat := Config.certLen s.boot.fuses.serial s.fwMeas

/-- The signature of a message: 132 bytes under the alias key. -/
def State.sign (s : State) (msg : List Byte) : List Byte :=
  (List.range 132).map fun i => Config.sigByte s.boot.fuses.serial s.fwMeas msg i

/-- The 64 bytes of a digest. -/
def digestBytes (d : Nat) : List Byte := beBytes 64 d

/-- The digest of the chain. -/
def State.certDigest (s : State) : List Byte := digestBytes (sha512 (s.certBytes 0 s.certLen))

/-- A request is answered: Busy while the controller restarts (R582) or while a table digest is being formed,
since one request is outstanding at a time, and UnexpectedRequest before the exchange has reached `need`. -/
def State.spdmAsk (s : State) (need : Nat) (f : State → State) : State :=
  if !s.boot.running || s.boot.walk.isSome then s.spdmError 3 0
  else if s.boot.spdm < need then s.spdmError 4 0
  else f s

/-- GET_VERSION: SPDM 1.3. It starts an exchange again. -/
def State.getVersion (s : State) : State :=
  if !s.boot.running then s.spdmError 3 0
  else (s.setBoot fun b => { b with spdm := 1, walk := none }).answer 0x04 [0, 1, 0x00, 0x13]

/-- The exchange reaches a stage. -/
def State.spdmAt (s : State) (n : Nat) : State := s.setBoot fun b => { b with spdm := Nat.max n b.spdm }

/-- GET_CAPABILITIES: messages up to 4,096 bytes. -/
def State.getCaps (s : State) : State := s.spdmAsk 1 fun s => (s.spdmAt 2).answer 0x61 (leBytes 4 4096)

/-- NEGOTIATE_ALGORITHMS: ECDSA P-521, SHA-512, SHA-512. -/
def State.getAlgs (s : State) : State :=
  s.spdmAsk 2 fun s => (s.spdmAt 3).answer 0x63 (leBytes 4 8 ++ leBytes 4 0x100 ++ leBytes 4 4)

/-- GET_DIGESTS: slot 0. -/
def State.getDigests (s : State) : State := s.spdmAsk 3 fun s => s.answer 0x01 (1 :: s.certDigest)

/-- GET_CERTIFICATE. -/
def State.getCert (s : State) (slot off len : Nat) : State :=
  s.spdmAsk 3 fun s =>
    if slot ≠ 0 || s.certLen ≤ off then s.spdmError 1 0
    else
      let n := Nat.min (Nat.min len 4000) (s.certLen - off)
      s.answer 0x02 (leBytes 2 n ++ leBytes 2 (s.certLen - off - n) ++ s.certBytes off n)

/-- CHALLENGE. -/
def State.challenge (s : State) (slot : Nat) (nonce : List Byte) : State :=
  s.spdmAsk 3 fun s =>
    if slot ≠ 0 then s.spdmError 1 0
    else
      let body := (0 : Byte) :: s.certDigest
      s.answer 0x03 (body ++ s.sign (body ++ nonce))

/-! ## Table digests (R595) -/

/-- A 32-byte record. -/
def recBytes (a b c d : Word) : List Byte := [a, b, c, d].flatMap fun w => leBytes 8 w.toNat

/-- The exact-match records of a version: no learned entry, in ascending key word. -/
def State.emDigest (s : State) (e : Bool) : List Byte :=
  let l := s.tbl.em.filter fun x => x.2.vmask &&& vbit e ≠ 0 && !bit x.2.data 25
  (sortBy (fun x => x.2.key.toNat) l).flatMap fun x => recBytes x.2.key (setBits x.2.data 26 25 0) 0 0

/-- The LPM records of a version, by family, length and address. -/
def State.lpmDigest (s : State) (e : Bool) : List Byte :=
  let l := s.tbl.lpm.filter fun p => p.vmask &&& vbit e ≠ 0
  let key := fun (p : Prefix) => (b2n p.v6 * 256 + p.len) * 2 ^ 128 + p.addr
  (sortBy key l).flatMap fun p =>
    recBytes (at_ 63 (b2n p.v6) ||| at_ 56 p.len) (BitVec.ofNat 64 (p.addr / 2 ^ 64)) (BitVec.ofNat 64 p.addr) (at_ 0 p.result)

/-- The group entries of a version. -/
def State.mcDigest (s : State) (e : Bool) : List Byte :=
  (List.range 16384).flatMap fun g => leBytes 8 (setBit (s.mcEntry e g) 45 false).toNat

/-- The digest of a table version. -/
def State.tableDigest (s : State) (e : Bool) : Nat := sha512 (s.emDigest e ++ s.lpmDigest e ++ s.mcDigest e)

/-! ## Measurements (R594) -/

/-- The measurement of a program bank: zero after a refused load, or during a load of the bank. -/
def State.bankMeas (s : State) (e : Nat) : List Byte :=
  if s.stn.loadState = 1 && s.stn.loadEpoch = e then List.replicate 64 0
  else (List.range 8).flatMap fun k => wordBytes (s.reg .stnMeas (8 * e + k))

/-- One block. Table digests are those of the walk. -/
def State.block (s : State) (dig : Nat × Nat) (i : Nat) : List Byte :=
  if i = 1 then (List.range 64).map Config.romByte
  else if i = 2 then s.fwMeas.flatMap wordBytes
  else if i = 3 then leBytes 4 (bits s.bootWord 47 16)
  else if i = 4 then s.bankMeas 0
  else if i = 5 then s.bankMeas 1
  else if i = 6 then digestBytes dig.1
  else if i = 7 then digestBytes dig.2
  else leBytes 8 (s.reg .devIdent 0).toNat ++ leBytes 8 s.epochWord.toNat

/-- The response to GET_MEASUREMENTS: index 0 asks for how many blocks there are, and 0xFF for all. -/
def State.measure (s : State) (index : Nat) (signed : Bool) (nonce : List Byte) (dig : Nat × Nat) : State :=
  let l := if index = 0 then [] else if index = 0xFF then rangeFrom 1 9 else [index]
  let body := (BitVec.ofNat 8 (if index = 0 then 8 else l.length) : Byte) ::
    l.flatMap fun i => BitVec.ofNat 8 i :: s.block dig i
  s.answer 0x60 (if signed then body ++ s.sign (body ++ nonce) else body)

/-- GET_MEASUREMENTS: while a table digest is being formed the answer is ResponseNotReady, with a token. -/
def State.getMeas (s : State) (index : Nat) (signed : Bool) (nonce : List Byte) : State :=
  s.spdmAsk 3 fun s =>
    if index = 6 || index = 7 || index = 0xFF then
      let w : DigestWalk := { index := index, signed := signed, nonce := nonce }
      let s := s.setBoot fun b => { b with walk := some w, token := (b.token + 1) % 256 }
      s.spdmError 0x42 s.boot.token
    else if index ≤ 8 then s.measure index signed nonce (0, 0)
    else s.spdmError 1 0

/-- TABLE_DIGEST_WALK_DONE. -/
def State.walkDone (s : State) : State :=
  match s.boot.walk with
  | some w =>
    if 3 ≤ w.restarts then s
    else s.setBoot fun b => { b with walk := some { w with digests := some (s.tableDigest false, s.tableDigest true) } }
  | none => s

/-- A command program changes the versions of M: a walk of one of them starts again. -/
def State.walkTouched (s : State) (M : Nat) : State :=
  match s.boot.walk with
  | some w =>
    let hit := w.index = 0xFF || w.index = 6 && M &&& 1 ≠ 0 || w.index = 7 && M &&& 2 ≠ 0
    if hit && w.digests.isNone then s.setBoot fun b => { b with walk := some { w with restarts := w.restarts + 1 } } else s
  | none => s

/-- RESPOND_IF_READY: after three restarts the response is Busy. -/
def State.respond (s : State) (token : Nat) : State :=
  if !s.boot.running then s.spdmError 3 0
  else
    match s.boot.walk with
    | none => s.spdmError 4 0
    | some w =>
      if token ≠ s.boot.token then s.spdmError 1 0
      else
        match w.digests with
        | some d => (s.setBoot fun b => { b with walk := none }).measure w.index w.signed w.nonce d
        | none =>
          if 3 ≤ w.restarts then (s.setBoot fun b => { b with walk := none }).spdmError 3 0
          else s.spdmError 0x42 s.boot.token

/-- A request that the part does not support. -/
def State.unsupported (s : State) (code : Nat) : State :=
  if s.boot.running then s.spdmError 7 code else s.spdmError 3 0

end Sys2Proof.Machine
end

