-- ==== Sys2Proof/Machine/BootCmds.lean ====
section
/-! DEFINITION. The meanings of the commands of resets, start-up and attestation (20_boot_and_security.md; 14 R405,
R426). -/

namespace Sys2Proof.Machine

/-- PATROL_READ (14 R404, R405). An uncorrectable word of the controller's memory resets the controller. -/
def execPatrolRead (mem die addr : Nat) (kind : EccKind) (s : State) : Out :=
  run (.patrolRead mem die addr kind) s fun s =>
    let t := s.patrol mem die addr kind
    if mem = 0x10 && kind = .double then t.ctlReset else t

/-- WATCHDOG_EXPIRY: the watchdog runs while the firmware does (14 R426). -/
def execWatchdogExpiry (s : State) : Out :=
  run .watchdogExpiry s fun s => if s.boot.running then s.watchdog else s

/-- POWER_ON_RESET (20 R580; 21 R609, R620). -/
def execPowerOnReset (testMode bootSrc : Bool) (s : State) : Out :=
  runAlways (.powerOnReset testMode bootSrc) s fun s => s.powerOn testMode bootSrc

/-- FUNDAMENTAL_RESET: PERST# is asserted (20 R580; 21 R613). -/
def execFundamentalReset (s : State) : Out := runAlways .fundamentalReset s fun s => s.perst

/-- SOFTWARE_RESET (20 R580). -/
def execSoftwareReset (s : State) : Out := run .softwareReset s fun s => s.softReset

/-- FUNCTION_RESET (20 R580; 18 R551). -/
def execFunctionReset (linkDown : Bool) (s : State) : Out :=
  run (.functionReset linkDown) s fun s => s.fnReset linkDown

/-- CONTROLLER_RESET (20 R580, R582). -/
def execControllerReset (s : State) : Out := run .controllerReset s fun s => s.ctlReset

/-- BOOT_STEP_ADVANCE (20 R583). -/
def execBootStepAdvance (s : State) : Out := run .bootStepAdvance s fun s => s.bootAdvance

/-- BOOT_IMAGE_READ (20 R584, R585). -/
def execBootImageRead (src : ImageSource) (image : Option (List Byte)) (sigOk : Bool) (s : State) : Out :=
  run (.bootImageRead src image sigOk) s fun s => s.imageRead src image sigOk

/-- BOOT_GO: a write of addr and go (20 R598). -/
def execBootGo (addr : Nat) (s : State) : Out := run (.bootGo addr) s fun s => s.bootGo addr

/-- WRITE_SLOT (20 R589). -/
def execWriteSlot (s : State) : Out := run .writeSlot s fun s => s.slotStart

/-- WRITE_SLOT_DONE (20 R589). -/
def execWriteSlotDone (image : Option (List Byte)) (sigOk flashOk : Bool) (s : State) : Out :=
  run (.writeSlotDone image sigOk flashOk) s fun s => s.slotEnd image sigOk flashOk

/-- ACTIVATE (20 R590). -/
def execActivate (s : State) : Out := run .activate s fun s => s.activateNew

/-- CONFIRM (20 R590). -/
def execConfirm (s : State) : Out := run .confirm s State.confirm

/-- SVN_COMMIT (20 R591). -/
def execSvnCommit (s : State) : Out := run .svnCommit s fun s => s.commitSvn

/-- TRIAL_TIMEOUT (20 R590). -/
def execTrialTimeout (s : State) : Out := run .trialTimeout s fun s => if s.trialDue then s.revertTrial else s

/-- GET_VERSION (20 R593). -/
def execGetVersion (s : State) : Out := run .getVersion s State.getVersion

/-- GET_CAPABILITIES (20 R593). -/
def execGetCapabilities (s : State) : Out := run .getCapabilities s State.getCaps

/-- NEGOTIATE_ALGORITHMS (20 R593). -/
def execNegotiateAlgorithms (s : State) : Out := run .negotiateAlgorithms s State.getAlgs

/-- GET_DIGESTS (20 R593). -/
def execGetDigests (s : State) : Out := run .getDigests s State.getDigests

/-- GET_CERTIFICATE (20 R593). -/
def execGetCertificate (slot off len : Nat) (s : State) : Out :=
  run (.getCertificate slot off len) s fun s => s.getCert slot off len

/-- CHALLENGE (20 R593). -/
def execChallenge (slot : Nat) (nonce : List Byte) (s : State) : Out :=
  run (.challenge slot nonce) s fun s => s.challenge slot nonce

/-- GET_MEASUREMENTS (20 R594, R595). -/
def execGetMeasurements (index : Nat) (signed : Bool) (nonce : List Byte) (s : State) : Out :=
  run (.getMeasurements index signed nonce) s fun s => s.getMeas index signed nonce

/-- RESPOND_IF_READY (20 R593, R595). -/
def execRespondIfReady (token : Nat) (s : State) : Out :=
  run (.respondIfReady token) s fun s => s.respond token

/-- TABLE_DIGEST_WALK_DONE (20 R595). -/
def execTableDigestWalkDone (s : State) : Out := run .tableDigestWalkDone s State.walkDone

/-- UNSUPPORTED_SPDM_REQUEST (20 R593). -/
def execUnsupportedSpdmRequest (code : Nat) (s : State) : Out :=
  run (.unsupportedSpdmRequest code) s fun s => s.unsupported code

end Sys2Proof.Machine
end

