-- ==== Sys2Proof/Machine/Balls.lean ====
section
/-! DEFINITION. The balls of the package: what each carries, and the cells of the boundary register
(21_package_electrical_test.md R603 to R606, R619). -/

namespace Sys2Proof.Machine

/-! ## Names (R603) -/

/-- The letters of the rows, in order. -/
def rowAlphabet : List Char := ['A', 'B', 'C', 'D', 'E', 'F', 'G', 'H', 'J', 'K', 'L', 'M', 'N', 'P', 'T', 'U', 'V', 'W', 'Y']

/-- The letters of row 1 to 112. -/
def rowName (row : Nat) : List Char :=
  let k := row - 1
  let low := rowAlphabet.getD (k % 19) 'A'
  if k < 19 then [low] else [rowAlphabet.getD (k / 19 - 1) 'A', low]

/-! ## What a ball carries (R604 to R606) -/

/-- A rail of the board (R604, R608). -/
inductive Rail where
  | vddq | vengW | vengE | vlas | vana | vaon | vinW | vinE
deriving DecidableEq, Repr

/-- A signal of a DDR5 subchannel (R605). `neg`: the _C ball of a pair. -/
inductive DdrSignal where
  | dq (n : Nat)
  | cb (n : Nat)
  | dqs (n : Nat) (neg : Bool)
  | ca (n : Nat)
  | par
  | csN (n : Nat)
  | ck (neg : Bool)
deriving DecidableEq, Repr

/-- A signal of rows T to Y (R606). `neg`: the _N ball of a pair. -/
inductive PinName where
  | peTx (lane : Nat) (neg : Bool)
  | peRx (lane : Nat) (neg : Bool)
  | peRefclk (neg : Bool)
  | perstN
  | tref (neg : Bool)
  | timeOut (neg : Bool)
  | cktXi
  | cktXo
  | xspiCk
  | xspiCsN
  | xspiDs
  | xspiIo (n : Nat)
  | sbScl (k : Nat)
  | sbSda (k : Nat)
  | thermAlarmN
  | bootSrc
  | testMode
  | tck
  | tms
  | tdi
  | tdo
  | trstN
deriving DecidableEq, Repr

/-- What a ball carries. `ddr chan sub sig`: subchannel A is 0. -/
inductive Ball where
  | gnd
  | nc
  | rail (r : Rail)
  | ddr (chan sub : Nat) (sig : DdrSignal)
  | alertN (chan : Nat)
  | resetN (chan : Nat)
  | pin (p : PinName)
deriving DecidableEq, Repr

/-- The signal of place `k`, 0 to 71, of a subchannel (R605). -/
def ddrSignal (k : Nat) : DdrSignal :=
  if k < 32 then .dq k
  else if k < 40 then .cb (k - 32)
  else if k < 60 then .dqs ((k - 40) / 2) (k % 2 = 1)
  else if k < 67 then .ca (k - 60)
  else if k = 67 then .par
  else if k < 70 then .csN (k - 68)
  else .ck (k = 71)

/-- Ball `k` of the odd-parity balls of a channel's block (R605). -/
def ddrBall (chan k : Nat) : Ball :=
  if k < 144 then .ddr chan (k / 72) (ddrSignal (k % 72))
  else if k = 144 then .alertN chan
  else if k = 145 then .resetN chan
  else .nc

/-- A pair of balls. -/
def pinPair (f : Bool → PinName) : List Ball := [.pin (f false), .pin (f true)]

/-- The signals of row 15 to 19 in the order of the columns (R606). -/
def pinRow (row : Nat) : List Ball :=
  let lanes (f : Nat → Bool → PinName) : List Ball := (List.range 4).flatMap fun n => pinPair (f n)
  if row = 15 then lanes .peTx ++ pinPair .peRefclk ++ [.pin .perstN, .nc]
  else if row = 16 then lanes .peRx ++ pinPair .tref ++ pinPair .timeOut
  else if row = 17 then
    [.cktXi, .cktXo, .xspiCk, .xspiCsN, .xspiDs].map .pin ++ (List.range 7).map fun n => .pin (.xspiIo n)
  else if row = 18 then
    [.pin (.xspiIo 7)] ++ (List.range 4).flatMap (fun k => [.pin (.sbScl k), .pin (.sbSda k)])
      ++ [.thermAlarmN, .bootSrc, .testMode].map .pin
  else [.tck, .tms, .tdi, .tdo, .trstN].map .pin

/-- The DDR5 channel whose block holds a ball (R604). -/
def ddrChan (row col : Nat) : Option Nat :=
  let blk := (col - 1) / 28
  if row ≤ 14 then some ([0, 1, 4, 5].getD blk 0)
  else if 99 ≤ row then some ([2, 3, 6, 7].getD blk 0)
  else none

/-- What a ball carries (R604). -/
def ball (row col : Nat) : Ball :=
  if (row + col) % 2 = 0 then .gnd
  else
    match ddrChan row col with
    | some c => ddrBall c (14 * (if row ≤ 14 then row - 1 else row - 99) + (col - 1) % 28 / 2)
    | none =>
      if row < 20 then if 24 < col then .rail .vddq else (pinRow row).getD ((col - 1) / 2) .nc
      else if 94 ≤ row then .rail .vddq
      else if col ≤ 8 then .rail .vengW
      else if 105 ≤ col then .rail .vengE
      else if col ≤ 10 || 103 ≤ col then .rail .vlas
      else if col ≤ 14 && row ≤ 25 then .rail .vana
      else if col ≤ 14 && row ≤ 29 then .rail .vaon
      else if col ≤ 56 then .rail .vinW
      else .rail .vinE

/-! ## The boundary register (R619) -/

/-- A cell of the boundary register. -/
inductive Cell where
  | input | output | control
deriving DecidableEq, Repr

/-- The cells of a ball, in their order. -/
def Ball.cells : Ball → List Cell
  | .ddr _ _ (.dq _) | .ddr _ _ (.cb _) | .ddr _ _ (.dqs _ _) => [.input, .output, .control]
  | .ddr _ _ _ | .resetN _ => [.output, .control]
  | .alertN _ => [.input]
  | .pin p =>
    match p with
    | .peTx _ _ | .thermAlarmN | .timeOut _ | .xspiCk | .xspiCsN => [.output, .control]
    | .peRx _ _ | .perstN | .bootSrc | .xspiDs => [.input]
    | .xspiIo _ | .sbScl _ | .sbSda _ => [.input, .output, .control]
    | _ => []
  | _ => []

/-- The cells of a row, from the lowest column, each with its column. -/
def rowCells (row : Nat) : List (Nat × Cell) :=
  (List.range 112).flatMap fun c => (ball row (c + 1)).cells.map fun x => (c + 1, x)

/-- The boundary register from TDI to TDO: row, column and cell. -/
def boundaryCells : List (Nat × Nat × Cell) :=
  (List.range 112).flatMap fun r => (rowCells (r + 1)).map fun x => (r + 1, x.1, x.2)

end Sys2Proof.Machine
end

