-- ==== Sys2Proof/Machine/Pins.lean ====
section
/-! DEFINITION. The pins, the test port and the clock inputs (21_package_electrical_test.md R609 to R620, R625,
R626). -/

namespace Sys2Proof.Machine

/-! ## The TAP (R616 to R618) -/

/-- The TAP's instruction. -/
def State.setIr (s : State) (code : Nat) : State := { s with pins := { s.pins with ir := code } }

/-- An instruction that takes the pins: a fundamental reset of every block, with the link down, which holds until
PERST_N is next asserted. A power-trip hold stands. -/
def State.takePins (s : State) (code : Nat) : State :=
  let t := s.deviceReset false
  { t with
    pins := { t.pins with ir := code, tapHold := true, alarmLow := s.pwr.trip.isSome },
    pwr := { t.pwr with trip := s.pwr.trip } }

/-- IDCODE: the identification register. -/
def State.idcode (s : State) : State := (s.setIr 0x01).emit (.tdo 0x25E169E7)

/-- ECID: SEC_ID. -/
def State.ecid (s : State) : State := (s.setIr 0x10).emit (.tdo s.boot.fuses.serial.toNat)

/-- SAMPLE/PRELOAD: the boundary register holds what its 3,373 cells captured or were loaded with, cell `k` of
`boundaryCells` in bit k. -/
def State.sample (s : State) (cells : Nat) : State :=
  let s := s.setIr 0x02
  { s with pins := { s.pins with boundary := cells % 2 ^ 3373 } }

/-! ## References and supplies (R609, R611, R612) -/

/-- TREF_LOST: the synthesizer takes over without a step. -/
def State.refLost (s : State) : State :=
  if !s.pins.refOk then s
  else
    let s : State := { s with pins := { s.pins with refOk := false, refSel := true } }
    ((s.setFlag .devPkgStatus 0 2 true).bump .devPkgStatus 0 47 32 1).raise .refLost []

/-- TREF_RESTORE: TREF has been good for 10 ms; the part returns to it at a boundary. -/
def State.refBack (s : State) : State := { s with pins := { s.pins with refOk := true } }

/-- The part returns to TREF, at a boundary. -/
def State.refReturn (s : State) : State :=
  if s.pins.refOk && s.pins.refSel then
    ({ s with pins := { s.pins with refSel := false } }).raise .refBack []
  else s

/-- VAON_FALL: the part stops until a power-on reset. -/
def State.vaonFalls (s : State) : State := { s with pins := { s.pins with vaonLow := true } }

/-- DEV_PKG_STATUS. ref_ok is 0 after every reset (R612, R626), until the PLLs have locked at step 5 of 20 R583 (log
entry 73). -/
def State.pkgWord (s : State) : Word :=
  let p := s.pins
  s.reg .devPkgStatus 0 ||| at_ 5 (b2n s.boot.fuses.prod) ||| at_ 4 (b2n p.testSeen) ||| at_ 3 (b2n p.bootSrc)
    ||| at_ 1 (b2n p.refSel) ||| at_ 0 (b2n (p.refOk && s.beat.running))

end Sys2Proof.Machine
end

