-- ==== Sys2Proof/Machine/PinCmds.lean ====
section
/-! DEFINITION. The meanings of the commands of the pins, the TAP and the supplies
(21_package_electrical_test.md). -/

namespace Sys2Proof.Machine

/-- EXTEST (21 R617, R618). -/
def execExtest (s : State) : Out := runAlways .extest s fun s => s.takePins 0x00

/-- IDCODE (21 R616). -/
def execIdcode (s : State) : Out := runAlways .idcode s State.idcode

/-- SAMPLE/PRELOAD (21 R617, R619). -/
def execSamplePreload (sampled : Nat) (s : State) : Out :=
  runAlways (.samplePreload sampled) s fun s => s.sample sampled

/-- EXTEST_PULSE (21 R617, R618). -/
def execExtestPulse (s : State) : Out := runAlways .extestPulse s fun s => s.takePins 0x03

/-- EXTEST_TRAIN (21 R617, R618). -/
def execExtestTrain (s : State) : Out := runAlways .extestTrain s fun s => s.takePins 0x04

/-- CLAMP (21 R617, R618). -/
def execClamp (s : State) : Out := runAlways .clamp s fun s => s.takePins 0x05

/-- HIGHZ (21 R617, R618). -/
def execHighz (s : State) : Out := runAlways .highz s fun s => s.takePins 0x06

/-- ECID (21 R617). -/
def execEcid (s : State) : Out := runAlways .ecid s State.ecid

/-- BYPASS (21 R617). -/
def execBypass (s : State) : Out := runAlways .bypass s fun s => s.setIr 0xFF

/-- TAP_RESET: the instruction is IDCODE again; a hold of R618 stands (21 R616, R618). -/
def execTapReset (s : State) : Out := runAlways .tapReset s fun s => s.setIr 0x01

/-- TREF_LOST (21 R611). -/
def execTrefLost (s : State) : Out := runAlways .trefLost s State.refLost

/-- TREF_RESTORE (21 R611). -/
def execTrefRestore (s : State) : Out := runAlways .trefRestore s State.refBack

/-- VAON_FALL (21 R609). -/
def execVaonFall (s : State) : Out := runAlways .vaonFall s State.vaonFalls

/-- PERST_N_RELEASE (20 R583; 21 R613). -/
def execPerstNRelease (bootSrc : Bool) (s : State) : Out :=
  runAlways (.perstNRelease bootSrc) s fun s => s.perstRelease bootSrc

end Sys2Proof.Machine
end

