-- ==== Sys2Proof/Machine/Apply.lean ====
section
/-! DEFINITION. Register writes that take effect at a boundary (00 R8; 02 R32), with what a write brings about beside
the register's own fields. -/

namespace Sys2Proof.Machine

/-- A cut of a port's work that the part itself makes: due in step 2 of the next boundary, with outcome 5
(03 R57, R58; 06 R150; 15 R447). -/
def State.internalCut (s : State) (p : Nat) : State := s.schedule_ 0 p 5 false

/-- The lanes of the port at n, where the register names one. -/
def State.lanesOf (s : State) (n : Nat) : List Nat := if s.portValid n then s.portLanes n else []

/-- A write of STN_PORT_n takes effect (03 R57): a change of valid, mode or width cuts the port's work and retrains
the lanes of the old arrangement and of the new one. -/
def State.applyPort (s : State) (n : Nat) (val : Word) : State :=
  let old := s.reg .stnPort n
  let before := s.lanesOf n
  let s := s.putRw .stnPort n val
  let new := s.reg .stnPort n
  if bits old 6 5 = bits new 6 5 && bit old 9 = bit new 9 && bit old 0 = bit new 0 then s
  else
    let lanes := (before ++ s.lanesOf n).eraseDups
    let s := lanes.foldl (fun (s : State) m => s.laneToTrain m 11) s
    if lanes = [] then s else s.internalCut n

/-- The ports that share a lane with another valid port. -/
def State.conflicts (s : State) : List Nat := s.validPorts.filter s.portConflict

/-- Judge conflicts after the writes of a boundary (03 R58): the work of ports newly in conflict is cut, with one
event that names them; ports whose conflict is gone come back at the next boundary. -/
def State.judgeConflicts (s : State) : State :=
  let now := s.conflicts
  let fresh := now.filter fun p => !s.lnk.conflict.contains p
  let gone := s.lnk.conflict.filter fun p => !now.contains p && s.portValid p
  let s : State := { s with lnk := { s.lnk with conflict := now } }
  let s := if fresh = [] then s else fresh.foldl State.internalCut (s.raise .portConfig fresh)
  gone.foldl (fun (s : State) p => s.comesBack 0 p) s

/-- A write of STR_LEAF_n takes effect (03 R78): an event where another valid leaf names the same port. -/
def State.applyStrLeaf (s : State) (n : Nat) (val : Word) : State :=
  let s := s.putRw .strLeaf n val
  let twin := (List.range 256).filter fun m =>
    m ≠ n && s.flag .strLeaf m 16 && s.fld .strLeaf m 9 0 = s.fld .strLeaf n 9 0
  if s.flag .strLeaf n 16 && twin ≠ [] then s.raise .leafConfig (n :: twin) else s

/-- A write of BUF_CREDIT_n takes effect: where C rises, G rises with it (07 R187). -/
def State.applyCredit (s : State) (n : Nat) (val : Word) : State :=
  ((s.lanesOf n).filter s.laneUp).foldl State.advanceG (s.putRw .bufCredit n val)

/-- A write that may change the period of an internal trigger (16 R477): the next point is of the new grid. -/
def State.applyPeriod (s : State) (k : RegKind) (i : Nat) (val : Word) : State :=
  let t := s.putRw k i val
  let now := s.time.ns
  if k = .leCfg then
    if s.calGrid i = t.calGrid i then t else t.setCalAt i (some (t.calAfter i now))
  else if k = .bypCfg then
    if s.planePeriod = t.planePeriod then t
    else { t with time := { t.time with planeAt := if t.planePeriod = 0 then none else some (gridAfter 0 t.planePeriod now) } }
  else if s.testPeriod = t.testPeriod then t
  else { t with time := { t.time with testAt := some (gridAfter 0 t.testPeriod now) } }

/-- A write of RED_SEED_c takes effect (12 R377): every cell holds what the seed loads. -/
def State.applySeed (s : State) (c : Nat) (val : Word) : State :=
  let s := s.putRw .redSeed c val
  { s with red := { s.red with lfsr := s.red.lfsr.filter fun e => e.1 / 128 ≠ c } }

/-- A write of a register takes effect at a boundary. -/
def State.applyWrite (s : State) (k : RegKind) (i : Nat) (val : Word) : State :=
  match k with
  | .stnPort => s.applyPort i val
  | .strLeaf => s.applyStrLeaf i val
  | .bufCredit => s.applyCredit i val
  | .bufStgCarve => s.writeCarve val
  | .qshPc => (s.putRw k i val).writeShaper i (s.reg k i) ((s.putRw k i val).reg k i)
  | .qshPart => (s.putRw k i val).writeShaper (8192 + i) (s.reg k i) ((s.putRw k i val).reg k i)
  | .leCfg => s.applyPeriod k i val
  | .bypCfg => s.applyPeriod k i val
  | .intFtCfg => s.applyPeriod k i val
  | .leLaser => (s.putRw k i val).applyLaser i val
  | .leLane => (s.putRw k i val).applyLane i val
  | .leCalCtrl => (s.putRw k i val).applyCalCtrl i val
  | .bypPlane => s.applyPlane i val
  | .bypLeaf => s.applyBypLeaf i val
  | .timeTrigCtl => s.applyTrigCtl i val
  | .timeTrigSec => s.applyTrigTarget k i val
  | .timeTrigNs => s.applyTrigTarget k i val
  | .timeDomCfg => s.applyDomCfg val
  | .cntCicadaCfg => s.applyCicadaCfg val
  | .cntCicadaCtrl => s
  | .cntCfg => s.applyCntCfg val
  | .cntTrace => s.applyTrace i val
  | .cntProg => s.applyProg i val
  | .cntAlloc => s.cntRelease (bits val 44 32) (bits val 8 0)
  | .strCmpCtrl => s.applyCmpCtrl val
  | .strEmSeed => s.applyEmSeed val
  | .intFtCtrl => (s.putRw k i val).applyFtCtrl val
  | .intClu => s.lowerStep i (bits val 61 58)
  | .redSeed => s.applySeed i val
  | .pwrDom => s.applyDom i val
  | .secBootCtrl => if bit val 0 then s.bootGo (bits val 63 12 * 4096) else s.putRw k i val
  | _ => s.putRw k i val

/-- The writes due at a boundary take effect in the order in which they completed; one that came within the last 32
cycles of its beat waits for the next (02 R32). -/
def State.writesDue (s : State) : State :=
  let l := s.regs.pend
  let s : State := { s with regs := { s.regs with
      pend := (l.filter (·.late)).map fun p => { p with late := false } } }
  (l.filter fun p => !p.late).foldl (fun (s : State) p => s.applyWrite p.kind p.idx p.val) s

end Sys2Proof.Machine
end

