-- ==== Sys2Proof/Machine/Regs.lean ====
section
/-! DEFINITION. Reads and writes of BAR0 registers (00_scope.md R2 to R8; 02 R45 to R47; 18 R514, R517, R540), and
which writes a register's description ignores. -/

namespace Sys2Proof.Machine

/-! ## What a register reads as -/

/-- A live counter of the counter block. A read of one of a core slice that is off does not come here: it ends as 02 R45
states (17 R489). -/
def State.counterWord (s : State) (key : Nat) : Word := BitVec.ofNat 64 (SMap.get 0 s.cnt.live key)

/-- CNT_CICADA_CTRL busy. -/
def State.dumpBusy (s : State) : Bool := s.cnt.dump.isSome

/-- The RO fields of a register that the rest of the state shows; `none` where the register itself holds them. -/
def State.roWord (s : State) (k : RegKind) (i : Nat) : Option Word :=
  match k with
  | .devPkgStatus => some s.pkgWord
  | .beatStatus => some s.beatStatusWord
  | .beatC7Susp => some (s.c7Word i)
  | .leCalCtrl => some (s.calCtrlWord i)
  | .leCalPend => some (s.calPendWord i)
  | .leLoop => some (s.loopWord i)
  | .leLaser => some (s.laserWord i)
  | .leLane => some (s.laneWord i)
  | .bypPlane => some (s.planeWord i)
  | .bypLeaf => some (s.bleafWord i)
  | .bypCirc => some (s.circWord i)
  | .stnPort => some (at_ 15 (b2n (s.portValid i && s.portConflict i)))
  | .stnEpoch => some s.epochWord
  | .stnDrain => some (s.drainWord (i = 1))
  | .stnLoadStatus => some s.loadStatusWord
  | .stnHoldStatus =>
    some (at_ 32 (s.net.streams.filter fun t => t.stage = .penHeld || t.stage = .seqHeld).length ||| at_ 0 s.net.seqUsed)
  | .stnDisMap => some (s.disMapWord false (i / 64) (i % 64))
  | .stnDrainMap => some (s.disMapWord true (i / 64) (i % 64))
  | .stnPart => some (s.partWord i)
  | .strEmStatus => some s.emStatus
  | .strLpmStatus => some s.lpmStatus
  | .bufPc => some (at_ 42 (SMap.get 0 s.q.occ i))
  | .bufPartUse => some (s.partUseWord i)
  | .bufTileStatus => some s.tileStatusWord
  | .qshTok => some (at_ 0 (SMap.get 0 s.q.tok i % 2 ^ 36))
  | .fmemTrkStatus =>
    some (at_ 32 s.mem.trk.length ||| at_ 0 (Nat.min 131071 (s.net.streams.filter fun t => t.stage = .memWait).length))
  | .fmemPart => some (at_ 32 (s.trkUse i))
  | .collCtxStat => some (s.ctxStatWord i)
  | .intFtCtrl => some s.ftCtrlWord
  | .intRedStatus => some s.redStatusWord
  | .intClu => some (s.cluWord i)
  | .timeStatus => some s.timeStatusWord
  | .timeTrigCtl => some (at_ 62 (b2n (s.trigAt i).isSome))
  | .cntLane => some (s.counterWord (cntLane (i / 32) (i % 32)))
  | .cntPc => some (s.counterWord (cntPc (i / 4) (i % 4)))
  | .cntLeaf => some (s.counterWord (cntLeaf i))
  | .cntPool => some (s.counterWord (cntPool (i / 2) (i % 2)))
  | .cntUview => some (s.partCounter (s.fld .cntUviewSel 0 11 0) i)
  | .cntCicadaCtrl => some (setBit (s.reg .cntCicadaCtrl 0) 0 s.dumpBusy)
  | .hostCfg => some s.hostCfgWord
  | .hostCmdCtl => some (s.cringWord i)
  | .hostCmdIdx => some (s.cringIdxWord i)
  | .hostD2hStat => some (s.d2hStatWord i)
  | .hostDdrCfg => some s.ddrCfgWord
  | .hostDdrStatus => some (s.ddrStatusWord i)
  | .pwrDom => some (s.domWord i)
  | .secBootStatus => some s.bootWord
  | .secFwCtrl => some s.fwCtrlWord
  | .secId => some s.boot.fuses.serial
  | _ => none

/-- The fields of a register that software writes. -/
def softMask (k : RegKind) : Word := k.rwMask ||| k.w1cMask ||| k.rcMask

/-- What a read of a register returns, before the effects of the read (R3, R8). -/
def State.regValue (s : State) (k : RegKind) (i : Nat) : Word :=
  if k = .cntProg then
    match lastPend .cntProg i s.regs.pend with
    | some p => p.val
    | none => s.counterWord (cntProg i)
  else if k = .pwrDom then s.domWord i
  else if k = .bufStgCarve then
    match s.buf.carve with
    | some w => setBit (if (lastPend .bufStgCarve 0 s.regs.pend).isSome then s.shown k i else w &&& k.rwMask) 63 true
    | none => setBit (s.shown k i) 63 (lastPend .bufStgCarve 0 s.regs.pend).isSome
  else
    match s.roWord k i with
    | some w => (s.shown k i &&& softMask k) ||| (w &&& ~~~ (softMask k))
    | none => s.shown k i &&& ~~~ k.woMask

/-! ## Domains that are off (R45; 19 R554) -/

/-- The light engine whose controller holds a register, by its block of 64 KiB. -/
def engineOf (k : RegKind) (i : Nat) : Option Nat :=
  let o := k.off i
  if 0x200000 ≤ o && o < 0x300000 then some ((o - 0x200000) / 0x10000) else none

/-- The power domain that holds a register of the core outside domain 95: a reduction domain's seeds, and the counters of
a core slice (17 R489). -/
def coreDomain (k : RegKind) (i : Nat) : Option Nat :=
  match k with
  | .redSeed => some (i / 12)
  | .cntLane => some (80 + i / 32 / 128)
  | .cntPc => some (80 + i / 4 / 8 / 128)
  | _ => none

/-- The crossing that an access to a register cannot pass: the clock domain and the unit. -/
def State.offCrossing (s : State) (k : RegKind) (i : Nat) : Option (Nat × Nat) :=
  match engineOf k i with
  | some e => if s.engineOn e then none else some (4, e)
  | none =>
    match coreDomain k i with
    | some d => if (s.dom d).st = 2 then none else some (0, 0)
    | none => none

/-! ## Reads (R3, R5, R47) -/

/-- A wide set of more than one register, its lead first. -/
def wideSet (k : RegKind) (i : Nat) : List (RegKind × Nat) :=
  match k with
  | .timeNow0 => [(.timeNow0, 0), (.timeNow1, 0)]
  | .timeNow1 => [(.timeNow0, 0), (.timeNow1, 0)]
  | .stnMeas => (List.range 8).map fun j => (.stnMeas, i / 8 * 8 + j)
  | .cntUview => (List.range 64).map fun j => (.cntUview, j)
  | .secMeasFw => (List.range 8).map fun j => (.secMeasFw, j)
  | _ => []

/-- A reader's captured copies. -/
def State.captured (s : State) (rd : Reader) : SMap Word :=
  match rd with
  | .host => s.regs.capHost
  | .controller => s.regs.capMc

/-- Capture a value for a reader. -/
def State.putCaptured (s : State) (rd : Reader) (key : Nat) (v : Word) : State :=
  match rd with
  | .host => { s with regs := { s.regs with capHost := SMap.set 0 s.regs.capHost key v } }
  | .controller => { s with regs := { s.regs with capMc := SMap.set 0 s.regs.capMc key v } }

/-- Local time as its two registers show it. -/
def State.timeWord (s : State) (k : RegKind) (i : Nat) : Word :=
  if k = .timeNow0 then at_ 0 s.time.secOf
  else if k = .timeNow1 then at_ 32 s.time.nsOf ||| at_ 0 s.time.fracOf
  else s.regValue k i

/-- The read of a wide set's lead captures every register of the set. -/
def State.captureSet (s : State) (rd : Reader) (l : List (RegKind × Nat)) : State :=
  l.foldl (fun (s : State) x => s.putCaptured rd (x.1.off x.2 / 8) (s.timeWord x.1 x.2)) s

/-- The value of a register that a read itself changes or that is measured at the read, and the state after. -/
def State.readSpecial (s : State) (rd : Reader) (k : RegKind) (i : Nat) : Word × State :=
  let w := wideSet k i
  if !w.isEmpty then
    let s := if w.head? = some (k, i) then (if k = .timeNow0 then s.timeFree else s).captureSet rd w else s
    (SMap.get 0 (s.captured rd) (k.off i / 8), s)
  else if k = .beatNow then
    let s := s.timeFree
    (s.beatNowWord, s)
  else if k = .pwrThermStatus then s.thermRead
  else if k = .leStatus then s.engineRead i
  else if k = .leLaser then s.laserRead i (s.regValue k i)
  else if k = .leLane then s.laneRead i (s.regValue k i)
  else if k = .hostD2hPop then
    let s := if i % 8 = 0 then s.ringPop (i / 8) 0 else s
    ((s.ring (i / 8)).cap.getD (i % 8) 0, s)
  else (s.regValue k i, s)

/-- Read one register. Its RC fields are cleared, but for what hardware adds in the same cycle (R5). -/
def State.readReg (s : State) (rd : Reader) (hw : Word) (k : RegKind) (i : Nat) : Word × State :=
  match s.offCrossing k i with
  | some (dom, unit) => (BitVec.allOnes 64, s.crossingFault dom unit false)
  | none =>
    let (v, s) := s.readSpecial rd k i
    if k.rcMask = 0 then (v, s)
    else (v, s.setReg k i ((s.reg k i &&& ~~~ k.rcMask) ||| (hw &&& k.rcMask)))

/-- Read what stands at an offset: a reserved address reads as zero (R6). -/
def State.readAt (s : State) (rd : Reader) (hw : Word) (off : Nat) : Word × State :=
  match regAt off with
  | some (k, i) => s.readReg rd hw k i
  | none => (0, s)

/-- A BAR0 request that the endpoint takes (R2; 18 R514). -/
def tlpFits (t : Tlp) : Bool :=
  t.enables && t.len % 8 = 0 && 8 ≤ t.len && t.len ≤ 64 && t.off % 8 = 0 && t.off / 64 = (t.off + t.len - 1) / 64
    && inBlock t.off

/-- Read registers at rising offsets. -/
def State.readMany (s : State) (rd : Reader) (hw : Word) : List Nat → List Word × State
  | [] => ([], s)
  | o :: l =>
    let (v, s) := s.readAt rd hw o
    let (vs, s) := State.readMany s rd 0 l
    (v :: vs, s)

/-- The offsets of a request. -/
def tlpOffs (t : Tlp) : List Nat := (List.range (t.len / 8)).map fun j => t.off + 8 * j

/-- A BAR0 read. -/
def State.bar0Read (s : State) (rd : Reader) (t : Tlp) (hw : Word) : State :=
  if !tlpFits t then s.emit .cplUR
  else
    let (vs, s) := s.readMany rd hw (tlpOffs t)
    s.emit (.cplRegs vs)

/-! ## Writes (R3, R4, R8) -/

/-- Registers with an RW field, and those whose description says that a write takes effect at once. -/
def hasRw (k : RegKind) : Bool := k.rwMask ≠ 0

/-- The value that a queued write of STN_HOLD_CFG carries: the seed changes only while both epochs are CLOSED
(06 R170). -/
def State.holdCfgVal (s : State) (val : Word) : Word :=
  if s.stn.st0 = .closed && s.stn.st1 = .closed then val else setBits val 31 0 (bits (s.shown .stnHoldCfg 0) 31 0)

/-- A window that lies within its memory, or is not valid (10 R289). -/
def State.windowFits (s : State) (i : Nat) (val : Word) : Bool :=
  !bit val 63 || (bits val 57 29 + bits val 28 0) * 4096 ≤ (if i % 2 = 0 then s.spineSize else 2 ^ 22)

/-- The part is to ignore a write that completes now; its condition is judged at the write (R8). -/
def State.ignoresWrite (s : State) (k : RegKind) (i : Nat) (val : Word) : Bool :=
  match k with
  | .bufClsMin => !s.clsMinFits i val
  | .bufPartMin => s.pst i ≠ .free
  | .bufStgCarve => 128 < carveKib val
  | .bufSpillCfg => !s.buf.spill.isEmpty && bit val 0
  | .fmemWin => !(s.pst (i / 2) = .free || s.pst (i / 2) = .created) || !s.windowFits i val
  | .intPart => !(s.pst i = .free || s.pst i = .created)
  | .intClu => s.fld .intClu i 61 58 < bits val 61 58
  | .leLaser => bit val 1 && !s.canRetire i
  | .leLane => bit val 0 && (s.optLane i).st ≠ .failed
  | .cntPcfg => (bit val 63 && !s.held i) || !pcfgOk val
  | _ => false

/-- A write that waits for the boundary. Clearing an enable of the compare engine stops its pass at once (05 R141);
anchor_pref is kept while en is set (09 R274). -/
def State.laterWrite (s : State) (k : RegKind) (i : Nat) (val : Word) (late : Bool) : State :=
  if s.ignoresWrite k i val then
    if k = .bufClsMin then s.raise .bufConfig [i]
    else if k = .cntPcfg && !(bit val 63 && !s.held i) then s.bump .cntStatus 0 15 0 1
    else s
  else if k = .strCmpCtrl then (s.applyCmpCtrl (setBits (s.reg k 0) 2 0 (s.fld k 0 2 0 &&& bits val 2 0))).queueWrite k i val late
  else if k = .stnHoldCfg then s.queueWrite k i (s.holdCfgVal val) late
  else if k = .bypLeaf && bit (s.shown k i) 0 then
    s.queueWrite k i (setBits val 5 4 (bits (s.shown k i) 5 4)) late
  else if k.rwMask = 0 && k.woMask = 0 then s
  else s.queueWrite k i val late

/-- SEC_BOOT_CTRL: at the next boundary, or at once while no boundary comes (log entry 71). -/
def State.bootCtrl (s : State) (val : Word) (late : Bool) : State :=
  if s.beat.running then s.queueWrite .secBootCtrl 0 val late
  else if bit val 0 then s.bootGo (bits val 63 12 * 4096)
  else s.putRw .secBootCtrl 0 val

/-- A write of CNT_ALLOC (17 R500). -/
def State.allocWrite (s : State) (val : Word) (late : Bool) : State :=
  let n := bits val 8 0
  if n = 0 || 256 < n then s
  else if bit val 61 then (s.putRw .cntAlloc 0 val).queueWrite .cntAlloc 0 val late
  else s.cntAllocate n

/-- A write of STN_LOAD_CTRL (04 R108). -/
def State.loadCtrl (s : State) (val : Word) : State :=
  if !bit val 0 then s.putRw .stnLoadCtrl 0 val
  else if s.stn.loadState = 1 then s
  else (s.putRw .stnLoadCtrl 0 val).loadStart (bits val 8 8)

/-- A write of TIME_SET1 (16 R482). -/
def State.set1 (s : State) (val : Word) : State :=
  let s := s.putRw .timeSet1 0 val
  if bit val 0 then s.timeFree.setTime else s

/-- The effect of a write of one register on its RW and WO fields. A write of TIME_SET0, or of ns in TIME_SET1 without go,
takes effect at once, as the registers beside it do: the manual does not say when (DESIGN CHOICE, log entry 89). -/
def State.writeFields (s : State) (k : RegKind) (i : Nat) (val : Word) (late : Bool) : State :=
  match k with
  | .leLoop => s.loopWrite i val
  | .stnLoadCtrl => s.loadCtrl val
  | .timeInc => s.timeFree.putRw .timeInc 0 val
  | .timeSlew => s.timeFree.slew (bits val 63 48) (toSigned 48 (bits val 47 0))
  | .timeSet0 => s.putRw .timeSet0 0 val
  | .timeSet1 => s.set1 val
  | .timeStep => s.timeFree.stepTime (toSigned 64 val.toNat)
  | .cntUviewSel => s.putRw .cntUviewSel 0 val
  | .cntAlloc => s.allocWrite val late
  | .hostCfg => s.putRw .hostCfg 0 val
  | .hostBar2Page => s.putRw .hostBar2Page i val
  | .hostCmdBase => s.cringBase i val
  | .hostCmdCtl => s.cringCtl i val
  | .hostCmdIdx => s.doorbell i (bits val 63 32)
  | .hostD2hCfg => s.ringCfg i val
  | .hostD2hIrq => s.ringIrqWrite i val
  | .hostDdrCfg => s.ddrCfg val
  | .secFwCtrl => s.fwCtrl val
  | .secBootCtrl => s.bootCtrl val late
  | _ => s.laterWrite k i val late

/-- Clear the W1C bits that a write names; a bit that hardware sets in the same cycle stays set (R4). -/
def State.clearW1c (s : State) (k : RegKind) (i : Nat) (val hw : Word) : State :=
  if k.w1cMask = 0 then s
  else s.setReg k i ((s.reg k i &&& ~~~ (val &&& k.w1cMask)) ||| (hw &&& k.w1cMask))

/-- Write one register. -/
def State.writeReg (s : State) (hw : Word) (late : Bool) (k : RegKind) (i : Nat) (val : Word) : State :=
  match s.offCrossing k i with
  | some (dom, unit) => s.crossingFault dom unit false
  | none => (s.clearW1c k i val hw).writeFields k i val late

/-- Write what stands at an offset: a write of a reserved address is ignored. -/
def State.writeAt (s : State) (hw : Word) (late : Bool) (off : Nat) (val : Word) : State :=
  match regAt off with
  | some (k, i) => s.writeReg hw late k i val
  | none => s

/-- Write registers at rising offsets. -/
def State.writeMany (s : State) (hw : Word) (late : Bool) : List (Nat × Word) → State
  | [] => s
  | x :: l => State.writeMany (s.writeAt hw late x.1 x.2) 0 late l

/-- A BAR0 write. -/
def State.bar0Write (s : State) (t : Tlp) (vals : List Word) (hw : Word) (late : Bool) : State :=
  if !tlpFits t || vals.length ≠ t.len / 8 then s.emit .aerUR
  else s.writeMany hw late ((tlpOffs t).zip vals)

/-! ## Management frames (18 R542, R543) -/

/-- A management request may name this offset. -/
def mgmtMay (off : Nat) : Bool :=
  off % 8 = 0 && inBlock off && !(0x4A00000 ≤ off) && !(0x4640000 ≤ off && off < 0x4640048)

/-- The kind of a MGMT frame: none of its padding counts (03 R61). -/
def mgmtKind (t : Stream) : Nat := halfAt ((t.bytes.drop 48).take t.hdr.payLen) 0

/-- The first waiting MGMT frame of a kind, taken from the queue. While the return port holds a frame of the controller it
waits (07 R191). -/
def State.takeMgmt (s : State) (p : Nat → Bool) : Option (Stream × State) :=
  match if s.unitWaits .controller then none else s.net.mgmt.find? fun t => p (mgmtKind t) with
  | none => none
  | some t => some (t, { s with net := { s.net with mgmt := dropFirst (fun x => x.id = t.id) s.net.mgmt } })

/-- Words 1 and on of a frame's payload, most significant byte first. -/
def mgmtWords (t : Stream) : List Word := beWords (t.hdr.len / 8 - 1) (t.bytes.drop 56)

/-- Read registers for a MGMT frame, up to the first that is refused. -/
def State.mgmtReads (s : State) : List Word → List Word × Bool × State
  | [] => ([], true, s)
  | o :: l =>
    if !mgmtMay o.toNat then ([], false, s)
    else
      let (v, s) := s.readAt .controller 0 o.toNat
      let (vs, ok, s) := State.mgmtReads s l
      (v :: vs, ok, s)

/-- MGMT_READ: kind 0x0001. -/
def State.mgmtRead (s : State) : State :=
  match s.takeMgmt fun k => k = 1 with
  | none => s
  | some (t, s) =>
    let n := halfAt (t.bytes.drop 48) 2
    if n = 0 || 128 < n || t.hdr.len ≠ 8 + 8 * n then s.mgmtReply t.hdr 1 2 0 []
    else
      let (vs, ok, s) := s.mgmtReads (mgmtWords t)
      s.mgmtReply t.hdr 1 (if ok then 0 else 1) vs.length vs

/-- Pairs of an offset and a value. -/
def pairsOf : List Word → List (Nat × Word)
  | a :: b :: l => (a.toNat, b) :: pairsOf l
  | _ => []

/-- Writes in order, up to the first that is refused: how many were made. -/
def State.mgmtWrites (s : State) (late : Bool) : List (Nat × Word) → Nat × Bool × State
  | [] => (0, true, s)
  | x :: l =>
    if !mgmtMay x.1 then (0, false, s)
    else
      let (n, ok, s) := State.mgmtWrites (s.writeAt 0 late x.1 x.2) late l
      (n + 1, ok, s)

/-- MGMT_WRITE: kind 0x0002. -/
def State.mgmtWrite (s : State) (late : Bool) : State :=
  match s.takeMgmt fun k => k = 2 with
  | none => s
  | some (t, s) =>
    let n := halfAt (t.bytes.drop 48) 2
    if n = 0 || 64 < n || t.hdr.len ≠ 8 + 16 * n then s.mgmtReply t.hdr 2 2 0 []
    else
      let (m, ok, s) := s.mgmtWrites late (pairsOf (mgmtWords t))
      s.mgmtReply t.hdr 2 (if ok then 0 else 1) m []

/-- Post a program on the management ring. The words lie at pi of the ring, which moves past them. -/
def State.mgmtPost (s : State) (h : Hdr) (ws : List Word) : State :=
  let r := s.fld .hostMgmtCfg 0 5 0
  let pi := s.ringPi r
  if !s.flag .hostMgmtCfg 0 63 || !s.cringEn r || (s.cring r).error || 2 ^ s.cringLg r < s.ringAvail r + ws.length then
    s.mgmtReply h 3 3 0 []
  else
    let p : MgmtPost := { at_ := pi, hdr := h, words := ws }
    let s : State := { s with host := { s.host with mgmtIn := s.host.mgmtIn ++ [p] } }
    s.doorbell r ((pi + ws.length) % 2 ^ 32)

/-- MGMT_COMMAND: kind 0x0003. A frame of a kind that R542 does not give is taken here too, and answered with a
status that is free (log entry 72). -/
def State.mgmtCommand (s : State) : State :=
  match s.takeMgmt fun k => k ≠ 1 && k ≠ 2 && k ≠ 0x88F7 with
  | none => s
  | some (t, s) =>
    let k := mgmtKind t
    let ws := mgmtWords t
    let n := 2 + bits (ws.getD 0 0) 54 44
    if k ≠ 3 then
      let (f, s) := s.freshWord
      s.mgmtReply t.hdr k (f.toNat % 256) 0 []
    else if t.hdr.len ≠ 8 + 8 * n || bit (ws.getD 0 0) 63 then s.mgmtReply t.hdr 3 2 0 []
    else s.mgmtPost t.hdr ws

end Sys2Proof.Machine
end

