-- ==== Sys2Proof/Machine/Control.lean ====
section
/-! DEFINITION. The control sequencer: the control instructions of a command program and its application at a
boundary (04 R98, R111 to R115; 13 R399 to R401; 15 R440). -/

namespace Sys2Proof.Machine

/-- Why a control instruction fails: its status, and the insert that was refused, which is counted although the
program has no effect (05 R123): vmask, key and data. -/
structure CtlFail where
  status : Nat
  refused : Option (Nat × Word × Word) := none
  /-- The family and length of a refused insert of a prefix, which gives an event (01 R24). -/
  prefix_ : Option (Bool × Nat) := none
deriving DecidableEq, Repr

/-- The statuses of R115. -/
def failState : CtlFail := { status := 3 }
/-- RESOURCE. -/
def failResource : CtlFail := { status := 4 }
/-- RANGE. -/
def failRange : CtlFail := { status := 5 }

/-- What an instruction works on: the pending image, and c0 to c15. -/
structure Seqr where
  s : State
  c : List Word

/-- The instruction's register ca, cb or cc. -/
def Seqr.c_ (x : Seqr) (i : Nat) : Word := x.c.getD i 0

/-- The answer of an instruction that changes the image only. -/
abbrev CtlOut := Except CtlFail State

/-- Fail unless a condition holds. -/
def need (b : Bool) (f : CtlFail) (r : CtlOut) : CtlOut := if b then r else .error f

/-- A partition's state refuses an instruction that names it (15 R440). -/
def State.refuses (s : State) (p op : Nat) : Bool :=
  match s.pst p with
  | .free => op ≠ 0xD4
  | .reset => true
  | .quarantine => true
  | .created => op = 0xDE
  | .condemned => op = 0xDE || op = 0xDC || op = 0xE0
  | .running => s.disabled 1 p && (op = 0xDE || op = 0xDC)

/-- The partition of a context. -/
def State.ctxPart (s : State) (i : Nat) : Nat := match s.ctx i with
  | some c => c.d.part
  | none => 0

/-! ## Tables and constants (05 R121 to R123, R133, R136) -/

/-- The mask of a table instruction: RANGE for none, STATE for one version of an epoch that is not CLOSED. -/
def State.masked (s : State) (M : Nat) (ok : Bool) (r : CtlOut) : CtlOut :=
  need (M ≠ 0 && ok) failRange (need (s.maskAllowed M) failState r)

/-- em.wr. -/
def State.ctlEmWr (s : State) (k d : Word) (M : Nat) : CtlOut :=
  s.masked M (keyTypeOk k) (match s.emWrite k d M with
    | some t => .ok (t.walkTouched M)
    | none => .error { status := 4, refused := some (M, k, d) })

/-- em.del. -/
def State.ctlEmDel (s : State) (k : Word) (M : Nat) : CtlOut :=
  s.masked M (keyTypeOk k) (.ok ((s.emDelete k M).walkTouched M))

/-- The address of an LPM instruction. -/
def lpmAddr (v6 : Bool) (hi lo : Word) : Nat := if v6 then hi.toNat * 2 ^ 64 + lo.toNat else bits lo 31 0

/-- lpm.wr. -/
def State.ctlLpmWr (s : State) (v6 : Bool) (len addr res M : Nat) : CtlOut :=
  s.masked M (len ≤ famBits v6) (match s.lpmWrite v6 len addr res M with
    | some t => .ok (t.walkTouched M)
    | none => .error { status := 4, prefix_ := some (v6, len) })

/-- lpm.del. -/
def State.ctlLpmDel (s : State) (v6 : Bool) (len addr M : Nat) : CtlOut :=
  s.masked M (len ≤ famBits v6) (.ok ((s.lpmDelete v6 len addr M).walkTouched M))

/-- mc.wr. -/
def State.ctlMcWr (s : State) (g M : Nat) (w : Word) : CtlOut :=
  s.masked M (groupMembers w ≠ []) (.ok ((s.mcWrite g M w).walkTouched M))

/-- mc.del. -/
def State.ctlMcDel (s : State) (g M : Nat) : CtlOut := s.masked M true (.ok ((s.mcDelete g M).walkTouched M))

/-- A station's constants with g(24 + n) set. -/
def setConst (l : List (List Word)) (st n : Nat) (v : Word) : List (List Word) :=
  (List.range 8).map fun i =>
    let row := (List.range 8).map fun j => (l.getD i []).getD j 0
    if i = st then row.set n v else row

/-- const.wr. -/
def State.ctlConst (s : State) (st : Nat) (e : Bool) (n : Nat) (v : Word) : CtlOut :=
  need (s.stn.st e = .closed) failState
    (.ok { s with stn := s.stn.setBank e fun b => { b with consts := setConst b.consts st n v } })

/-! ## Epochs (04 R98) -/

/-- ep.close. -/
def State.ctlClose (s : State) (e : Bool) : CtlOut :=
  need (s.stn.st e = .open_ && s.stn.cur ≠ e) failState (.ok { s with stn := (s.stn.setSt e .closing).setQuiet e 0 })

/-- ep.open. -/
def State.ctlOpen (s : State) (e : Bool) : CtlOut :=
  need (s.stn.st e = .closed && (s.stn.bank e).loaded && s.stn.loadState ≠ 1) failState
    (.ok { s with stn := s.stn.setSt e .open_ })

/-- ep.flip. -/
def State.ctlFlip (s : State) (e : Bool) : CtlOut :=
  need (s.stn.st e = .open_) failState (.ok { s with stn := { s.stn with cur := e } })

/-! ## Partitions and functions (15 R438 to R447) -/

/-- part.new, part.run, part.cond and part.reset, by opcode. -/
def State.ctlPart (s : State) (op p : Nat) : CtlOut :=
  let st := s.pst p
  need (p ≠ 0) failRange (
    if op = 0xD4 then need (st = .free) failState (need (s.poolsCover p) failResource (.ok ((s.setPst p .created 0).clearPart p)))
    else if op = 0xD5 then need (st = .created) failState (.ok (
      let s := s.setPst p .running 0
      { s with coll := { s.coll with upSeq := s.coll.upSeq.filter fun e => e.1 / 2 ^ 11 % 2 ^ 12 ≠ p } }))
    else if op = 0xD6 then need (st = .running) failState (.ok (s.endPart p 7))
    else need (st = .created || st = .running || st = .condemned) failState (.ok (s.endPart p 4)))

/-- How many functions each kind has. -/
def kindCount (kind : Nat) : Nat := [1024, 4096, 4096, 64, 4].getD kind 0

/-- The partition that a function of `dis` or `ena` belongs to, where it is one or is a context. -/
def State.fnPart (s : State) (kind idx : Nat) : Nat := if kind = 1 then idx else if kind = 2 then s.ctxPart idx else 0

/-- dis. -/
def State.ctlDis (s : State) (kind idx beats : Nat) (drain : Bool) : CtlOut :=
  need (idx < kindCount kind && !(drain && beats < 16)) failRange
    (need ((s.disable kind idx).isNone && !s.refuses (s.fnPart kind idx) 0xD8) failState (.ok (s.applyDis kind idx drain beats)))

/-- ena. -/
def State.ctlEna (s : State) (kind idx : Nat) : CtlOut :=
  need (idx < kindCount kind) failRange
    (need ((s.disable kind idx).isSome && !s.refuses (s.fnPart kind idx) 0xD9) failState (.ok (s.applyEna kind idx)))

/-! ## Contexts and counters (10 R297; 11 R323 to R327; 15 R454) -/

/-- ctx.new: `ws` is the descriptor as it was read at commit. -/
def State.ctlCtxNew (s : State) (i : Nat) (ws : Option (List Word)) : CtlOut :=
  match ws with
  | none => .error failRange
  | some ws =>
    match s.createCtx i ws with
    | .ok t => .ok (t.walkTouched 3)
    | .error e =>
      let d := descOf ws
      let placed := e ≠ 4 || (s.ctxOf d.part d.collId).isSome
      .error { status := e, refused := if placed then none else some (3, collKey d.part d.collId, ctxEntry i) }

/-- ctx.free. -/
def State.ctlCtxFree (s : State) (i : Nat) : CtlOut :=
  match s.ctx i with
  | none => .error failState
  | some c => need (c.st = .idle && !s.refuses c.d.part 0xDD) failState (.ok ((s.freeCtx i).walkTouched 3))

/-- ctx.launch. One in a program posted with at_beat_en is a job-start broadcast, whose copies are followed. -/
def State.ctlLaunch (s : State) (p : CmdProg) (i : Nat) (round : Word) (status : Bool) : CtlOut :=
  let stride := if bits round 23 12 = 0 then 4096 else bits round 23 12
  let base := bits round 63 44
  let span := bits round 43 24
  let phase := bits round 11 0
  match s.launchFails i base span stride phase, s.ctx i with
  | some e, _ => .error { status := e }
  | none, none => .error failState
  | none, some c =>
    if p.atBeatEn then
      let b := s.coll.nextBcast
      let x : Bcast := { id := b, ctx := i, part := c.d.part, collId := c.d.collId, ring := p.ring, tag := p.tag,
                         beat := s.beat.now, groups := c.d.groups }
      let s : State := { s with coll := { s.coll with bcasts := s.coll.bcasts ++ [x], nextBcast := b + 1 } }
      .ok (s.launchCtx i base span stride phase b status)
    else .ok (s.launchCtx i base span stride phase i status)

/-- cnt.alloc. -/
def State.ctlCntAlloc (s : State) (k p : Nat) : CtlOut :=
  need (p ≠ 0) failRange (need (!s.refuses p 0xE0) failState
    (need (!s.flag .fmemCntOwn k 12) failResource (.ok (s.allocBlock k p))))

/-- cnt.free. -/
def State.ctlCntFree (s : State) (k : Nat) : CtlOut :=
  need (s.flag .fmemCntOwn k 12) failState (.ok (s.releaseBlock k))

/-! ## Circuits, shadows, registers -/

/-- byp.set. Whether its leaves take part is judged with the writes that have taken effect before it, those of the program
among them (09 R269). -/
def State.ctlByp (s : State) (w i j : Nat) (clear : Bool) : CtlOut :=
  let s := (s.leafJudge i).leafJudge j
  match s.bypSetFails w i j clear with
  | some 1 => .error failRange
  | some _ => .error failState
  | none => .ok (s.bypSet w i j clear)

/-- mir.set: every field of STN_MIR but valid and shadow is cleared (15 R462). -/
def State.ctlMirSet (s : State) (p sh : Nat) : CtlOut :=
  need (p ≠ 0x3FFFF && sh ≠ 0x3FFFF) failRange
    (need (!s.flag .stnMir p 63) failState (.ok (s.setReg .stnMir p (at_ 63 1 ||| at_ 44 sh))))

/-- mir.clr: frames of the shadow are dropped for 64 boundaries more (15 R452). -/
def State.ctlMirClr (s : State) (p : Nat) : CtlOut :=
  need (p ≠ 0x3FFFF) failRange (need (s.flag .stnMir p 63) failState (.ok (
    let sh := s.fld .stnMir p 61 44
    let s := s.setFlag .stnMir p 63 false
    { s with part := { s.part with shadowDrop := s.part.shadowDrop ++ [(sh, s.beat.bc)] } })))

/-- A software write of a register applied in the program's turn. -/
def State.writeNow (s : State) (k : RegKind) (i : Nat) (val : Word) : State :=
  match s.offCrossing k i with
  | some (dom, unit) => s.crossingFault dom unit false
  | none =>
    let s := s.clearW1c k i val 0
    if s.ignoresWrite k i val then (if k = .bufClsMin then s.raise .bufConfig [i] else s)
    else s.applyWrite k i (if k = .stnHoldCfg then s.holdCfgVal val else val)

/-- reg.wr. -/
def State.ctlRegWr (s : State) (index : Nat) (val : Word) : CtlOut :=
  match regAt (8 * index) with
  | none => .error failRange
  | some (k, i) => need (k.rwMask ≠ 0 && !k.row.atOnce) failRange (.ok (s.writeNow k i val))

/-! ## One program (R113, R399) -/

/-- One instruction but the literals, on the image. -/
def State.ctlOp (s : State) (p : CmdProg) (i : Nat) (w ca cb cc : Word) : CtlOut :=
  let op := fOp w
  let M := bits w 1 0
  let e := bit w 0
  let v6 := bit w 39
  let len := bits w 38 31
  if op = 0xC4 then s.ctlEmWr ca cb M
  else if op = 0xC5 then s.ctlEmDel ca M
  else if op = 0xC6 then s.ctlLpmWr v6 len (lpmAddr v6 ca cb) (bits cc 31 0) M
  else if op = 0xC7 then s.ctlLpmDel v6 len (lpmAddr v6 ca cb) M
  else if op = 0xC8 then s.ctlMcWr (bits w 29 16) M ca
  else if op = 0xC9 then s.ctlMcDel (bits w 29 16) M
  else if op = 0xCC then s.ctlConst (bits w 39 37) (bit w 36) (bits w 35 33) ca
  else if op = 0xD0 then s.ctlClose e
  else if op = 0xD1 then s.ctlOpen e
  else if op = 0xD2 then s.ctlFlip e
  else if 0xD4 ≤ op && op ≤ 0xD7 then s.ctlPart op (bits w 11 0)
  else if op = 0xD8 then s.ctlDis (bits w 39 37) (bits w 11 0) (bits w 35 20) (bit w 36)
  else if op = 0xD9 then s.ctlEna (bits w 39 37) (bits w 11 0)
  else if op = 0xDC then s.ctlCtxNew (bits w 11 0) ((p.descs.find? fun d => d.1 = i).bind (·.2))
  else if op = 0xDD then s.ctlCtxFree (bits w 11 0)
  else if op = 0xDE then s.ctlLaunch p (bits w 11 0) ca (bit w 12)
  else if op = 0xE0 then s.ctlCntAlloc (bits w 25 12) (bits w 11 0)
  else if op = 0xE1 then s.ctlCntFree (bits w 25 12)
  else if op = 0xE4 then s.ctlByp (bits w 39 38) (bits w 15 8) (bits w 7 0) (bit w 37)
  else if op = 0xE8 then s.ctlMirSet (bits ca 17 0) (bits cb 17 0)
  else if op = 0xE9 then s.ctlMirClr (bits ca 17 0)
  else s.ctlRegWr (bits w 23 0) ca

/-- One instruction. A program acts on the partition that its header names (02 R31, 04 R111). -/
def ctlStep (p : CmdProg) (i : Nat) (w : Word) (x : Seqr) : Except CtlFail Seqr :=
  if fOp w = 0xC0 || fOp w = 0xC1 then .ok { x with c := litStep w x.c }
  else if p.part ≠ 0 && x.s.refuses p.part (fOp w) then .error failState
  else
    match x.s.ctlOp p i w (x.c_ (fCa w)) (x.c_ (fCb w)) (x.c_ (fCc w)) with
    | .ok s => .ok { x with s := s }
    | .error e => .error e

/-- The instructions in order; the first that fails, with its index. -/
def ctlRun (p : CmdProg) : Nat → List Word → Seqr → Except (Nat × CtlFail) Seqr
  | _, [], x => .ok x
  | i, w :: ws, x =>
    match ctlStep p i w x with
    | .ok y => ctlRun p (i + 1) ws y
    | .error e => .error (i, e)

/-- CMD_PROGRAM_APPLY: all of a program's effects take hold, or none. -/
def State.applyProgram (s : State) (p : CmdProg) : State :=
  match ctlRun p 0 p.code { s := s, c := List.replicate 16 0 } with
  | .ok x => x.s.cmdDone p 0 0xFFF p.cost
  | .error (i, e) =>
    let s := match e.refused with
      | some (M, k, d) => s.insertRefused 1 M 0 k d
      | none => s
    let s := match e.prefix_ with
      | some (v6, len) => s.raise .lpmFull [b2n v6, len]
      | none => s
    s.cmdDone p e.status i p.cost

/-- The committed programs in commit order, with the writes that the boundary has taken so far (R114). Answers the
programs that wait: those that committed in the last 32 cycles (02 R32), and from the first that would take the
boundary past 8,192 writes on, every later one. -/
def State.programs (s : State) : List CmdProg → Nat → List CmdProg × State
  | [], _ => ([], s)
  | p :: l, used =>
    if p.cut then
      let (rest, s) := State.programs s l used
      ({ p with cut := false } :: rest, s)
    else if 8192 < used + p.cost then ((p :: l).map fun q => { q with cut := false }, s)
    else State.programs (s.applyProgram p) l (used + p.cost)

/-- The programs due at a boundary. -/
def State.programsDue (s : State) : State :=
  let l := s.host.commits
  let s : State := { s with host := { s.host with commits := [] } }
  let (rest, s) := s.programs l 0
  { s with host := { s.host with commits := rest ++ s.host.commits } }

end Sys2Proof.Machine
end

