-- ==== Sys2Proof/Machine/Boundary.lean ====
section
/-! DEFINITION. The beat boundary: the seven steps of 02 R30, in order, and what each chapter places at a boundary. -/

namespace Sys2Proof.Machine

/-! ## Lanes and ports at a boundary (03 R55; 06 R150, R157; 08 R230) -/

/-- The item of a lane that leaves service: the state and the cause with which it left SERVICE (08 R247). -/
def State.leaveItem (s : State) (n : Nat) : State :=
  match (s.optLane n).left with
  | some (st, cause) => (s.setOpt n fun o => { o with left := none }).laneItemOf n cause st .service
  | none => s.laneItem n .service

/-- What a port does once lanes of it have left service: frames handed over that no lane can take any more are lost with
its last lane, and its work is cut (06 R150). -/
def State.portLoses (s : State) (p : Nat) : State :=
  if s.portEth p || s.portLanesUp p then s else (s.loseResend p).internalCut p

/-- A lane leaves service: its item, its transmit FIFO emptied, its hand-over where it was declared down, and the circuits
and slots on it. -/
def State.laneLeaves (s : State) (n : Nat) : State :=
  let s := (s.leaveItem n).emptyFifo n (s.portOf n)
  (if (s.lane n).down then s.handOver n else s).bypLaneOut n

/-- A lane comes into service. -/
def State.laneComes (s : State) (n : Nat) : State :=
  let o := s.optLane n
  ((s.setOpt n fun o => { o with inSvc := true }).laneEnters n).laneItem n o.prev

/-- The Ethernet ports whose every lane is in service. -/
def State.ethUp (s : State) : List Nat := s.validPorts.filter fun p => s.portEth p && s.portLanesUp p

/-- An Ethernet port goes down: its link-down count, and a port event (03 R55). -/
def State.ethDown (s : State) (p : Nat) : State := ((s.emptyFifo p none).laneCount p 21).raise .port [p]

/-- Lanes leave and enter service. `up`: the Ethernet ports that were up before the writes of the boundary (03 R57). -/
def State.lanesStep (s : State) (up : List Nat) : State :=
  let out := (s.opt.lanes.filter fun e => e.2.inSvc && e.2.st ≠ .service).map (·.1)
  let s := out.foldl (fun (s : State) n => s.setOpt n fun o => { o with inSvc := false }) s
  let s := out.foldl State.laneLeaves s
  let in_ := (s.opt.lanes.filter fun e => !e.2.inSvc && e.2.st = .service).map (·.1)
  let s := in_.foldl State.laneComes s
  let s := (out.filterMap s.portOf).eraseDups.foldl State.portLoses s
  (up.filter fun p => !(s.portEth p && s.portLanesUp p)).foldl State.ethDown s

/-- Forced calibrations start; one on a lane of a circuit removes it (09 R275). -/
def State.forcedCals (s : State) : State :=
  (List.range 16).foldl (fun (s : State) e =>
    let t := s.forcedCal e
    match (t.engine e).cur with
    | some (p, _, _) => if (t.engine e).cur = (s.engine e).cur then t else t.bypCalOut (64 * e + p)
    | none => t) s

/-! ## Triggers (16 R473 to R477) -/

/-- The field test's slot, where its grid has reached it. -/
def State.testDueAt (s : State) (now : Nat) : State :=
  match s.time.testAt with
  | none => { s with time := { s.time with testAt := some (gridAfter 0 s.testPeriod now) } }
  | some t => if t ≤ now then s.ftSlot.testPast now else s

/-- Step 3: the triggers that are due, in order, the part's own periodic work, and held command programs. -/
def State.triggers (s : State) : State :=
  let now := s.time.ns
  let s := (s.time.armed.map (·.1)).foldl (fun (s : State) n => s.trigFire n now) s
  let s := (List.range 16).foldl (fun (s : State) e => s.calDueAt e now) s
  let s := (s.planeDueAt now).testDueAt now
  (s.host.cmd.map (·.1)).foldl State.releaseProg s

/-! ## Step 2 (R30): containment, and the timeouts that boundaries end -/

/-- Teardown checks of the partitions whose reset has reached its 64th boundary (07 R202; 20 R582). -/
def State.teardowns (s : State) : State :=
  let l := (s.part.st.map (·.1)).filter s.teardownDue
  if s.boot.running then l.foldl State.teardownCheck s
  else { s with boot := { s.boot with owed := (s.boot.owed ++ l).eraseDups } }

/-- Chunks, rounds and checks at a boundary (11 R322, R328, R338; 12; 14 R409, R416, R417, R422 to R424). -/
def State.collSteps (s : State) : State :=
  let s := s.rejoins.marginSteps.roundEnds.poisonEnds
  s.expireChunks.spillChunks.recallsDue.settleChecks.limitExpiries.arbDraws

/-- Step 2. -/
def State.stepTwo (s : State) (clean : List (Nat × Nat)) : State :=
  let s := s.comeBack.collSteps
  let s := s.timeoutPennants.giveUps.digestTimeouts.endShadowDrops
  ((s.forcedRamps.containment clean).teardowns).partSteps

/-! ## Step 4: control -/

/-- Power at a boundary: domains come on, the next ramps, guards move, dies are stretched (19 R553 to R556, R566,
R575). -/
def State.powerSteps (s : State) : State :=
  (((s.domsOn.nextRamp.guardSteps).stretchStep false).stretchStep true).refReturn

/-- Optical bypass at a boundary (09 R251, R252, R271 to R274): leaves, anchors and planes. -/
def State.bypSteps (s : State) : State :=
  let s := s.leavesJudge
  let s := s.bypLeaves.foldl State.reAnchor s
  ([0, 1, 2, 3].foldl State.planeFall s.planeCuts).planeCalGo

/-- The class-7 copies listed for a lane, and those in its transmit FIFO: a grant goes after them (09 R264). -/
def State.grantAfter (s : State) (n : Nat) : List Nat :=
  let copy := fun (cid : Nat) => s.q.copies.find? fun c => c.cid = cid && c.cls = 7
  let mayGo := fun (c : Copy) => (s.stream c.sid).any fun t => (s.lanesFor t c).contains n
  let listed := (s.portOf n).map fun p => (SMap.get [] s.q.lists p).filter fun cid => (copy cid).any mayGo
  listed.getD [] ++ (s.lane n).queue.filter fun cid => (copy cid).isSome

/-- The grants of the slot five boundaries ahead are queued on the anchors (09 R263, R264). -/
def State.grantsGo (s : State) : State := s.bypLeaves.foldl (fun (s : State) n => s.sendGrant n s.grantAfter) s

/-- Step 4: register writes, then removals and learned changes, then command programs, then a stash move (05 R124,
R125), with what follows from them. `q0` and `q1`: an epoch was quiet at the snapshot. `re`: the beat that ended was a
realignment beat. -/
def State.stepFour (s : State) (q0 q1 re : Bool) : State :=
  let up := s.ethUp
  let s := (s.writesDue.drainStep false q0).drainStep true q1
  let s := s.applyCarve.applyRemovals.applyLearned
  let s := s.programsDue.judgeConflicts.stashMove
  let s := s.forcedTest.testWait
  let s := s.powerSteps.retiresDue.forcedCals.lanesStep up
  let s := (s.bypSteps).c7Step re
  { s with buf := { s.buf with headroom := s.headroomNow } }

/-! ## The boundary -/

/-- What is kept for the length of one beat starts anew. -/
def State.freshBeat (s : State) : State :=
  { s with
    beat := { s.beat with calls := [] },
    stn := { s.stn with passed0 := false, passed1 := false, dropEv0 := false, dropEv1 := false },
    buf := { s.buf with raised := [] },
    red := { s.red with ft := { s.red.ft with stepped := false } },
    byp := { s.byp with matched := false, routed := false, leaves := s.byp.leaves.map fun e =>
      (e.1, match e.2.fresh with
        | some r => { e.2 with rep := some r, fresh := none }
        | none => e.2) } }

/-- Results that the boundary itself has made, and those that waited, are placed at `queue` before step 5, so that they
leave in the beat that begins (11, the example of a START frame; DEDUCED, log entry 31). -/
def State.placeAll (s : State) : State :=
  let n := s.net.ret.length
  (List.replicate n 1).foldl State.place ((List.replicate n 0).foldl State.place s)

/-- Rings at a boundary: holdoffs, and writes of ci (18 R523, R539). -/
def State.rings (s : State) : State :=
  let s := (s.host.d2h.map (·.1)).foldl State.ringBoundary s
  (s.host.cmd.map (·.1)).foldl State.writeBack s

/-! ## Lanes at the end of a beat, and at the start of the next (06 R152; 09 R257, R260, R264) -/

/-- A lane sends the frames that it has begun, and those that it may still begin. -/
def State.runOut (s : State) (n : Nat) : Nat → State
  | 0 => s
  | fuel + 1 => if (s.lane n).now = .idle then s else State.runOut (s.sendEnd n) n fuel

/-- The streams of the directions that are bypassed from the boundary on have ended before it: `launch` begins no frame that
does not (09 R257; log entry 103). -/
def State.endStreams (s : State) : State :=
  ((s.lnk.lanes.map (·.1)).filter s.bypassedNext).foldl (fun (s : State) n =>
    s.runOut n ((s.lane n).ahead.length + (s.lane n).queue.length + 1)) s

/-- Every lane's beat ends. -/
def State.lanesEnd (s : State) : State :=
  (s.lnk.lanes.map (·.1)).foldl (fun (s : State) n =>
    s.setLane n fun l => l.beatEnds s.beat.bc (s.byp.rxByp.contains n) (s.byp.txByp.contains n)) s

/-- A port's ingress FIFOs have drained by the boundary (log entry 15). -/
def State.fifosDrained (s : State) : State :=
  ((s.lnk.pfc.filter fun e => e.2.full).map (·.1)).foldl State.fifoDrained s

/-- What waited for the boundary goes: frames handed over, grants, hop-local frames, and BAR2 accesses that a recalibration
held. -/
def State.lanesGo (s : State) : State :=
  let s := (s.lnk.resend.map (·.1)).foldl State.takeResend s
  let s := s.grantsGo
  let s := ((s.lnk.lanes.filter fun e => !e.2.hops.isEmpty).map (·.1)).foldl State.startNext s
  s.fifosDrained.hostGoes

/-- BEAT_BOUNDARY: what the arbiter has still to decide in the beat that ends, the end of that beat, and the steps of
R30. -/
def State.boundary (s : State) : State :=
  if !s.beat.running then s
  else
    let s := (if s.byp.routed then s.matching else s.matching.routing)
    let s := s.endStreams.lanesEnd
    let s := s.trigDumps s.comingNs
    let re := s.time.stepped || s.beat.reload
    let s := s.endBeat
    let clean := s.cleanDrains
    let q0 := s.quietNow false
    let q1 := s.quietNow true
    let s := ((s.snapshotStep.weevilAudit.stepTwo clean).triggers).stepFour q0 q1 re
    let s := s.freshBeat.placeAll.admission.postRounds.schedule.bypassStep.lanesGo
    s.rings.sleep

end Sys2Proof.Machine
end

