-- ==== Sys2Proof/Machine/RegCmds.lean ====
section
/-! DEFINITION. The meanings of the beat boundary, and of the reads and writes of registers: those without a row of
their own, and the writes that have one, each the write of its register with its fields as operands. -/

namespace Sys2Proof.Machine

/-- BEAT_BOUNDARY (02 R30). -/
def execBeatBoundary (s : State) : Out := run .beatBoundary s State.boundary

/-- WIDE_LEAD_READ (02 R47): a read whose first register is the lead of a wide set. -/
def execWideLeadRead (rd : Reader) (t : Tlp) (s : State) : Out :=
  run (.wideLeadRead rd t) s fun s => s.bar0Read rd t 0

/-- RC_READ (00 R3, R5): `hwInc` is what hardware adds to the RC fields in the cycle of the read. -/
def execRcRead (rd : Reader) (t : Tlp) (hwInc : Word) (s : State) : Out :=
  run (.rcRead rd t hwInc) s fun s => s.bar0Read rd t hwInc

/-- REGISTER_WRITE (00 R3, R8): `hwSet` is what hardware sets of the W1C bits in the cycle of the write. -/
def execRegisterWrite (t : Tlp) (vals : List Word) (hwSet : Word) (late : Bool) (s : State) : Out :=
  run (.registerWrite t vals hwSet late) s fun s => s.bar0Write t vals hwSet late

/-- PORT_RECONFIG (03 R57): learn_en and epoch_src keep their values. -/
def execPortReconfig (port : Nat) (valid mode : Bool) (width : Nat) (late : Bool) (s : State) : Out :=
  run (.portReconfig port valid mode width late) s fun s =>
    s.writeReg 0 late .stnPort port (setBits (setBits (setBits (s.shown .stnPort port) 0 0 (b2n valid)) 6 5 width) 9 9 (b2n mode))

/-- STG_CARVE_WRITE (07 R210). -/
def execStgCarveWrite (n1 n4 n16 n64 : Nat) (late : Bool) (s : State) : Out :=
  run (.stgCarveWrite n1 n4 n16 n64 late) s fun s =>
    s.writeReg 0 late .bufStgCarve 0 (at_ 12 n1 ||| at_ 6 n4 ||| at_ 2 n16 ||| at_ 0 n64)

/-- CLS_MIN_WRITE (07 R182). -/
def execClsMinWrite (cls spillMin stgMin tileMin : Nat) (late : Bool) (s : State) : Out :=
  run (.clsMinWrite cls spillMin stgMin tileMin late) s fun s =>
    s.writeReg 0 late .bufClsMin cls (at_ 29 spillMin ||| at_ 21 stgMin ||| at_ 0 tileMin)

/-- MGMT_READ (18 R542). -/
def execMgmtRead (s : State) : Out := run .mgmtRead s State.mgmtRead

/-- MGMT_WRITE (18 R542). -/
def execMgmtWrite (late : Bool) (s : State) : Out := run (.mgmtWrite late) s fun s => s.mgmtWrite late

/-- MGMT_COMMAND (18 R542). The program commits by CMD_FETCH_COMPLETE, so `late` says nothing here. -/
def execMgmtCommand (late : Bool) (s : State) : Out := run (.mgmtCommand late) s State.mgmtCommand

/-- CMP_CTRL_WRITE (05 R141). -/
def execCmpCtrlWrite (rate en : Nat) (late : Bool) (s : State) : Out :=
  run (.cmpCtrlWrite rate en late) s fun s =>
    s.writeReg 0 late .strCmpCtrl 0 (at_ 8 rate ||| at_ 0 en)

/-- EM_SEED_WRITE (05 R143). -/
def execEmSeedWrite (seedA seedB : Nat) (late : Bool) (s : State) : Out :=
  run (.emSeedWrite seedA seedB late) s fun s =>
    s.writeReg 0 late .strEmSeed 0 (at_ 32 seedA ||| at_ 0 seedB)

/-- LASER_RETIRE (08 R222). -/
def execLaserRetire (engine k : Nat) (late : Bool) (s : State) : Out :=
  run (.laserRetire engine k late) s fun s =>
    s.writeReg 0 late .leLaser (12 * engine + k) (at_ 1 1)

/-- CAL_REQUEST (08 R237). -/
def execCalRequest (engine pos : Nat) (late : Bool) (s : State) : Out :=
  run (.calRequest engine pos late) s fun s =>
    s.writeReg 0 late .leCalCtrl engine (at_ 16 1 ||| at_ 0 pos)

/-- CAL_FORCE (08 R237). -/
def execCalForce (engine pos : Nat) (late : Bool) (s : State) : Out :=
  run (.calForce engine pos late) s fun s =>
    s.writeReg 0 late .leCalCtrl engine (at_ 17 1 ||| at_ 0 pos)

/-- LANE_RETRY (08 R230). -/
def execLaneRetry (lane : Nat) (late : Bool) (s : State) : Out :=
  run (.laneRetry lane late) s fun s =>
    s.writeReg 0 late .leLane lane (at_ 0 1)

/-- PLANE_CAL_FORCE (09 R273): the mode keeps its value. -/
def execPlaneCalForce (plane : Nat) (late : Bool) (s : State) : Out :=
  run (.planeCalForce plane late) s fun s =>
    s.writeReg 0 late .bypPlane plane (setBit (s.shown .bypPlane plane) 2 true)

/-- BYP_PLANE_MODE_WRITE (09 R271). -/
def execBypPlaneModeWrite (plane mode : Nat) (late : Bool) (s : State) : Out :=
  run (.bypPlaneModeWrite plane mode late) s fun s =>
    s.writeReg 0 late .bypPlane plane (at_ 0 mode)

/-- LEAF_ENABLE (09 R251). -/
def execLeafEnable (leaf anchorPref : Nat) (late : Bool) (s : State) : Out :=
  run (.leafEnable leaf anchorPref late) s fun s =>
    s.writeReg 0 late .bypLeaf leaf (at_ 4 anchorPref ||| at_ 0 1)

/-- FT_REQUEST (14 R431). -/
def execFtRequest (cluster : Nat) (late : Bool) (s : State) : Out :=
  run (.ftRequest cluster late) s fun s =>
    s.writeReg 0 late .intFtCtrl 0 (at_ 16 1 ||| at_ 0 cluster)

/-- FT_FORCE (14 R431). -/
def execFtForce (cluster : Nat) (late : Bool) (s : State) : Out :=
  run (.ftForce cluster late) s fun s =>
    s.writeReg 0 late .intFtCtrl 0 (at_ 17 1 ||| at_ 0 cluster)

/-- CLUSTER_STEP_WRITE (14 R424). -/
def execClusterStepWrite (cluster step : Nat) (late : Bool) (s : State) : Out :=
  run (.clusterStepWrite cluster step late) s fun s =>
    s.writeReg 0 late .intClu cluster (at_ 58 step)

/-- CICADA_DUMP_REQUEST (17 R509). -/
def execCicadaDumpRequest (late : Bool) (s : State) : Out :=
  run (.cicadaDumpRequest late) s fun s =>
    s.writeReg 0 late .cntCicadaCtrl 0 (at_ 2 1)

/-- SNAPSHOT_REQUEST (17 R509). -/
def execSnapshotRequest (late : Bool) (s : State) : Out :=
  run (.snapshotRequest late) s fun s =>
    s.writeReg 0 late .cntCicadaCtrl 0 (at_ 1 1)

/-- COUNTER_RUN_RELEASE (17 R500). -/
def execCounterRunRelease (base n : Nat) (late : Bool) (s : State) : Out :=
  run (.counterRunRelease base n late) s fun s =>
    s.writeReg 0 late .cntAlloc 0 (at_ 61 1 ||| at_ 32 base ||| at_ 0 n)

/-- D2H_CFG_WRITE (18 R537). -/
def execD2hCfgWrite (ring : Nat) (en : Bool) (lg base : Nat) (s : State) : Out :=
  run (.d2hCfgWrite ring en lg base) s fun s =>
    s.writeReg 0 false .hostD2hCfg ring (at_ 63 (b2n en) ||| at_ 52 lg ||| at_ 0 base)

/-- DOMAIN_REQUEST (19 R553). -/
def execDomainRequest (domain : Nat) (on late : Bool) (s : State) : Out :=
  run (.domainRequest domain on late) s fun s =>
    s.writeReg 0 late .pwrDom domain (at_ 57 (b2n on))

end Sys2Proof.Machine
end

