-- ==== Sys2Proof/Machine/Dispatch.lean ====
section
/-! DEFINITION. One arm for each command of spec/opcode_table.json. -/

namespace Sys2Proof.Machine

/-- The effect of one command on everything but the queue. -/
def exec (i : Instr) (s : State) : Host.Outcome State Fault Refusal :=
  match i with
  | .beatBoundary => Sys2Proof.Machine.execBeatBoundary s
  | .beatImageCheck diff => Sys2Proof.Machine.execBeatImageCheck diff s
  | .crossingTimeout dom unit read => Sys2Proof.Machine.execCrossingTimeout dom unit read s
  | .wideLeadRead rd t => Sys2Proof.Machine.execWideLeadRead rd t s
  | .rcRead rd t hwInc => Sys2Proof.Machine.execRcRead rd t hwInc s
  | .registerWrite t vals hwSet late => Sys2Proof.Machine.execRegisterWrite t vals hwSet late s
  | .asuneFrameArrival lane delim frame => Sys2Proof.Machine.execAsuneFrameArrival lane delim frame s
  | .ethernetFrameArrival port frame fifoFull => Sys2Proof.Machine.execEthernetFrameArrival port frame fifoFull s
  | .pfcXoffRepeat port cls => Sys2Proof.Machine.execPfcXoffRepeat port cls s
  | .portReconfig port valid mode width late => Sys2Proof.Machine.execPortReconfig port valid mode width late s
  | .stationSteer pipe => Sys2Proof.Machine.execStationSteer pipe s
  | .progMemRepairDone pipe station bank addr => Sys2Proof.Machine.execProgMemRepairDone pipe station bank addr s
  | .stationHold pipe => Sys2Proof.Machine.execStationHold pipe s
  | .pennantRelease id => Sys2Proof.Machine.execPennantRelease id s
  | .seqPennantRelease id => Sys2Proof.Machine.execSeqPennantRelease id s
  | .pennantTimeout id => Sys2Proof.Machine.execPennantTimeout id s
  | .stationMerge pipe => Sys2Proof.Machine.execStationMerge pipe s
  | .stationMirror pipe => Sys2Proof.Machine.execStationMirror pipe s
  | .mirrorDigestTimeout idx => Sys2Proof.Machine.execMirrorDigestTimeout idx s
  | .shadowDropEnd node => Sys2Proof.Machine.execShadowDropEnd node s
  | .stationQueue pipe => Sys2Proof.Machine.execStationQueue pipe s
  | .resultPlacement die => Sys2Proof.Machine.execResultPlacement die s
  | .launch port => Sys2Proof.Machine.execLaunch port s
  | .frameTransmitEnd lane => Sys2Proof.Machine.execFrameTransmitEnd lane s
  | .uncorrectableCodeword hit => Sys2Proof.Machine.execUncorrectableCodeword hit s
  | .replayRequestReceived lane frame attempt => Sys2Proof.Machine.execReplayRequestReceived lane frame attempt s
  | .replayStartReceived lane frame => Sys2Proof.Machine.execReplayStartReceived lane frame s
  | .replayRetryTimeout lane => Sys2Proof.Machine.execReplayRetryTimeout lane s
  | .handoverReceived lane pos frame => Sys2Proof.Machine.execHandoverReceived lane pos frame s
  | .linkCreditSend lane => Sys2Proof.Machine.execLinkCreditSend lane s
  | .linkCreditReceived lane g5 g6 g7 => Sys2Proof.Machine.execLinkCreditReceived lane g5 g6 g7 s
  | .weevilAudit => Sys2Proof.Machine.execWeevilAudit s
  | .weevilWalkEnd => Sys2Proof.Machine.execWeevilWalkEnd s
  | .weevilTeardownCheck part => Sys2Proof.Machine.execWeevilTeardownCheck part s
  | .stgCarveWrite n1 n4 n16 n64 late => Sys2Proof.Machine.execStgCarveWrite n1 n4 n16 n64 late s
  | .stgCarveApply => Sys2Proof.Machine.execStgCarveApply s
  | .clsMinWrite cls spillMin stgMin tileMin late => Sys2Proof.Machine.execClsMinWrite cls spillMin stgMin tileMin late s
  | .loadGo epoch => Sys2Proof.Machine.execLoadGo epoch s
  | .loadDone image => Sys2Proof.Machine.execLoadDone image s
  | .cmdFetchComplete ring words how late => Sys2Proof.Machine.execCmdFetchComplete ring words how late s
  | .cmdFetchTimeout ring => Sys2Proof.Machine.execCmdFetchTimeout ring s
  | .cmdProgramRelease ring => Sys2Proof.Machine.execCmdProgramRelease ring s
  | .epochDrainComplete epoch => Sys2Proof.Machine.execEpochDrainComplete epoch s
  | .loadRequest id => Sys2Proof.Machine.execLoadRequest id s
  | .store id => Sys2Proof.Machine.execStore id s
  | .countedStore id => Sys2Proof.Machine.execCountedStore id s
  | .subArm id => Sys2Proof.Machine.execSubArm id s
  | .atomAdd id => Sys2Proof.Machine.execAtomAdd id s
  | .atomFetchAdd id => Sys2Proof.Machine.execAtomFetchAdd id s
  | .atomSwap id => Sys2Proof.Machine.execAtomSwap id s
  | .atomCas id => Sys2Proof.Machine.execAtomCas id s
  | .atomMinS id => Sys2Proof.Machine.execAtomMinS id s
  | .atomMaxS id => Sys2Proof.Machine.execAtomMaxS id s
  | .atomMinU id => Sys2Proof.Machine.execAtomMinU id s
  | .atomMaxU id => Sys2Proof.Machine.execAtomMaxU id s
  | .atomAnd id => Sys2Proof.Machine.execAtomAnd id s
  | .atomOr id => Sys2Proof.Machine.execAtomOr id s
  | .atomXor id => Sys2Proof.Machine.execAtomXor id s
  | .atomFp32Add id => Sys2Proof.Machine.execAtomFp32Add id s
  | .atomBf16Add id => Sys2Proof.Machine.execAtomBf16Add id s
  | .waitingRequestAccept => Sys2Proof.Machine.execWaitingRequestAccept s
  | .memoryCompletion id => Sys2Proof.Machine.execMemoryCompletion id s
  | .trackerTimeout id => Sys2Proof.Machine.execTrackerTimeout id s
  | .stagingDraw ctx chunk => Sys2Proof.Machine.execStagingDraw ctx chunk s
  | .contributionCombine cluster => Sys2Proof.Machine.execContributionCombine cluster s
  | .stragglerWindowExpiry ctx chunk => Sys2Proof.Machine.execStragglerWindowExpiry ctx chunk s
  | .chunkSpill ctx chunk => Sys2Proof.Machine.execChunkSpill ctx chunk s
  | .partialRecallDone ctx chunk => Sys2Proof.Machine.execPartialRecallDone ctx chunk s
  | .cascadeResultRelay => Sys2Proof.Machine.execCascadeResultRelay s
  | .digestCompare ctx chunk seg checkDigest => Sys2Proof.Machine.execDigestCompare ctx chunk seg checkDigest s
  | .arbiterResult ctx chunk seg digest => Sys2Proof.Machine.execArbiterResult ctx chunk seg digest s
  | .checkLimitExpiry ctx chunk seg => Sys2Proof.Machine.execCheckLimitExpiry ctx chunk seg s
  | .mgmtRead => Sys2Proof.Machine.execMgmtRead s
  | .mgmtWrite late => Sys2Proof.Machine.execMgmtWrite late s
  | .mgmtCommand late => Sys2Proof.Machine.execMgmtCommand late s
  | .mgmtPtp => Sys2Proof.Machine.execMgmtPtp s
  | .termiteVisit => Sys2Proof.Machine.execTermiteVisit s
  | .compareEngineStep table => Sys2Proof.Machine.execCompareEngineStep table s
  | .cmpCtrlWrite rate en late => Sys2Proof.Machine.execCmpCtrlWrite rate en late s
  | .emSeedWrite seedA seedB late => Sys2Proof.Machine.execEmSeedWrite seedA seedB late s
  | .laserFail engine k => Sys2Proof.Machine.execLaserFail engine k s
  | .spareSwitchIn engine k => Sys2Proof.Machine.execSpareSwitchIn engine k s
  | .laserRetire engine k late => Sys2Proof.Machine.execLaserRetire engine k late s
  | .retireSwitch engine k => Sys2Proof.Machine.execRetireSwitch engine k s
  | .ringUnlock lane ring => Sys2Proof.Machine.execRingUnlock lane ring s
  | .pilotWindow lane tx tone => Sys2Proof.Machine.execPilotWindow lane tx tone s
  | .reacqVerified lane tx heat => Sys2Proof.Machine.execReacqVerified lane tx heat s
  | .reacqTimeout lane => Sys2Proof.Machine.execReacqTimeout lane s
  | .lightPresent lane => Sys2Proof.Machine.execLightPresent lane s
  | .laneTrainComplete lane => Sys2Proof.Machine.execLaneTrainComplete lane s
  | .trainTimeout lane => Sys2Proof.Machine.execTrainTimeout lane s
  | .linkFault loss => Sys2Proof.Machine.execLinkFault loss s
  | .calSlot engine => Sys2Proof.Machine.execCalSlot engine s
  | .calRequest engine pos late => Sys2Proof.Machine.execCalRequest engine pos late s
  | .calForce engine pos late => Sys2Proof.Machine.execCalForce engine pos late s
  | .calComplete engine tx rx => Sys2Proof.Machine.execCalComplete engine tx rx s
  | .calTimeout engine tx => Sys2Proof.Machine.execCalTimeout engine tx s
  | .laneRetry lane late => Sys2Proof.Machine.execLaneRetry lane late s
  | .loopStart engine target dur => Sys2Proof.Machine.execLoopStart engine target dur s
  | .loopEnd engine errs pilotOk rxPwr => Sys2Proof.Machine.execLoopEnd engine errs pilotOk rxPwr s
  | .bypDemandReceived lane payload => Sys2Proof.Machine.execBypDemandReceived lane payload s
  | .bypassMatching => Sys2Proof.Machine.execBypassMatching s
  | .bypassRouting => Sys2Proof.Machine.execBypassRouting s
  | .restartReceived lane meas firstFrame => Sys2Proof.Machine.execRestartReceived lane meas firstFrame s
  | .planeFallback plane driver => Sys2Proof.Machine.execPlaneFallback plane driver s
  | .planeRelock plane => Sys2Proof.Machine.execPlaneRelock plane s
  | .planeLockTimeout plane => Sys2Proof.Machine.execPlaneLockTimeout plane s
  | .planeAutoFast plane => Sys2Proof.Machine.execPlaneAutoFast plane s
  | .planeCalStart => Sys2Proof.Machine.execPlaneCalStart s
  | .planeCalForce plane late => Sys2Proof.Machine.execPlaneCalForce plane late s
  | .planeCalDone plane => Sys2Proof.Machine.execPlaneCalDone plane s
  | .bypPlaneModeWrite plane mode late => Sys2Proof.Machine.execBypPlaneModeWrite plane mode late s
  | .leafEnable leaf anchorPref late => Sys2Proof.Machine.execLeafEnable leaf anchorPref late s
  | .patrolRead mem die addr kind => Sys2Proof.Machine.execPatrolRead mem die addr kind s
  | .fieldTestSlot => Sys2Proof.Machine.execFieldTestSlot s
  | .fieldTestStep idle => Sys2Proof.Machine.execFieldTestStep idle s
  | .fieldTestResult pass => Sys2Proof.Machine.execFieldTestResult pass s
  | .testWaitExpiry => Sys2Proof.Machine.execTestWaitExpiry s
  | .ftRequest cluster late => Sys2Proof.Machine.execFtRequest cluster late s
  | .ftForce cluster late => Sys2Proof.Machine.execFtForce cluster late s
  | .clusterStepWrite cluster step late => Sys2Proof.Machine.execClusterStepWrite cluster step late s
  | .watchdogExpiry => Sys2Proof.Machine.execWatchdogExpiry s
  | .quarantineEntry part => Sys2Proof.Machine.execQuarantineEntry part s
  | .partitionFree part => Sys2Proof.Machine.execPartitionFree part s
  | .drainEndClean kind idx => Sys2Proof.Machine.execDrainEndClean kind idx s
  | .drainDeadline kind idx => Sys2Proof.Machine.execDrainDeadline kind idx s
  | .broadcastReport ctx => Sys2Proof.Machine.execBroadcastReport ctx s
  | .timeStep ns cycle => Sys2Proof.Machine.execTimeStep ns cycle s
  | .timeSet cycle => Sys2Proof.Machine.execTimeSet cycle s
  | .slewAdd rate add => Sys2Proof.Machine.execSlewAdd rate add s
  | .slewComplete => Sys2Proof.Machine.execSlewComplete s
  | .triggerFire n => Sys2Proof.Machine.execTriggerFire n s
  | .cicadaPeriodic => Sys2Proof.Machine.execCicadaPeriodic s
  | .userRefresh => Sys2Proof.Machine.execUserRefresh s
  | .dumpComplete => Sys2Proof.Machine.execDumpComplete s
  | .deferredSnapshot => Sys2Proof.Machine.execDeferredSnapshot s
  | .cicadaDumpRequest late => Sys2Proof.Machine.execCicadaDumpRequest late s
  | .snapshotRequest late => Sys2Proof.Machine.execSnapshotRequest late s
  | .counterRunAllocate n => Sys2Proof.Machine.execCounterRunAllocate n s
  | .counterRunRelease base n late => Sys2Proof.Machine.execCounterRunRelease base n late s
  | .bar2Read addr len => Sys2Proof.Machine.execBar2Read addr len s
  | .bar2Write addr data => Sys2Proof.Machine.execBar2Write addr data s
  | .doorbell ring pi => Sys2Proof.Machine.execDoorbell ring pi s
  | .cmdRingFlush ring => Sys2Proof.Machine.execCmdRingFlush ring s
  | .cmdRingDisable ring => Sys2Proof.Machine.execCmdRingDisable ring s
  | .cmdRingEnable ring => Sys2Proof.Machine.execCmdRingEnable ring s
  | .d2hPacketWrite ring => Sys2Proof.Machine.execD2hPacketWrite ring s
  | .d2hPop ring pois => Sys2Proof.Machine.execD2hPop ring pois s
  | .d2hFlush ring => Sys2Proof.Machine.execD2hFlush ring s
  | .d2hCfgWrite ring en lg base => Sys2Proof.Machine.execD2hCfgWrite ring en lg base s
  | .d2hHoldoffExpiry ring => Sys2Proof.Machine.execD2hHoldoffExpiry ring s
  | .ddrTrainStart speed => Sys2Proof.Machine.execDdrTrainStart speed s
  | .ddrTrainDone chans => Sys2Proof.Machine.execDdrTrainDone chans s
  | .ddrRecal channel sub => Sys2Proof.Machine.execDdrRecal channel sub s
  | .domainRequest domain on late => Sys2Proof.Machine.execDomainRequest domain on late s
  | .domainRampUpDone domain => Sys2Proof.Machine.execDomainRampUpDone domain s
  | .domainRampDownDone domain => Sys2Proof.Machine.execDomainRampDownDone domain s
  | .supplyFault domain => Sys2Proof.Machine.execSupplyFault domain s
  | .powerTrip temp => Sys2Proof.Machine.execPowerTrip temp s
  | .tripHoldEnd temp => Sys2Proof.Machine.execTripHoldEnd temp s
  | .thermalWarning unit temp => Sys2Proof.Machine.execThermalWarning unit temp s
  | .stretchComparatorFire die temp => Sys2Proof.Machine.execStretchComparatorFire die temp s
  | .stretchEnd die => Sys2Proof.Machine.execStretchEnd die s
  | .photonicTrip engine temp => Sys2Proof.Machine.execPhotonicTrip engine temp s
  | .sleepEntry => Sys2Proof.Machine.execSleepEntry s
  | .wakeD0 => Sys2Proof.Machine.execWakeD0 s
  | .lightWake pair => Sys2Proof.Machine.execLightWake pair s
  | .ageingSample r => Sys2Proof.Machine.execAgeingSample r s
  | .marginReplan fmargin => Sys2Proof.Machine.execMarginReplan fmargin s
  | .powerOnReset testMode bootSrc => Sys2Proof.Machine.execPowerOnReset testMode bootSrc s
  | .fundamentalReset => Sys2Proof.Machine.execFundamentalReset s
  | .softwareReset => Sys2Proof.Machine.execSoftwareReset s
  | .functionReset linkDown => Sys2Proof.Machine.execFunctionReset linkDown s
  | .controllerReset => Sys2Proof.Machine.execControllerReset s
  | .bootStepAdvance => Sys2Proof.Machine.execBootStepAdvance s
  | .bootImageRead src image sigOk => Sys2Proof.Machine.execBootImageRead src image sigOk s
  | .bootGo addr => Sys2Proof.Machine.execBootGo addr s
  | .writeSlot => Sys2Proof.Machine.execWriteSlot s
  | .writeSlotDone image sigOk flashOk => Sys2Proof.Machine.execWriteSlotDone image sigOk flashOk s
  | .activate => Sys2Proof.Machine.execActivate s
  | .confirm => Sys2Proof.Machine.execConfirm s
  | .svnCommit => Sys2Proof.Machine.execSvnCommit s
  | .trialTimeout => Sys2Proof.Machine.execTrialTimeout s
  | .getVersion => Sys2Proof.Machine.execGetVersion s
  | .getCapabilities => Sys2Proof.Machine.execGetCapabilities s
  | .negotiateAlgorithms => Sys2Proof.Machine.execNegotiateAlgorithms s
  | .getDigests => Sys2Proof.Machine.execGetDigests s
  | .getCertificate slot off len => Sys2Proof.Machine.execGetCertificate slot off len s
  | .challenge slot nonce => Sys2Proof.Machine.execChallenge slot nonce s
  | .getMeasurements index signed nonce => Sys2Proof.Machine.execGetMeasurements index signed nonce s
  | .respondIfReady token => Sys2Proof.Machine.execRespondIfReady token s
  | .tableDigestWalkDone => Sys2Proof.Machine.execTableDigestWalkDone s
  | .extest => Sys2Proof.Machine.execExtest s
  | .idcode => Sys2Proof.Machine.execIdcode s
  | .samplePreload sampled => Sys2Proof.Machine.execSamplePreload sampled s
  | .extestPulse => Sys2Proof.Machine.execExtestPulse s
  | .extestTrain => Sys2Proof.Machine.execExtestTrain s
  | .clamp => Sys2Proof.Machine.execClamp s
  | .highz => Sys2Proof.Machine.execHighz s
  | .ecid => Sys2Proof.Machine.execEcid s
  | .bypass => Sys2Proof.Machine.execBypass s
  | .tapReset => Sys2Proof.Machine.execTapReset s
  | .trefLost => Sys2Proof.Machine.execTrefLost s
  | .trefRestore => Sys2Proof.Machine.execTrefRestore s
  | .vaonFall => Sys2Proof.Machine.execVaonFall s
  | .perstNRelease bootSrc => Sys2Proof.Machine.execPerstNRelease bootSrc s
  | .sleepComparatorFire => Sys2Proof.Machine.execSleepComparatorFire s
  | .pfcPauseExpiry port cls => Sys2Proof.Machine.execPfcPauseExpiry port cls s
  | .laserSettled engine => Sys2Proof.Machine.execLaserSettled engine s
  | .controllerSend words => Sys2Proof.Machine.execControllerSend words s
  | .pcieLinkTrained speed width flit => Sys2Proof.Machine.execPcieLinkTrained speed width flit s
  | .unsupportedSpdmRequest code => Sys2Proof.Machine.execUnsupportedSpdmRequest code s
  | .moduleHotRefresh channel temp => Sys2Proof.Machine.execModuleHotRefresh channel temp s
  | .thermalWarningRearm unit => Sys2Proof.Machine.execThermalWarningRearm unit s
  | .vectorUnmask entry addr data => Sys2Proof.Machine.execVectorUnmask entry addr data s

end Sys2Proof.Machine
end

