-- ==== Sys2Proof/Safety.lean ====
section
/-! DEFINITION. What counts as a safe run, and which commands reach a part that is held. -/

namespace Sys2Proof

/-- The commands that act while a reset, a power trip, sleep or the lack of VAON holds the part: those of the test
port, the references and supplies, the sleep wake-up, and the resets that the pins and cricket make (19 R564, R568,
R569; 20 R580; 21 R609 to R618). -/
def Instr.reachesHeld (i : Instr) : Bool :=
  match i with
  | .extest | .idcode | .samplePreload _ | .extestPulse | .extestTrain | .clamp | .highz | .ecid | .bypass | .tapReset
  | .trefLost | .trefRestore | .vaonFall | .perstNRelease _ | .powerTrip _ | .tripHoldEnd _ | .wakeD0 | .lightWake _
  | .sleepComparatorFire | .powerOnReset _ _ | .fundamentalReset => true
  | _ => false

namespace Machine

/-- A step goes on: it neither faults nor refuses. -/
def Goes (s : State) : Prop := ∃ t, step s = .next t

/-- `n` steps, one after another, up to the first stop. -/
def steps : Nat → State → Out
  | 0, s => .next s
  | n + 1, s =>
    match step s with
    | .next t => steps n t
    | .fault r => .fault r
    | .refused r => .refused r

/-- The memories of the part are in their canonical form (10 R291, R292; log entry 1). -/
def MemState.wf (m : MemState) : Bool := Memory.wf m.spine && Memory.wf m.near

end Machine

end Sys2Proof
end

