-- ==== Sys2Proof/Certificates/Slice0/Obligations.lean ====
section
/-! DEFINITION. The statements for the provers, from the rules of spec/. -/

open Sys2Proof Sys2Proof.Machine

/-- A step runs the command at the front of the queue. For every command c, queue rest and state s, step of s with c ::
rest waiting is exec of c on s with rest waiting. On an empty queue step answers next s (the model's choice, log
entry 2). (02_beat_and_clocks.md R30) -/
def Obligations.StepRunsFrontCommand : Prop :=
  (∀ (c : Instr) (rest : List Instr) (s : State),
    step { s with pending := c :: rest } = exec c { s with pending := rest })
  ∧ ∀ s : State, s.pending = [] → step s = .next s

/-- Every well-formed command completes and leaves the queue alone. For every command that names units of the part and
every state, exec answers a next state, in which the commands that wait are those that waited before. A command that
is not well formed ends in the fault noSuchUnit and in nothing else. (00_scope.md; 01_architecture.md R11;
18_host_and_memory_interfaces.md) -/
def Obligations.WellFormedCommandsComplete : Prop :=
  ∀ (i : Instr) (s : State),
    (i.wellFormed = true → ∃ t, exec i s = .next t ∧ t.pending = s.pending)
    ∧ (i.wellFormed = false → exec i s = .fault .noSuchUnit)

/-- A queue of well-formed commands is kept by every step and drains without a stop. An invariant that every step keeps:
if every command that waits is well formed, step answers a next state in which every command that waits is well
formed and the queue is its tail. So as many steps as commands wait end in an empty queue, with no fault and no
refusal on the way. (00_scope.md) -/
def Obligations.WellFormedQueueDrains : Prop :=
  (∀ s t : State, (∀ c ∈ s.pending, c.wellFormed = true) → step s = .next t →
      (∀ c ∈ t.pending, c.wellFormed = true) ∧ t.pending = s.pending.tail)
  ∧ ∀ s : State, (∀ c ∈ s.pending, c.wellFormed = true) →
      ∃ t, steps s.pending.length s = .next t ∧ t.pending = []

/-- While the part is held, no command of the core changes anything, for as many steps as one likes. An invariant that
every step keeps. While PERST_N is low, VAON is low, the TAP holds the part, the part sleeps or a power trip holds
it, a command other than those of the pins, the test port, the supplies, the sleep wake-up and the resets is
dropped: step answers the same state without it, and the part is held still. So any number of such commands leaves
the state as it was. (21_package_electrical_test.md R618; 21_package_electrical_test.md R613; 19_power_and_ageing.md
R564; 19_power_and_ageing.md R568) -/
def Obligations.HeldPartIsNotReached : Prop :=
  (∀ (c : Instr) (rest : List Instr) (s : State), s.pending = c :: rest → s.live = false → c.wellFormed = true →
      c.reachesHeld = false → step s = .next { s with pending := rest })
  ∧ ∀ (n : Nat) (s : State), s.live = false →
      (∀ c ∈ s.pending, c.wellFormed = true ∧ c.reachesHeld = false) →
      steps n s = .next { s with pending := s.pending.drop n }

/-- The state after reset. After reset no command waits, nothing has been put out, PERST_N is low, so the core is not
live; both epochs are CLOSED, every partition but 0 is FREE, partition 0 is RUNNING, no domain is ON but cricket
(94), the beat generator does not run, memory lists nothing, and every register reads the Reset column of its
description. (20_boot_and_security.md R601; 20_boot_and_security.md R580; 04_station_programming.md R97;
15_partitions_and_recovery.md R438; 02_beat_and_clocks.md R52) -/
def Obligations.ResetState : Prop :=
  State.reset.pending = [] ∧ State.reset.out = [] ∧ State.reset.live = false
  ∧ State.reset.stn.st0 = .closed ∧ State.reset.stn.st1 = .closed
  ∧ (∀ p, p ≠ 0 → State.reset.pst p = .free) ∧ State.reset.pst 0 = .running
  ∧ (∀ d, d ≠ 94 → (State.reset.dom d).st = 0) ∧ (State.reset.dom 94).st = 2
  ∧ State.reset.beat.running = false
  ∧ State.reset.mem.spine = [] ∧ State.reset.mem.near = []
  ∧ ∀ (k : RegKind) (i : Nat), State.reset.reg k i = k.reset

/-- IDCODE, ECID, SAMPLE/PRELOAD, BYPASS and Test-Logic-Reset change the test port alone. In every state, held or not:
IDCODE and Test-Logic-Reset leave code 0x01 in the instruction register, and IDCODE puts out 0x25E1_69E7; ECID
leaves 0x10 and puts out SEC_ID, the fused serial; SAMPLE/PRELOAD leaves 0x02 and loads the 3,373 cells; BYPASS
leaves 0xFF. Each leaves everything else of the state as it was: a hold of the part stands.
(21_package_electrical_test.md R616; 21_package_electrical_test.md R617; 21_package_electrical_test.md R618;
21_package_electrical_test.md R619; 20_boot_and_security.md R600) -/
def Obligations.TapReadsWithoutDisturbing : Prop :=
  ∀ s : State,
    exec .idcode s = .next { s with pins := { s.pins with ir := 0x01 }, out := s.out ++ [.tdo 0x25E169E7] }
    ∧ exec .tapReset s = .next { s with pins := { s.pins with ir := 0x01 } }
    ∧ exec .bypass s = .next { s with pins := { s.pins with ir := 0xFF } }
    ∧ exec .ecid s = .next { s with pins := { s.pins with ir := 0x10 }, out := s.out ++ [.tdo s.boot.fuses.serial.toNat] }
    ∧ ∀ n, exec (.samplePreload n) s = .next { s with pins := { s.pins with ir := 0x02, boundary := n % 2 ^ 3373 } }

/-- EXTEST, EXTEST_PULSE, EXTEST_TRAIN, CLAMP and HIGHZ reset the part and hold it. In every state each of the five
becomes the current instruction, every block is reset (both memories, the counters, the queues, the collectives, the
partitions and local time are as after reset), the firmware does not run, the PCIe link is down, and the part is
held. The fuses, the flash slots, PWR_WAKE and the ageing registers, the outputs and the queue are kept. A power-
trip hold stands. (21_package_electrical_test.md R618; 21_package_electrical_test.md R617; 20_boot_and_security.md
R580; 20_boot_and_security.md R601) -/
def Obligations.TapTakesThePins : Prop :=
  ∀ (s : State) (i : Instr) (code : Nat),
    (i, code) ∈ [(Instr.extest, 0x00), (.extestPulse, 0x03), (.extestTrain, 0x04), (.clamp, 0x05), (.highz, 0x06)] →
    ∃ t, exec i s = .next t ∧ t.pins.ir = code ∧ t.pins.tapHold = true ∧ t.live = false
      ∧ t.boot.running = false ∧ t.host.speed = 0 ∧ t.host.width = 0
      ∧ t.mem = State.reset.mem ∧ t.cnt = State.reset.cnt ∧ t.q = State.reset.q ∧ t.net = State.reset.net
      ∧ t.coll = State.reset.coll ∧ t.part = State.reset.part ∧ t.time = State.reset.time ∧ t.tbl = State.reset.tbl
      ∧ t.regs = { eff := keptRegs s.regs.eff }
      ∧ t.boot.fuses = s.boot.fuses ∧ t.boot.active = s.boot.active ∧ t.boot.validA = s.boot.validA
      ∧ t.boot.validB = s.boot.validB ∧ t.boot.trial = s.boot.trial
      ∧ t.pwr.trip = s.pwr.trip ∧ t.out = s.out ∧ t.pending = s.pending

/-- The loss and the return of TREF, and the fall of VAON. A loss of TREF while it is good selects the synthesizer, sets
ref_lost, adds 1 to ref_lost_cnt up to its maximum and raises an event; every register but DEV_PKG_STATUS is as it
was. Its return makes TREF good and changes nothing else. A fall of VAON stops the part, and changes nothing else.
(21_package_electrical_test.md R611; 21_package_electrical_test.md R612; 21_package_electrical_test.md R609) -/
def Obligations.ReferenceAndSupplyPins : Prop :=
  (∀ s : State, s.pins.refOk = true →
      ∃ t, exec .trefLost s = .next t ∧ t.pins = { s.pins with refOk := false, refSel := true }
        ∧ t.flag .devPkgStatus 0 2 = true
        ∧ t.fld .devPkgStatus 0 47 32 = Nat.min 65535 (s.fld .devPkgStatus 0 47 32 + 1)
        ∧ (∀ (k : RegKind) (i : Nat), k.off i / 8 ≠ RegKind.devPkgStatus.off 0 / 8 → t.reg k i = s.reg k i)
        ∧ t.out = s.out ++ [.event .refLost []] ∧ t.time = s.time ∧ t.mem = s.mem)
  ∧ (∀ s : State, exec .trefRestore s = .next { s with pins := { s.pins with refOk := true } })
  ∧ ∀ s : State, exec .vaonFall s = .next { s with pins := { s.pins with vaonLow := true } }
      ∧ ({ s with pins := { s.pins with vaonLow := true } } : State).live = false

/-- Ramps, supply faults and their consequences for the power domains. On a live part. A domain in RAMP_UP whose supply
comes into range waits for the boundary while the beat runs. A domain in RAMP_DOWN goes OFF, or to FAULT where the
ramp ends in FAULT, with a guard of 0, and no other domain, register or memory changes. A supply fault of a domain
below 80 that is neither OFF nor in FAULT, outside start-up steps 5, 7 and 10, makes a ramp down due and changes
nothing else. A photonic sensor at 85 degrees or more makes a ramp down of its engine's domain due, with cause 6 and
one item, where none is due yet. (19_power_and_ageing.md R554; 19_power_and_ageing.md R555; 19_power_and_ageing.md
R563; 19_power_and_ageing.md R552) -/
def Obligations.DomainRampsAndFaults : Prop :=
  ∀ s : State, s.live = true →
    (∀ d, d < 96 → (s.dom d).st = 1 → s.beat.running = true →
      exec (.domainRampUpDone d) s = .next (s.setDom d fun x => { x with inRange := true }))
    ∧ (∀ d, d < 96 → (s.dom d).st = 3 → s.beat.running = true →
      ∃ t, exec (.domainRampDownDone d) s = .next t
        ∧ (t.dom d).st = (if (s.dom d).toFault then 4 else 0) ∧ (t.dom d).vg = 0
        ∧ (∀ e, e ≠ d → t.dom e = s.dom e) ∧ t.regs = s.regs ∧ t.mem = s.mem
        ∧ t.host.outbox.length = s.host.outbox.length + 1)
    ∧ (∀ d, d < 80 → (s.dom d).st ≠ 0 → (s.dom d).st ≠ 4 → s.boot.step ≠ 5 → s.boot.step ≠ 7 → s.boot.step ≠ 10 →
      exec (.supplyFault d) s = .next (s.setDom d fun x => { x with force := some 3 }))
    ∧ (∀ e temp, e < 16 → 1360 ≤ temp → temp < 4096 → ((s.dom (64 + e)).st = 1 ∨ (s.dom (64 + e)).st = 2) →
        (s.dom (64 + e)).force = none →
      ∃ t, exec (.photonicTrip e temp) s = .next t ∧ (t.dom (64 + e)).force = some 6
        ∧ (∀ d, d ≠ 64 + e → t.dom d = s.dom d) ∧ t.regs = s.regs ∧ t.mem = s.mem
        ∧ t.host.outbox = s.host.outbox ++ [(s.pwrRing % 64,
            [⟨at_ 56 0x91 ||| at_ 52 4 ||| at_ 45 (64 + e), at_ 32 temp, s.beatWord, 0⟩])])

/-- A power trip takes every domain but cricket off, drives the alarm pin and takes the link down. A switch-die sensor
at 105 degrees or more on a part that neither sleeps nor is held by a trip or the lack of VAON, and a supply fault
of domain 92 to 95 on a live part, or of domain 80 to 91 outside start-up steps 5, 7 and 10, where the domain is
neither OFF nor in FAULT: every domain but 94 is OFF, the alarm is driven, the PCIe link is down, no item waits to
be posted, the part is held, and PWR_WAKE records the temperature or the domain. Memory and the fuses are as they
were. (19_power_and_ageing.md R564; 19_power_and_ageing.md R555; 19_power_and_ageing.md R571) -/
def Obligations.PowerTripTakesEveryDomainOff : Prop :=
  (∀ (s : State) (temp : Nat), 1680 ≤ temp → temp < 4096 → s.pwr.trip = none → s.pwr.asleep = false →
      s.pins.vaonLow = false →
    ∃ t, exec (.powerTrip temp) s = .next t ∧ t.pwr.trip = some 3 ∧ t.pins.alarmLow = true ∧ t.live = false
      ∧ (∀ d, d ≠ 94 → (t.dom d).st = 0) ∧ t.host.speed = 0 ∧ t.host.width = 0 ∧ t.host.outbox = []
      ∧ t.fld .pwrWake 0 44 33 = temp ∧ t.mem = s.mem ∧ t.boot = s.boot)
  ∧ (∀ (s : State) (d : Nat), s.live = true → 80 ≤ d → d < 96 → (s.dom d).st ≠ 0 → (s.dom d).st ≠ 4 →
      (d < 92 → s.boot.step ≠ 5 ∧ s.boot.step ≠ 7 ∧ s.boot.step ≠ 10) →
    ∃ t, exec (.supplyFault d) s = .next t ∧ t.pwr.trip = some 4 ∧ t.pins.alarmLow = true ∧ t.live = false
      ∧ (∀ e, e ≠ 94 → (t.dom e).st = 0) ∧ t.host.speed = 0 ∧ t.host.width = 0 ∧ t.host.outbox = []
      ∧ t.fld .pwrWake 0 51 45 = d ∧ t.mem = s.mem ∧ t.boot = s.boot)

/-- The end of a trip's hold, sleep, and what wakes the part. A trip's hold ends once every switch-die sensor reads 10
degrees below t_warn: the trip is over and the alarm released, and where nothing else holds the part it starts with
step 2 and the trip's cause in PWR_WAKE. A write of D3hot makes sleep due. In sleep, a write of D0 starts a part
that nothing else holds, with cause 2 where light has woken cricket and cause 1 otherwise; light on a fibre whose
bit of the wake mask is set sends one PME; a comparator is recorded in PWR_WAKE and wakes nothing.
(19_power_and_ageing.md R564; 19_power_and_ageing.md R567; 19_power_and_ageing.md R569; 19_power_and_ageing.md R570;
19_power_and_ageing.md R571; 20_boot_and_security.md R583) -/
def Obligations.TripSleepAndWake : Prop :=
  (∀ (s : State) (cause temp : Nat), s.pwr.trip = some cause → temp < 4096 → temp + 160 < 16 * s.tWarn →
    ∃ t, exec (.tripHoldEnd temp) s = .next t ∧ t.pwr.trip = none ∧ t.pins.alarmLow = false
      ∧ t.boot.running = false ∧ t.boot.fuses = s.boot.fuses ∧ t.pending = s.pending
      ∧ (s.heldReset = false → t.boot.step = 2 ∧ t.fld .pwrWake 0 63 60 = cause % 16))
  ∧ (∀ s : State, s.live = true → exec .sleepEntry s = .next { s with pwr := { s.pwr with sleepDue := true } })
  ∧ (∀ s : State, s.pwr.asleep = true → s.heldReset = false →
    ∃ t, exec .wakeD0 s = .next t ∧ t.pwr.asleep = false ∧ t.boot.step = 2
      ∧ t.fld .pwrWake 0 63 60 = (if s.pwr.wakePair.isSome then 2 else 1) ∧ t.boot.fuses = s.boot.fuses
      ∧ t.pending = s.pending)
  ∧ (∀ (s : State) (pair : Nat), pair < 256 → s.pwr.asleep = true → s.pwr.wakePair = none →
      s.flag .pwrWakeMask (pair / 64) (pair % 64) = true →
    exec (.lightWake pair) s = .next { s with pwr := { s.pwr with wakePair := some pair }, out := s.out ++ [.pme] })
  ∧ ∀ s : State, s.pwr.asleep = true → exec .sleepComparatorFire s = .next (s.setFlag .pwrWake 0 32 true)

/-- A thermal warning posts one item until the unit has been re-armed. On a live part, a unit (0 and 1 the switch dies,
2 + e the photonic die of engine e) that has not been warned of and reads its limit or more is marked, and posts one
item 0x91 with code 1, or 3 for a photonic die. Once marked, a further warning changes nothing. Re-arming clears the
mark and nothing else. (19_power_and_ageing.md R561; 19_power_and_ageing.md R577) -/
def Obligations.WarningsPostOnceUntilRearmed : Prop :=
  ∀ (s : State) (u temp : Nat), s.live = true → u < 18 → temp < 4096 →
    (SMap.get false s.pwr.warned u = false → 16 * s.unitLimit u ≤ temp →
      ∃ t, exec (.thermalWarning u temp) s = .next t ∧ SMap.get false t.pwr.warned u = true
        ∧ t.host.outbox = s.host.outbox ++ [(s.pwrRing % 64,
            [⟨at_ 56 0x91 ||| at_ 52 (if u < 2 then 1 else 3) ||| at_ 45 (unitDom u), at_ 32 temp, s.beatWord, 0⟩])]
        ∧ t.regs = s.regs ∧ t.pwr.dom = s.pwr.dom ∧ t.mem = s.mem)
    ∧ (SMap.get false s.pwr.warned u = true → exec (.thermalWarning u temp) s = .next s)
    ∧ exec (.thermalWarningRearm u) s
        = .next { s with pwr := { s.pwr with warned := SMap.set false s.pwr.warned u false } }

/-- A comparator's stretch and its end. On a live part. A comparator that fires on a die whose clock is not stretched,
with no stretch to come, makes one due at the next boundary or the one after (which of the two is free, log entry
6), and records the temperature; the other die, the registers and memory are as they were. The end of a stretch is
called for the coming boundary where the die's comparators have been quiet for release whole beats (called within
the beat: the model's choice, log entry 3), and changes nothing before; there the clock is no longer stretched, and
one item is posted. Where they have not been quiet for so long, nothing changes. (19_power_and_ageing.md R559;
19_power_and_ageing.md R560) -/
def Obligations.StretchStartsAndEnds : Prop :=
  ∀ s : State, s.live = true →
    (∀ temp, temp < 4096 → s.beat.stretchW = false → s.pwr.startW = none →
      ∃ t, exec (.stretchComparatorFire 0 temp) s = .next t ∧ t.pwr.fireW = true ∧ t.pwr.tempW = temp
        ∧ (t.pwr.startW = some (s.beat.bc + 1) ∨ t.pwr.startW = some (s.beat.bc + 2))
        ∧ t.pwr.startE = s.pwr.startE ∧ t.regs = s.regs ∧ t.mem = s.mem ∧ t.out = s.out)
    ∧ (∀ temp, temp < 4096 → s.beat.stretchE = false → s.pwr.startE = none →
      ∃ t, exec (.stretchComparatorFire 1 temp) s = .next t ∧ t.pwr.fireE = true ∧ t.pwr.tempE = temp
        ∧ (t.pwr.startE = some (s.beat.bc + 1) ∨ t.pwr.startE = some (s.beat.bc + 2))
        ∧ t.pwr.startW = s.pwr.startW ∧ t.regs = s.regs ∧ t.mem = s.mem ∧ t.out = s.out)
    ∧ (s.beat.stretchW = true → s.release ≤ s.quietBeats false → exec (.stretchEnd 0) s = .next (s.call (.stretchEnd 0) true)
        ∧ (s.stretchEnds false).beat = { s.beat with stretchW := false }
        ∧ (s.stretchEnds false).host.outbox.length = s.host.outbox.length + 1 ∧ (s.stretchEnds false).regs = s.regs
        ∧ (s.stretchEnds false).pwr = s.pwr)
    ∧ (s.beat.stretchE = true → s.release ≤ s.quietBeats true → exec (.stretchEnd 1) s = .next (s.call (.stretchEnd 1) true)
        ∧ (s.stretchEnds true).beat = { s.beat with stretchE := false }
        ∧ (s.stretchEnds true).host.outbox.length = s.host.outbox.length + 1 ∧ (s.stretchEnds true).regs = s.regs
        ∧ (s.stretchEnds true).pwr = s.pwr)
    ∧ ∀ die, die < 2 → s.stretched (decide (die = 1)) = false ∨ s.quietBeats (decide (die = 1)) < s.release →
        exec (.stretchEnd die) s = .next s

/-- Ageing samples and the daily re-plan. On a live part whose firmware runs. An oscillator sample puts its degradation
into PWR_AGE, up to the field's maximum; a laser sample puts its bias into LE_LASER; a heater more than 800 from its
centre, or an eye below 12 mV or 80 mUI, is listed among the monitors beyond their limits, and one within them is
not; memory, the outputs and the power domains are as they were. A re-plan that meets a stretch or a ramp waits, and
its fourth wait ends it with one item; one that meets neither gives every domain below 94 that is ON its planned
guard. (19_power_and_ageing.md R572; 19_power_and_ageing.md R573; 19_power_and_ageing.md R574;
19_power_and_ageing.md R576) -/
def Obligations.AgeingAndReplan : Prop :=
  ∀ s : State, s.live = true → s.boot.running = true →
    (∀ d deg fm, d < 94 →
      ∃ t, exec (.ageingSample (.oscillator d deg fm)) s = .next t
        ∧ t.fld .pwrAge d 63 48 = Nat.min 65535 deg ∧ t.pwr.dom = s.pwr.dom ∧ t.mem = s.mem ∧ t.out = s.out)
    ∧ (∀ e k bias, e < 16 → k < 12 →
      ∃ t, exec (.ageingSample (.laser e k bias)) s = .next t
        ∧ t.fld .leLaser (12 * e + k) 55 44 = Nat.min 4095 bias ∧ t.pwr.dom = s.pwr.dom ∧ t.mem = s.mem ∧ t.out = s.out)
    ∧ (∀ n off, n < 1024 →
      ∃ t, exec (.ageingSample (.heater n off)) s = .next t
        ∧ ((3, n) ∈ t.pwr.aged ↔ 800 < off.natAbs) ∧ t.regs = s.regs ∧ t.pwr.dom = s.pwr.dom ∧ t.mem = s.mem)
    ∧ (∀ n mv ui, n < 1024 →
      ∃ t, exec (.ageingSample (.eye n mv ui)) s = .next t
        ∧ ((4, n) ∈ t.pwr.aged ↔ mv < 12 ∨ ui < 80) ∧ t.regs = s.regs ∧ t.pwr.dom = s.pwr.dom ∧ t.mem = s.mem)
    ∧ (∀ fm, (s.beat.stretchW = true ∨ s.beat.stretchE = true ∨ ∃ e ∈ s.pwr.dom, e.2.ramping = true) →
      ∃ t, exec (.marginReplan fm) s = .next t ∧ t.pwr.dom = s.pwr.dom ∧ t.regs = s.regs
        ∧ t.pwr.waits = (if s.pwr.waits + 1 < 4 then s.pwr.waits + 1 else 0)
        ∧ t.host.outbox.length = s.host.outbox.length + (if s.pwr.waits + 1 < 4 then 0 else 1))
    ∧ (∀ fm, s.beat.stretchW = false → s.beat.stretchE = false → (∀ e ∈ s.pwr.dom, e.2.ramping = false) →
      ∃ t, exec (.marginReplan fm) s = .next t ∧ t.pwr.waits = 0 ∧ t.mem = s.mem ∧ t.out = s.out
        ∧ ∀ d, d < 94 → (s.dom d).st = 2 →
            (t.dom d).goal = planUnits (s.fld .pwrAge d 63 48) (s.dom d).vg ∧ (t.dom d).vg = (s.dom d).vg)

/-- What each reset clears and what it keeps. A power-on reset keeps the fuses and the flash alone, clears every
register, and leaves PERST_N low and step 1. PERST_N low makes a fundamental reset and holds the part, and leaves of
the registers those alone that keptRegs keeps (PWR_WAKE, its mask, PWR_AGE and the margin steps). A software reset
on a live part starts the part with cause 6, and keeps the PCIe link and the MSI-X table. All three drop the
counters, queues, collectives, partitions, memory and local time. A controller reset stops the firmware and changes
no register, memory, queue, partition or collective. (20_boot_and_security.md R580; 20_boot_and_security.md R581;
20_boot_and_security.md R582; 20_boot_and_security.md R601; 21_package_electrical_test.md R613;
21_package_electrical_test.md R620) -/
def Obligations.ResetsKeepWhatTheTableKeeps : Prop :=
  ∀ s : State,
    (∀ testMode bootSrc, ∃ t, exec (.powerOnReset testMode bootSrc) s = .next t
      ∧ t.regs = {} ∧ t.pins.perstLow = true ∧ t.boot.step = 1 ∧ t.boot.running = false
      ∧ t.boot.fuses = s.boot.fuses ∧ t.boot.active = s.boot.active ∧ t.boot.validA = s.boot.validA
      ∧ t.boot.validB = s.boot.validB ∧ t.mem = State.reset.mem ∧ t.cnt = State.reset.cnt ∧ t.q = State.reset.q
      ∧ t.coll = State.reset.coll ∧ t.part = State.reset.part ∧ t.time = State.reset.time ∧ t.host = State.reset.host
      ∧ t.pins.testSeen = testMode ∧ t.pins.manufacturing = (testMode && !s.boot.fuses.prod) ∧ t.pending = s.pending)
    ∧ (∃ t, exec .fundamentalReset s = .next t
      ∧ t.regs = { eff := keptRegs s.regs.eff } ∧ t.pins.perstLow = true ∧ t.pins.tapHold = false ∧ t.live = false
      ∧ t.boot.running = false ∧ t.boot.fuses = s.boot.fuses ∧ t.mem = State.reset.mem ∧ t.cnt = State.reset.cnt
      ∧ t.q = State.reset.q ∧ t.coll = State.reset.coll ∧ t.part = State.reset.part ∧ t.time = State.reset.time
      ∧ t.host = State.reset.host ∧ t.pending = s.pending)
    ∧ (s.live = true → ∃ t, exec .softwareReset s = .next t
      ∧ t.boot.step = 2 ∧ t.fld .pwrWake 0 63 60 = 6 ∧ t.boot.running = false ∧ t.boot.fuses = s.boot.fuses
      ∧ t.host.speed = s.host.speed ∧ t.host.width = s.host.width ∧ t.host.msix = s.host.msix
      ∧ t.mem = State.reset.mem ∧ t.cnt = State.reset.cnt ∧ t.q = State.reset.q ∧ t.coll = State.reset.coll
      ∧ t.part = State.reset.part ∧ t.time = State.reset.time ∧ t.pending = s.pending)
    ∧ (s.live = true → s.boot.trial = false → ∃ t, exec .controllerReset s = .next t
      ∧ t.boot.running = false ∧ t.boot.spdm = 0 ∧ t.boot.walk = none ∧ t.boot.fuses = s.boot.fuses
      ∧ t.regs = s.regs ∧ t.mem = s.mem ∧ t.cnt = s.cnt ∧ t.q = s.q ∧ t.coll = s.coll ∧ t.part = s.part
      ∧ t.pwr = s.pwr ∧ t.time = s.time ∧ t.pending = s.pending)

/-- The start after PERST_N is released. A release of PERST_N samples BOOT_SRC. A part that nothing else holds and that
is not in step 1 starts: the step is 2, PWR_WAKE has cause 5, and domains 92 and 93 have been asked on; a part in
step 1 stays there for the next advance. (20_boot_and_security.md R583; 20_boot_and_security.md R584;
21_package_electrical_test.md R613; 19_power_and_ageing.md R571) -/
def Obligations.StartAfterPerst : Prop :=
  ∀ (s : State) (src : Bool), s.pins.perstLow = true →
    (s.boot.step = 1 → exec (.perstNRelease src) s
      = .next { s with pins := { s.pins with perstLow := false, bootSrc := src } })
    ∧ (s.boot.step ≠ 1 → s.pins.tapHold = false → s.pins.vaonLow = false → s.pwr.trip = none →
        s.pins.manufacturing = false →
      ∃ t, exec (.perstNRelease src) s = .next t ∧ t.pins = { s.pins with perstLow := false, bootSrc := src }
        ∧ t.boot = { s.boot with step := 2 } ∧ t.fld .pwrWake 0 63 60 = 5
        ∧ t.flag .pwrDom 92 57 = true ∧ t.flag .pwrDom 93 57 = true ∧ t.mem = s.mem)

/-- The boot ROM runs an image that passes every check and rejects one that does not. On a live part whose boot ROM
looks for an image and reads it from the source that it tries. An image that passes the checks makes the firmware
run from that source, with the image's version and svn, and counts a start. One that fails a check is rejected: its
code stands in err, the source counts as tried, and the ROM halts once every source has failed. Fuses and flash,
memory and partitions are as they were. (20_boot_and_security.md R584; 20_boot_and_security.md R585;
20_boot_and_security.md R597) -/
def Obligations.BootImageIsCheckedAndRun : Prop :=
  ∀ (s : State) (src : ImageSource) (image : Option (List Byte)) (sigOk : Bool), s.live = true → s.romLooks = true →
      s.romSource = some (srcCode src) →
    (∀ img, image = some img → s.boot.checkFw image sigOk = none → s.boot.owed = [] →
      ∃ t, exec (.bootImageRead src image sigOk) s = .next t ∧ t.boot.running = true ∧ t.boot.src = srcCode src
        ∧ t.boot.fwVersion = imgField img 6 2 ∧ t.boot.svn = imgField img 8 1
        ∧ t.boot.starts = (s.boot.starts + 1) % 65536 ∧ t.boot.fuses = s.boot.fuses ∧ t.boot.active = s.boot.active
        ∧ t.mem = s.mem ∧ t.part = s.part)
    ∧ (∀ code, s.boot.checkFw image sigOk = some code →
      ∃ t, exec (.bootImageRead src image sigOk) s = .next t ∧ t.boot.running = false ∧ t.boot.err = code
        ∧ t.boot.tried = s.boot.tried + 1 ∧ t.boot.halted = decide (s.bootSources.length ≤ s.boot.tried + 1)
        ∧ t.boot.fuses = s.boot.fuses ∧ t.boot.active = s.boot.active ∧ t.regs = s.regs ∧ t.mem = s.mem
        ∧ t.part = s.part)

/-- Slot writes, activation, trial, confirmation and the svn commit. On a live part whose firmware runs. write_slot
makes the operation busy where none is; its end leaves done with the other slot valid for an image that passes and
reads back, and failed with the code of the check, or 0x07 with the slot empty for a flash error. activate under
trial is refused with 0x0C; otherwise the other slot is active on trial and the firmware stops. confirm clears
trial. svn_commit is refused with 0x0C under trial; otherwise the fused svn is the greater of itself and the running
svn. A trial that has lasted 60 s ends with the previous slot active and err 0x0B. None of them changes memory, a
partition or a collective. (20_boot_and_security.md R589; 20_boot_and_security.md R590; 20_boot_and_security.md
R591; 20_boot_and_security.md R596; 20_boot_and_security.md R598) -/
def Obligations.FirmwareRoll : Prop :=
  ∀ s : State, s.live = true → s.boot.running = true →
    (s.boot.opState ≠ 1 → exec .writeSlot s = .next { s with boot := { s.boot with opState := 1, opErr := 0 } })
    ∧ (∀ image sigOk flashOk, s.boot.opState = 1 →
        ∃ t, exec (.writeSlotDone image sigOk flashOk) s = .next t
          ∧ t.mem = s.mem ∧ t.part = s.part ∧ t.coll = s.coll ∧ t.regs = s.regs ∧ t.boot.fuses = s.boot.fuses
          ∧ t.boot.active = s.boot.active
          ∧ (∀ code, s.boot.checkFw image sigOk = some code → t.boot = { s.boot with opState := 3, opErr := code })
          ∧ (s.boot.checkFw image sigOk = none → flashOk = true →
              t.boot.opState = 2 ∧ t.boot.opErr = 0 ∧ (if s.boot.active then t.boot.validA else t.boot.validB) = true)
          ∧ (s.boot.checkFw image sigOk = none → flashOk = false →
              t.boot.opState = 3 ∧ t.boot.opErr = 7 ∧ (if s.boot.active then t.boot.validA else t.boot.validB) = false))
    ∧ (s.boot.trial = true → exec .activate s = .next { s with boot := { s.boot with opState := 3, opErr := 0x0C } })
    ∧ (s.boot.trial = false → ∃ t, exec .activate s = .next t ∧ t.boot.active = !s.boot.active ∧ t.boot.trial = true
        ∧ t.boot.running = false ∧ t.boot.fuses = s.boot.fuses ∧ t.mem = s.mem ∧ t.part = s.part ∧ t.coll = s.coll
        ∧ t.regs = s.regs)
    ∧ exec .confirm s = .next { s with boot := { s.boot with trial := false } }
    ∧ (s.boot.trial = true → exec .svnCommit s = .next { s with boot := { s.boot with opState := 3, opErr := 0x0C } })
    ∧ (s.boot.trial = false → exec .svnCommit s = .next { s with boot := { s.boot with
        opState := 2, opErr := 0, fuses := { s.boot.fuses with svn := Nat.max s.boot.fuses.svn s.boot.svn } } })
    ∧ (s.boot.trial = true → s.boot.trialAt + 234375000 ≤ s.beat.bc + 1 →
        ∃ t, exec .trialTimeout s = .next t ∧ t.boot.active = !s.boot.active ∧ t.boot.trial = false
          ∧ t.boot.err = 0x0B ∧ t.boot.running = false ∧ t.beat = s.beat ∧ t.mem = s.mem ∧ t.part = s.part)

/-- The start-up steps that a step's own end begins. On a live part that is not in manufacturing test and has not
halted. From step 1 the start begins with step 2. Step 2 goes on to step 3 once domains 92 and 93 are ON, and step 4
to step 5 once the firmware runs. While a step is not done, an advance changes nothing: domain 92 not ON in step 2,
an image not yet run in steps 4 and on. A write of go while the ROM looks records the address and go; while it has
halted it looks again at the host. (20_boot_and_security.md R583; 20_boot_and_security.md R584;
20_boot_and_security.md R598) -/
def Obligations.BootStepsAdvanceInOrder : Prop :=
  ∀ s : State, s.live = true → s.pins.manufacturing = false → s.boot.halted = false →
    (s.boot.step = 1 → ∃ t, exec .bootStepAdvance s = .next t ∧ t.boot = { s.boot with step := 2 }
      ∧ t.fld .pwrWake 0 63 60 = 0 ∧ t.mem = s.mem)
    ∧ (s.boot.step = 2 → (s.dom 92).st = 2 → (s.dom 93).st = 2 →
        exec .bootStepAdvance s = .next { s with boot := { s.boot with step := 3, stage := 1 } })
    ∧ (s.boot.step = 4 → s.boot.running = true → ∃ t, exec .bootStepAdvance s = .next t ∧ t.boot = { s.boot with step := 5, stage := 3 })
    ∧ (s.boot.step = 2 → (s.dom 92).st ≠ 2 → exec .bootStepAdvance s = .next s)
    ∧ (4 ≤ s.boot.step → s.boot.running = false → exec .bootStepAdvance s = .next s)
    ∧ (∀ addr, s.boot.running = false → 2 ≤ s.boot.step → ∃ t, exec (.bootGo addr) s = .next t ∧ t.boot = { s.boot with go := true }
        ∧ t.fld .secBootCtrl 0 63 12 = addr / 4096 % 2 ^ 52 ∧ t.mem = s.mem)

/-- The SPDM responder answers each request in its place in the exchange. On a live part whose firmware runs and forms
no table digest. GET_VERSION starts an exchange. GET_CAPABILITIES after it, NEGOTIATE_ALGORITHMS after that, and
GET_DIGESTS, GET_CERTIFICATE and CHALLENGE after that are answered with their responses for slot 0. GET_MEASUREMENTS
of a block that needs no table digest is answered at once; of one that does, ResponseNotReady with a token.
RESPOND_IF_READY with the token is answered by the measurement once the walk is done, and ResponseNotReady before. A
request out of its place is answered UnexpectedRequest, an unsupported one UnsupportedRequest. Each answer is one
output, and the registers, memory, partitions and collectives are as they were. (20_boot_and_security.md R592;
20_boot_and_security.md R593; 20_boot_and_security.md R594; 20_boot_and_security.md R595) -/
def Obligations.SpdmResponder : Prop :=
  ∀ s : State, s.live = true → s.boot.running = true →
    (∃ t, exec .getVersion s = .next t ∧ t.boot = { s.boot with spdm := 1, walk := none } ∧ t.regs = s.regs
      ∧ t.out = s.out ++ [.spdm 0x04 [0, 1, 0x00, 0x13]])
    ∧ (∀ code, exec (.unsupportedSpdmRequest code) s
        = .next { s with out := s.out ++ [.spdm 0x7F [7, BitVec.ofNat 8 code]] })
    ∧ (s.boot.walk = none →
      (s.boot.spdm = 0 → exec .getCapabilities s = .next { s with out := s.out ++ [.spdm 0x7F [4, 0]] })
      ∧ (1 ≤ s.boot.spdm → ∃ t, exec .getCapabilities s = .next t
          ∧ t.boot = { s.boot with spdm := Nat.max 2 s.boot.spdm } ∧ t.out = s.out ++ [.spdm 0x61 (leBytes 4 4096)])
      ∧ (2 ≤ s.boot.spdm → ∃ t b, exec .negotiateAlgorithms s = .next t
          ∧ t.boot = { s.boot with spdm := Nat.max 3 s.boot.spdm } ∧ t.out = s.out ++ [.spdm 0x63 b])
      ∧ (3 ≤ s.boot.spdm →
        exec .getDigests s = .next { s with out := s.out ++ [.spdm 0x01 (1 :: s.certDigest)] }
        ∧ (∀ off len, ∃ o, exec (.getCertificate 0 off len) s = .next { s with out := s.out ++ [o] }
            ∧ (off < s.certLen → ∃ b, o = .spdm 0x02 b) ∧ (s.certLen ≤ off → o = .spdm 0x7F [1, 0]))
        ∧ (∀ nonce, exec (.challenge 0 nonce) s = .next { s with out := s.out ++
            [.spdm 0x03 ((0 : Byte) :: s.certDigest ++ s.sign ((0 : Byte) :: s.certDigest ++ nonce))] })
        ∧ (∀ i g n, i ≤ 5 ∨ i = 8 → ∃ b, exec (.getMeasurements i g n) s = .next { s with out := s.out ++ [.spdm 0x60 b] })
        ∧ (∀ i g n, i = 6 ∨ i = 7 ∨ i = 255 → ∃ t, exec (.getMeasurements i g n) s = .next t
            ∧ t.boot.walk = some { index := i, signed := g, nonce := n } ∧ t.boot.token = (s.boot.token + 1) % 256
            ∧ t.out = s.out ++ [.spdm 0x7F [0x42, BitVec.ofNat 8 t.boot.token]])))
    ∧ (∀ w, s.boot.walk = some w → w.restarts < 3 →
      (∃ t, exec .tableDigestWalkDone s = .next t ∧ t.out = s.out
        ∧ t.boot = { s.boot with walk := some { w with digests := some (s.tableDigest false, s.tableDigest true) } })
      ∧ (w.digests = none → exec (.respondIfReady s.boot.token) s
          = .next { s with out := s.out ++ [.spdm 0x7F [0x42, BitVec.ofNat 8 s.boot.token]] })
      ∧ (∀ d, w.digests = some d → ∃ t b, exec (.respondIfReady s.boot.token) s = .next t
          ∧ t.boot = { s.boot with walk := none } ∧ t.out = s.out ++ [.spdm 0x60 b]))

/-- A command that is a register write leaves that write waiting, and changes no register in effect. On a live part each
of sixteen commands leaves one write of its register waiting behind those that wait already, with the fields that
the command names, and nothing else changes: the registers in effect are as they were. Where the rule judges a
condition at the write (a carve beyond 128 KiB, minima that do not fit, a cluster step above the one in effect, a
retire of a laser that cannot be retired, a retry of a lane that is not in FAILED), a write that fails it changes
nothing but the event of R182. The light engine's rows are for an engine whose domain is ON; otherwise the write is
a crossing fault. An anchor preference is kept while the leaf's enable is shown. (00_scope.md R8;
03_frames_and_addresses.md R57; 07_buffers_queues_shaping.md R182; 07_buffers_queues_shaping.md R210;
08_light_engines.md R222; 08_light_engines.md R230; 08_light_engines.md R237; 09_optical_bypass.md R271;
09_optical_bypass.md R273; 14_integrity.md R424; 14_integrity.md R431; 19_power_and_ageing.md R553) -/
def Obligations.RegisterCommandsQueueTheirWrite : Prop :=
  (∀ (s : State) (k : RegKind) (n : Nat) (v : Word) (late : Bool),
    (s.queueWrite k n v late).regs.pend = s.regs.pend ++ [⟨k, n, v, late⟩]
    ∧ (∀ j m, (s.queueWrite k n v late).reg j m = s.reg j m)
    ∧ s.queueWrite k n v late = { s with regs := { s.regs with pend := (s.queueWrite k n v late).regs.pend } })
  ∧ ∀ (s : State) (late : Bool), s.live = true →
    (∀ p v m w, p < 1024 → w < 4 → exec (.portReconfig p v m w late) s = .next (s.queueWrite .stnPort p
        (setBits (setBits (setBits (s.shown .stnPort p) 0 0 (b2n v)) 6 5 w) 9 9 (b2n m)) late))
    ∧ (∀ a b c d, a < 256 → b < 64 → c < 16 → d < 4 → exec (.stgCarveWrite a b c d late) s =
        .next (if a + 4 * b + 16 * c + 64 * d ≤ 128 then
          s.queueWrite .bufStgCarve 0 (at_ 12 a ||| at_ 6 b ||| at_ 2 c ||| at_ 0 d) late else s))
    ∧ (∀ c sp st ti, c < 8 → sp < 65536 → st < 256 → ti < 2097152 → exec (.clsMinWrite c sp st ti late) s =
        .next (if s.clsMinFits c (at_ 29 sp ||| at_ 21 st ||| at_ 0 ti) then
          s.queueWrite .bufClsMin c (at_ 29 sp ||| at_ 21 st ||| at_ 0 ti) late else s.raise .bufConfig [c]))
    ∧ (∀ a b, a < 2 ^ 32 → b < 2 ^ 32 → exec (.emSeedWrite a b late) s
        = .next (s.queueWrite .strEmSeed 0 (at_ 32 a ||| at_ 0 b) late))
    ∧ (∀ e k, e < 16 → k < 12 → exec (.laserRetire e k late) s = .next (if s.engineOn e then
        (if s.canRetire (12 * e + k) then s.queueWrite .leLaser (12 * e + k) (at_ 1 1) late else s)
        else s.crossingFault 4 e false))
    ∧ (∀ e p, e < 16 → p < 64 → exec (.calRequest e p late) s = .next (if s.engineOn e then
        s.queueWrite .leCalCtrl e (at_ 16 1 ||| at_ 0 p) late else s.crossingFault 4 e false))
    ∧ (∀ e p, e < 16 → p < 64 → exec (.calForce e p late) s = .next (if s.engineOn e then
        s.queueWrite .leCalCtrl e (at_ 17 1 ||| at_ 0 p) late else s.crossingFault 4 e false))
    ∧ (∀ n, n < 1024 → exec (.laneRetry n late) s = .next (if s.engineOn (n / 64) then
        (if (s.optLane n).st = .failed then s.queueWrite .leLane n (at_ 0 1) late else s)
        else s.crossingFault 4 (n / 64) false))
    ∧ (∀ p, p < 4 → exec (.planeCalForce p late) s
        = .next (s.queueWrite .bypPlane p (setBit (s.shown .bypPlane p) 2 true) late))
    ∧ (∀ p m, p < 4 → m < 4 → exec (.bypPlaneModeWrite p m late) s = .next (s.queueWrite .bypPlane p (at_ 0 m) late))
    ∧ (∀ l a, l < 256 → a < 4 → exec (.leafEnable l a late) s = .next (s.queueWrite .bypLeaf l
        (if bit (s.shown .bypLeaf l) 0 then setBits (at_ 4 a ||| at_ 0 1) 5 4 (bits (s.shown .bypLeaf l) 5 4)
         else at_ 4 a ||| at_ 0 1) late))
    ∧ (∀ c, c < 768 → exec (.ftRequest c late) s = .next (s.queueWrite .intFtCtrl 0 (at_ 16 1 ||| at_ 0 c) late)
        ∧ exec (.ftForce c late) s = .next (s.queueWrite .intFtCtrl 0 (at_ 17 1 ||| at_ 0 c) late))
    ∧ (∀ c st, c < 768 → st < 16 → exec (.clusterStepWrite c st late) s
        = .next (if st ≤ s.fld .intClu c 61 58 then s.queueWrite .intClu c (at_ 58 st) late else s))
    ∧ exec (.cicadaDumpRequest late) s = .next (s.queueWrite .cntCicadaCtrl 0 (at_ 2 1) late)
    ∧ exec (.snapshotRequest late) s = .next (s.queueWrite .cntCicadaCtrl 0 (at_ 1 1) late)
    ∧ ∀ d on, d < 96 → exec (.domainRequest d on late) s = .next (s.queueWrite .pwrDom d (at_ 57 (b2n on)) late)

/-- The writes that wait take effect at the boundary in the order in which they completed; a late one waits for the
next. The boundary's write step applies the writes that are not late one after another, oldest first, and keeps the
late ones, which are then due at the next boundary. Where every write is late, no register changes. A write of a
register with no rule of its own (fourteen kinds are named) gives its RW fields the value written, and leaves its
other fields, every other register, and the rest of the state as they were. (02_beat_and_clocks.md R32; 00_scope.md
R3; 00_scope.md R8) -/
def Obligations.WaitingWritesTakeEffectInOrder : Prop :=
  (∀ (s : State) (p : PendWrite) (l : List PendWrite), s.regs.pend = p :: l → p.late = false →
      (∀ q ∈ l, q.late = true) →
      s.writesDue = ({ s with regs := { s.regs with pend := l.map (fun (q : PendWrite) => ({ q with late := false } : PendWrite)) } }).applyWrite
        p.kind p.idx p.val)
  ∧ (∀ (s : State) (l : List PendWrite) (p : PendWrite), s.regs.pend = l ++ [p] → (∀ q ∈ l, q.late = false) →
      p.late = false →
      s.writesDue = (({ s with regs := { s.regs with pend := l } }).writesDue).applyWrite p.kind p.idx p.val)
  ∧ (∀ s : State, (∀ q ∈ s.regs.pend, q.late = true) →
      s.writesDue = { s with regs := { s.regs with pend := s.regs.pend.map (fun (q : PendWrite) => ({ q with late := false } : PendWrite)) } })
  ∧ ∀ (s : State) (k : RegKind) (n : Nat) (v : Word),
      k ∈ [.devSelf, .stnPortEth, .stnPartCfg, .strItemCfg, .strAgeCfg, .bufPc, .bufPartMin, .bufClsMin, .fmemWin,
        .fmemPart, .collCfg, .intPart, .hostMgmtCfg, .pwrThermCfg] →
      (s.applyWrite k n v).reg k n = (s.reg k n &&& ~~~ k.rwMask) ||| (v &&& k.rwMask)
      ∧ (∀ j m, j.off m / 8 ≠ k.off n / 8 → (s.applyWrite k n v).reg j m = s.reg j m)
      ∧ s.applyWrite k n v = { s with regs := { s.regs with eff := (s.applyWrite k n v).regs.eff } }

/-- Every register answers at its own offset, and no two registers share one. For each of the 145 kinds of register and
each register of the kind, the decoder of BAR0 offsets finds exactly that register at its offset: no bit of the
offset is dropped, and two different registers stand at different offsets, each a multiple of 8 within the register
blocks. (00_scope.md R2; 00_scope.md R6; 18_host_and_memory_interfaces.md R517) -/
def Obligations.RegisterMapIsOneToOne : Prop :=
  (∀ (k : RegKind) (n : Nat), n < k.total →
      regAt (k.off n) = some (k, n) ∧ k.off n % 8 = 0 ∧ inBlock (k.off n) = true)
  ∧ (∀ (k j : RegKind) (n m : Nat), n < k.total → m < j.total → k.off n = j.off m → k = j ∧ n = m)
  ∧ ∀ (off : Nat) (k : RegKind) (n : Nat), regAt off = some (k, n) → n < k.total ∧ k.off n = off

/-- Reads and writes of BAR0 registers. On a live part. A write that the endpoint does not take (its length, alignment
or enables) is reported as an Unsupported Request and changes nothing; a read is completed with UR. A read of a
reserved offset returns zero and a write of one is ignored. A read of a register that counts (RC) returns its value
and leaves what the hardware adds in that cycle in those fields, and changes no other register. A write of a
register of four kinds waits for the boundary; one of CNT_PCFG_n waits too, and is ignored where it sets en on a
counter that is not held, which counts, or where it is no configuration of R497. An access to a counter of a core
slice that is OFF is a crossing fault, and a read returns all ones. The lead of local time's set captures both
registers for the reader, at a time in the beat that is free (log entry 6), and a later read of the second returns
what was captured. (00_scope.md R3; 00_scope.md R5; 00_scope.md R6; 00_scope.md R8; 02_beat_and_clocks.md R47;
18_host_and_memory_interfaces.md R514) -/
def Obligations.RegisterReadsAndWrites : Prop :=
  ∀ s : State, s.live = true →
    (∀ t vals hw late, tlpFits t = false → exec (.registerWrite t vals hw late) s = .next (s.emit .aerUR))
    ∧ (∀ rd t hw, tlpFits t = false → exec (.rcRead rd t hw) s = .next (s.emit .cplUR)
        ∧ exec (.wideLeadRead rd t) s = .next (s.emit .cplUR))
    ∧ (∀ off rd hw late v, tlpFits ⟨off, 8, true⟩ = true → regAt off = none →
        exec (.registerWrite ⟨off, 8, true⟩ [v] hw late) s = .next s
        ∧ exec (.rcRead rd ⟨off, 8, true⟩ hw) s = .next (s.emit (.cplRegs [0])))
    ∧ (∀ k n hw rd, k ∈ [RegKind.beatAdjCnt, .stnHoldCnt, .stnMir, .strTblCnt0, .fmemCnt0, .collCnt0, .intEcc] →
        n < k.total →
        ∃ t, exec (.rcRead rd ⟨k.off n, 8, true⟩ hw) s = .next t
          ∧ t.out = s.out ++ [.cplRegs [s.regValue k n]]
          ∧ t.reg k n = (s.reg k n &&& ~~~ k.rcMask) ||| (hw &&& k.rcMask)
          ∧ (∀ j m, j.off m / 8 ≠ k.off n / 8 → t.reg j m = s.reg j m)
          ∧ t = { s with regs := { s.regs with eff := t.regs.eff }, out := t.out })
    ∧ (∀ k n v hw late, k ∈ [RegKind.strLeaf, .qshPc, .timeTrigSec, .timeTrigNs] → n < k.total →
        exec (.registerWrite ⟨k.off n, 8, true⟩ [v] hw late) s = .next (s.queueWrite k n v late))
    ∧ (∀ n v hw late, n < 8192 →
        (pcfgOk v = true → (bit v 63 = true → s.held n = true) →
          exec (.registerWrite ⟨RegKind.cntPcfg.off n, 8, true⟩ [v] hw late) s = .next (s.queueWrite .cntPcfg n v late))
        ∧ (bit v 63 = true → s.held n = false →
          exec (.registerWrite ⟨RegKind.cntPcfg.off n, 8, true⟩ [v] hw late) s = .next (s.bump .cntStatus 0 15 0 1))
        ∧ (pcfgOk v = false → s.held n = true →
          exec (.registerWrite ⟨RegKind.cntPcfg.off n, 8, true⟩ [v] hw late) s = .next s))
    ∧ (∀ n rd hw, n < 32768 → (s.dom (80 + n / 32 / 128)).st ≠ 2 →
        exec (.rcRead rd ⟨RegKind.cntLane.off n, 8, true⟩ hw) s
          = .next ((s.crossingFault 0 0 false).emit (.cplRegs [BitVec.allOnes 64])))
    ∧ ∀ rd, ∃ t u, exec (.wideLeadRead rd ⟨RegKind.timeNow0.off 0, 8, true⟩) s = .next t
        ∧ t.out = s.out ++ [.cplRegs [at_ 0 t.time.secOf]]
        ∧ SMap.get 0 (t.captured rd) (RegKind.timeNow1.off 0 / 8) = at_ 32 t.time.nsOf ||| at_ 0 t.time.fracOf
        ∧ t.regs.eff = s.regs.eff ∧ t.regs.pend = s.regs.pend ∧ t.mem = s.mem
        ∧ exec (.rcRead rd ⟨RegKind.timeNow1.off 0, 8, true⟩ 0) t = .next u
        ∧ u = t.emit (.cplRegs [at_ 32 t.time.nsOf ||| at_ 0 t.time.fracOf])

/-- A beat boundary runs its steps in the order of R30; without a beat it changes nothing. On a live part whose beat
generator does not run, a boundary changes nothing. With the beat running, the boundary is: what the arbiter of
optical bypass still decides in the beat that ends, and the ends of the streams and lanes in it; the end of the
beat; the snapshot of step 1, with the audit of the buffers on it; the events of step 2; the triggers of step 3; the
control of step 4; and then admission, the collectives' items, scheduling and switching, what the lanes begin with,
and the rings' write-backs. (02_beat_and_clocks.md R30) -/
def Obligations.BeatBoundaryInItsOrder : Prop :=
  ∀ s : State, s.live = true →
    (s.beat.running = false → exec .beatBoundary s = .next s)
    ∧ (s.beat.running = true →
      (∀ m a e u r : State,
        m = (if s.byp.routed then s.matching else s.matching.routing).endStreams.lanesEnd →
        a = m.trigDumps m.comingNs →
        e = a.endBeat →
        u = ((e.snapshotStep.weevilAudit.stepTwo e.cleanDrains).triggers).stepFour (e.quietNow false) (e.quietNow true)
              (a.time.stepped || a.beat.reload) →
        r = u.freshBeat.placeAll.admission.postRounds.schedule.bypassStep.lanesGo.rings →
        exec .beatBoundary s = .next { r.sleep with pending := s.pending }))
    ∧ ∀ a : State, a.endBeat.beat.bc = a.beat.bc + 1 ∧ a.endBeat.time.cyc = 0 ∧ a.endBeat.regs.pend = a.regs.pend
        ∧ a.endBeat.beat.now = (if a.endBeat.beat.tied then a.endBeat.time.ns / 256 % 2 ^ 32
            else (a.beat.now + 1) % 2 ^ 32) ∧ a.endBeat.mem = a.mem ∧ a.endBeat.out = a.out

/-- Steps, settings and slews of local time. On a live part. A step of ns nanoseconds at a cycle of the beat moves local
time, as it stands at that cycle, by ns, modulo its span; a write of go sets local time to the seconds and
nanoseconds that software wrote, and is ignored where the nanoseconds are 10^9 or more. Each counts a step and makes
the beat a realignment beat, and no register, memory or output changes. A write of TIME_SLEW sets the rate and adds
to what remains; once nothing remains, the completion clears switching; where the beat holds the cycle in which it
reaches zero, local time moves on to it. (16_time.md R465; 16_time.md R466; 16_time.md R467; 16_time.md R468) -/
def Obligations.StepsAndSlewsOfLocalTime : Prop :=
  ∀ s : State, s.live = true →
    (∀ (ns : Int) (cycle : Nat), ∃ t, exec (.timeStep ns cycle) s = .next t
      ∧ t.time.img = ((((s.timeTo cycle).time.img : Int) + ns * 2 ^ 33) % (2 ^ 48 * 10 ^ 9 * 2 ^ 33 : Int)).toNat
      ∧ t.time.steps = (s.time.steps + 1) % 256 ∧ t.time.stepped = true
      ∧ t = { s with time := t.time, beat := { s.beat with realign := true } })
    ∧ (∀ cycle, ∃ t, exec (.timeSet cycle) s = .next t
      ∧ (s.fld .timeSet1 0 61 32 < 10 ^ 9 →
          t.time.img = (s.fld .timeSet0 0 47 0 * 10 ^ 9 + s.fld .timeSet1 0 61 32) * 2 ^ 33
          ∧ t.time.steps = (s.time.steps + 1) % 256 ∧ t.time.stepped = true
          ∧ t = { s with time := t.time, beat := { s.beat with realign := true } })
      ∧ (10 ^ 9 ≤ s.fld .timeSet1 0 61 32 → t = s.timeTo cycle))
    ∧ (∀ rate add, rate < 65536 → -(2 ^ 47 : Int) ≤ add → add < (2 ^ 47 : Int) → s.time.remain = 0 →
      ∃ t, exec (.slewAdd rate add) s = .next t ∧ t.fld .timeSlew 0 63 48 = rate ∧ t.time.remain = add * 2 ^ 17
        ∧ (∀ j m, j.off m / 8 ≠ RegKind.timeSlew.off 0 / 8 → t.reg j m = s.reg j m)
        ∧ t.mem = s.mem ∧ t.beat = s.beat ∧ t.out = s.out)
    ∧ (s.time.remain = 0 → exec .slewComplete s = .next { s with time := { s.time with switching := false } })
    ∧ (0 < s.time.remain.natAbs → 0 < s.slewStep → ceilDiv s.time.remain.natAbs s.slewStep < s.toBoundary →
      ∃ t, exec .slewComplete s = .next t ∧ t.time.remain = 0 ∧ t.time.switching = false
        ∧ t.time.cyc = s.time.cyc + ceilDiv s.time.remain.natAbs s.slewStep
        ∧ t = { s with time := t.time })

/-- A trigger that is due fires as its action says. On a live part. A trigger that is not armed, or whose target the
coming boundary does not reach, does nothing. One that is due is called for the coming boundary, and nothing changes
within the beat (the model's choice, log entry 3); at the boundary it fires: one that does not repeat is disarmed,
and its count rises by 1 modulo 2^32; with action 0 nothing else happens, with action 3 the output pin pulses, with
action 4 an event names it and its argument, and with action 2 a dump is asked for. Other triggers, the other
registers and memory are as they were. (16_time.md R473; 16_time.md R474; 16_time.md R475) -/
def Obligations.TriggersFireOnce : Prop :=
  ∀ (s : State) (n : Nat), s.live = true → n < 64 →
    (s.trigDue n s.comingNs = false → exec (.triggerFire n) s = .next s)
    ∧ (s.trigDue n s.comingNs = true → exec (.triggerFire n) s = .next (s.call (.triggerFire n) true))
    ∧ (∀ now, s.trigDue n now = true → s.trigPeriod n = 0 → ∀ t, t = (s.trigDump n now).trigFire n now →
        t.trigAt n = none
        ∧ (∀ m, m ≠ n → t.trigAt m = s.trigAt m)
        ∧ t.fld .timeTrigCnt n 63 32 = (s.fld .timeTrigCnt n 63 32 + 1) % 2 ^ 32
        ∧ t.fld .timeTrigCnt n 31 16 = s.fld .timeTrigCnt n 31 16
        ∧ (∀ j m, j.off m / 8 ≠ RegKind.timeTrigCnt.off n / 8 → j.off m / 8 ≠ RegKind.timeTrigCtl.off n / 8 →
            t.reg j m = s.reg j m)
        ∧ t.mem = s.mem ∧ t.beat = s.beat
        ∧ t.cnt.wantDump = (s.cnt.wantDump || decide (s.fld .timeTrigCtl n 60 58 = 2))
        ∧ (s.fld .timeTrigCtl n 60 58 = 0 ∨ s.fld .timeTrigCtl n 60 58 = 2 → t.out = s.out)
        ∧ (s.fld .timeTrigCtl n 60 58 = 3 → t.out = s.out ++ [.pulse])
        ∧ (s.fld .timeTrigCtl n 60 58 = 4 → t.out = s.out ++ [.event .trigger [n, s.fld .timeTrigCtl n 57 47]])
        ∧ (s.fld .timeTrigCtl n 60 58 = 1 → (s.msix (s.fld .timeTrigCtl n 57 47)).mask = false →
            s.host.funcMask = false →
            t.out = s.out ++ [.msix (s.fld .timeTrigCtl n 57 47) (s.msix (s.fld .timeTrigCtl n 57 47)).addr
              (s.msix (s.fld .timeTrigCtl n 57 47)).data]))

/-- A difference of more than 1 ns reloads the beat image at the next boundary. On a live part. A difference of at most
1 ns changes nothing; a greater one, whichever of the two is ahead, makes the next boundary a realignment boundary,
at which the image is loaded with local time, sets BEAT_STATUS bit 8 and raises an event, and changes nothing else.
The model holds one time for the two, which takes the value of local time at once (log entry 85).
(02_beat_and_clocks.md R34; 02_beat_and_clocks.md R35) -/
def Obligations.BeatImageCheck : Prop :=
  ∀ s : State, s.live = true →
    (∀ d : Int, d.natAbs ≤ 1000 → exec (.beatImageCheck d) s = .next s)
    ∧ (∀ d : Int, 1000 < d.natAbs → ∃ t, exec (.beatImageCheck d) s = .next t
        ∧ t.beat = { s.beat with reload := true, realign := true } ∧ t.flag .beatStatus 0 8 = true
        ∧ (∀ j m, j.off m / 8 ≠ RegKind.beatStatus.off 0 / 8 → t.reg j m = s.reg j m)
        ∧ t.out = s.out ++ [.event .beatImage [s.beat.now, d.natAbs]] ∧ t.mem = s.mem
        ∧ t.time = { s.time with img := (((s.time.img : Int) + d * 2 ^ 33 / 1000) % (unitsSpan : Int)).toNat })

/-- A crossing that times out completes a read with all bits set and discards a write. On a live part, a transfer that a
crossing of R45 abandons (domains 0 to 4, with a unit 0 to 7 for DDR5, 0 to 15 for the light engines, and 0 for the
others): a read completes with all bits set and a write is discarded. BEAT_STATUS has xdom_fault set and names the
domain and the unit, and a crossing event is raised. No other register, and nothing else, changes: nothing of a
write arrives. (02_beat_and_clocks.md R45) -/
def Obligations.CrossingFault : Prop :=
  ∀ s : State, s.live = true →
    ∀ d u read, d < 5 → u < (if d = 3 then 8 else if d = 4 then 16 else 1) → ∃ t, exec (.crossingTimeout d u read) s = .next t
        ∧ t.flag .beatStatus 0 9 = true ∧ t.fld .beatStatus 0 15 12 = d ∧ t.fld .beatStatus 0 23 16 = u
        ∧ (∀ j m, j.off m / 8 ≠ RegKind.beatStatus.off 0 / 8 → t.reg j m = s.reg j m)
        ∧ t.out = s.out ++ (.event .crossing [d, u] :: if read then [.cplRegs [BitVec.allOnes 64]] else [])
        ∧ t = { s with regs := { s.regs with eff := t.regs.eff }, out := t.out }

/-- Snapshots, periodic dumps, user refreshes, deferred snapshots and the end of a dump. On a live part the periodic
dump, the user refresh and the deferred snapshot are called for the coming boundary where they fall due there, and
nothing changes within the beat (the model's choice, log entry 3). At the boundary: a periodic dump that falls due
while none is in progress copies every live counter into its shadow and begins a dump with the next sequence number,
in the next slot of the region; one that falls due while an earlier dump reads the shadows is skipped and counted. A
user refresh that falls due copies the counters, and a deferred snapshot does so once the dump has ended. None of
them changes anything else. The end of a dump into the region writes its slot alone: every byte of spine memory
outside its 0x30_0000 bytes is as before, and its first word is the header's; CNT_CICADA_CTRL shows its number.
(17_telemetry.md R494; 17_telemetry.md R501; 17_telemetry.md R502; 17_telemetry.md R503; 17_telemetry.md R504;
17_telemetry.md R505) -/
def Obligations.SnapshotsAndDumps : Prop :=
  ∀ s : State, s.live = true →
    (s.flag .cntCicadaCfg 0 63 = false → exec .cicadaPeriodic s = .next s ∧ s.cicadaPeriodic = s)
    ∧ (s.flag .cntCicadaCfg 0 63 = true → s.cnt.sinceEn < s.beat.bc + 1 →
        (s.beat.bc + 1 - s.cnt.sinceEn) % Nat.max 64 (s.fld .cntCicadaCfg 0 31 0) = 0 →
      exec .cicadaPeriodic s = .next (s.call .cicadaPeriodic true))
    ∧ (s.flag .cntCicadaCfg 0 63 = true → s.cnt.periodicDone = false → s.cnt.sinceEn < s.beat.bc →
        (s.beat.bc - s.cnt.sinceEn) % Nat.max 64 (s.fld .cntCicadaCfg 0 31 0) = 0 →
      (s.cnt.dump = none → s.cnt.taken = false → s.flag .cntCicadaCfg 0 62 = false →
          s.flag .cntCicadaRegion 0 63 = true →
        ∃ d, s.cicadaPeriodic.cnt.dump = some d ∧ d.seq = s.cnt.seqNext ∧ d.ring = none
          ∧ d.slot = s.cnt.seqNext % Nat.max 1 (s.fld .cntCicadaRegion 0 15 0) ∧ d.overrun = s.cnt.skipped
          ∧ d.beat = s.beat.now
          ∧ s.cicadaPeriodic = { s with cnt := { s.cnt with
              dump := some d, shadow := s.cnt.live, shadowBeat := s.beat.now, taken := true, periodicDone := true,
              seqNext := (s.cnt.seqNext + 1) % 2 ^ 32, skipped := 0 } })
      ∧ (∀ d, s.cnt.dump = some d → d.bc < s.beat.bc → s.cnt.skipDone = false →
        s.cicadaPeriodic.cnt.dump = some d ∧ s.cicadaPeriodic.cnt.shadow = s.cnt.shadow
          ∧ s.cicadaPeriodic.cnt.skipped = Nat.min 65535 (s.cnt.skipped + 1)
          ∧ s.cicadaPeriodic.fld .cntCicadaCtrl 0 31 16 = Nat.min 65535 (s.fld .cntCicadaCtrl 0 31 16 + 1)
          ∧ s.cicadaPeriodic.mem = s.mem ∧ s.cicadaPeriodic.beat = s.beat))
    ∧ (0 < s.fld .cntCfg 0 47 32 → s.cnt.sinceUser < s.beat.bc + 1 →
        (s.beat.bc + 1 - s.cnt.sinceUser) % Nat.max 16 (s.fld .cntCfg 0 47 32) = 0 →
      exec .userRefresh s = .next (s.call .userRefresh true))
    ∧ (0 < s.fld .cntCfg 0 47 32 → s.cnt.userDone = false → s.cnt.sinceUser < s.beat.bc →
        (s.beat.bc - s.cnt.sinceUser) % Nat.max 16 (s.fld .cntCfg 0 47 32) = 0 → s.cnt.dump = none →
        s.cnt.taken = false →
      s.userRefresh = { s with cnt := { s.cnt with
        shadow := s.cnt.live, shadowBeat := s.beat.now, taken := true, userDone := true } })
    ∧ (s.cnt.deferred = true → s.cnt.dump = none → exec .deferredSnapshot s = .next (s.call .deferredSnapshot true)
        ∧ (s.cnt.taken = false → s.deferredSnap = { s with cnt := { s.cnt with
            shadow := s.cnt.live, shadowBeat := s.beat.now, taken := true, deferred := false } }))
    ∧ (s.cnt.deferred = false ∨ s.cnt.dump.isSome = true → exec .deferredSnapshot s = .next s)
    ∧ ∀ d, s.cnt.dump = some d → d.ring = none → s.ddrReady = true → d.sections < 32 → d.seq < 2 ^ 32 →
      d.beat < 2 ^ 32 →
      ∃ t, exec .dumpComplete s = .next t ∧ t.cnt = { s.cnt with dump := none }
        ∧ t.fld .cntCicadaCtrl 0 63 32 = d.seq
        ∧ (∀ a, a < s.fld .cntCicadaRegion 0 62 34 * 4096 + 0x300000 * d.slot
              ∨ s.fld .cntCicadaRegion 0 62 34 * 4096 + 0x300000 * d.slot + 0x300000 ≤ a →
            memGet t.mem.spine a = memGet s.mem.spine a)
        ∧ memWord t.mem.spine (s.fld .cntCicadaRegion 0 62 34 * 4096 + 0x300000 * d.slot)
            = at_ 32 0x43494341 ||| at_ 16 1 ||| at_ 1 d.sections
        ∧ t.mem.near = s.mem.near
        ∧ (∀ j m, j.off m / 8 ≠ RegKind.cntCicadaCtrl.off 0 / 8 → t.reg j m = s.reg j m)

/-- A run of programmable counters is allocated at the lowest free place, and a release frees it at the boundary. On a
live part. A request for n counters, 1 to 256, holds the lowest run of n counters that are not held, and CNT_ALLOC
shows its base and ok; every other counter's configuration is as it was. Where no such run exists, CNT_ALLOC shows
refused and no configuration changes. A request for 0 or more than 256 is ignored. A release waits for the boundary,
at which held and en of the run are cleared and nothing else of a configuration changes. (17_telemetry.md R500) -/
def Obligations.CounterRunsAreAllocatedLowestFirst : Prop :=
  (∀ (s : State) (n : Nat), s.live = true → 1 ≤ n → n ≤ 256 →
      (∀ b, b + n ≤ 8192 → (∀ i, b ≤ i → i < b + n → s.held i = false) →
          (∀ c, c < b → ∃ i, c ≤ i ∧ i < c + n ∧ s.held i = true) →
        ∃ t, exec (.counterRunAllocate n) s = .next t ∧ t.fld .cntAlloc 0 44 32 = b ∧ t.flag .cntAlloc 0 63 = true
          ∧ t.flag .cntAlloc 0 62 = false ∧ (∀ i, b ≤ i → i < b + n → t.held i = true)
          ∧ (∀ i, i < b ∨ b + n ≤ i → i < 8192 → t.reg .cntPcfg i = s.reg .cntPcfg i)
          ∧ t = { s with regs := { s.regs with eff := t.regs.eff } })
      ∧ ((∀ b, b + n ≤ 8192 → ∃ i, b ≤ i ∧ i < b + n ∧ s.held i = true) →
        ∃ t, exec (.counterRunAllocate n) s = .next t ∧ t.flag .cntAlloc 0 63 = false ∧ t.flag .cntAlloc 0 62 = true
          ∧ t.fld .cntStatus 0 63 48 = Nat.min 65535 (s.fld .cntStatus 0 63 48 + 1)
          ∧ (∀ i, i < 8192 → t.reg .cntPcfg i = s.reg .cntPcfg i)))
  ∧ (∀ (s : State) (n : Nat), s.live = true → n < 512 → n = 0 ∨ 256 < n →
      exec (.counterRunAllocate n) s = .next s
      ∧ ∀ b late, b < 8192 → exec (.counterRunRelease b n late) s = .next s)
  ∧ (∀ (s : State) (b n : Nat) (late : Bool), s.live = true → b < 8192 → 1 ≤ n → n ≤ 256 →
      exec (.counterRunRelease b n late) s = .next ((s.putRw .cntAlloc 0 (at_ 61 1 ||| at_ 32 b ||| at_ 0 n)).queueWrite
        .cntAlloc 0 (at_ 61 1 ||| at_ 32 b ||| at_ 0 n) late))
  ∧ ∀ (s : State) (b n : Nat), b + n ≤ 8192 → 1 ≤ n → n ≤ 256 →
      (∀ i, b ≤ i → i < b + n → (s.applyWrite .cntAlloc 0 (at_ 61 1 ||| at_ 32 b ||| at_ 0 n)).held i = false
        ∧ (s.applyWrite .cntAlloc 0 (at_ 61 1 ||| at_ 32 b ||| at_ 0 n)).flag .cntPcfg i 63 = false)
      ∧ (∀ i, i < b ∨ b + n ≤ i → i < 8192 →
          (s.applyWrite .cntAlloc 0 (at_ 61 1 ||| at_ 32 b ||| at_ 0 n)).reg .cntPcfg i = s.reg .cntPcfg i)

/-- A write that finds its ring full discards the oldest item. When an item is written to a ring that is full, rd
advances by 1 and lost rises by 1, up to the field's maximum. Where the discarded item carried the end mark, pkts
falls by 1; where it did not, brk is set on the item that is now oldest. The written item then stands at wr with its
own mark, and every other stored word is as it was. The items of a packet are written one after another under this
rule, so a packet longer than its ring overwrites its own first items. (18_host_and_memory_interfaces.md R534) -/
def Obligations.FullRingDiscardsItsOldestItem : Prop :=
  (∀ (s : State) (r : Nat) (x : Item) (last : Bool), r < 64 → s.ringFull r = true →
      (s.ring r).rd < 2 ^ (s.ringLg r + 1) → (s.ring r).wr < 2 ^ (s.ringLg r + 1) →
      let t := s.ringWrite r x last
      let old := s.stored (s.ringSlot r (s.ring r).rd)
      (t.ring r).rd = s.ringNext r (s.ring r).rd ∧ (t.ring r).wr = s.ringNext r (s.ring r).wr
      ∧ t.fld .hostD2hCfg r 51 36 = Nat.min 65535 (s.fld .hostD2hCfg r 51 36 + 1)
      ∧ (t.ring r).pkts = (if old.last then (s.ring r).pkts - 1 else (s.ring r).pkts) + b2n last
      ∧ t.stored (s.ringSlot r (s.ring r).wr) = { item := x, last := last, brk := false }
      ∧ (∀ i, i ≠ s.ringSlot r (s.ring r).wr → t.stored i =
          (if old.last = false ∧ i = s.ringSlot r (s.ringNext r (s.ring r).rd) then { s.stored i with brk := true }
           else s.stored i)))
  ∧ ∀ (s : State) (r : Nat) (x y : Item) (l : List Item),
      s.ringItems r [x] = s.ringWrite r x true
      ∧ s.ringItems r (x :: y :: l) = (s.ringWrite r x false).ringItems r (y :: l)

/-- Packets, pops, flushes, placement, holdoffs and vectors of the device-to-host rings. On a live part. A packet of one
item for an enabled ring with room is written at wr with the end mark and counted; for a ring that is not enabled
its items count as lost. A pop of a ring with a packet returns the item at rd with its marks and advances rd;
without one it returns the idle item and moves nothing. A flush sets rd to wr and pkts to 0 and touches neither lost
nor the captured item. A write of the placement is ignored while en is set unless it clears en; otherwise its fields
hold, and a change of base or length empties the ring. A timed condition that holds at the coming boundary is called
for it, and nothing changes within the beat (the model's choice, log entry 3); there it sends the vector and
disarms. An unmasked entry sends what it holds pending. (18_host_and_memory_interfaces.md R520;
18_host_and_memory_interfaces.md R531; 18_host_and_memory_interfaces.md R532; 18_host_and_memory_interfaces.md R533;
18_host_and_memory_interfaces.md R535; 18_host_and_memory_interfaces.md R537; 18_host_and_memory_interfaces.md R539) -/
def Obligations.DeviceToHostRings : Prop :=
  ∀ (s : State) (r : Nat), s.live = true → r < 64 →
    (∀ (x : Item) l, s.host.outbox = (r, [x]) :: l → s.flag .hostD2hCfg r 63 = true → s.ringFull r = false →
        s.flag .hostD2hIrq r 63 = false →
      ∃ t, exec (.d2hPacketWrite r) s = .next t ∧ t.host.outbox = l
        ∧ t.stored (s.ringSlot r (s.ring r).wr) = { item := x, last := true, brk := false }
        ∧ t.ring r = { s.ring r with wr := s.ringNext r (s.ring r).wr, pkts := (s.ring r).pkts + 1 }
        ∧ t.regs = s.regs ∧ t.mem = s.mem ∧ t.out = s.out)
    ∧ (∀ (xs : List Item) l, s.host.outbox = (r, xs) :: l → s.flag .hostD2hCfg r 63 = false →
      ∃ t, exec (.d2hPacketWrite r) s = .next t ∧ t.host = { s.host with outbox := l }
        ∧ t.fld .hostD2hCfg r 51 36 = Nat.min 65535 (s.fld .hostD2hCfg r 51 36 + xs.length))
    ∧ (∀ pois, pois < 256 → s.flag .hostD2hIrq r 63 = false →
      ∃ t, exec (.d2hPop r pois) s = .next t ∧ t.host.sram = s.host.sram ∧ t.regs = s.regs ∧ t.out = s.out
        ∧ ((s.ring r).pkts = 0 → (t.ring r).cap = [0, 0, 0, 0, 0] ∧ (t.ring r).rd = (s.ring r).rd ∧ (t.ring r).pkts = 0)
        ∧ (∀ x, s.stored (s.ringSlot r (s.ring r).rd) = x → (s.ring r).pkts ≠ 0 →
            (t.ring r).cap = [x.item.w0, x.item.w1, x.item.w2, x.item.w3,
              at_ 56 pois ||| at_ 55 (b2n x.last) ||| at_ 54 (b2n x.brk)]
            ∧ (t.ring r).rd = s.ringNext r (s.ring r).rd
            ∧ (t.ring r).pkts = (if x.last then (s.ring r).pkts - 1 else (s.ring r).pkts)))
    ∧ (∃ t, exec (.d2hFlush r) s = .next t
        ∧ t.ring r = { s.ring r with rd := (s.ring r).wr, pkts := 0, nonzero := 0 }
        ∧ (∀ q, q ≠ r → t.ring q = s.ring q) ∧ t.regs = s.regs ∧ t.host.sram = s.host.sram ∧ t.out = s.out)
    ∧ (∀ en lg base, lg < 32 → base < 131072 →
      (s.flag .hostD2hCfg r 63 = true → en = true → exec (.d2hCfgWrite r en lg base) s = .next s)
      ∧ (s.flag .hostD2hCfg r 63 = false ∨ en = false →
        ∃ t, exec (.d2hCfgWrite r en lg base) s = .next t ∧ t.flag .hostD2hCfg r 63 = en
          ∧ t.fld .hostD2hCfg r 56 52 = lg ∧ t.fld .hostD2hCfg r 16 0 = base
          ∧ t.fld .hostD2hCfg r 51 36 = s.fld .hostD2hCfg r 51 36 ∧ t.host.sram = s.host.sram
          ∧ (t.ring r).cap = (s.ring r).cap
          ∧ (base ≠ s.fld .hostD2hCfg r 16 0 → (t.ring r).wr = 0 ∧ (t.ring r).rd = 0 ∧ (t.ring r).pkts = 0)
          ∧ (base = s.fld .hostD2hCfg r 16 0 → lg = s.fld .hostD2hCfg r 56 52 → t.host = s.host)))
    ∧ (s.fld .hostD2hIrq r 31 16 ≠ 0 → (s.ring r).pkts ≠ 0 → s.fld .hostD2hIrq r 31 16 ≤ (s.ring r).nonzero + 1 →
        s.flag .hostD2hIrq r 63 = true → (s.ring r).armed = true → s.host.funcMask = false →
        (s.msix (s.fld .hostD2hIrq r 58 48)).mask = false →
      exec (.d2hHoldoffExpiry r) s = .next (s.call (.d2hHoldoffExpiry r) true)
        ∧ (s.ringBoundary r).ring r = { s.ring r with nonzero := (s.ring r).nonzero + 1, armed := false }
        ∧ (s.ringBoundary r).regs = s.regs
        ∧ (s.ringBoundary r).out = s.out ++ [.msix (s.fld .hostD2hIrq r 58 48) (s.msix (s.fld .hostD2hIrq r 58 48)).addr
            (s.msix (s.fld .hostD2hIrq r 58 48)).data])
    ∧ ((s.ring r).armed = false → exec (.d2hHoldoffExpiry r) s = .next s)
    ∧ (∀ v addr data, v < 2048 → s.host.funcMask = false →
      ∃ t, exec (.vectorUnmask (some v) addr data) s = .next t ∧ t.msix v = { addr := addr, data := data, mask := false }
        ∧ SMap.get false t.host.pba v = false
        ∧ t.out = s.out ++ (if SMap.get false s.host.pba v then [.msix v addr data] else []))
    ∧ (∀ addr data, s.host.pba = [] →
      exec (.vectorUnmask none addr data) s = .next { s with host := { s.host with funcMask := false } })

/-- Doorbells, fetches, holds, flushes, and the enable of the command rings. On a live part. A doorbell sets pi; where
more words then wait than the enabled ring holds, the ring enters ERROR 1 with ci as it was. A fetch that was
refused, was poisoned or timed out leaves ci and enters ERROR 2, 4 or 3. A program fetched whole that passes every
check moves ci past its 2 + ninst words and commits; held until a later beat it stays at the head, and where its
beat has come by the coming boundary the release is called for that (the model's choice, log entry 3), and there
commits it. A flush of a held program answers FLUSHED and sets ci to pi; with nothing before pi it changes nothing;
with an entry not yet held it waits for the entry's boundary. Clearing en drops the hold and leaves ci and what has
committed; setting en leaves ERROR. A frame of the controller, which waits for no result of its own (07 R191), goes
to the west return port as class 255's stream for its port. (18_host_and_memory_interfaces.md R522;
18_host_and_memory_interfaces.md R523; 18_host_and_memory_interfaces.md R524; 18_host_and_memory_interfaces.md R525;
18_host_and_memory_interfaces.md R527; 18_host_and_memory_interfaces.md R528; 18_host_and_memory_interfaces.md R529;
04_station_programming.md R111; 04_station_programming.md R112) -/
def Obligations.CommandRings : Prop :=
  ∀ (s : State) (r : Nat), s.live = true → r < 64 →
    (∀ pi, pi < 2 ^ 32 →
      (s.cringEn r = false ∨ (s.cring r).error = true ∨ (s.setFld .hostCmdIdx r 63 32 pi).ringAvail r ≤ 2 ^ s.cringLg r →
        exec (.doorbell r pi) s = .next (s.setFld .hostCmdIdx r 63 32 pi)) ∧ (s.setFld .hostCmdIdx r 63 32 pi).ringPi r = pi
      ∧ (s.cringEn r = true → (s.cring r).error = false → 2 ^ s.cringLg r < (pi + 2 ^ 32 - (s.cring r).ci) % 2 ^ 32 →
        ∃ t, exec (.doorbell r pi) s = .next t ∧ (t.cring r).error = true ∧ (t.cring r).err = 1
          ∧ (t.cring r).ci = (s.cring r).ci ∧ t.ringPi r = pi ∧ t.host.commits = s.host.commits))
    ∧ (s.cringEn r = true → (s.cring r).error = false → (s.cring r).held = none → s.ringAvail r ≠ 0 →
      (∀ ws late, ∃ t u v, exec (.cmdFetchComplete r ws .refused late) s = .next t
        ∧ exec (.cmdFetchComplete r ws .poisoned late) s = .next u ∧ exec (.cmdFetchTimeout r) s = .next v
        ∧ t.cring r = { s.cring r with error := true, err := 2 } ∧ u.cring r = { s.cring r with error := true, err := 4 }
        ∧ v.cring r = { s.cring r with error := true, err := 3 }
        ∧ t.host.commits = s.host.commits ∧ u.host.commits = s.host.commits ∧ v.host.commits = s.host.commits
        ∧ t.regs = s.regs ∧ u.regs = s.regs ∧ v.regs = s.regs)
      ∧ (∀ w0 w1 (code : List Word) late, bit w0 63 = false → (s.cring r).flush = false → s.postedAt r = none →
          1 ≤ code.length → code.length ≤ 1024 → bits w0 54 44 = code.length → code.length + 2 ≤ s.ringAvail r →
          headZero (w0 :: w1 :: code) = true → (∀ w ∈ code, ctlDefined w = true) →
          code.foldl (fun n w => n + ctlCost w) 0 ≤ 8192 →
        (bit w0 15 = false ∨ sdiff 32 (bits w1 31 0) s.beat.now ≤ 0 →
          ∃ t p, exec (.cmdFetchComplete r (w0 :: w1 :: code) .data late) s = .next t
            ∧ t.host.commits = s.host.commits ++ [p] ∧ p.code = code ∧ p.ring = r ∧ p.tag = bits w0 43 28
            ∧ p.part = bits w0 27 16 ∧ p.irq = bit w0 14 ∧ p.late = bit w0 15
            ∧ (t.cring r).ci = ((s.cring r).ci + (2 + code.length)) % 2 ^ 32 ∧ t.regs = s.regs ∧ t.mem = s.mem)
        ∧ (bit w0 15 = true → 0 < sdiff 32 (bits w1 31 0) s.beat.now →
          ∃ t p, exec (.cmdFetchComplete r (w0 :: w1 :: code) .data late) s = .next t
            ∧ (t.cring r).held = some p ∧ p.code = code ∧ (t.cring r).ci = (s.cring r).ci
            ∧ t.host.commits = s.host.commits ∧ t.regs = s.regs ∧ t.out = s.out)))
    ∧ (∀ p, (s.cring r).held = some p →
      (0 ≤ sdiff 32 ((s.beat.now + 1) % 2 ^ 32) p.atBeat →
        exec (.cmdProgramRelease r) s = .next (s.call (.cmdProgramRelease r) true))
      ∧ (sdiff 32 ((s.beat.now + 1) % 2 ^ 32) p.atBeat < 0 → exec (.cmdProgramRelease r) s = .next s)
      ∧ (s.postedAt r = none → 0 ≤ sdiff 32 s.beat.now p.atBeat →
        ∃ q, (s.releaseProg r).host.commits = s.host.commits ++ [q] ∧ q.code = p.code
          ∧ q.late = decide (0 < sdiff 32 s.beat.now p.atBeat) ∧ ((s.releaseProg r).cring r).held = none
          ∧ ((s.releaseProg r).cring r).ci = ((s.cring r).ci + p.words) % 2 ^ 32 ∧ (s.releaseProg r).beat = s.beat
          ∧ (s.releaseProg r).regs = s.regs))
    ∧ ((s.cring r).held = none → exec (.cmdProgramRelease r) s = .next s ∧ s.releaseProg r = s
        ∧ (s.ringAvail r = 0 → exec (.cmdRingFlush r) s = .next s)
        ∧ (s.ringAvail r ≠ 0 → exec (.cmdRingFlush r) s = .next (s.setCring r fun g => { g with flush := true })))
    ∧ (∀ p, (s.cring r).held = some p → p.mgmt = none → p.irq = false → s.postedAt r = none →
      ∃ t, exec (.cmdRingFlush r) s = .next t ∧ (t.cring r).held = none ∧ (t.cring r).ci = s.ringPi r
        ∧ t.host.outbox = s.host.outbox ++ [(p.ring % 64, [s.doneItem p.ring p.tag 6 0xFFF 0 p.late])]
        ∧ t.host.commits = s.host.commits ∧ t.regs = s.regs)
    ∧ (∃ t, exec (.cmdRingDisable r) s = .next t ∧ t.cringEn r = false ∧ t.cring r = { s.cring r with held := none }
        ∧ t.host.commits = s.host.commits ∧ t.host.outbox = s.host.outbox ∧ t.ringPi r = s.ringPi r ∧ t.out = s.out)
    ∧ (s.ringAvail r ≤ 2 ^ s.cringLg r →
      ∃ t, exec (.cmdRingEnable r) s = .next t ∧ t.cringEn r = true ∧ t.cring r = { s.cring r with error := false }
        ∧ t.host.commits = s.host.commits ∧ t.host.outbox = s.host.outbox ∧ t.ringPi r = s.ringPi r ∧ t.out = s.out)
    ∧ ∀ (w : Word) (ws : List Word), s.boot.running = true → s.unitWaits .controller = false → bit w 63 = true → bits w 14 0 = 0 → ws.getD 0 0 = 0 →
        1 + ceilDiv (bits w 57 44) 8 ≤ ws.length → s.portValid (bits w 24 15) = true →
        bits w 60 58 < s.portWidth (bits w 24 15) → s.portEth (bits w 24 15) = false →
        48 ≤ bits w 57 44 → bits w 57 44 ≤ 8240 →
      ∃ t x, exec (.controllerSend (w :: ws)) s = .next t ∧ t.net.ret = s.net.ret ++ [x] ∧ x.part = 0 ∧ x.pipe = 0
        ∧ x.target = bits w 24 15 ∧ x.cls = bits w 27 25
        ∧ x.bytes = ((ws.drop 1).flatMap wordBytes).take (bits w 57 44)
        ∧ t = { s with net := { s.net with ret := s.net.ret ++ [x] } }

/-- BAR2 reads and writes act on the bytes of their page, and on no other byte. On a live part, where the page is valid
and the access lies within its memory. An access whose lines an earlier request or a recalibration holds, or whose
engine waits, takes its place among the accesses that wait, and nothing else changes. Otherwise a read completes
with the bytes there, poisoned where a line is, and changes no memory and no register; in the near store's cache of
records its bytes are free (R292 does not say which records stand there, log entry 96). A write stores each byte
that its enables name at its place; every other byte of that memory, and the other memory, reads as before; a poison
mark goes where, and only where, a line is written whole. Where the page does not map the access, a read is
completed with UR and a write is reported under AER, and nothing else changes. (18_host_and_memory_interfaces.md
R518; 18_host_and_memory_interfaces.md R519; 10_fabric_memory.md R291; 10_fabric_memory.md R292; 10_fabric_memory.md
R296) -/
def Obligations.Bar2ReadsAndWritesMemory : Prop :=
  ∀ s : State, s.live = true →
    (∀ addr n, s.bar2At addr n = none → exec (.bar2Read addr n) s = .next (s.emit .cplUR))
    ∧ (∀ addr data, s.bar2At addr data.length = none → exec (.bar2Write addr data) s = .next (s.emit .aerUR))
    ∧ (∀ addr n sp a (x : HostAcc), s.bar2At addr n = some (sp, a) →
        x = { ord := s.mem.nextOrd, spine := decide (sp = .spine), addr := a, read := some n, data := [] } →
      (s.hostHeld x = true → exec (.bar2Read addr n) s
        = .next { s with mem := { s.mem with nextOrd := s.mem.nextOrd + 1, hostAcc := s.mem.hostAcc ++ [x] } })
      ∧ (s.hostHeld x = false →
        ∃ t b, exec (.bar2Read addr n) s = .next t ∧ t.regs = s.regs
          ∧ t.mem = { s.mem with nextOrd := s.mem.nextOrd + 1, hostAcc := t.mem.hostAcc }
          ∧ (s.mem.hostAcc = [] → t.mem.hostAcc = [])
          ∧ t.out = s.out ++ [.cplBytes b ((linesOf a n).any (s.poisoned sp))] ∧ b.length = n
          ∧ ∀ i, i < n → ¬ (sp = .near ∧ 0x1800000 ≤ a + i ∧ a + i < 0x1C00000) →
              b.getD i 0 = memGet (s.bytesOf sp) (a + i)))
    ∧ (∀ addr data sp a (x : HostAcc), s.bar2At addr data.length = some (sp, a) →
        x = { ord := s.mem.nextOrd, spine := decide (sp = .spine), addr := a, read := none, data := data } →
      (s.hostHeld x = true → exec (.bar2Write addr data) s
        = .next { s with mem := { s.mem with nextOrd := s.mem.nextOrd + 1, hostAcc := s.mem.hostAcc ++ [x] } })
      ∧ (s.hostHeld x = false →
        ∃ t, exec (.bar2Write addr data) s = .next t ∧ t.regs = s.regs ∧ t.out = s.out
          ∧ (s.mem.hostAcc = [] → t.mem.hostAcc = [])
          ∧ (∀ i, i < data.length → memGet (t.bytesOf sp) (a + i) = (data.getD i none).getD (memGet (s.bytesOf sp) (a + i)))
          ∧ (∀ b, b < a ∨ a + data.length ≤ b → memGet (t.bytesOf sp) b = memGet (s.bytesOf sp) b)
          ∧ (∀ other, other ≠ sp → t.bytesOf other = s.bytesOf other ∧ ∀ l, t.poisoned other l = s.poisoned other l)
          ∧ (∀ l, t.poisoned sp l = (s.poisoned sp l && !lineWhole a data l))))
    ∧ (∀ addr n, bit (s.reg .hostBar2Page (addr / 2 ^ 30)) 63 = false → s.bar2At addr n = none)

/-- DDR5 training and recalibration, a module's temperature, the PCIe link, and a function reset. On a live part. A
write of en while it is clear starts the training of all eight channels; while it is set, the channels stand. The
end of training makes DDR5 READY where each of eight like, supported modules trained, and otherwise FAILED with the
failing step in the channel; outside training it changes nothing. A recalibration of a READY subchannel takes it for
at most 4 beats (how many is free) and touches nothing else. A module's temperature of 85 or more doubles its
refresh. The link's training is shown as it was. A function reset leaves the rings, pages and peers of the host
attachment as after reset and DDR5 OFF, keeps what has committed, and keeps memory, queues, collectives, partitions,
power and time. (18_host_and_memory_interfaces.md R521; 18_host_and_memory_interfaces.md R544;
18_host_and_memory_interfaces.md R545; 18_host_and_memory_interfaces.md R548; 18_host_and_memory_interfaces.md R549;
18_host_and_memory_interfaces.md R551; 20_boot_and_security.md R580) -/
def Obligations.DdrAndPcieLink : Prop :=
  ∀ s : State, s.live = true →
    (∀ speed, s.flag .hostDdrCfg 0 63 = false →
      ∃ t, exec (.ddrTrainStart speed) s = .next t ∧ t.host.ddrState = 1 ∧ (∀ c, c < 8 → (t.chan c).state = 1)
        ∧ t.flag .hostDdrCfg 0 63 = true ∧ t.flag .hostDdrCfg 0 62 = speed ∧ t.mem = s.mem
        ∧ (∀ j m, j.off m / 8 ≠ RegKind.hostDdrCfg.off 0 / 8 → t.reg j m = s.reg j m))
    ∧ (∀ speed, s.flag .hostDdrCfg 0 63 = true → ∃ t, exec (.ddrTrainStart speed) s = .next t ∧ t.host = s.host
        ∧ t.flag .hostDdrCfg 0 62 = s.flag .hostDdrCfg 0 62)
    ∧ (∀ (cap ranks : Nat) (temps : List Nat), (cap = 2 ∧ ranks = 1) ∨ (cap = 4 ∧ ranks = 2) ∨ (cap = 8 ∧ ranks = 2) →
        temps.length = 8 → (∀ x ∈ temps, x < 256) → s.host.ddrState = 1 →
      ∃ t, exec (.ddrTrainDone (temps.map fun x => ⟨true, cap, ranks, 0, x⟩)) s = .next t ∧ t.ddrReady = true
        ∧ (∀ c, c < 8 → (t.chan c).state = 2 ∧ (t.chan c).cap = cap ∧ (t.chan c).temp = temps.getD c 0)
        ∧ t.spineSize = 8 * cap * 2 ^ 35 ∧ t.mem = s.mem ∧ t.regs = s.regs)
    ∧ (∀ (l : List ChannelResult) c, l.length = 8 → c < 8 →
        (∀ r ∈ l, r.temp < 256 ∧ r.failStep < 8 ∧ r.cap < 256 ∧ r.ranks < 16) →
        (∃ r, l[c]? = some r ∧ r.present = true ∧ r.failStep ≠ 0) → s.host.ddrState = 1 →
      ∃ t, exec (.ddrTrainDone l) s = .next t ∧ t.host.ddrState = 3 ∧ t.ddrReady = false ∧ t.spineSize = 0
        ∧ (t.chan c).state = 3 ∧ l[c]?.map (·.failStep) = some (t.chan c).failStep ∧ t.regs = s.regs)
    ∧ (∀ c sub, c < 8 → sub < 2 → s.ddrReady = true →
      ∃ t, exec (.ddrRecal c sub) s = .next t ∧ t.mem = s.mem ∧ t.regs = s.regs ∧ t.ddrReady = true
        ∧ s.beat.bc ≤ (if sub = 0 then (t.chan c).recalA else (t.chan c).recalB)
        ∧ (if sub = 0 then (t.chan c).recalA else (t.chan c).recalB) ≤ s.beat.bc + 4
        ∧ ∀ d, d < 8 → d ≠ c → t.chan d = s.chan d)
    ∧ (∀ c temp, c < 8 → temp < 256 → (s.chan c).present = true →
      ∃ t, exec (.moduleHotRefresh c temp) s = .next t ∧ t.chan c = { s.chan c with temp := temp, hot := decide (85 ≤ temp) }
        ∧ (∀ d, d < 8 → d ≠ c → t.chan d = s.chan d) ∧ t.regs = s.regs ∧ t.mem = s.mem)
    ∧ (∀ speed width flit, speed < 8 → (width = 0 ∨ width = 1 ∨ width = 2 ∨ width = 4) →
      exec (.pcieLinkTrained speed width flit) s
        = .next { s with host := { s.host with speed := speed, width := width, flit := flit } })
    ∧ ∀ down, s.stn.loadState ≠ 1 → s.boot.opState ≠ 1 → s.romLooks = false →
      ∃ t, exec (.functionReset down) s = .next t ∧ t.host.cmd = [] ∧ t.host.d2h = [] ∧ t.host.sram = []
        ∧ t.host.outbox = [] ∧ t.host.ddrState = 0 ∧ t.host.commits = s.host.commits
        ∧ t.host.speed = (if down then 0 else s.host.speed)
        ∧ (∀ k n, k ∈ [RegKind.hostCmdCtl, .hostCmdIdx, .hostD2hCfg, .hostBar2Page, .hostMgmtPeer] → n < k.total →
            t.reg k n = k.reset)
        ∧ t.mem = s.mem ∧ t.q = s.q ∧ t.net = s.net ∧ t.coll = s.coll ∧ t.part = s.part ∧ t.pwr = s.pwr
        ∧ t.time = s.time ∧ t.cnt = s.cnt ∧ t.boot = s.boot

/-- Loads of station programs: their start, their end, their refusal, and the close of an epoch. On a live part. A load
of a CLOSED epoch becomes BUSY; of another it is refused with code 2, and its bank cannot run; while one is BUSY a
second is ignored. A load from the host whose header cannot be read is refused with 0x0A; one whose image fails a
check is refused with that check's code, station, address and path, and its bank cannot run; one that passes puts
the image's programs into the epoch's bank and is DONE with the image's version. The other epoch's bank, the epochs'
states, memory, tables, queues and collectives are as they were. The end of a CLOSING epoch's drain is called for
the coming boundary where that completes drain_beats quiet beats (called within the beat: the model's choice, log
entry 3); there the epoch closes, and nothing else changes. (04_station_programming.md R98;
04_station_programming.md R99; 04_station_programming.md R100; 04_station_programming.md R103;
04_station_programming.md R104; 04_station_programming.md R106; 04_station_programming.md R108;
04_station_programming.md R109) -/
def Obligations.LoadsOfProgramSets : Prop :=
  ∀ s : State, s.live = true →
    (∀ e, e < 2 → s.stn.loadState = 1 → exec (.loadGo e) s = .next s)
    ∧ (∀ e, e < 2 → s.stn.loadState ≠ 1 → s.stn.st (e = 1) = .closed →
      ∃ t, exec (.loadGo e) s = .next t ∧ t.fld .stnLoadCtrl 0 8 8 = e
        ∧ t.stn = { s.stn with loadState := 1, loadEpoch := e, loadCode := 0, loadStation := 0, loadAddr := 0,
                               loadPath := 0, loadVersion := 0 }
        ∧ t = { s with stn := t.stn, regs := t.regs })
    ∧ (∀ e, e < 2 → s.stn.loadState ≠ 1 → s.stn.st (e = 1) ≠ .closed →
      ∃ t, exec (.loadGo e) s = .next t ∧ t.stn.loadState = 3 ∧ t.stn.loadCode = 2 ∧ (t.stn.bank (e = 1)).loaded = false
        ∧ t.stn.bank (e ≠ 1) = s.stn.bank (e ≠ 1) ∧ t.stn.st0 = s.stn.st0 ∧ t.stn.st1 = s.stn.st1
        ∧ t.out = s.out ++ [.event .load [e, 2, 0, 0, 0]])
    ∧ (∀ image, s.stn.loadState ≠ 1 → exec (.loadDone image) s = .next s)
    ∧ (s.stn.loadState = 1 → s.flag .stnLoadSrc 0 63 = false → s.stn.loadEpoch < 2 →
      (∀ img : List (Option Word), none ∈ img.take 16 →
        ∃ t, exec (.loadDone img) s = .next t ∧ t.stn.loadState = 3 ∧ t.stn.loadCode = 0x0A
          ∧ (t.stn.bank (s.stn.loadEpoch = 1)).loaded = false ∧ t.mem = s.mem)
      ∧ (∀ img r, checkImage img = .error r →
        ∃ t, exec (.loadDone img) s = .next t ∧ t.stn.loadState = 3 ∧ t.stn.loadCode = r.code
          ∧ t.stn.loadStation = r.station ∧ t.stn.loadAddr = r.addr ∧ t.stn.loadPath = r.path
          ∧ t.stn.loadVersion = bits ((img.getD 0 none).getD 0) 15 0
          ∧ (t.stn.bank (s.stn.loadEpoch = 1)).loaded = false
          ∧ t.stn.bank (s.stn.loadEpoch ≠ 1) = s.stn.bank (s.stn.loadEpoch ≠ 1)
          ∧ t = { s with stn := t.stn, regs := t.regs, out := s.out ++ [.event .load [s.stn.loadEpoch, r.code, r.station, r.addr, r.path]] })
      ∧ (∀ img b, checkImage img = .ok b →
        ∃ t, exec (.loadDone img) s = .next t ∧ t.stn.loadState = 2
          ∧ t.stn.loadVersion = bits ((img.getD 0 none).getD 0) 15 0
          ∧ t.stn.bank (s.stn.loadEpoch = 1) = { b with retained := s.ddrReady }
          ∧ t.stn.bank (s.stn.loadEpoch ≠ 1) = s.stn.bank (s.stn.loadEpoch ≠ 1)
          ∧ t.stn.st0 = s.stn.st0 ∧ t.stn.st1 = s.stn.st1
          ∧ t = { s with stn := t.stn, regs := t.regs, out := s.out ++ [.event .load [s.stn.loadEpoch, 0]] }))
    ∧ (∀ e, e < 2 → s.stn.st (e = 1) = .closing →
      (s.quietNow (e = 1) = true → s.drainBeats ≤ Nat.min 0xFFFF (s.stn.quiet (e = 1) + 1) →
        exec (.epochDrainComplete e) s = .next (s.call (.epochDrainComplete e) true)
          ∧ (s.drainStep (e = 1) true).stn.st (e = 1) = .closed
          ∧ (s.drainStep (e = 1) true).stn.st (e ≠ 1) = s.stn.st (e ≠ 1)
          ∧ s.drainStep (e = 1) true = { s with stn := (s.drainStep (e = 1) true).stn })
      ∧ (s.quietNow (e = 1) = false → exec (.epochDrainComplete e) s = .next s
          ∧ (s.drainStep (e = 1) false).stn.st (e = 1) = .closing
          ∧ (s.drainStep (e = 1) false).stn.quiet (e = 1) = 0))
    ∧ ∀ e, e < 2 → s.stn.st (e = 1) = .open_ → exec (.epochDrainComplete e) s = .next s

/-- Audits, walks and teardown checks of the buffers, and the staging carve. On a live part. An audit that is due is
called for the coming boundary, and so are a teardown check and the end of a carve's wait, and nothing changes
within the beat (the model's choice, log entry 3). The audit of a boundary finds no difference and is counted, or
starts a walk; while one walks, the firmware does not run or the period is 0, none is due. The end of a walk counts
the audit and leaves memory and the streams as they were: where nothing is found, nothing else changes, and the
tiles of a die that are on no list and of no record are threaded back onto its list where no tile of the die is in
use; without a walk it changes nothing. A teardown check at the 64th boundary of a partition's reset leaves no
stream with tiles and no staging or spill buffer of a partition whose use counts are not zero; before it, or for a
partition that is not being reset, it changes nothing. A pending carve takes effect once no staging buffer is in
use, with the lists of the new sizes whole, and waits otherwise. No byte of memory changes.
(07_buffers_queues_shaping.md R200; 07_buffers_queues_shaping.md R201; 07_buffers_queues_shaping.md R202;
07_buffers_queues_shaping.md R204; 07_buffers_queues_shaping.md R210) -/
def Obligations.BufferAuditsAndCarve : Prop :=
  ∀ s : State, s.live = true →
    (s.boot.running = false ∨ s.buf.walk.isSome = true ∨ s.fld .bufWeevilCfg 0 31 0 = 0
        ∨ s.beat.bc + 1 < s.buf.auditAt + Nat.max 1024 (s.fld .bufWeevilCfg 0 31 0) →
      exec .weevilAudit s = .next s)
    ∧ (s.boot.running = true → s.buf.walk = none → s.fld .bufWeevilCfg 0 31 0 ≠ 0 →
      (s.buf.auditAt + Nat.max 1024 (s.fld .bufWeevilCfg 0 31 0) ≤ s.beat.bc + 1 →
        exec .weevilAudit s = .next (s.call .weevilAudit true))
      ∧ (s.buf.auditAt + Nat.max 1024 (s.fld .bufWeevilCfg 0 31 0) ≤ s.beat.bc →
        ((∀ x ∈ s.auditDiffs, x = 0) → s.weevilAudit.buf = { s.buf with auditAt := s.beat.bc }
          ∧ s.weevilAudit.fld .bufWeevilStatus 0 63 32 = (s.fld .bufWeevilStatus 0 63 32 + 1) % 2 ^ 32
          ∧ s.weevilAudit = { s with buf := s.weevilAudit.buf, regs := s.weevilAudit.regs })
        ∧ ((∃ x ∈ s.auditDiffs, x ≠ 0) → s.weevilAudit
            = { s with buf := { s.buf with auditAt := s.beat.bc, walk := some (s.beat.now % 2 ^ 32) } })))
    ∧ (s.buf.walk = none → exec .weevilWalkEnd s = .next s)
    ∧ (s.buf.walk.isSome = true →
      ∃ t, exec .weevilWalkEnd s = .next t ∧ t.buf.walk = none
        ∧ t.fld .bufWeevilStatus 0 63 32 = (s.fld .bufWeevilStatus 0 63 32 + 1) % 2 ^ 32
        ∧ t.mem = s.mem ∧ t.net = s.net ∧ t.coll = s.coll ∧ t.out = s.out
        ∧ (∀ d, d < 2 → s.ownersOf (.tile d) = [] →
            t.freeList (.tile d) = (s.walkRuns (.tile d)).1 ++ s.freeList (.tile d))
        ∧ ((∀ i ∈ s.auditLists, s.walkRuns i = ([], []) ∧ ∀ p, s.surplus i p = []) →
            t.buf = { s.buf with walk := none } ∧ t = { s with buf := t.buf, regs := t.regs }))
    ∧ (∀ p, p < 4096 →
      (s.pst p ≠ .reset ∨ s.beat.bc + 1 < (s.partInfo p).resetAt + 64 → exec (.weevilTeardownCheck p) s = .next s)
      ∧ (s.pst p = .reset → (s.partInfo p).resetAt + 64 ≤ s.beat.bc + 1 →
        exec (.weevilTeardownCheck p) s = .next (s.call (.weevilTeardownCheck p) true))
      ∧ (s.unused p = true → s.teardown p = s)
      ∧ (s.unused p = false →
        (∀ x ∈ (s.teardown p).net.streams, x.part = p → x.alloc = none)
        ∧ (∀ u ∈ (s.teardown p).buf.stg, u.part ≠ p) ∧ (∀ u ∈ (s.teardown p).buf.spill, u.part ≠ p)
        ∧ (∀ u ∈ s.buf.stg, u.part ≠ p → u ∈ (s.teardown p).buf.stg)
        ∧ (∀ u ∈ s.buf.spill, u.part ≠ p → u ∈ (s.teardown p).buf.spill)
        ∧ (s.teardown p).mem.spine = s.mem.spine ∧ (s.teardown p).mem.near = s.mem.near ∧ (s.teardown p).part = s.part
        ∧ (s.teardown p).beat = s.beat))
    ∧ (s.buf.carve = none ∨ s.buf.stg ≠ [] → exec .stgCarveApply s = .next s ∧ s.applyCarve = s)
    ∧ (∀ v, s.buf.carve = some v → s.buf.stg = [] →
      exec .stgCarveApply s = .next (s.call .stgCarveApply true)
        ∧ s.applyCarve.buf = { s.buf with carve := none, lists := s.buf.lists.filter fun e => e.1 < 8 }
        ∧ s.applyCarve.reg .bufStgCarve 0
            = (s.reg .bufStgCarve 0 &&& ~~~ RegKind.bufStgCarve.rwMask) ||| (v &&& RegKind.bufStgCarve.rwMask)
        ∧ s.applyCarve = { s with buf := s.applyCarve.buf, regs := s.applyCarve.regs })

/-- Termite's visits, the compare engine's positions, and the enables of the compare engine. On a live part. Termite
does nothing while the firmware does not run or its period is 0. Otherwise it visits one slot and goes on to the
next: a free, static or suspect slot stays as it is; one that was hit loses its hit bits; one that was not hit
becomes idle; one idle already is listed for removal. Every other slot is as it was. The compare engine does nothing
while its table is not enabled; at a group entry that equals its shadow it only goes on, and at a valid one that
differs it marks the entry on its die, counts a mismatch and posts one item. A write of STR_CMP_CTRL clears enables
at once, with their passes, and waits for the rest. (05_steer_tables.md R130; 05_steer_tables.md R131;
05_steer_tables.md R138; 05_steer_tables.md R139; 05_steer_tables.md R140; 05_steer_tables.md R141) -/
def Obligations.TableKeepers : Prop :=
  ∀ s : State, s.live = true →
    (s.boot.running = false ∨ s.fld .strAgeCfg 0 11 0 = 0 → exec .termiteVisit s = .next s)
    ∧ (s.boot.running = true → s.fld .strAgeCfg 0 11 0 ≠ 0 → s.tbl.sweepSlot + 1 < emTotal →
      ∃ t, exec .termiteVisit s = .next t ∧ t.tbl.sweepSlot = s.tbl.sweepSlot + 1
        ∧ t = { s with tbl := { s.tbl with em := t.tbl.em, removals := t.tbl.removals, sweepSlot := t.tbl.sweepSlot } }
        ∧ (∀ j, j ≠ s.tbl.sweepSlot → emAt t.tbl.em j = emAt s.tbl.em j)
        ∧ ∀ x, emAt s.tbl.em s.tbl.sweepSlot = x →
          (x.vmask = 0 ∨ bit x.data 27 = true ∨ x.suspect ≠ 0 →
            emAt t.tbl.em s.tbl.sweepSlot = x ∧ t.tbl.removals = s.tbl.removals)
          ∧ (x.vmask ≠ 0 → bit x.data 27 = false → x.suspect = 0 →
            (x.hit ≠ 0 → emAt t.tbl.em s.tbl.sweepSlot = { x with hit := 0, idle := false } ∧ t.tbl.removals = s.tbl.removals)
            ∧ (x.hit = 0 → x.idle = false →
                emAt t.tbl.em s.tbl.sweepSlot = { x with idle := true } ∧ t.tbl.removals = s.tbl.removals)
            ∧ (x.hit = 0 → x.idle = true → emAt t.tbl.em s.tbl.sweepSlot = x
                ∧ t.tbl.removals = s.tbl.removals ++ [(s.tbl.sweepSlot, x.key)])))
    ∧ (∀ t, t < 3 → s.flag .strCmpCtrl 0 t = false ∨ s.ddrReady = false ∨ s.boot.running = false →
      exec (.compareEngineStep t) s = .next s)
    ∧ (∀ p w x, s.flag .strCmpCtrl 0 2 = true → s.ddrReady = true → s.boot.running = true →
        s.fld .strCmpCtrl 0 12 8 ≤ 1 → SMap.get 0 s.tbl.cmpPos 2 = p → p + 1 < 32768 →
        memWord s.mem.spine (s.fld .strCmpSrc 2 63 35 * 4096 + 8 * p) = w → SMap.get 0 s.tbl.mc p = x →
        bit w 45 = false → bit w 63 = true → bit x 63 = true → s.tbl.mcBad.contains (p, SMap.get 0 s.tbl.cmpDie 2) = false →
      ∃ t, exec (.compareEngineStep 2) s = .next t ∧ SMap.get 0 t.tbl.cmpPos 2 = p + 1
        ∧ SMap.get 0 t.tbl.cmpDie 2 = SMap.get 0 s.tbl.cmpDie 2 ∧ t.tbl.mc = s.tbl.mc ∧ t.mem = s.mem
        ∧ (setBits w 45 16 0 = setBits x 45 16 0 → t.regs = s.regs ∧ t.host = s.host ∧ t.tbl.mcBad = s.tbl.mcBad)
        ∧ (setBits w 45 16 0 ≠ setBits x 45 16 0 →
            t.tbl.mcBad = s.tbl.mcBad ++ [(p, SMap.get 0 s.tbl.cmpDie 2)]
            ∧ t.fld .strTblCnt1 0 47 32 = Nat.min 65535 (s.fld .strTblCnt1 0 47 32 + 1)
            ∧ t.host.outbox.length = s.host.outbox.length + 1))
    ∧ ∀ rate en late, rate < 32 → en < 8 →
      ∃ t, exec (.cmpCtrlWrite rate en late) s = .next t
        ∧ t.regs.pend = s.regs.pend ++ [⟨.strCmpCtrl, 0, at_ 8 rate ||| at_ 0 en, late⟩]
        ∧ t.fld .strCmpCtrl 0 2 0 = s.fld .strCmpCtrl 0 2 0 &&& en ∧ t.fld .strCmpCtrl 0 12 8 = s.fld .strCmpCtrl 0 12 8
        ∧ (∀ j, j < 3 → t.flag .strCmpCtrl 0 j = false → SMap.get 0 t.tbl.cmpPos j = 0 ∧ SMap.get 0 t.tbl.cmpDie j = 0)
        ∧ (∀ j, j < 3 → t.flag .strCmpCtrl 0 j = true → SMap.get 0 t.tbl.cmpPos j = SMap.get 0 s.tbl.cmpPos j)
        ∧ t.tbl.em = s.tbl.em ∧ t.tbl.lpm = s.tbl.lpm ∧ t.tbl.mc = s.tbl.mc ∧ t.mem = s.mem

/-- Codes on memories, the field test's slots, steps and results, and the watchdog. On a live part. A word with a
single-bit error is corrected: its count rises and nothing else changes. An uncorrectable word of the near store is
counted and reported and marks its line poisoned; the bytes stay. A slot of the field test, and the end of a test's
wait, are called for the coming boundary where they fall due there, and nothing changes within the beat (the model's
choice, log entry 3); a slot opens only while it is enabled and no test runs, for the pending cluster. A step is
made at most once in a beat, forced or in a beat in which the cluster is idle, up to sixteen. A pass records the
coming beat; a failure counts, reports and makes the cluster suspect. A wait that has passed forces the remaining
steps. A repair with a good source clears the damage with one event; without one the event says so, and the pair
waits for a load. The watchdog stops the firmware and raises its event. (14_integrity.md R402; 14_integrity.md R403;
14_integrity.md R405; 14_integrity.md R419; 14_integrity.md R420; 14_integrity.md R421; 14_integrity.md R426;
14_integrity.md R431; 04_station_programming.md R96) -/
def Obligations.PatrolsFieldTestsAndWatchdog : Prop :=
  ∀ s : State, s.live = true →
    (∀ mem die addr, mem ≤ 15 → die < 2 → mem ≠ 5 → mem ≠ 6 → mem ≠ 7 →
      ∃ t, exec (.patrolRead mem die addr .single) s = .next t
        ∧ t.fld .intEcc (2 * mem + die) 63 32 = Nat.min (2 ^ 32 - 1) (s.fld .intEcc (2 * mem + die) 63 32 + 1)
        ∧ (∀ j m, j.off m / 8 ≠ RegKind.intEcc.off (2 * mem + die) / 8 → t.reg j m = s.reg j m)
        ∧ t = { s with regs := { s.regs with eff := t.regs.eff } })
    ∧ (∀ die addr, die < 2 → addr < 2 ^ 25 →
      ∃ t, exec (.patrolRead 3 die addr .double) s = .next t ∧ t.poisoned .near (addr / 64) = true
        ∧ (∀ l, l ≠ addr / 64 → t.poisoned .near l = s.poisoned .near l) ∧ t.mem.near = s.mem.near
        ∧ t.mem.spine = s.mem.spine
        ∧ t.fld .intEcc (6 + die) 31 16 = Nat.min 65535 (s.fld .intEcc (6 + die) 31 16 + 1)
        ∧ t.out = s.out ++ [.event .ecc [3, die, addr]] ∧ t.host.outbox.length = s.host.outbox.length + 1)
    ∧ (s.flag .intFtCfg 0 63 = false → exec .fieldTestSlot s = .next s)
    ∧ (∀ at_, s.flag .intFtCfg 0 63 = true → s.time.testAt = some at_ →
      exec .fieldTestSlot s = .next (if at_ ≤ s.comingNs then s.call .fieldTestSlot true else s))
    ∧ (s.flag .intFtCfg 0 63 = false ∨ s.red.ft.cur.isSome = true → s.ftSlot = s)
    ∧ (∀ c, s.flag .intFtCfg 0 63 = true → s.red.ft.cur = none → s.red.ft.pend = [c] → s.clusterActive c = true →
      s.ftSlot = s.setFt fun f => { f with cur := some c, forced := false, steps := 0, pend := [], startAt := s.beat.bc, stepped := false })
    ∧ (∀ c idle, s.red.ft.cur = some c → s.red.ft.stepped = false → s.red.ft.steps < 16 →
      (s.red.ft.forced = true ∨ (idle = true ∧ s.inUse c = 0) →
        exec (.fieldTestStep idle) s = .next (s.setFt fun f => { f with steps := f.steps + 1, stepped := true }))
      ∧ (s.red.ft.forced = false → idle = false ∨ s.inUse c ≠ 0 → exec (.fieldTestStep idle) s = .next s))
    ∧ (s.red.ft.stepped = true → ∀ idle, exec (.fieldTestStep idle) s = .next s)
    ∧ (∀ c pass, s.red.ft.cur = some c → 16 ≤ s.red.ft.steps → c < 768 →
      ∃ t, exec (.fieldTestResult pass) s = .next t ∧ t.red.ft.cur = none ∧ t.red.ft.steps = 0 ∧ t.mem = s.mem
        ∧ (pass = true → t.fld .intClu c 31 0 = (s.beat.now + 1) % 2 ^ 32 ∧ t.out = s.out ∧ t.host = s.host)
        ∧ (pass = false → t.red.suspect = s.red.suspect ++ [c] ∧ t.host.outbox.length = s.host.outbox.length + 1
            ∧ t.fld .intClu c 41 34 = Nat.min 255 (s.fld .intClu c 41 34 + 1)
            ∧ t.fld .intClu c 31 0 = s.fld .intClu c 31 0))
    ∧ (s.red.ft.cur.isSome = true → s.red.ft.forced = false → s.red.ft.steps < 16 →
      (s.red.ft.startAt + msBeats s.ftWait ≤ s.beat.bc + 1 → exec .testWaitExpiry s = .next (s.call .testWaitExpiry true))
      ∧ (s.red.ft.startAt + msBeats s.ftWait ≤ s.beat.bc → s.testWait = s.setFt fun f => { f with forced := true }))
    ∧ (s.red.ft.cur = none → exec .testWaitExpiry s = .next s ∧ ∀ pass, exec (.fieldTestResult pass) s = .next s)
    ∧ (∀ d : Damage, d.pipe < 64 → d.station < 9 → d.bank < 2 → s.stn.damage = [d] →
      (d.given = true → exec (.progMemRepairDone d.pipe d.station d.bank d.addr) s = .next s)
      ∧ (d.given = false → s.goodSource d = true → exec (.progMemRepairDone d.pipe d.station d.bank d.addr) s
        = .next (({ s with stn := { s.stn with damage := [] } }).raise .progMem [d.pipe, d.station, d.bank, d.addr, 1]))
      ∧ (d.given = false → s.goodSource d = false → exec (.progMemRepairDone d.pipe d.station d.bank d.addr) s
        = .next (({ s with stn := { s.stn with damage := [{ d with given := true }] } }).raise .progMem
            [d.pipe, d.station, d.bank, d.addr, 0])))
    ∧ (s.boot.running = false → exec .watchdogExpiry s = .next s)
    ∧ (s.boot.running = true → s.boot.trial = false →
      ∃ t, exec .watchdogExpiry s = .next t ∧ t.boot.running = false ∧ .event .watchdog [s.beat.now] ∈ t.out
        ∧ t.regs = s.regs ∧ t.mem = s.mem ∧ t.q = s.q ∧ t.coll = s.coll ∧ t.part = s.part)

/-- Quarantine, release and drains of partitions and of other functions. On a live part. Each of the four is called for
the coming boundary where it is due there, and nothing changes within the beat (the model's choice, log entry 3);
where it is not due, nothing changes. At the boundary a partition whose reset has lasted 64 boundaries enters
QUARANTINE, and one in QUARANTINE becomes FREE at the 3,907th after its reset; each posts one item, and nothing else
changes. A draining function with no work left ends clean and stays disabled; a port, a partition or a reduction
domain posts one item, and nothing else changes. A drain at its deadline is cut: its work is discarded with outcome
2. (15_partitions_and_recovery.md R439; 15_partitions_and_recovery.md R445; 15_partitions_and_recovery.md R446;
15_partitions_and_recovery.md R448; 15_partitions_and_recovery.md R463) -/
def Obligations.PartitionsOwnChanges : Prop :=
  ∀ s : State, s.live = true →
    (∀ p, p < 4096 → p ≠ 0 →
      (s.pst p = .reset → (s.partInfo p).resetAt + 64 ≤ s.beat.bc + 1 →
        exec (.quarantineEntry p) s = .next (s.call (.quarantineEntry p) true))
      ∧ (s.pst p ≠ .reset ∨ s.beat.bc + 1 < (s.partInfo p).resetAt + 64 → exec (.quarantineEntry p) s = .next s)
      ∧ (s.pst p = .reset → (s.partInfo p).resetAt + 64 ≤ s.beat.bc → ∀ t, t = s.quarantine p →
        t.pst p = .quarantine ∧ (t.partInfo p).resetAt = (s.partInfo p).resetAt
          ∧ (∀ q, q ≠ p → t.partInfo q = s.partInfo q)
          ∧ t.host.outbox.length = s.host.outbox.length + 1 ∧ t = { s with part := t.part, host := t.host })
      ∧ (s.pst p = .quarantine → (s.partInfo p).resetAt + 3907 ≤ s.beat.bc + 1 →
        exec (.partitionFree p) s = .next (s.call (.partitionFree p) true))
      ∧ (s.pst p ≠ .quarantine ∨ s.beat.bc + 1 < (s.partInfo p).resetAt + 3907 →
          exec (.partitionFree p) s = .next s)
      ∧ (s.pst p = .quarantine → (s.partInfo p).resetAt + 3907 ≤ s.beat.bc → ∀ t, t = s.partFree p →
        t.pst p = .free ∧ (∀ q, q ≠ p → t.partInfo q = s.partInfo q)
          ∧ t.host.outbox.length = s.host.outbox.length + 1 ∧ t = { s with part := t.part, host := t.host }))
    ∧ ∀ kind idx, kind < 5 →
      (s.draining kind idx = false → exec (.drainEndClean kind idx) s = .next s ∧ exec (.drainDeadline kind idx) s = .next s)
      ∧ (s.draining kind idx = true → kind ≠ 4 →
        exec (.drainEndClean kind idx) s
          = .next (if s.drained kind idx then s.call (.drainEndClean kind idx) true else s))
      ∧ (s.draining kind idx = true → s.drained kind idx = true → ∀ t, t = s.drainClean kind idx →
        t.draining kind idx = false ∧ t.disabled kind idx = true
          ∧ (kind = 0 ∨ kind = 1 ∨ kind = 3 → t.part.st = s.part.st
              ∧ t.host.outbox.length = s.host.outbox.length + 1 ∧ t = { s with part := t.part, host := t.host }))
      ∧ (s.drained kind idx = false → s.drainClean kind idx = s)
      ∧ ∀ d, s.draining kind idx = true → s.disable kind idx = some d →
          (s.beat.bc + 1 < d.deadline → exec (.drainDeadline kind idx) s = .next s)
          ∧ (d.deadline ≤ s.beat.bc + 1 → exec (.drainDeadline kind idx) s = .next (s.call (.drainDeadline kind idx) true))
          ∧ (d.deadline ≤ s.beat.bc → s.drainDeadline kind idx
              = (s.setDisable kind idx fun x => { x with draining := false }).discardFn kind idx 2 true)

/-- Each light engine's lanes enter and leave through the pipelines of its own die. Light engine e is on the west die
(0) when e is at most 7 and on the east die (1) when it is 8 or more. For every lane n, engine n / 64 is its engine,
and the die of the pipeline that serves the lane is the die of the lane's engine. (01_architecture.md R9) -/
def Obligations.LanesBelongToTheirDie : Prop :=
  ∀ n, n < 1024 →
    (n / 64 ≤ 7 → dieOfLane n = 0 ∧ dieOfPipe (pipeOf n) = 0)
    ∧ (8 ≤ n / 64 → dieOfLane n = 1 ∧ dieOfPipe (pipeOf n) = 1)

/-- What an arriving Asune frame does, and PFC towards and from a neighbour. On a live part, a frame on a lane of an
Asune port in service, without conflict, in a beat that its receive direction is used. One that ends in an error
block counts in cut and does nothing else. While the lane waits for a replay, a numbered frame is numbered and
discarded. Else one that fails its delimiter, length or header check joins no stream, counts in that check's
counter, and is numbered unless it is hop-local. One of classes 0 to 4 that passes every check of R68 joins the
streams at steer with its bytes, class, partition and epoch, whatever the intake program does; one of a CLOSED epoch
joins none; a malformed terminating request is answered FORMAT through the return port and joins none. XOFF goes out
again 32 beats after the last and not before; a received pause that runs out is lifted. Memory and the registers of
the ports are as they were. (03_frames_and_addresses.md R65; 03_frames_and_addresses.md R68;
03_frames_and_addresses.md R69; 03_frames_and_addresses.md R71; 03_frames_and_addresses.md R73;
04_station_programming.md R89; 04_station_programming.md R97; 06_spraying_and_ordering.md R151;
06_spraying_and_ordering.md R153; 07_buffers_queues_shaping.md R190) -/
def Obligations.ArrivingFrames : Prop :=
  ∀ s : State, s.live = true →
    (∀ lane port delim fr, lane < 1024 → s.portOf lane = some port → s.laneUp lane = true → s.portEth port = false →
        s.portConflict port = false → s.rxIgnored lane = false →
      exec (.asuneFrameArrival lane delim ⟨fr, true⟩) s = .next (s.bump .stnLaneRpl lane 31 20 1)
      ∧ (isHop (Hdr.ofBytes fr).op = false → (s.lane lane).req.isSome = true →
          ∃ t, exec (.asuneFrameArrival lane delim ⟨fr, false⟩) s = .next t
            ∧ (t.lane lane).rxPos = ((s.lane lane).rxPos + 1) % 2 ^ 32 ∧ (t.lane lane).rxNum = (s.lane lane).rxNum
            ∧ (t.lane lane).req = (s.lane lane).req ∧ t = { s with lnk := t.lnk })
      ∧ ((s.lane lane).req = none →
        (∀ k, frameCheck delim fr = some k →
          ∃ t, exec (.asuneFrameArrival lane delim ⟨fr, false⟩) s = .next t ∧ t.net = s.net ∧ t.mem = s.mem ∧ t.regs = s.regs
            ∧ SMap.get 0 t.cnt.live (cntLane lane k) = (SMap.get 0 s.cnt.live (cntLane lane k) + 1) % 2 ^ 64
            ∧ (t.lane lane).rxNum
                = if isHop (Hdr.ofBytes fr).op then (s.lane lane).rxNum else ((s.lane lane).rxNum + 1) % 2 ^ 32)
        ∧ (∀ h e, h = Hdr.ofBytes fr → e = (if s.flag .stnPort port 10 then s.stn.cur else h.epoch) →
            frameCheck delim fr = none → isHop h.op = false → opListed h.op = true → s.disabled 0 port = false →
            h.cls < 5 → noNode h = false →
          (isTerm h.op = true → s.isSelf h.dst = true → termFieldsOk h = false →
            ∃ t x r, exec (.asuneFrameArrival lane delim ⟨fr, false⟩) s = .next t ∧ t.net = { s.net with ret := s.net.ret ++ [x] }
              ∧ x.bytes = Hdr.bytes r ∧ r.op = 0x46 ∧ r.dst = h.src ∧ r.opTag = h.opTag ∧ r.part = h.part ∧ r.epoch = e
              ∧ x.target = h.src ∧ x.unit = .pipeline (pipeOf lane) ∧ t.mem = s.mem)
          ∧ (isTerm h.op = false ∨ s.isSelf h.dst = false ∨ termFieldsOk h = true → s.admits h.part h.op = true →
            (s.stn.st e = .closed → ∃ t, exec (.asuneFrameArrival lane delim ⟨fr, false⟩) s = .next t ∧ t.net = s.net
              ∧ t.mem = s.mem ∧ t.regs = s.regs)
            ∧ (s.stn.st e ≠ .closed →
              ∃ t x, exec (.asuneFrameArrival lane delim ⟨fr, false⟩) s = .next t ∧ t.net.streams = s.net.streams ++ [x]
                ∧ x.id = s.net.nextId ∧ x.stage = .steer ∧ x.bytes = fr ∧ x.flen = fr.length ∧ x.inLane = lane
                ∧ x.inPort = port ∧ x.part = h.part ∧ x.cls = h.cls ∧ x.epoch = e ∧ x.eth = false
                ∧ x.hdr = { h with epoch := e }
                ∧ t.net.nextId = s.net.nextId + 1 ∧ t.net.ret = s.net.ret ∧ t.mem = s.mem ∧ t.coll = s.coll)))))
    ∧ ∀ port cls, port < 1024 → cls < 8 →
      (∀ b, (s.pfcOf port).xoff cls = some b →
        (b + 32 ≤ s.beat.bc → ∃ t, exec (.pfcXoffRepeat port cls) s = .next t ∧ (t.pfcOf port).xoff cls = some s.beat.bc
          ∧ t.out = s.out ++ (if s.flag .stnPortEth port (24 + cls) then [.pfc port cls 0xFFFF] else []) ∧ t.regs = s.regs)
        ∧ (s.beat.bc < b + 32 → exec (.pfcXoffRepeat port cls) s = .next s))
      ∧ ((s.pfcOf port).xoff cls = none → exec (.pfcXoffRepeat port cls) s = .next s)
      ∧ ∃ t, exec (.pfcPauseExpiry port cls) s = .next t ∧ SMap.get 0 (t.pfcOf port).paused cls = 0
          ∧ (∀ c, c ≠ cls → SMap.get 0 (t.pfcOf port).paused c = SMap.get 0 (s.pfcOf port).paused c)
          ∧ t = { s with lnk := { s.lnk with pfc := t.lnk.pfc } }

/-- What an arriving Ethernet frame does. On a live part, a frame on a valid Ethernet port without conflict whose lanes
are all in service. One shorter than 64 or longer than 9,216 bytes, or with a bad FCS, counts in that check's
counter and joins no stream. With a good FCS, a PFC frame sets the pause of every class that its vector and pfc_rx
name and leaves the others; a PAUSE frame counts. Another frame, on a disabled port, counts in dis_drop; of classes
0 to 4 while the ingress FIFO is full it counts in ingress_drop, with XOFF standing for classes 5 to 7; of a CLOSED
epoch it joins no stream. Else its intake program runs on a stream of the class of its outer tag's PCP, or of
def_class, in the current epoch; and where the program does not drop it and its partition admits it, it joins the
streams at steer and counts for the partition; where the partition does not, it joins none. Memory is as it was.
(03_frames_and_addresses.md R70; 03_frames_and_addresses.md R71; 03_frames_and_addresses.md R72; 01_architecture.md
R17; 04_station_programming.md R89; 04_station_programming.md R97; 07_buffers_queues_shaping.md R190;
15_partitions_and_recovery.md R440) -/
def Obligations.EthernetArrivals : Prop :=
  ∀ (s : State) (port : Nat) (fr : List Byte) (full : Bool), s.live = true → port < 1024 → s.portValid port = true →
      s.portEth port = true → s.portLanesUp port = true → s.portConflict port = false →
    (fr.length < 64 ∨ 9216 < fr.length →
      ∃ t, exec (.ethernetFrameArrival port fr full) s = .next t ∧ t = { s with cnt := t.cnt }
        ∧ SMap.get 0 t.cnt.live (cntLane port 7) = (SMap.get 0 s.cnt.live (cntLane port 7) + 1) % 2 ^ 64)
    ∧ (64 ≤ fr.length → fr.length ≤ 9216 →
      (leNat (fr.drop (fr.length - 4)) ≠ fcsOf fr →
        ∃ t, exec (.ethernetFrameArrival port fr full) s = .next t ∧ t = { s with cnt := t.cnt }
          ∧ SMap.get 0 t.cnt.live (cntLane port 8) = (SMap.get 0 s.cnt.live (cntLane port 8) + 1) % 2 ^ 64)
      ∧ (leNat (fr.drop (fr.length - 4)) = fcsOf fr →
        (halfAt fr 12 = 0x8808 → halfAt fr 14 = 0x0101 →
          ∃ t, exec (.ethernetFrameArrival port fr full) s = .next t ∧ t = { s with cnt := t.cnt, lnk := t.lnk }
            ∧ SMap.get 0 t.cnt.live (cntLane port 19) = (SMap.get 0 s.cnt.live (cntLane port 19) + 1) % 2 ^ 64
            ∧ ∀ c, c < 8 → SMap.get 0 (t.pfcOf port).paused c
                = if (halfAt fr 16 >>> c) % 2 = 1 ∧ s.flag .stnPortEth port (32 + c) = true then halfAt fr (18 + 2 * c)
                  else SMap.get 0 (s.pfcOf port).paused c)
        ∧ (halfAt fr 12 = 0x8808 → halfAt fr 14 = 0x0001 →
          ∃ t, exec (.ethernetFrameArrival port fr full) s = .next t ∧ t = { s with cnt := t.cnt }
            ∧ SMap.get 0 t.cnt.live (cntLane port 18) = (SMap.get 0 s.cnt.live (cntLane port 18) + 1) % 2 ^ 64)
        ∧ (halfAt fr 12 ≠ 0x8808 →
          (s.disabled 0 port = true →
            ∃ t, exec (.ethernetFrameArrival port fr full) s = .next t ∧ t = { s with cnt := t.cnt }
              ∧ SMap.get 0 t.cnt.live (cntLane port 12) = (SMap.get 0 s.cnt.live (cntLane port 12) + 1) % 2 ^ 64)
          ∧ (s.disabled 0 port = false → s.ethClass port fr < 5 →
            (full = true →
              ∃ t, exec (.ethernetFrameArrival port fr full) s = .next t
                ∧ t = { s with cnt := t.cnt, lnk := t.lnk, out := t.out } ∧ (t.pfcOf port).full = true
                ∧ (∀ c, c = 5 ∨ c = 6 ∨ c = 7 → ((t.pfcOf port).xoff c).isSome = true)
                ∧ SMap.get 0 t.cnt.live (cntLane port 13) = (SMap.get 0 s.cnt.live (cntLane port 13) + 1) % 2 ^ 64)
            ∧ (full = false →
              (s.stn.st s.stn.cur = .closed →
                ∃ t, exec (.ethernetFrameArrival port fr full) s = .next t ∧ t.net = s.net ∧ t.mem = s.mem
                  ∧ SMap.get 0 t.cnt.live (cntLane port 14) = (SMap.get 0 s.cnt.live (cntLane port 14) + 1) % 2 ^ 64)
              ∧ (s.stn.st s.stn.cur ≠ .closed →
                ∃ (t u v : State) (x : Stream), exec (.ethernetFrameArrival port fr full) s = .next t
                  ∧ u = { s with cnt := u.cnt, lnk := u.lnk, out := u.out } ∧ t.mem = s.mem
                  ∧ (v, x) = (u.passEpoch s.stn.cur).runIntake
                      ((u.passEpoch s.stn.cur).newStream port port true 0 (s.ethClass port fr) s.stn.cur false fr false)
                  ∧ (x.dropped = false → v.admitsEth x.part = true → t.net.streams = s.net.streams ++ [x]
                      ∧ x.id = s.net.nextId ∧ x.stage = .steer ∧ x.bytes = fr ∧ x.inPort = port
                      ∧ x.cls = s.ethClass port fr ∧ x.epoch = s.stn.cur
                      ∧ SMap.get 0 t.cnt.live (cntPart x.part 0) = (SMap.get 0 v.cnt.live (cntPart x.part 0) + 1) % 2 ^ 64)
                  ∧ (x.dropped = false → v.admitsEth x.part = false → t.net = s.net)))))))

/-- Each station takes its first waiting stream to the next station. On a live part, for a pipeline's first waiting
stream and a dispatch entry that bypasses the station. Where none waits, a station changes nothing. steer, without
learning, sends a stream on to hold where its port is open, and drops it where the port is not. hold counts a stream
that is no terminating one into its bucket, and sends it on unless it is a pennant that is not ready, which the hold
table keeps. merge waits while a reply of its own is held; it sends a stream that does not terminate at the part on
to mirror; a memory request that terminates here and finds room, after the waiting ones that do, takes a tracker
entry, behind every earlier one. mirror sends a stream of partition 0 or of Ethernet on to queue. queue gives a
unicast stream its tiles, as many as it has, and it is pending; the free tiles fall by as many. (01_architecture.md
R18; 01_architecture.md R19; 01_architecture.md R20; 04_station_programming.md R90; 06_spraying_and_ordering.md
R160; 06_spraying_and_ordering.md R161; 07_buffers_queues_shaping.md R184; 10_fabric_memory.md R301;
15_partitions_and_recovery.md R450) -/
def Obligations.StationsPassStreams : Prop :=
  ∀ (s : State) (pipe : Nat), s.live = true → pipe < 64 →
    (s.firstAt pipe .steer = none → exec (.stationSteer pipe) s = .next s)
    ∧ (s.firstAt pipe .hold = none → exec (.stationHold pipe) s = .next s)
    ∧ (s.firstAt pipe .merge = none → exec (.stationMerge pipe) s = .next s)
    ∧ (s.firstAt pipe .mirror = none → exec (.stationMirror pipe) s = .next s)
    ∧ (s.firstAt pipe .queue = none → exec (.stationQueue pipe) s = .next s)
    ∧ (∀ t, s.firstAt pipe .steer = some t → t.dropped = false → s.dispEntry t.epoch 1 t.scls < 2 ^ 14 →
        s.flag .stnPort t.inPort 11 = false →
      (t.disp = 1 → s.portOpen t.port = true → exec (.stationSteer pipe) s = .next (s.toStage t .hold))
      ∧ (t.disp = 1 → s.portOpen t.port = false →
        ∃ u, exec (.stationSteer pipe) s = .next u ∧ u.net = (s.toStage (t.setDisp 4) .hold).net
          ∧ u.regs = s.regs ∧ u.tbl = s.tbl))
    ∧ (∀ t, s.firstAt pipe .hold = some t → t.dropped = false → s.dispEntry t.epoch 2 t.scls < 2 ^ 14 → t.disp ≠ 4 →
        s.seqFlow t = false →
      ∃ u b, exec (.stationHold pipe) s = .next u ∧ b = s.bucketOfFlow t.key ∧ u.occE b = (s.occE b + 1) % 2 ^ 32
        ∧ (∀ c, c ≠ b → u.occE c = s.occE c) ∧ u.net.occD = s.net.occD
        ∧ (t.pennant = false → u.net.streams = (s.toStage { t with bucket := some b, snap := s.occE b } .merge).net.streams)
        ∧ (t.pennant = true → sdiff 32 (s.occD b) (s.occE b) < 0 → s.heldCount < 16384 →
            u.net.streams = (s.toStage { t with bucket := some b, snap := s.occE b, since := s.beat.bc } .penHeld).net.streams)
        ∧ u = { s with net := u.net })
    ∧ (s.unitWaits (.pipeline pipe) = true → exec (.stationMerge pipe) s = .next s)
    ∧ (∀ t, s.firstAt pipe .merge = some t → s.unitWaits (.pipeline pipe) = false → t.dropped = false →
        s.dispEntry t.epoch 3 t.scls < 2 ^ 14 → t.dead = false → t.disp ≠ 4 →
      (s.terminates t = false → t.disp ≠ 3 → s.cascadeOf t = none →
        exec (.stationMerge pipe) s = .next (s.toStage t .mirror))
      ∧ (∀ w, w = s.acceptWaiting → s.terminates t = true → isMemOp t.hdr.op = true →
          t.part = 0 ∨ (s.shadowOf t.hdr.src = none ∧ s.primaryOf t.hdr.src = none ∧ s.fromShadow t = false) →
          w.trkRoom t.part = true → w.waits t.part = false → w.seqFlow t = false ∨ w.seqFind t.key = none →
        ∃ u x, exec (.stationMerge pipe) s = .next u
          ∧ u.mem = { w.mem with trk := w.mem.trk ++ [x], nextOrd := w.mem.nextOrd + 1 } ∧ x.id = t.id
          ∧ x.ord = w.mem.nextOrd ∧ x.req.hdr = t.hdr ∧ x.req.bytes = t.bytes ∧ x.reply = none ∧ x.since = s.beat.bc
          ∧ x.silent = false ∧ u.net.streams = (w.dropStream t.id).net.streams))
    ∧ (∀ t, s.firstAt pipe .mirror = some t → t.dropped = false → s.dispEntry t.epoch 4 t.scls < 2 ^ 14 → t.disp ≠ 4 →
        t.eth = true ∨ t.part = 0 →
      exec (.stationMirror pipe) s = .next (s.toStage t .queue))
    ∧ (∀ t a u, s.firstAt pipe .queue = some t → t.dropped = false → s.dispEntry t.epoch 5 t.scls < 2 ^ 14 → t.disp = 1 →
        s.poisonedOut t = false → s.queueTiles t true = some (a, u) →
      exec (.stationQueue pipe) s = .next (u.toStage { t with alloc := some a } .pend)
        ∧ a.total = t.tiles ∧ u = { s with buf := u.buf } ∧ u.freeTiles + t.tiles = s.freeTiles)

/-- The release and the timeout of pennants, and the ends of digests and of a shadow's drop. On a live part. A held
pennant goes on to merge once its snapshot is reached, and a terminating one once next has reached its flow_seq;
neither is touched before. Its entry goes to the first pennant that waits for one. A pennant whose timeout will have
come at the coming boundary is called for it (called within the beat: the model's choice, log entry 3), and nothing
else changes. At that boundary one that is ready is released; one that is not is discarded, counted and reported,
and for a terminating one next goes to the number after its own. A digest that has waited mir_window, and a former
shadow's drop after 64 boundaries, are called for the coming boundary in the same way. There the digest is dropped
from the store and counted as lost, and the drop ends. (06_spraying_and_ordering.md R160;
06_spraying_and_ordering.md R161; 06_spraying_and_ordering.md R165; 06_spraying_and_ordering.md R166;
06_spraying_and_ordering.md R168; 15_partitions_and_recovery.md R451; 15_partitions_and_recovery.md R452) -/
def Obligations.PennantsAndMirrors : Prop :=
  ∀ s : State, s.live = true →
    (∀ id t, s.stream id = some t → t.stage = .penHeld ∨ t.stage = .penWait →
      (s.penReady t = true →
        exec (.pennantRelease id) s = .next (((s.toStage t .merge).advanceG t.inLane).holdRefill))
      ∧ (s.penReady t = false → exec (.pennantRelease id) s = .next s)
      ∧ (t.since + s.penTimeout ≤ s.beat.bc →
        (s.penReady t = true → s.timeoutPennant id = s.releasePennant id)
        ∧ (s.penReady t = false →
          ∃ u : State, s.timeoutPennant id = u.holdRefill ∧ u.net.streams = (s.dropStream id).net.streams
            ∧ u.fld .stnHoldCnt 0 63 52 = Nat.min 4095 (s.fld .stnHoldCnt 0 63 52 + 1)
            ∧ .event .penTimeout [t.key] ∈ u.out ∧ u.beat = s.beat ∧ u.mem = s.mem)))
    ∧ (∀ id t, s.stream id = some t → t.stage = .seqHeld ∨ t.stage = .seqWait →
      (s.seqReady t = true →
        exec (.seqPennantRelease id) s = .next (((s.toStage t .merge).advanceG t.inLane).holdRefill))
      ∧ (s.seqReady t = false → exec (.seqPennantRelease id) s = .next s)
      ∧ (t.since + s.penTimeout ≤ s.beat.bc →
        (s.seqReady t = true → s.timeoutPennant id = s.releaseSeq id)
        ∧ (∀ a, s.seqReady t = false → s.seqFind t.key = some a →
          ∃ u : State, s.timeoutPennant id = u.holdRefill ∧ u.net.streams = (s.dropStream id).net.streams
            ∧ u.fld .stnHoldCnt 0 63 52 = Nat.min 4095 (s.fld .stnHoldCnt 0 63 52 + 1)
            ∧ u.seqNext a = (t.hdr.flowSeq + 1) % 65536 ∧ u.spineWord (a + 16) = 0 ∧ u.beat = s.beat)))
    ∧ (s.heldCount < 16384 →
      (∀ w, s.net.streams.find? (fun t => t.stage = .penWait || t.stage = .seqWait) = some w →
        s.holdRefill = (s.putStream { w with stage := if w.stage = .penWait then .penHeld else .seqHeld }).advanceG w.inLane)
      ∧ (s.net.streams.all (fun t => decide (t.stage ≠ .penWait ∧ t.stage ≠ .seqWait)) = true → s.holdRefill = s))
    ∧ (∀ id, (s.coming (·.pennantDue id) = true →
          exec (.pennantTimeout id) s = .next (s.call (.pennantTimeout id) true))
        ∧ (s.coming (·.pennantDue id) = false → exec (.pennantTimeout id) s = .next s))
    ∧ (∀ id, s.stream id = none → exec (.pennantRelease id) s = .next s ∧ exec (.seqPennantRelease id) s = .next s
        ∧ exec (.pennantTimeout id) s = .next s)
    ∧ (∀ idx x, s.part.digests[idx]? = some x →
      (x.since + Nat.max 16 (s.fld .stnPartCfg 0 63 48) ≤ s.beat.bc + 1 →
        exec (.mirrorDigestTimeout idx) s = .next (s.call (.mirrorDigestTimeout idx) true))
      ∧ (s.beat.bc + 1 < x.since + Nat.max 16 (s.fld .stnPartCfg 0 63 48) → exec (.mirrorDigestTimeout idx) s = .next s))
    ∧ (∀ w, w = Nat.max 16 (s.fld .stnPartCfg 0 63 48) →
      s.digestTimeouts.part = { s.part with digests := s.part.digests.filter fun x => decide (s.beat.bc < x.since + w) }
      ∧ (∀ p, s.digestTimeouts.fld .stnMir p 27 12 = Nat.min 65535 (s.fld .stnMir p 27 12
          + (s.part.digests.filter fun x => decide (x.prim = p) && decide (x.since + w ≤ s.beat.bc)).length))
      ∧ s.digestTimeouts.mem = s.mem ∧ s.digestTimeouts.net = s.net)
    ∧ ∀ node, node < 262144 →
      ((s.part.shadowDrop.any fun x => decide (x.1 = node) && decide (x.2 + 64 ≤ s.beat.bc + 1)) = true →
        exec (.shadowDropEnd node) s = .next (s.call (.shadowDropEnd node) true))
      ∧ ((s.part.shadowDrop.any fun x => decide (x.1 = node) && decide (x.2 + 64 ≤ s.beat.bc + 1)) = false →
        exec (.shadowDropEnd node) s = .next s)
      ∧ s.endShadowDrop node = { s with part := { s.part with shadowDrop := (s.endShadowDrop node).part.shadowDrop } }
      ∧ (s.endShadowDrop node).part.shadowDrop
          = s.part.shadowDrop.filter fun x => !(decide (x.1 = node) && decide (x.2 + 64 ≤ s.beat.bc))

/-- A result's placement, the start of a listed copy on a lane, and the end of its frame. On a live part, with the
stations' programs bypassed. A result for a port is placed at queue as a stream of class 255's selector, with the
tiles that it is given, and leaves the return port; where it is given none it is held there. The first listed copy
of a port goes to the lane picked for it, one over which it may go and that is not bypassed: it joins that lane's
FIFO, which begins it where it sends nothing, and leaves the list; where no lane is picked, only free values are
drawn. The end of a frame puts the frame out on its lane and adds it to the replay buffer of an Asune lane; the end
of a packet's last copy ends its stream, and that of an earlier one releases one reference; on a lane with no frame
in progress nothing changes. (01_architecture.md R19; 04_station_programming.md R92; 06_spraying_and_ordering.md
R147; 06_spraying_and_ordering.md R148; 06_spraying_and_ordering.md R152; 06_spraying_and_ordering.md R157;
07_buffers_queues_shaping.md R180; 07_buffers_queues_shaping.md R191; 07_buffers_queues_shaping.md R194) -/
def Obligations.LaunchAndTheEndOfAFrame : Prop :=
  ∀ s : State, s.live = true →
    (∀ die, die < 2 → s.net.ret.find? (fun r => dieOfPipe r.pipe = die) = none →
      exec (.resultPlacement die) s = .next s.hostGoes)
    ∧ (∀ die r, die < 2 → s.mem.hostAcc = [] → s.net.ret.find? (fun r => dieOfPipe r.pipe = die) = some r →
        r.kind = 2 → r.target < 1024 → r.subq < 128 → s.dispEntry r.epoch 5 255 < 2 ^ 14 → r.part = 0 → r.eth = false →
        s.q.copies.length < 2097152 →
      (∀ a v, s.allocTiles r.pipe (tilesOf (Nat.max 256 r.bytes.length)) 0 r.cls false (dieOfLane r.target) true = some (a, v) →
        ∃ u x, exec (.resultPlacement die) s = .next u ∧ u = { v with net := u.net }
          ∧ u.net.ret = dropFirst (fun r => dieOfPipe r.pipe = die) s.net.ret ∧ u.net.streams = s.net.streams ++ [x]
          ∧ x.stage = .pend ∧ x.scls = 255 ∧ x.part = 0 ∧ x.cls = r.cls ∧ x.port = r.target ∧ x.subq = r.subq ∧ x.desc = r.desc
          ∧ x.id = s.net.nextId ∧ x.alloc = some a ∧ a.total = x.tiles)
      ∧ (s.allocTiles r.pipe (tilesOf (Nat.max 256 r.bytes.length)) 0 r.cls false (dieOfLane r.target) true = none →
        ∃ u, exec (.resultPlacement die) s = .next u ∧ u = { s with net := { s.net with ret := u.net.ret } }
          ∧ u.net.ret = updFirst (fun r => dieOfPipe r.pipe = die) (fun r => { r with held := true }) s.net.ret))
    ∧ (∀ port, port < 1024 → SMap.get [] s.lnk.resend port = [] → (∀ n ∈ s.portLanes port, (s.lane n).hops = []) →
        (s.q.copies.map (·.cid)).Nodup →
      (SMap.get [] s.q.lists port = [] → exec (.launch port) s = .next s)
      ∧ (∀ c t rest ns s1 s2 n?, SMap.get [] s.q.lists port = c.cid :: rest →
          s.q.copies.find? (fun x => x.cid = c.cid) = some c → c.sending = none → c.port = port →
          s.stream c.sid = some t → s.startable (s.lanesFor t c) = (ns, s1) → State.fewest s1 ns = (n?, s2) →
        (n? = none → exec (.launch port) s = .next { s with free := s2.free })
        ∧ (∀ n, n? = some n → t.dropped = false → s.dispEntry t.epoch 6 t.scls < 2 ^ 14 →
            s.dispEntry t.epoch 7 t.scls < 2 ^ 14 → t.poison = false →
          ∃ u, exec (.launch port) s = .next u ∧ n ∈ s.lanesFor t c ∧ s.txBypassed n = false
            ∧ u.q.copies = (s.putCopy { c with sending := some n, frame := copyFrame t c }).q.copies
            ∧ SMap.get [] u.q.lists port = rest.filter (· ≠ c.cid)
            ∧ u.lane n = { s.lane n with queue := (s.lane n).queue ++ [c.cid], now := (u.lane n).now }
            ∧ (u.lane n).now = (if (s.lane n).now = .idle then .copy else (s.lane n).now)
            ∧ (∀ m, m ≠ n → u.lane m = s.lane m) ∧ u.net = s.net ∧ u.mem = s.mem)))
    ∧ (∀ lane, lane < 1024 → (s.lane lane).now = .idle → exec (.frameTransmitEnd lane) s = .next s)
    ∧ ∀ lane, lane < 1024 → (s.lane lane).hops = [] → (s.lane lane).asked = none →
      (∀ f fs, (s.lane lane).now = .ahead → (s.lane lane).ahead = f :: fs →
        ∃ u, exec (.frameTransmitEnd lane) s = .next u ∧ u.out = s.out ++ [.frame lane f.2] ∧ (u.lane lane).ahead = fs
          ∧ (u.lane lane).txNum = ((s.lane lane).txNum + 1) % 2 ^ 32
          ∧ (u.lane lane).replay.getLast? = some ⟨(s.lane lane).txNum, f.2, 0, s.beat.bc⟩ ∧ u.q = s.q ∧ u.net = s.net)
      ∧ ∀ c t, s.sendingOn lane = some c → s.portEth c.port = false → s.stream c.sid = some t → t.desc = none →
          t.credit = false → t.tsReq = false → bit (s.owner c.tile) 31 = true →
        (s.refs c.tile = 1 →
          ∃ u, exec (.frameTransmitEnd lane) s = .next u ∧ u.out = s.out ++ [.frame lane c.frame]
            ∧ (u.lane lane).replay.getLast? = some ⟨(s.lane lane).txNum, c.frame, 0, s.beat.bc⟩
            ∧ u.q.copies = dropFirst (fun x => x.cid = c.cid) s.q.copies
            ∧ u.net.streams = (s.dropStream t.id).net.streams ∧ u.mem = s.mem ∧ u.regs = s.regs)
        ∧ (1 < s.refs c.tile →
          ∃ u, exec (.frameTransmitEnd lane) s = .next u ∧ u.out = s.out ++ [.frame lane c.frame]
            ∧ u.q.copies = dropFirst (fun x => x.cid = c.cid) s.q.copies
            ∧ u.refs c.tile = s.refs c.tile - 1 ∧ u.net = s.net ∧ u.mem = s.mem ∧ u.regs = s.regs)

/-- Replay requests, starts, retries and hand-overs of a lane. On a live part, for an Asune lane in service. An
uncorrectable codeword while no request stands and no attempt was made asks for a replay of the first frame it
discards, as attempt 1, on its own lane, cutting a frame in progress; while a request stands it counts the frames
that it touches among the discarded ones. A request is answered with a start and the held frames from the one it
names, in order; while a frame is in progress, or the direction is bypassed, it waits and cuts nothing. A start
makes the receiver accept frames again from the named one, and counts the skipped ones. With no answer for 2 beats
another attempt is made, and after the fourth, or 8 beats, the lane is declared down. A neighbour's hand-over for a
lane whose hand-over is awaited gives the port's lanes the frames held after the named one; for a lane still in
service the lane is declared down and the name is kept; for another it does nothing. (06_spraying_and_ordering.md
R151; 06_spraying_and_ordering.md R152; 06_spraying_and_ordering.md R153; 06_spraying_and_ordering.md R154;
06_spraying_and_ordering.md R155; 06_spraying_and_ordering.md R156; 06_spraying_and_ordering.md R157;
09_optical_bypass.md R260) -/
def Obligations.LaneReplay : Prop :=
  ∀ (s : State) (n : Nat), s.live = true → n < 1024 →
    (∀ k, s.asuneLane n = true → s.rxIgnored n = false → (s.lane n).down = false →
      ((s.lane n).req = none → (s.lane n).attempts = 0 → s.txBypassed n = false →
        ∃ t, exec (.uncorrectableCodeword ⟨n, k⟩) s = .next t ∧ (t.lane n).req = some (s.lane n).rxNum ∧ (t.lane n).attempts = 1
          ∧ (t.lane n).firstAt = s.beat.bc ∧ (t.lane n).lastAt = s.beat.bc ∧ (t.lane n).rxPos = ((s.lane n).rxNum + k) % 2 ^ 32
          ∧ t.fld .stnLaneRpl n 63 48 = Nat.min 65535 (s.fld .stnLaneRpl n 63 48 + 1)
          ∧ SMap.get 0 t.cnt.live (cntLane n 5) = (SMap.get 0 s.cnt.live (cntLane n 5) + 1) % 2 ^ 64
          ∧ .hop n (fitBytes 256 (Hdr.bytes { op := opLinkReplay, len := 16 } ++ replayPay 1 0 1 (s.lane n).rxNum)) ∈ t.out
          ∧ ((s.lane n).now ≠ .idle → .cut n ∈ t.out) ∧ t.net = s.net ∧ t.mem = s.mem)
      ∧ ((s.lane n).req.isSome = true →
        ∃ t, exec (.uncorrectableCodeword ⟨n, k⟩) s = .next t ∧ (t.lane n).rxPos = ((s.lane n).rxPos + k) % 2 ^ 32
          ∧ (t.lane n).req = (s.lane n).req ∧ (t.lane n).attempts = (s.lane n).attempts
          ∧ SMap.get 0 t.cnt.live (cntLane n 5) = (SMap.get 0 s.cnt.live (cntLane n 5) + 1) % 2 ^ 64
          ∧ t = { s with lnk := t.lnk, cnt := t.cnt }))
    ∧ (∀ k, s.asuneLane n = false ∨ s.rxIgnored n = true → exec (.uncorrectableCodeword ⟨n, k⟩) s = .next s)
    ∧ (∀ frame attempt, frame < 2 ^ 32 → attempt < 65536 →
      (s.asuneLane n = true → (s.lane n).now = .idle → s.txBypassed n = false → (s.lane n).hops = [] →
          (∃ h ∈ (s.lane n).replay, h.num = frame) →
        ∃ t, exec (.replayRequestReceived n frame attempt) s = .next t
          ∧ t.out = s.out ++ [.hop n (fitBytes 256 (Hdr.bytes { op := opLinkReplay, len := 16 } ++ replayPay 2 0 0 frame))]
              ++ (((s.lane n).replay.dropWhile (fun h => h.num ≠ frame)).map (fun h => OutEv.frame n h.bytes))
          ∧ t.fld .stnLaneRpl n 47 32 = Nat.min 65535 (s.fld .stnLaneRpl n 47 32 + 1)
          ∧ t.fld .stnLaneRpl n 19 8 = s.fld .stnLaneRpl n 19 8 ∧ (t.lane n).txNum = (s.lane n).txNum
          ∧ (t.lane n).asked = none ∧ (∀ m, m ≠ n → t.lane m = s.lane m) ∧ t.q = s.q ∧ t.net = s.net)
      ∧ (s.asuneLane n = true → (s.lane n).now ≠ .idle ∨ s.txBypassed n = true →
        ∃ t, exec (.replayRequestReceived n frame attempt) s = .next t ∧ t.lane n = { s.lane n with asked := some frame }
          ∧ t.fld .stnLaneRpl n 47 32 = Nat.min 65535 (s.fld .stnLaneRpl n 47 32 + 1)
          ∧ (∀ m, m ≠ n → t.lane m = s.lane m) ∧ t.out = s.out ∧ t.q = s.q ∧ t.net = s.net)
      ∧ (s.asuneLane n = false → exec (.replayRequestReceived n frame attempt) s = .next s))
    ∧ (∀ frame f, frame < 2 ^ 32 → (s.lane n).req = some f →
      ∃ t, exec (.replayStartReceived n frame) s = .next t
        ∧ t.lane n = { s.lane n with req := none, rxNum := frame }.settle
        ∧ t.fld .stnLaneRpl n 19 8 = Nat.min 4095 (s.fld .stnLaneRpl n 19 8 + (sdiff 32 frame f).toNat)
        ∧ (∀ m, m ≠ n → t.lane m = s.lane m) ∧ t.out = s.out ∧ t.net = s.net)
    ∧ (∀ frame, frame < 2 ^ 32 → (s.lane n).req = none → exec (.replayStartReceived n frame) s = .next s)
    ∧ ((s.lane n).down = true ∨ (s.lane n).attempts = 0 → exec (.replayRetryTimeout n) s = .next s)
    ∧ ((s.lane n).down = false → (s.lane n).attempts ≠ 0 →
      ((s.lane n).req.isSome = true ∧ (s.lane n).attempts = 4 ∧ (s.lane n).lastAt + 2 ≤ s.beat.bc
          ∨ (s.lane n).req = none ∧ (s.lane n).firstAt + 8 ≤ s.beat.bc →
        ∃ t, exec (.replayRetryTimeout n) s = .next t ∧ (t.lane n).down = true ∧ (t.lane n).stopped = true
          ∧ t.fld .stnLaneRpl n 7 0 = Nat.min 255 (s.fld .stnLaneRpl n 7 0 + 1) ∧ .event .laneDown [n] ∈ t.out)
      ∧ (∀ f, (s.lane n).req = some f → (s.lane n).attempts < 4 → (s.lane n).lastAt + 2 ≤ s.beat.bc →
          s.beat.bc < (s.lane n).firstAt + 8 → s.txBypassed n = false →
        ∃ t, exec (.replayRetryTimeout n) s = .next t ∧ (t.lane n).attempts = (s.lane n).attempts + 1
          ∧ (t.lane n).req = some f ∧ (t.lane n).lastAt = s.beat.bc ∧ (t.lane n).firstAt = (s.lane n).firstAt
          ∧ .hop n (fitBytes 256 (Hdr.bytes { op := opLinkReplay, len := 16 }
              ++ replayPay 1 0 ((s.lane n).attempts + 1) f)) ∈ t.out))
    ∧ (∀ pos frame p m, pos < 8 → frame < 2 ^ 32 → s.portOf n = some p → s.asuneLane n = true → pos < s.portWidth p →
        m = p + pos →
      ((s.lane m).awaitHand = true → SMap.get [] s.lnk.resend p = [] → s.goodLanes p = [] →
        ∃ t, exec (.handoverReceived n pos frame) s = .next t ∧ (t.lane m).awaitHand = false ∧ (t.lane m).replay = []
          ∧ SMap.get [] t.lnk.resend p
              = ((s.lane m).replay.filter fun h => decide (0 < sdiff 32 h.num frame)).map (fun h => (m, h.bytes))
          ∧ (∀ k, k ≠ m → t.lane k = s.lane k) ∧ t.out = s.out ∧ t.net = s.net ∧ t.q = s.q)
      ∧ ((s.lane m).awaitHand = false → s.laneUp m = true →
        ∃ t, exec (.handoverReceived n pos frame) s = .next t ∧ (t.lane m).down = true ∧ (t.lane m).handed = some frame
          ∧ (∀ k, k ≠ m → t.lane k = s.lane k) ∧ t.net = s.net ∧ t.q = s.q)
      ∧ ((s.lane m).awaitHand = false → s.laneUp m = false → exec (.handoverReceived n pos frame) s = .next s))

/-- LINK_CREDIT frames that are due and that arrive. On a live part. A LINK_CREDIT that is due is sent on its lane with
the lane's grants, which are then the last ones sent; behind a frame in progress it waits; one that is not due
changes nothing. One that arrives on an Asune lane in service gives the neighbour's grants of classes 5 to 7, and
frames handed over on its port that waited for them may go; it changes nothing else. (07_buffers_queues_shaping.md
R187; 07_buffers_queues_shaping.md R188; 06_spraying_and_ordering.md R157) -/
def Obligations.LinkCredits : Prop :=
  ∀ (s : State) (n : Nat), s.live = true → n < 1024 →
    (s.creditDue n = false → exec (.linkCreditSend n) s = .next s)
    ∧ (∀ (o l : Lane) pay, o = s.lane n → l = { o with l5 := o.g5, l6 := o.g6, l7 := o.g7, lAt := s.beat.bc, lSent := true } →
        pay = wordBytes (at_ 32 (s.lane n).g5 ||| at_ 0 (s.lane n).g6) ++ wordBytes (at_ 32 (s.lane n).g7) →
        s.creditDue n = true →
      ((s.lane n).now = .idle → (s.lane n).hops = [] →
        ∃ t, exec (.linkCreditSend n) s = .next t
          ∧ t.out = s.out ++ [.hop n (fitBytes 256 (Hdr.bytes { op := opLinkCredit, len := 16 } ++ pay))]
          ∧ t.lane n = Lane.pass l (laneBytes 256) ∧ (∀ m, m ≠ n → t.lane m = s.lane m) ∧ t.net = s.net ∧ t.regs = s.regs)
      ∧ ((s.lane n).now ≠ .idle →
        ∃ t, exec (.linkCreditSend n) s = .next t ∧ t.lane n = { l with hops := l.hops ++ [{ op := opLinkCredit, pay := pay }] }
          ∧ (∀ m, m ≠ n → t.lane m = s.lane m) ∧ t.out = s.out ∧ t.net = s.net ∧ t.regs = s.regs))
    ∧ ∀ a b c, a < 2 ^ 32 → b < 2 ^ 32 → c < 2 ^ 32 →
      (∀ p, s.asuneLane n = true → s.portOf n = some p →
        exec (.linkCreditReceived n a b c) s
          = .next ((s.setLane n fun l => { l with ng5 := a, ng6 := b, ng7 := c }).takeResend p)
        ∧ (SMap.get [] s.lnk.resend p = [] → exec (.linkCreditReceived n a b c) s
          = .next (s.setLane n fun l => { l with ng5 := a, ng6 := b, ng7 := c })))
      ∧ (s.asuneLane n = false → exec (.linkCreditReceived n a b c) s = .next s)

/-- Loads, stores, counted stores and subscriptions: their bytes, their replies and their frame. On a live part, for a
tracker entry that waits to be performed, whose lines no earlier entry holds and whose counters are not damaged. A
request of another opcode is not touched. One that fails a check of R288 gets that check's status, and memory is as
it was. A load answers OK with the bytes of its window, of the counters or of the snapshot; where it meets a
poisoned line it answers POISON, or OK with poison in a partition that carries it; memory is as it was. A store
leaves its payload at its window's address, and every other byte as it was. A counted store does the same and adds 1
to its counter, which fires a subscription whose target is reached. SUB leaves its target in the near store and arms
the subscription, or fires it at once where the counter has reached the target. A store with poison, without carry,
is answered POISON and writes nothing. The reply waits in the entry. Accesses of BAR2 that waited for the request's
lines follow; where none waits nothing follows. (10_fabric_memory.md R288; 10_fabric_memory.md R293;
10_fabric_memory.md R294; 10_fabric_memory.md R296; 10_fabric_memory.md R298; 10_fabric_memory.md R299;
18_host_and_memory_interfaces.md R519) -/
def Obligations.LoadsAndStores : Prop :=
  ∀ (s : State) (id : Nat) (t : Trk) (h : Hdr), s.live = true → s.trkAt id = some t → t.reply = none → t.silent = false →
    t.reset = false → h = t.req.hdr → s.trkBlocked t = false → s.recalHolds (s.reqLines h) = false →
    (counterLines h).all (fun l => !s.poisoned .near l) = true →
    (∀ v : State, v.mem.hostAcc = [] → v.hostGoes = v)
    ∧ (∀ (i : Instr) (op : Nat),
        (i, op) ∈ [(Instr.loadRequest id, opLdReq), (.store id, opSt), (.countedStore id, opStCnt), (.subArm id, opSub)] →
      (h.op ≠ op → exec i s = .next s.hostGoes)
      ∧ ∀ k, h.op = op → s.checkReq h = some k → (op = opStCnt → t.owned = false ∨ s.owns h.part h.ctr = true) →
        ∃ u : State, exec i s = .next u.hostGoes ∧ u.mem = { s.mem with trk := u.mem.trk } ∧ u.regs = s.regs ∧ u.net = s.net
          ∧ u.trkAt id = some { t with reply := some ⟨k, [], false⟩, req := { t.req with alloc := none } })
    ∧ (s.checkReq h = none →
      (h.op = opLdReq →
        (s.loadBad h = false →
          ∃ (u : State) (p : List Byte), exec (.loadRequest id) s = .next u.hostGoes ∧ u.mem = { s.mem with trk := u.mem.trk } ∧ u.regs = s.regs ∧ u.net = s.net
            ∧ (∀ sp a, spaceOf h.offset ≤ 1 → s.winAddr h = (sp, a) → p = memRead (s.bytesOf sp) a h.len)
            ∧ (spaceOf h.offset = 2 → p = memRead s.mem.near (offIn h.offset) h.len)
            ∧ (spaceOf h.offset = 3 → p = s.loadBytes h)
            ∧ u.trkAt id = some { t with reply := some ⟨0, p, false⟩, req := { t.req with alloc := none } })
        ∧ (s.loadBad h = true →
          ∃ u : State, exec (.loadRequest id) s = .next u.hostGoes ∧ u.mem = { s.mem with trk := u.mem.trk } ∧ u.regs = s.regs ∧ u.net = s.net
            ∧ u.trkAt id = some { t with reply := some (if s.carry h.part then ⟨0, s.loadBytes h, true⟩ else ⟨5, [], false⟩),
                                         req := { t.req with alloc := none } }))
      ∧ (h.op = opSt ∨ h.op = opStCnt → h.poison = true → s.carry h.part = false →
        ∃ u : State, exec (if h.op = opSt then .store id else .countedStore id) s = .next u.hostGoes ∧ u.mem = { s.mem with trk := u.mem.trk }
          ∧ u.trkAt id = some { t with reply := some ⟨5, [], false⟩, req := { t.req with alloc := none } })
      ∧ (∀ sp a, h.poison = false ∨ s.carry h.part = true → s.winAddr h = (sp, a) →
        (h.op = opSt →
          ∃ u : State, exec (.store id) s = .next u.hostGoes
            ∧ memRead (u.bytesOf sp) a h.len = fitBytes h.len t.toReq.pay
            ∧ (∀ b, b < a ∨ a + h.len ≤ b → memGet (u.bytesOf sp) b = memGet (s.bytesOf sp) b)
            ∧ (sp = .spine → u.mem.near = s.mem.near) ∧ (sp = .near → u.mem.spine = s.mem.spine)
            ∧ u.mem.subs = s.mem.subs ∧ u.regs = s.regs ∧ u.net = s.net
            ∧ u.trkAt id = some { t with reply := some ⟨0, [], false⟩, req := { t.req with alloc := none } })
        ∧ (h.op = opStCnt → sp = .spine ∨ 0x1800000 ≤ a →
          ∃ (u : State) (n : Nat), exec (.countedStore id) s = .next u.hostGoes ∧ n = (s.ctr h.ctr + 1) % 2 ^ 64 ∧ u.ctr h.ctr = n
            ∧ memRead (u.bytesOf sp) a h.len = fitBytes h.len t.toReq.pay
            ∧ (∀ b, sp = .near ∨ b < a ∨ a + h.len ≤ b → memGet u.mem.spine b = memGet s.mem.spine b)
            ∧ (∀ b, b < 8 * h.ctr ∨ 8 * h.ctr + 8 ≤ b → sp = .spine ∨ b < a ∨ a + h.len ≤ b →
                memGet u.mem.near b = memGet s.mem.near b)
            ∧ u.trkAt id = some { t with reply := some ⟨0, [], false⟩, req := { t.req with alloc := none } }
            ∧ (s.sub h.ctr = none → u.sub h.ctr = none ∧ u.net = s.net)
            ∧ ∀ x, s.sub h.ctr = some x →
              (n < s.subTarget h.ctr → u.sub h.ctr = some x ∧ u.net = s.net)
              ∧ (s.subTarget h.ctr ≤ n → u.sub h.ctr = none ∧ ∃ r, u.net = { s.net with ret := s.net.ret ++ [r] }
                  ∧ r.target = x.hdr.src
                  ∧ r.bytes = ({ s.replyHdr x.hdr opNotify 8 false with ctr := h.ctr } : Hdr).bytes ++ leBytes 8 n)))
      ∧ (h.op = opSub → h.poison = false →
        ∃ (u : State) (n : Nat), exec (.subArm id) s = .next u.hostGoes ∧ n = leNat (fitBytes 8 t.toReq.pay)
          ∧ u.subTarget h.ctr = n ∧ u.ctr h.ctr = s.ctr h.ctr ∧ u.mem.spine = s.mem.spine
          ∧ (∀ b, b < 0x800000 + 16 * h.ctr ∨ 0x800000 + 16 * h.ctr + 8 ≤ b → memGet u.mem.near b = memGet s.mem.near b)
          ∧ (s.ctr h.ctr < n → u.sub h.ctr = some ⟨h⟩ ∧ u.net = s.net)
          ∧ (n ≤ s.ctr h.ctr → u.sub h.ctr = none ∧ ∃ r, u.net = { s.net with ret := s.net.ret ++ [r] } ∧ r.target = h.src)
          ∧ u.trkAt id = some { t with reply := some ⟨0, [], false⟩, req := { t.req with alloc := none } }))

/-- Each of the thirteen atomics writes its result, answers as R295 says, is recorded, and is not applied twice. On a
live part, for a tracker entry that waits to be performed, whose lines no earlier entry holds and whose counters are
not damaged, and for each atomic command. A request of another opcode is not touched. An atomic with poison, or
whose target is poisoned, is answered POISON and changes no memory. One that is fresh in a record that is whole
leaves the operation's result at its target and nothing else but its record's bytes, answers OK with the prior value
where the operation returns one, and takes the slot of its op_tag and becomes the newest. One whose op_tag the
record holds is answered from the record, counted, and not applied: memory is as it was. (03_frames_and_addresses.md
R66; 10_fabric_memory.md R293; 10_fabric_memory.md R295; 10_fabric_memory.md R296; 10_fabric_memory.md R304;
10_fabric_memory.md R306; 10_fabric_memory.md R307; 10_fabric_memory.md R308) -/
def Obligations.AtomicsApplyOnce : Prop :=
  ∀ (s : State) (id : Nat) (t : Trk) (h : Hdr) (i : Instr) (sub w : Nat), s.live = true → s.trkAt id = some t →
    t.reply = none → t.silent = false → t.reset = false → h = t.req.hdr → w = atomWidth h → s.trkBlocked t = false →
    s.recalHolds (s.reqLines h) = false → (counterLines h).all (fun l => !s.poisoned .near l) = true →
    (i, sub) ∈ [(Instr.atomAdd id, 0), (.atomFetchAdd id, 1), (.atomSwap id, 2), (.atomCas id, 3), (.atomMinS id, 4),
      (.atomMaxS id, 5), (.atomMinU id, 6), (.atomMaxU id, 7), (.atomAnd id, 8), (.atomOr id, 9), (.atomXor id, 0xA),
      (.atomFp32Add id, 0xB), (.atomBf16Add id, 0xC)] →
    (h.op ≠ 0x10 + sub → exec i s = .next s.hostGoes)
    ∧ (h.op = 0x10 + sub → s.checkReq h = none → ∀ sp ta, s.atomAddr h = (sp, ta) →
      (h.poison = true ∨ s.badRead sp ta w = true →
        ∃ u : State, exec i s = .next u.hostGoes ∧ u.mem = { s.mem with trk := u.mem.trk }
          ∧ u.trkAt id = some { t with reply := some ⟨5, [], false⟩, req := { t.req with alloc := none } })
      ∧ (h.poison = false → s.badRead sp ta w = false → s.flag .fmemAwinRegion 0 63 = true →
        ∀ a v, s.awinFind h.src h.part = some (a, v) → bit (v.spineWord a) 62 = false → v.badRead .spine a 512 = false →
        (bit (v.spineWord a) 15 = false → sp = .near ∨ ta + w ≤ a ∨ a + 512 ≤ ta →
          ∃ (u : State) (old : Nat), exec i s = .next u.hostGoes ∧ old = leNat (memRead (s.bytesOf sp) ta w)
            ∧ memRead (u.bytesOf sp) ta w
              = leBytes w (atomNew sub w old (leNat (t.toReq.pay.take w)) (leNat ((t.toReq.pay.drop w).take w)))
            ∧ (∀ b, b < a ∨ a + 512 ≤ b → sp = .near ∨ b < ta ∨ ta + w ≤ b → memGet u.mem.spine b = memGet s.mem.spine b)
            ∧ (∀ b, sp = .spine ∨ b < ta ∨ ta + w ≤ b → memGet u.mem.near b = memGet s.mem.near b)
            ∧ u.spineWord (a + 64 + 16 * (h.opTag % 16)) = (at_ 48 h.opTag ||| at_ 47 1)
            ∧ u.spineWord (a + 72 + 16 * (h.opTag % 16)) = BitVec.ofNat 64 (if atomReturns sub then old else 0)
            ∧ bits (u.spineWord a) 31 16 = h.opTag % 65536 ∧ bit (u.spineWord a) 15 = true
            ∧ u.trkAt id = some { t with reply := some ⟨0, if atomReturns sub then leBytes w old else [], false⟩,
                                         req := { t.req with alloc := none } })
        ∧ (v = s → bit (s.spineWord a) 15 = true → sdiff 16 h.opTag (bits (s.spineWord a) 31 16) ≤ 0 →
            -15 ≤ sdiff 16 h.opTag (bits (s.spineWord a) 31 16) →
            bits (s.spineWord (a + 64 + 16 * (h.opTag % 16))) 63 48 = h.opTag →
            bit (s.spineWord (a + 64 + 16 * (h.opTag % 16))) 47 = true →
          ∃ u : State, exec i s = .next u.hostGoes ∧ u.mem = { s.mem with trk := u.mem.trk } ∧ u.net = s.net
            ∧ u.fld .fmemCnt0 0 63 48 = Nat.min 65535 (s.fld .fmemCnt0 0 63 48 + 1)
            ∧ u.trkAt id = some { t with reply := some ⟨0, if atomReturns sub then
                  leBytes w (s.spineWord (a + 72 + 16 * (h.opTag % 16))).toNat else [], false⟩,
                                         req := { t.req with alloc := none } })))

/-- Waiting requests that are accepted, replies that are handed on, and requests that are given up. On a live part. A
request that waits at merge takes an entry when there is room, behind every earlier one, with the beat at which it
reached merge; with no room, and where none waits, nothing changes. A reply that has been made is handed to the
return port, from its engine's die, for its requester, and the entry is kept until it is admitted; an entry with no
reply, and one whose reply was handed on, are not touched, nor is any while the engine's port holds an earlier
reply; the reply of a discarded partition is not sent. The completion of a request that was given up is counted and
sent nowhere. A request whose trk_timeout will have passed at the coming boundary, and whose reply was not handed
on, is called for it (called within the beat: the model's choice, log entry 3). There its entry is freed, it is
counted, and an item 0x61 is posted. (10_fabric_memory.md R285; 10_fabric_memory.md R301; 10_fabric_memory.md R302;
10_fabric_memory.md R303; 07_buffers_queues_shaping.md R191; 15_partitions_and_recovery.md R441) -/
def Obligations.TrackerEntries : Prop :=
  ∀ s : State, s.live = true →
    (s.net.streams.filter (fun t => t.stage = .memWait) = [] → exec .waitingRequestAccept s = .next s)
    ∧ (∀ t, s.net.streams.filter (fun t => t.stage = .memWait) = [t] →
      (s.trkRoom t.part = false → exec .waitingRequestAccept s = .next s)
      ∧ (s.trkRoom t.part = true → s.seqFlow t = false →
        ∃ u x, exec .waitingRequestAccept s = .next u
          ∧ u.mem = { s.mem with trk := s.mem.trk ++ [x], nextOrd := s.mem.nextOrd + 1 } ∧ x.id = t.id
          ∧ x.ord = s.mem.nextOrd ∧ x.req.hdr = t.hdr ∧ x.req.bytes = t.bytes ∧ x.since = t.since ∧ x.reply = none
          ∧ x.sent = false ∧ u.net.streams = (s.dropStream t.id).net.streams ∧ u.regs = s.regs))
    ∧ (∀ id t, s.trkAt id = some t →
      (t.reply = none ∨ t.sent = true ∨ s.unitWaits (.engine t.die) = true → exec (.memoryCompletion id) s = .next s)
      ∧ (s.unitWaits (.engine t.die) = false → t.sent = false →
        (t.reply.isSome = true → t.silent = true → exec (.memoryCompletion id) s = .next (s.dropTrk id))
        ∧ (∀ r, t.reply = some r → t.silent = false →
          ∃ u x, exec (.memoryCompletion id) s = .next u ∧ u.trkAt id = some { t with sent := true }
            ∧ u.net = { s.net with ret := s.net.ret ++ [x] } ∧ u.mem = { s.mem with trk := u.mem.trk }
            ∧ x.bytes = (s.replyHdr t.req.hdr (0x40 + r.status) r.payload.length r.poison).bytes ++ r.payload
            ∧ x.target = t.req.hdr.src ∧ x.trk = some id ∧ x.pipe = pipeOnDie t.die t.req.pipe ∧ x.unit = .engine t.die))
      ∧ (t.sent = true ∨ s.beat.bc + 1 < t.since + s.trkTimeout → exec (.trackerTimeout id) s = .next s)
      ∧ (t.sent = false → t.since + s.trkTimeout ≤ s.beat.bc + 1 →
          exec (.trackerTimeout id) s = .next (s.call (.trackerTimeout id) true))
      ∧ (t.sent = false → t.since + s.trkTimeout ≤ s.beat.bc →
        ∃ (u : State) (y : Item), s.giveUpId id = u
          ∧ u.mem = { s.mem with trk := dropFirst (fun x => x.id = id) s.mem.trk, late := s.mem.late ++ [t] }
          ∧ u.fld .fmemCnt0 0 31 16 = Nat.min 65535 (s.fld .fmemCnt0 0 31 16 + 1)
          ∧ u.host.outbox = s.host.outbox ++ [(s.fld .fmemCfg 0 5 0, [y])]
          ∧ y.w0 = (at_ 56 0x61 ||| at_ 52 0 ||| at_ 40 t.req.part ||| at_ 22 t.req.hdr.src)
          ∧ u.net = s.net ∧ u.beat = s.beat))
    ∧ (∀ id t, s.trkAt id = none → s.mem.late.find? (fun t => t.id = id) = some t → t.reply.isSome = true →
      ∃ u, exec (.memoryCompletion id) s = .next u
        ∧ u.mem = { s.mem with late := dropFirst (fun x => x.id = id) s.mem.late }
        ∧ u.fld .fmemCnt0 0 15 0 = Nat.min 65535 (s.fld .fmemCnt0 0 15 0 + 1) ∧ u.net = s.net)
    ∧ (∀ id t, s.trkAt id = none → s.stream id = some t → t.stage = .memWait →
      (s.beat.bc + 1 < t.since + s.trkTimeout → exec (.trackerTimeout id) s = .next s)
      ∧ (t.since + s.trkTimeout ≤ s.beat.bc + 1 → exec (.trackerTimeout id) s = .next (s.call (.trackerTimeout id) true))
      ∧ (t.since + s.trkTimeout ≤ s.beat.bc →
        (s.giveUpId id).net.streams = (s.dropStream id).net.streams ∧ (s.giveUpId id).mem = s.mem
          ∧ (s.giveUpId id).fld .fmemCnt0 0 31 16 = Nat.min 65535 (s.fld .fmemCnt0 0 31 16 + 1)))
    ∧ ∀ id, s.trkAt id = none →
      (s.mem.late.find? (fun t => t.id = id) = none → exec (.memoryCompletion id) s = .next s)
      ∧ (s.stream id = none → exec (.trackerTimeout id) s = .next s)

/-- The commands of fabric memory and of BAR2 keep both memories in their canonical form. In the state after reset both
memories are in their canonical form: rising addresses, and no entry that equals what an unlisted address reads as.
From every state in which they are, a load, a store, a counted store, a subscription, each atomic, a completion, a
give-up, an acceptance, and a read or write of BAR2 leads to a state in which they are again. The canonical form is
the model's own (log entry 1). (10_fabric_memory.md R291; 10_fabric_memory.md R292; 10_fabric_memory.md R294;
10_fabric_memory.md R295; 10_fabric_memory.md R298; 10_fabric_memory.md R299) -/
def Obligations.MemoryKeepsItsCanonicalForm : Prop :=
  State.reset.mem.wf = true
  ∧ ∀ (s t : State) (i : Instr) (id a n : Nat) (bs : List (Option Byte)),
      i ∈ [Instr.loadRequest id, .store id, .countedStore id, .subArm id, .atomAdd id, .atomFetchAdd id, .atomSwap id, .atomCas id,
        .atomMinS id, .atomMaxS id, .atomMinU id, .atomMaxU id, .atomAnd id, .atomOr id, .atomXor id, .atomFp32Add id,
        .atomBf16Add id, .memoryCompletion id, .trackerTimeout id, .waitingRequestAccept, .bar2Read a n, .bar2Write a bs] →
      s.mem.wf = true → exec i s = .next t → t.mem.wf = true

/-- Chunks: the draw of staging, combining, the end of the straggler window, spilling and recall. On a live part. A home
draws staging again only for a chunk that is wanted: a draw that succeeds leaves the chunk in staging (a spilled one
on its way back), a refused one leaves it as it was. A cluster that is free combines the first contribution of its
input: it leaves the buffer, and its contributor counts as combined; the last one of a segment sends it to every
listed group. A cluster whose result its return port holds does not combine. The end of a chunk's window, and its
spilling, are called for the boundary at which they are due, and not before (called within the beat: the model's
choice, log entry 3). There, at the end of its window, a chunk ends: with POISON where an unsent segment is poisoned
and its partition has no carry, with QUORUM where every unsent segment has K contributors and the mode is QUORUM,
else with TIMEOUT; and a chunk that has stayed in staging for spill_beats spills where it can, its staging returned,
and is counted as refused where it cannot. A recalled partial is in staging again, and its spill is returned.
(11_collectives.md R337; 11_collectives.md R338; 11_collectives.md R339; 11_collectives.md R340;
12_reduction_arithmetic.md R357; 14_integrity.md R409; 07_buffers_queues_shaping.md R191) -/
def Obligations.ChunksDrawCombineExpireAndSpill : Prop :=
  ∀ s : State, s.live = true →
    (∀ i k, i < 4096 → k < 1048576 → s.ctx i = none ∨ s.wanted i k = false → exec (.stagingDraw i k) s = .next s)
    ∧ (∀ i k c ch t, i < 4096 → k < 1048576 → s.ctx i = some c → s.chunk i k = some ch → ch.place = .none → s.tableUse ch.home < 128 →
        ch.check = none → s.net.streams.filter (fun t => t.stage = .collWait) = [t] → t.hdr.chunk = k →
        s.ctxOf t.part t.hdr.coll = some i →
      (∀ v, s.drawPool 0 ch.home i k c.d.part c.d.resClass c.d.partialKib = some v →
        ∃ u x, exec (.stagingDraw i k) s = .next u ∧ u.chunk i k = some x ∧ x.place = .staging ∧ x.drawnAt = s.beat.bc
          ∧ u.buf.stg = v.buf.stg)
      ∧ (s.drawPool 0 ch.home i k c.d.part c.d.resClass c.d.partialKib = none →
        ∃ u x, exec (.stagingDraw i k) s = .next u ∧ u.chunk i k = some x ∧ x.place = .none))
    ∧ (∀ i k c ch v, i < 4096 → k < 1048576 → s.ctx i = some c → s.chunk i k = some ch → ch.place = .spill → s.wanted i k = true →
        s.net.streams.all (fun t => t.stage ≠ .collWait) = true →
        s.drawPool 0 ch.home i k c.d.part c.d.resClass c.d.partialKib = some v →
      exec (.stagingDraw i k) s = .next (v.putChunk { ch with place := .recall, drawnAt := s.beat.bc }))
    ∧ (∀ clu, clu < 768 → s.unitWaits (.cluster clu) = true → exec (.contributionCombine clu) s = .next s)
    ∧ (∀ clu, clu < 768 → s.unitWaits (.cluster clu) = false → s.net.streams.all (fun t => t.stage ≠ .collWait) = true →
      (s.clusterFree clu = false ∨ s.coll.inbuf.all (fun e => e.cluster ≠ clu) = true →
        exec (.contributionCombine clu) s = .next s)
      ∧ (∀ e rest ch c g p n, s.clusterFree clu = true → s.coll.inbuf = e :: rest → e.cluster = clu →
          s.chunk e.ctx e.chunk = some ch → ch.home = clu → ch.place = .staging → s.ctx e.ctx = some c →
          ch.segs[e.seg]? = some g → ch.poisonEnd = false → g.poison = false →
          s.combineHits c.d clu ch.epoch e.seg g.part e.data = false →
          s.combineInto c.d ch.epoch e.seg g.part e.data = (p, n) →
        (g.done.length + 1 ≠ c.d.n →
          ∃ u f, exec (.contributionCombine clu) s = .next u ∧ u.coll.inbuf = rest
            ∧ f = { g with part := p, done := g.done ++ [e.who], contrib := g.contrib + e.contrib }
            ∧ u.chunk e.ctx e.chunk = some { ch with segs := ch.segs.set e.seg f }
            ∧ u.net = s.net ∧ u.mem = s.mem ∧ u.buf = s.buf
            ∧ u.fld .redCnt 0 15 0 = Nat.min 65535 (s.fld .redCnt 0 15 0 + n))
        ∧ (g.done.length + 1 = c.d.n → c.d.cascade = false → ch.check = none →
            (∃ j x, j ≠ e.seg ∧ ch.segs[j]? = some x ∧ x.sent = false) →
          ∃ u x y rs, exec (.contributionCombine clu) s = .next u ∧ u.coll.inbuf = rest
            ∧ u.chunk e.ctx e.chunk = some x ∧ x.segs[e.seg]? = some y ∧ y.sent = true ∧ y.done = g.done ++ [e.who]
            ∧ u.net = { s.net with ret := s.net.ret ++ rs } ∧ rs.map (·.target) = c.d.groups
            ∧ (∀ r ∈ rs, r.kind = 1 ∧ r.part = c.d.part ∧ r.cls = c.d.resClass ∧ r.epoch = ch.epoch)
            ∧ u.mem = s.mem)))
    ∧ (∀ i k, i < 4096 → k < 1048576 → s.chunk i k = none →
        exec (.stragglerWindowExpiry i k) s = .next s ∧ exec (.chunkSpill i k) s = .next s
          ∧ exec (.partialRecallDone i k) s = .next s)
    ∧ ∀ i k ch c, i < 4096 → k < 1048576 → s.chunk i k = some ch → s.ctx i = some c →
      (s.beat.bc + 1 < ch.openedAt + ch.window → exec (.stragglerWindowExpiry i k) s = .next s)
      ∧ (ch.openedAt + ch.window ≤ s.beat.bc + 1 →
          exec (.stragglerWindowExpiry i k) s = .next (s.call (.stragglerWindowExpiry i k) true))
      ∧ (ch.openedAt + ch.window ≤ s.beat.bc → (c.roundIdx k).isSome = true →
        ∃ (u : State) (d : Context), s.expireChunk i k = u ∧ u.beat = s.beat
          ∧ u.coll.chunks = dropFirst (fun x => x.ctx = i && x.chunk = k) s.coll.chunks ∧ u.ctx i = some d
          ∧ (ch.segs.all (fun g => !g.poison) = true →
            (c.d.quorum = true ∧ ch.segs.all (fun g => g.sent || decide (c.d.k ≤ g.done.length)) = true →
              d.nQuorum = c.nQuorum + 1 ∧ d.nTimeout = c.nTimeout ∧ d.nOther = c.nOther)
            ∧ (c.d.quorum = false ∨ ch.segs.all (fun g => g.sent || decide (c.d.k ≤ g.done.length)) = false →
              d.nQuorum = c.nQuorum ∧ d.nTimeout = c.nTimeout + 1 ∧ d.nOther = c.nOther))
          ∧ (ch.segs.any (fun g => g.poison && !g.sent) = true → s.carry c.d.part = false →
              d.nQuorum = c.nQuorum ∧ d.nTimeout = c.nTimeout ∧ d.nOther = c.nOther + 1))
      ∧ (ch.place ≠ .staging ∨ s.beat.bc + 1 < ch.drawnAt + Nat.max 1 (s.fld .collCfg 0 63 48)
            ∨ ch.openedAt + ch.window ≤ s.beat.bc + 1 →
          exec (.chunkSpill i k) s = .next s)
      ∧ (ch.place = .staging → ch.drawnAt + Nat.max 1 (s.fld .collCfg 0 63 48) ≤ s.beat.bc + 1 →
          s.beat.bc + 1 < ch.openedAt + ch.window → ch.judged ≠ s.beat.bc + 1 →
          exec (.chunkSpill i k) s = .next (s.call (.chunkSpill i k) true))
      ∧ (ch.place = .staging → ch.drawnAt + Nat.max 1 (s.fld .collCfg 0 63 48) ≤ s.beat.bc →
          s.beat.bc < ch.openedAt + ch.window → ch.judged ≠ s.beat.bc →
        (s.flag .bufSpillCfg 0 0 = false ∨ s.drawPool 1 0 i k c.d.part c.d.resClass c.d.partialKib = none →
          ∃ (u : State) (q : Nat), s.spillChunk i k = u ∧ u.chunk i k = some { ch with judged := s.beat.bc }
            ∧ q = cntPool (if c.d.partialKib ≤ 64 then 3 else 4) 1
            ∧ SMap.get 0 u.cnt.live q = (SMap.get 0 s.cnt.live q + 1) % 2 ^ 64 ∧ u.buf = s.buf ∧ u.mem = s.mem)
        ∧ (∀ v, s.flag .bufSpillCfg 0 0 = true → s.drawPool 1 0 i k c.d.part c.d.resClass c.d.partialKib = some v →
          ∃ u : State, s.spillChunk i k = u ∧ u.chunk i k = some { ch with place := .spill }
            ∧ u.buf = (v.freeStaging ch.home i k).buf ∧ u.cnt = s.cnt ∧ u.mem = s.mem ∧ u.beat = s.beat))
      ∧ (ch.place ≠ .recall → exec (.partialRecallDone i k) s = .next s)
      ∧ (ch.place = .recall → s.net.streams.all (fun t => t.stage ≠ .collWait) = true →
          exec (.partialRecallDone i k) s
            = .next ((s.putChunk { ch with place := .staging, drawnAt := s.beat.bc }).freeSpill i k))

/-- Compares, arbiter results and check limits, the relay of a parent's results, and broadcast reports. On a live part.
Once the check cluster has combined every contribution to a segment, equal digests end its compare and release its
tiles; different ones leave it for the arbiter, which draws its staging or waits for it. With staging, the arbiter's
digest names the suspects of R414: with the check cluster's, the home; with the home's, the check cluster; with
neither, both; a suspect home taints the segment; the mismatch is counted. The end of check_limit is called for the
boundary at which it comes, and not before (called within the beat: the model's choice, log entry 3). There a
compare whose digests differ ends unresolved, with its segment tainted and a mismatch counted, and another is
abandoned and counted in check_late. A parent's result goes to every listed group of its cascading context as it
came, unless the return port holds an earlier one. A broadcast whose copies have all ended is reported: by one item
with lost 0 and last set where none was lost. With nothing to do, each changes nothing. (11_collectives.md R333;
14_integrity.md R412; 14_integrity.md R413; 14_integrity.md R414; 14_integrity.md R415; 14_integrity.md R417;
15_partitions_and_recovery.md R454; 15_partitions_and_recovery.md R455) -/
def Obligations.ChecksRelaysAndBroadcasts : Prop :=
  ∀ s : State, s.live = true →
    (∀ i k seg w, i < 4096 → k < 1048576 → s.checkOf i k seg = none →
      exec (.digestCompare i k seg w) s = .next s ∧ exec (.arbiterResult i k seg w) s = .next s
        ∧ exec (.checkLimitExpiry i k seg) s = .next s)
    ∧ (∀ i k seg (w : Word) c, i < 4096 → k < 1048576 → s.checkOf i k seg = some c →
      (c.cmps.find? (fun m => m.seg = seg && m.differs.isNone) = none ∨ s.checkWaits c seg = true →
          exec (.digestCompare i k seg w) s = .next s)
      ∧ (c.cmps.find? (fun m => m.seg = seg && m.differs.isSome) = none ∨ c.arbDrawn = false →
          exec (.arbiterResult i k seg w) s = .next s)
      ∧ (∀ m, c.cmps.find? (fun m => m.seg = seg && m.differs.isNone) = some m → s.checkWaits c seg = false →
        (m.digest = w.toNat →
          ∃ (u : State) (d : Check), exec (.digestCompare i k seg w) s = .next u
            ∧ d = { c with cmps := dropFirst (fun x => x.seg = seg) c.cmps, retained := c.retained.filter (fun r => r.1 ≠ seg) }
            ∧ u.coll = (s.putCheck d).coll ∧ u.regs = s.regs ∧ u.net = s.net ∧ u.mem = s.mem)
        ∧ (m.digest ≠ w.toNat →
          ∃ d : Check,
            d = { c with cmps := updFirst (fun x => x.seg = seg) (fun x => { x with differs := some w.toNat }) c.cmps }
            ∧ exec (.digestCompare i k seg w) s = .next ((s.putCheck d).arbDraw d)
            ∧ (c.arbDrawn = true ∨ s.drawPool 0 c.arb c.ctx c.chunk c.desc.part c.desc.resClass c.desc.partialKib = none →
                (s.putCheck d).arbDraw d = s.putCheck d)))
      ∧ (∀ m x, c.cmps.find? (fun m => m.seg = seg && m.differs.isSome) = some m → m.differs = some x → c.arbDrawn = true →
        ∃ (u : State) (d : Check), exec (.arbiterResult i k seg w) s = .next u ∧ u.coll = (s.putCheck d).coll
          ∧ d.cmps = dropFirst (fun x => x.seg = seg) c.cmps ∧ d.arbDrawn = d.cmps.any (fun m => m.differs.isSome)
          ∧ u.fld .intDupCnt1 0 63 48 = Nat.min 65535 (s.fld .intDupCnt1 0 63 48 + 1)
          ∧ (w.toNat = x → u.red.suspect = s.red.suspect ++ [c.home] ∧ d.tainted = c.tainted ++ [seg])
          ∧ (w.toNat ≠ x → w.toNat = m.digest → u.red.suspect = s.red.suspect ++ [c.check] ∧ d.tainted = c.tainted)
          ∧ (w.toNat ≠ x → w.toNat ≠ m.digest →
              u.red.suspect = s.red.suspect ++ [c.home, c.check] ∧ d.tainted = c.tainted ++ [seg])
          ∧ u.net = s.net ∧ u.mem = s.mem)
      ∧ (∀ m, c.cmps.find? (fun m => m.seg = seg) = some m →
        (s.beat.bc + 1 < m.sentAt + s.checkLimit → exec (.checkLimitExpiry i k seg) s = .next s)
        ∧ (m.sentAt + s.checkLimit ≤ s.beat.bc + 1 →
            exec (.checkLimitExpiry i k seg) s = .next (s.call (.checkLimitExpiry i k seg) true))
        ∧ (m.sentAt + s.checkLimit ≤ s.beat.bc →
          ∃ (u : State) (d : Check), s.limitExpiry i k seg = u ∧ u.coll = (s.putCheck d).coll ∧ u.beat = s.beat
            ∧ d.cmps = dropFirst (fun x => x.seg = seg) c.cmps ∧ d.retained = c.retained.filter (fun r => r.1 ≠ seg)
            ∧ u.red = s.red ∧ u.net = s.net ∧ u.mem = s.mem
            ∧ (m.differs = none → d.tainted = c.tainted ∧ u.host = s.host
                ∧ u.fld .intDupCnt1 0 15 0 = Nat.min 65535 (s.fld .intDupCnt1 0 15 0 + 1))
            ∧ (m.differs.isSome = true → d.tainted = c.tainted ++ [seg]
                ∧ u.fld .intDupCnt1 0 63 48 = Nat.min 65535 (s.fld .intDupCnt1 0 63 48 + 1)
                ∧ u.host.outbox.length = s.host.outbox.length + 1))))
    ∧ (s.coll.casc = [] → exec .cascadeResultRelay s = .next s)
    ∧ (∀ t rest, s.coll.casc = t :: rest → s.unitWaits (.pipeline t.pipe) = true → exec .cascadeResultRelay s = .next s)
    ∧ (∀ t rest, s.coll.casc = t :: rest → s.unitWaits (.pipeline t.pipe) = false →
      (s.cascadeOf t = none → exec .cascadeResultRelay s = .next { s with coll := { s.coll with casc := rest } })
      ∧ (∀ i c, s.cascadeOf t = some i → s.ctx i = some c → c.d.keep = false ∨ t.hdr.poison = true →
        ∃ u rs, exec .cascadeResultRelay s = .next u ∧ u.coll = { s.coll with casc := rest }
          ∧ u.net = { s.net with ret := s.net.ret ++ rs } ∧ rs.map (·.target) = c.d.groups
          ∧ (∀ r ∈ rs, r.bytes = t.bytes ∧ r.kind = 1 ∧ r.cls = t.cls ∧ r.epoch = t.epoch ∧ r.part = c.d.part)
          ∧ u.mem = s.mem ∧ u.regs = s.regs))
    ∧ ∀ i, i < 4096 →
      (s.coll.bcasts.find? (fun b => b.ctx = i && !s.bcastLive b.id) = none → exec (.broadcastReport i) s = .next s)
      ∧ ∀ b, s.coll.bcasts.find? (fun b => b.ctx = i && !s.bcastLive b.id) = some b →
        (s.net.lost.filter (fun x => x.1 = b.id) = [] →
          ∃ u, exec (.broadcastReport i) s = .next u
            ∧ u.host = { s.host with outbox := s.host.outbox ++ [(b.ring % 64, [bcastItem b 0 0 true])] }
            ∧ u.coll = { s.coll with bcasts := dropFirst (fun x => x.id = b.id) s.coll.bcasts }
            ∧ u.net = s.net ∧ u.mem = s.mem)
        ∧ ∀ g j, s.net.lost.filter (fun x => x.1 = b.id) = [(b.id, g, j)] → g < b.groups.length →
          ∃ u, exec (.broadcastReport i) s = .next u
            ∧ u.host = { s.host with outbox := s.host.outbox ++ [(b.ring % 64, [bcastItem b g (2 ^ j) true])] }
            ∧ u.coll = { s.coll with bcasts := dropFirst (fun x => x.id = b.id) s.coll.bcasts }

/-- Management reads, writes, commands and PTP frames. On a live part, for the first waiting management frame, while the
return port holds no frame of the controller; with none, or while it does, nothing changes. A read or a write that
is malformed is answered with status 2, and one that names an offset it may not name with status 1, and no register
changes. A read of one register is answered with status 0, a count of 1 and the word that the controller reads
there; a write of one register makes that write, and is answered with status 0 and a count of 1. A command that is
malformed is answered with status 2, and one for which the management ring is not ready with status 3; one that fits
is handed to the ring, whose producer index moves past it. A frame of another kind is answered with a status that is
free (the model's choice, log entry 72). A PTP frame is handed to the firmware; an event message of an accepted
domain is captured while fewer than 64 captures were made in the beat, and counted where it is not.
(18_host_and_memory_interfaces.md R541; 18_host_and_memory_interfaces.md R542; 18_host_and_memory_interfaces.md
R543; 16_time.md R469; 16_time.md R470; 16_time.md R471; 07_buffers_queues_shaping.md R191) -/
def Obligations.ManagementFrames : Prop :=
  ∀ s : State, s.live = true →
    (s.net.mgmt = [] ∨ s.unitWaits .controller = true → ∀ late, exec .mgmtRead s = .next s
      ∧ exec (.mgmtWrite late) s = .next s ∧ exec (.mgmtCommand late) s = .next s)
    ∧ (s.net.mgmt = [] → exec .mgmtPtp s = .next s)
    ∧ ∀ t rest k n ws v, s.net.mgmt = t :: rest → s.unitWaits .controller = false → k = mgmtKind t → n = halfAt (t.bytes.drop 48) 2 →
        ws = mgmtWords t → v = ({ s with net := { s.net with mgmt := rest } } : State) →
      (∀ i kind most step, (i, kind, most, step) ∈ [(Instr.mgmtRead, 1, 128, 8), (.mgmtWrite false, 2, 64, 16), (.mgmtWrite true, 2, 64, 16)] →
          k = kind →
        (n = 0 ∨ most < n ∨ t.hdr.len ≠ 8 + step * n →
          ∃ x, exec i s = .next { v with net := { v.net with ret := v.net.ret ++ [x] } } ∧ x.target = t.hdr.src
            ∧ x.bytes = (s.replyHdr t.hdr opMgmtRsp 8 false).bytes ++ wordBytes (at_ 48 kind ||| at_ 40 2 ||| at_ 0 0))
        ∧ (∀ o l, n ≠ 0 → n ≤ most → t.hdr.len = 8 + step * n → ws = o :: l → kind = 1 ∨ l ≠ [] → mgmtMay o.toNat = false →
          ∃ x, exec i s = .next { v with net := { v.net with ret := v.net.ret ++ [x] } } ∧ x.target = t.hdr.src
            ∧ x.bytes = (s.replyHdr t.hdr opMgmtRsp 8 false).bytes ++ wordBytes (at_ 48 kind ||| at_ 40 1 ||| at_ 0 0)))
      ∧ (∀ o w u, k = 1 → n = 1 → t.hdr.len = 16 → ws = [o] → mgmtMay o.toNat = true → v.readAt .controller 0 o.toNat = (w, u) →
        ∃ x, exec .mgmtRead s = .next { u with pending := s.pending, net := { u.net with ret := u.net.ret ++ [x] } }
          ∧ x.target = t.hdr.src
          ∧ x.bytes = (u.replyHdr t.hdr opMgmtRsp 16 false).bytes ++ wordBytes (at_ 48 1 ||| at_ 40 0 ||| at_ 0 1) ++ wordBytes w)
      ∧ (∀ o w u late, k = 2 → n = 1 → t.hdr.len = 24 → ws = [o, w] → mgmtMay o.toNat = true → u = v.writeAt 0 late o.toNat w →
        ∃ x, exec (.mgmtWrite late) s = .next { u with pending := s.pending, net := { u.net with ret := u.net.ret ++ [x] } }
          ∧ x.target = t.hdr.src
          ∧ x.bytes = (u.replyHdr t.hdr opMgmtRsp 8 false).bytes ++ wordBytes (at_ 48 2 ||| at_ 40 0 ||| at_ 0 1))
      ∧ (∀ late m r, m = 2 + bits (ws.getD 0 0) 54 44 → r = s.fld .hostMgmtCfg 0 5 0 →
        (k = 3 → t.hdr.len ≠ 8 + 8 * m ∨ bit (ws.getD 0 0) 63 = true →
          ∃ x, exec (.mgmtCommand late) s = .next { v with net := { v.net with ret := v.net.ret ++ [x] } } ∧ x.target = t.hdr.src
            ∧ x.bytes = (s.replyHdr t.hdr opMgmtRsp 8 false).bytes ++ wordBytes (at_ 48 3 ||| at_ 40 2 ||| at_ 0 0))
        ∧ (k = 3 → t.hdr.len = 8 + 8 * m → bit (ws.getD 0 0) 63 = false →
          (s.flag .hostMgmtCfg 0 63 = false ∨ s.cringEn r = false ∨ (s.cring r).error = true
              ∨ 2 ^ s.cringLg r < s.ringAvail r + ws.length →
            ∃ x, exec (.mgmtCommand late) s = .next { v with net := { v.net with ret := v.net.ret ++ [x] } } ∧ x.target = t.hdr.src
              ∧ x.bytes = (s.replyHdr t.hdr opMgmtRsp 8 false).bytes ++ wordBytes (at_ 48 3 ||| at_ 40 3 ||| at_ 0 0))
          ∧ (s.flag .hostMgmtCfg 0 63 = true → s.cringEn r = true → (s.cring r).error = false →
              s.ringAvail r + ws.length ≤ 2 ^ s.cringLg r →
            ∃ u, exec (.mgmtCommand late) s = .next u ∧ u.net = v.net ∧ u.host.mgmtIn = s.host.mgmtIn ++ [⟨s.ringPi r, t.hdr, ws⟩]
              ∧ u.ringPi r = (s.ringPi r + ws.length) % 2 ^ 32 ∧ u.mem = s.mem))
        ∧ (k ≠ 1 → k ≠ 2 → k ≠ 3 → k ≠ 0x88F7 →
          ∃ x st, exec (.mgmtCommand late) s = .next { v with free := s.free + 1, net := { v.net with ret := v.net.ret ++ [x] } }
            ∧ st < 256 ∧ x.target = t.hdr.src
            ∧ x.bytes = (s.replyHdr t.hdr opMgmtRsp 8 false).bytes ++ wordBytes (at_ 48 k ||| at_ 40 st ||| at_ 0 0)))
      ∧ ∀ msg, k = 0x88F7 → msg = (t.bytes.drop 50).take (t.hdr.len - 2) →
        ∃ u, exec .mgmtPtp s = .next u ∧ u.net = v.net ∧ u.out = s.out ++ [.toController msg] ∧ u.mem = s.mem
          ∧ (3 < byteAt msg 0 % 16 → u = { v with out := s.out ++ [.toController msg] })
          ∧ (byteAt msg 0 % 16 ≤ 3 →
            (byteAt msg 4 ≠ s.fld .timeDomCfg 0 31 24 → byteAt msg 4 ≠ s.fld .timeDomCfg 0 39 32 →
              u.fld .timeTsCfg 0 47 32 = Nat.min 65535 (s.fld .timeTsCfg 0 47 32 + 1) ∧ u.host = s.host)
            ∧ (byteAt msg 4 = s.fld .timeDomCfg 0 31 24 ∨ byteAt msg 4 = s.fld .timeDomCfg 0 39 32 →
              (64 ≤ s.time.captures →
                u.fld .timeTsCfg 0 63 48 = Nat.min 65535 (s.fld .timeTsCfg 0 63 48 + 1) ∧ u.host = s.host)
              ∧ (s.time.captures < 64 → u.time.captures = s.time.captures + 1 ∧ u.regs = s.regs
                  ∧ u.host.outbox.length = s.host.outbox.length + 1)))

/-- A laser that fails, a spare that is switched in, a retired laser's replacement, and the settling of an engine. On a
live part, for an engine and its lasers. A laser that is OFF or has FAILED cannot fail. An active laser that fails
is FAILED; where its spare stands by and auto is set, the spare ramps for it and its eight lanes that are not OFF
wait for it, and where no spare can be used those lanes FAIL, with cause 9. A spare that fails while it substitutes
makes its lanes FAIL. A spare that reaches set power is ON for its laser, and the lanes that waited reacquire with
cause 9. A spare that reaches set power for a laser being retired is noted, and nothing else changes within the
beat; at the boundary the retired laser goes OFF, its spare is ON in its place, and its lanes in service reacquire.
Where the engine has settled, lanes that were still OFF for want of that laser acquire once its spare is ON. When an
engine settles, its ramping active lasers are ON and its dark lanes whose active laser is ON acquire. Lanes that the
laser does not feed keep their state, but that groups of rings that waited may begin to acquire.
(08_light_engines.md R220; 08_light_engines.md R221; 08_light_engines.md R222; 08_light_engines.md R230;
08_light_engines.md R239) -/
def Obligations.LasersAndSpares : Prop :=
  ∀ (s : State) (e k : Nat), s.live = true → e < 16 → k < 12 →
    ((s.laser e k).st = 0 ∨ (s.laser e k).st = 4 → exec (.laserFail e k) s = .next s)
    ∧ ((s.laser e k).st ≠ 0 → (s.laser e k).st ≠ 4 → k < 8 →
      (s.flag .leCfg e 2 = true → (s.laser e (spareOf k)).st = 3 →
        ∃ u, exec (.laserFail e k) s = .next u ∧ (u.laser e k).st = 4
          ∧ (u.laser e (spareOf k)).st = 1 ∧ (u.laser e (spareOf k)).forK = some k ∧ (u.laser e (spareOf k)).retiring = false
          ∧ (∀ n ∈ fedLanes e k, (s.optLane n).st ≠ .off →
              (u.optLane n).st = .waitLaser ∧ (u.optLane n).cause = 9 ∧ (u.optLane n).txOk = false)
          ∧ (∀ n, n ∉ fedLanes e k → (u.optLane n).st = (s.optLane n).st)
          ∧ (∀ n, n ∉ fedLanes e k → (s.optLane n).st ≠ .acquire → u.optLane n = s.optLane n)
          ∧ u.net = s.net ∧ u.mem = s.mem)
      ∧ (s.flag .leCfg e 2 = false ∨ (s.laser e (spareOf k)).st ≠ 3 →
          (s.laser e (spareOf k)).st ≠ 1 ∨ (s.laser e (spareOf k)).forK ≠ some k →
        ∃ u, exec (.laserFail e k) s = .next u ∧ (u.laser e k).st = 4
          ∧ (∀ n ∈ fedLanes e k, (s.optLane n).st ≠ .off → (u.optLane n).st = .failed ∧ (u.optLane n).cause = 9)
          ∧ (∀ n, n ∉ fedLanes e k → (u.optLane n).st = (s.optLane n).st)
          ∧ (∀ n, n ∉ fedLanes e k → (s.optLane n).st ≠ .acquire → u.optLane n = s.optLane n)
          ∧ u.net = s.net ∧ u.mem = s.mem))
    ∧ (8 ≤ k → (s.laser e k).st = 2 → (s.laser e k).sub < 8 →
      ∃ u, exec (.laserFail e k) s = .next u ∧ (u.laser e k).st = 4
        ∧ ∀ n ∈ fedLanes e (s.laser e k).sub, (s.optLane n).st ≠ .off → (u.optLane n).st = .failed ∧ (u.optLane n).cause = 9)
    ∧ (8 ≤ k →
      ((s.laser e k).forK = none ∨ (s.laser e k).st ≠ 1 →
        exec (.spareSwitchIn e k) s = .next s ∧ exec (.retireSwitch e k) s = .next s)
      ∧ ((s.laser e k).retiring = true → exec (.spareSwitchIn e k) s = .next s)
      ∧ ((s.laser e k).retiring = false → exec (.retireSwitch e k) s = .next s)
      ∧ ∀ a, (s.laser e k).forK = some a → a < 8 → (s.laser e k).st = 1 →
        ((s.laser e k).retiring = false →
          ∃ u, exec (.spareSwitchIn e k) s = .next u ∧ (u.laser e k).st = 2 ∧ (u.laser e k).sub = a
            ∧ (∀ n ∈ fedLanes e a, (s.optLane n).st = .waitLaser →
                (u.optLane n).st = .reacq ∧ (u.optLane n).cause = 9 ∧ (u.optLane n).txFrom = some s.beat.bc)
            ∧ (k = spareOf a → s.engineOn e = true → s.settling e = false →
                ∀ n ∈ fedLanes e a, (s.optLane n).st = .off → (u.optLane n).st = .acquire)
            ∧ (∀ n, (s.optLane n).st ≠ .waitLaser → (s.optLane n).st ≠ .off → (s.optLane n).st ≠ .acquire →
                u.optLane n = s.optLane n) ∧ u.net = s.net ∧ u.mem = s.mem)
        ∧ ((s.laser e k).retiring = true →
          exec (.retireSwitch e k) s = .next (s.setLaser e k fun l => { l with atPower := true })
          ∧ ∀ u, u = (s.setLaser e k fun l => { l with atPower := true }).retireDue (12 * e + k) →
            (u.laser e k).st = 2 ∧ (u.laser e k).sub = a ∧ (u.laser e a).st = 0
            ∧ (∀ n ∈ fedLanes e a, (s.optLane n).st = .service →
                (u.optLane n).st = .reacq ∧ (u.optLane n).cause = 9 ∧ (u.optLane n).txFrom = some s.beat.bc)
            ∧ (∀ n, n ∉ fedLanes e a → (s.optLane n).st ≠ .acquire → u.optLane n = s.optLane n)
            ∧ u.net = s.net ∧ u.mem = s.mem))
    ∧ (s.engineOn e = false ∨ (∀ j, j < 8 → (s.laser e j).st ≠ 1) → exec (.laserSettled e) s = .next s)
    ∧ (s.engineOn e = true → (∃ j, j < 8 ∧ (s.laser e j).st = 1) →
      ∃ u, exec (.laserSettled e) s = .next u
        ∧ (∀ j, j < 8 → (u.laser e j).st = if (s.laser e j).st = 1 then 2 else (s.laser e j).st)
        ∧ (∀ n, n / 64 = e → (s.optLane n).st = .off → (s.laser e (feederOf n)).st = 1 ∨ (s.laser e (feederOf n)).st = 2 →
            (u.optLane n).st = .acquire ∧ (u.optLane n).noLight = true)
        ∧ (∀ n, n / 64 ≠ e ∨ (s.optLane n).st ≠ .off → (u.optLane n).st = (s.optLane n).st) ∧ u.net = s.net ∧ u.mem = s.mem)

/-- Unlocks, mislocks, reacquisition, light, training and link faults of a lane. On a live part, for a lane. The loss of
a locked ring of a lane in service sends it to REACQ, with cause 5 for the transmit ring, and for the receive ring
6, or 10 where no light stands there (log entry 84), counts it and parks the ring. A pilot window's index is noted
whatever the ring's state; where the ring is checked, a second window in a row with the same wrong index is a
mislock, with cause 3 or 4. A ring verified in time is locked and no longer parked, and the lane goes to TRAIN once
both are. A ring that was not verified 977 beats after its start makes the lane FAIL, and a verification after that
does too. Light starts the time of the receive ring. A lane in TRAIN with light and 16 clean beats goes to SERVICE,
on an Ethernet port with every lane of the port that is out of service; one that does not meet its condition for
195,313 beats with light FAILS with cause 8. A link fault starts the clean beats of a lane in TRAIN again, and sends
a lane from SERVICE to TRAIN, and to FAILED with cause 7 the third time in 60 s. Other lanes keep their state.
(08_light_engines.md R224; 08_light_engines.md R225; 08_light_engines.md R226; 08_light_engines.md R227;
08_light_engines.md R228; 08_light_engines.md R230; 08_light_engines.md R231; 08_light_engines.md R232;
08_light_engines.md R233) -/
def Obligations.RingsAndTraining : Prop :=
  ∀ (s : State) (n : Nat) (o : OptLane), s.live = true → n < 1024 → o = s.optLane n →
    (∀ tx light, s.ringLocked n tx = false → exec (.ringUnlock n ⟨tx, light⟩) s = .next s)
    ∧ (∀ tx tone, tone < 4 → o.st = .off ∨ tx = false ∧ s.byp.rxByp.contains n = true →
        exec (.pilotWindow n tx tone) s = .next s)
    ∧ (∀ tx tone, tone < 4 → o.st ≠ .off → tx = true ∨ s.byp.rxByp.contains n = false → s.ringChecked n tx = false →
        ∃ u, exec (.pilotWindow n tx tone) s = .next u ∧ u = { s with opt := u.opt }
          ∧ (if tx then (u.optLane n).pilTx else (u.optLane n).pilRx) = tone ∧ (u.optLane n).st = o.st
          ∧ ∀ m, m ≠ n → u.optLane m = s.optLane m)
    ∧ (∀ tx, s.ringLocked n tx = true → o.st = .service →
      (∀ light, ∃ u, exec (.ringUnlock n ⟨tx, light⟩) s = .next u ∧ (u.optLane n).st = .reacq
        ∧ (u.optLane n).cause = (if tx then 5 else if light then 6 else 10)
        ∧ (if tx then (u.optLane n).txOk else (u.optLane n).rxOk) = false ∧ (tx = true → (u.optLane n).txFrom = some s.beat.bc)
        ∧ (if tx then (u.optLane n).parkedTx else (u.optLane n).parkedRx) = true
        ∧ (tx = false → light = false → (u.optLane n).noLight = true)
        ∧ u.fld .leLaneCnt n 47 32 = Nat.min 65535 (s.fld .leLaneCnt n 47 32 + 1)
        ∧ (∀ m, m ≠ n → u.optLane m = s.optLane m) ∧ u.net = s.net)
      ∧ ∀ tone, tone < 4 → tx = true ∨ s.flag .leCfg (n / 64) 3 = true →
        (tone = n % 4 ∨ (if tx then o.winTx else o.winRx) ≠ some tone →
          ∃ u, exec (.pilotWindow n tx tone) s = .next u ∧ (u.optLane n).st = .service
            ∧ (if tx then (u.optLane n).winTx else (u.optLane n).winRx) = (if tone = n % 4 then none else some tone)
            ∧ (if tx then (u.optLane n).pilTx else (u.optLane n).pilRx) = tone ∧ u = { s with opt := u.opt })
        ∧ (tone ≠ n % 4 → (if tx then o.winTx else o.winRx) = some tone →
          ∃ u, exec (.pilotWindow n tx tone) s = .next u ∧ (u.optLane n).st = .reacq ∧ (u.optLane n).cause = (if tx then 3 else 4)
            ∧ u.fld .leLaneCnt n 63 48 = Nat.min 65535 (s.fld .leLaneCnt n 63 48 + 1)
            ∧ ∀ m, m ≠ n → u.optLane m = s.optLane m))
    ∧ (∀ tx heat, heat < 4096 → o.st ≠ .acquire → o.st ≠ .reacq →
        exec (.reacqVerified n tx heat) s = .next s ∧ exec (.reacqTimeout n) s = .next s)
    ∧ (∀ heat, heat < 4096 → o.st = .acquire ∨ o.st = .reacq →
      (o.txOk = false → o.txFrom.isSome = true → ringLate o.txFrom s.beat.bc = false →
        ∃ u, exec (.reacqVerified n true heat) s = .next u ∧ (u.optLane n).txOk = true ∧ (u.optLane n).heatTx = heat
          ∧ (u.optLane n).parkedTx = false
          ∧ (u.optLane n).st = (if o.rxOk then .train else o.st) ∧ (∀ m, m ≠ n → (u.optLane m).st = (s.optLane m).st)
          ∧ u.net = s.net ∧ u.mem = s.mem)
      ∧ (o.rxOk = false → o.rxFrom.isSome = true → ringLate o.rxFrom s.beat.bc = false →
          o.txOk = true ∨ o.txFrom.isSome = true →
        ∃ u, exec (.reacqVerified n false heat) s = .next u ∧ (u.optLane n).rxOk = true ∧ (u.optLane n).heatRx = heat
          ∧ (u.optLane n).parkedRx = false
          ∧ (u.optLane n).st = (if o.txOk then .train else o.st) ∧ (∀ m, m ≠ n → (u.optLane m).st = (s.optLane m).st)
          ∧ u.net = s.net ∧ u.mem = s.mem)
      ∧ ((o.txOk = true ∨ ringLate o.txFrom s.beat.bc = false) → (o.rxOk = true ∨ ringLate o.rxFrom s.beat.bc = false) →
          exec (.reacqTimeout n) s = .next s)
      ∧ (∀ b tx, (if tx then o.txOk else o.rxOk) = false → (if tx then o.txFrom else o.rxFrom) = some b → b + 977 ≤ s.beat.bc →
        ∃ u, exec (.reacqTimeout n) s = .next u ∧ exec (.reacqVerified n tx heat) s = .next u ∧ (u.optLane n).st = .failed
          ∧ (u.optLane n).parkedTx = true ∧ (u.optLane n).parkedRx = true
          ∧ u.fld .leLaneCnt n 7 0 = Nat.min 255 (s.fld .leLaneCnt n 7 0 + 1) ∧ (o.st = .reacq → (u.optLane n).cause = o.cause)))
    ∧ (∃ u, exec (.lightPresent n) s = .next u ∧ u = { s with opt := u.opt } ∧ (∀ m, m ≠ n → u.optLane m = s.optLane m)
        ∧ (u.optLane n).noLight = false ∧ (u.optLane n).st = o.st
        ∧ (o.noLight = true → o.rxOk = false → o.st = .reacq → (u.optLane n).rxFrom = some s.beat.bc)
        ∧ (o.noLight = false → u.optLane n = o))
    ∧ (o.st ≠ .train ∨ o.noLight = true → exec (.laneTrainComplete n) s = .next s ∧ exec (.trainTimeout n) s = .next s)
    ∧ (o.st = .train → o.noLight = false →
      (s.beat.bc < Nat.max o.since o.lightAt + 195313 →
        exec (.trainTimeout n) s = .next s
        ∧ (s.beat.bc < o.cleanFrom + 16 → exec (.laneTrainComplete n) s = .next s)
        ∧ (o.cleanFrom + 16 ≤ s.beat.bc →
          (s.portOf n = none ∨ (∃ p, s.portOf n = some p ∧ s.portEth p = false) →
            ∃ u, exec (.laneTrainComplete n) s = .next u ∧ (u.optLane n).st = .service ∧ (u.optLane n).inSvc = o.inSvc
              ∧ (∀ m, m ≠ n → u.optLane m = s.optLane m) ∧ u = { s with opt := u.opt })
          ∧ (∀ p, s.portOf n = some p → s.portEth p = true →
            ((∀ m ∈ s.portLanes p, m ≠ n →
                (s.optLane m).st = .service ∨ (s.optLane m).st = .train ∧ (s.optLane m).ready = true) →
              ∃ u, exec (.laneTrainComplete n) s = .next u ∧ (∀ m ∈ s.portLanes p, (u.optLane m).st = .service)
                ∧ u = { s with opt := u.opt })
            ∧ ((∃ m ∈ s.portLanes p, m ≠ n ∧ (s.optLane m).st ≠ .service
                  ∧ ((s.optLane m).st ≠ .train ∨ (s.optLane m).ready = false)) →
              ∃ u, exec (.laneTrainComplete n) s = .next u ∧ u.optLane n = { o with ready := true }
                ∧ (∀ m, m ≠ n → u.optLane m = s.optLane m)))))
      ∧ (Nat.max o.since o.lightAt + 195313 ≤ s.beat.bc →
        ∃ u, exec (.trainTimeout n) s = .next u ∧ exec (.laneTrainComplete n) s = .next u ∧ (u.optLane n).st = .failed
          ∧ (u.optLane n).cause = 8 ∧ ∀ m, m ≠ n → u.optLane m = s.optLane m))
    ∧ (∀ light, o.st ≠ .service → o.st ≠ .train → exec (.linkFault ⟨n, light⟩) s = .next s)
    ∧ (∀ light, o.st = .train → ∃ u, exec (.linkFault ⟨n, light⟩) s = .next u ∧ u = { s with opt := u.opt }
        ∧ u.optLane n = { o with ready := false, cleanFrom := s.beat.bc, noLight := o.noLight || !light })
    ∧ (∀ light, o.st = .service →
      ((o.departs.filter (fun b => s.beat.bc < b + 234375000)).length < 2 →
        ∃ u, exec (.linkFault ⟨n, light⟩) s = .next u ∧ (u.optLane n).st = .train ∧ (u.optLane n).cause = 8
          ∧ (u.optLane n).noLight = (o.noLight || !light) ∧ ∀ m, m ≠ n → u.optLane m = s.optLane m)
      ∧ (2 ≤ (o.departs.filter (fun b => s.beat.bc < b + 234375000)).length →
        ∃ u, exec (.linkFault ⟨n, light⟩) s = .next u ∧ (u.optLane n).st = .failed ∧ (u.optLane n).cause = 7
          ∧ ∀ m, m ≠ n → u.optLane m = s.optLane m))

/-- Calibration slots, their completion and time limit, and loopback tests. On a live part, for an engine. A slot is
called for the coming boundary where cal_en is set and the engine's grid has a point due there, and within the beat
nothing else changes; the boundary opens the slot of a due point. A slot starts no calibration while one runs or
where no lane is in SERVICE; else the next lane in turn that may leave goes to CALIB with cause 1, and the turn
moves past it. A calibration completed in time returns its lane to SERVICE, or to TRAIN where its port was
reconfigured meanwhile, with the heater and park codes given, counts it, and starts its slot count again. One that
is not complete after 7,813 beats sends its lane to REACQ with the cause of the ring named, and not before; a
completion after that does too. A loopback start is ignored while a test runs, is refused with result 3 for a lane
that is not FAILED, and else starts the test with its time, at least 1. Its end records a pass only where the
errors, the pilot and the power are within their bounds, and not before its time. (08_light_engines.md R234;
08_light_engines.md R235; 08_light_engines.md R236; 08_light_engines.md R238; 21_package_electrical_test.md R621;
21_package_electrical_test.md R622; 21_package_electrical_test.md R623) -/
def Obligations.CalibrationAndLoopback : Prop :=
  ∀ (s : State) (e : Nat), s.live = true → e < 16 →
    (s.flag .leCfg e 0 = false ∨ pointDue (SMap.get none s.time.calAt e) s.comingNs = false → exec (.calSlot e) s = .next s)
    ∧ (s.flag .leCfg e 0 = true → pointDue (SMap.get none s.time.calAt e) s.comingNs = true →
        s.beat.calls.contains (.calSlot e) = false →
      exec (.calSlot e) s = .next { s with beat := { s.beat with calls := s.beat.calls ++ [.calSlot e] } })
    ∧ (∀ t now, SMap.get none s.time.calAt e = some t → t ≤ now →
        s.calDueAt e now = (s.calSlot e).setCalAt e (some (s.calAfter e now)))
    ∧ (s.flag .leCfg e 0 = true → ∀ u, u = s.calSlot e →
      ((s.engine e).cur.isSome = true ∨ (∀ n, n / 64 = e → (s.optLane n).st ≠ .service) →
        u.engine e = s.engine e ∧ ∀ n, (u.optLane n).st = (s.optLane n).st)
      ∧ (∀ n, (s.engine e).cur = none → (s.engine e).pend = [] → (s.engine e).next < 64 → n = 64 * e + (s.engine e).next →
          (s.optLane n).st = .service → s.flag .leCfg e 1 = false ∨ s.lastLane n = false → s.inCircuit n = false →
        (u.engine e).cur = some ((s.engine e).next, false, s.beat.bc)
          ∧ (u.engine e).next = ((s.engine e).next + 1) % 64 ∧ (u.optLane n).st = .calib ∧ (u.optLane n).cause = 1
          ∧ (∀ m, m ≠ n → (u.optLane m).st = (s.optLane m).st) ∧ u.net = s.net ∧ u.mem = s.mem ∧ u.beat = s.beat))
    ∧ (∀ ht hr pt pr tx, ht < 4096 → hr < 4096 → pt < 4096 → pr < 4096 → (s.engine e).cur = none →
      exec (.calComplete e ⟨ht, pt⟩ ⟨hr, pr⟩) s = .next s ∧ exec (.calTimeout e tx) s = .next s)
    ∧ (∀ p f b ht hr pt pr tx, (s.engine e).cur = some (p, f, b) → ht < 4096 → hr < 4096 → pt < 4096 → pr < 4096 →
      (s.beat.bc < b + 7813 →
        ∃ u o, exec (.calComplete e ⟨ht, pt⟩ ⟨hr, pr⟩) s = .next u ∧ u.optLane (64 * e + p) = o
        ∧ o.st = (if (s.optLane (64 * e + p)).retrain then .train else .service) ∧ o.heatTx = ht ∧ o.heatRx = hr
        ∧ o.parkTx = some pt ∧ o.parkRx = some pr ∧ o.slots = 0 ∧ (u.engine e).cur = none
        ∧ u.fld .leLaneCnt (64 * e + p) 31 16 = Nat.min 65535 (s.fld .leLaneCnt (64 * e + p) 31 16 + 1)
        ∧ (∀ m, m ≠ 64 * e + p → u.optLane m = s.optLane m) ∧ u.net = s.net)
      ∧ (b + 7813 ≤ s.beat.bc →
        ∃ u o ring, exec (.calComplete e ⟨ht, pt⟩ ⟨hr, pr⟩) s = .next u ∧ u.optLane (64 * e + p) = o ∧ o.st = .reacq
          ∧ o.cause = (if ring = true then 5 else 6) ∧ (u.engine e).cur = none ∧ ∀ m, m ≠ 64 * e + p → u.optLane m = s.optLane m)
      ∧ (s.beat.bc < b + 7813 → exec (.calTimeout e tx) s = .next s)
      ∧ (b + 7813 ≤ s.beat.bc →
        ∃ u o, exec (.calTimeout e tx) s = .next u ∧ u.optLane (64 * e + p) = o ∧ o.st = .reacq ∧ o.cause = (if tx then 5 else 6)
          ∧ (u.engine e).cur = none ∧ ∀ m, m ≠ 64 * e + p → u.optLane m = s.optLane m))
    ∧ (∀ target dur, target < 64 → dur < 65536 →
      ((s.engine e).loop.isSome = true → exec (.loopStart e target dur) s = .next s)
      ∧ ((s.engine e).loop = none → (s.optLane (64 * e + target)).st ≠ .failed →
        exec (.loopStart e target dur) s = .next (s.setReg .leLoopRes (64 * e + target) (at_ 62 3)))
      ∧ ((s.engine e).loop = none → (s.optLane (64 * e + target)).st = .failed →
        ∃ u, exec (.loopStart e target dur) s = .next u ∧ (u.engine e).loop = some (target, Nat.max 1 dur, s.beat.bc)
          ∧ u.fld .leLoop e 55 40 = dur ∧ (∀ n, u.optLane n = s.optLane n) ∧ u.net = s.net))
    ∧ ∀ errs ok pwr,
      ((s.engine e).loop = none → exec (.loopEnd e errs ok pwr) s = .next s)
      ∧ ∀ p dur b, (s.engine e).loop = some (p, dur, b) →
        (s.beat.bc < b + msBeats (1 + dur) → exec (.loopEnd e errs ok pwr) s = .next s)
        ∧ (b + msBeats (1 + dur) ≤ s.beat.bc →
          ∃ u, exec (.loopEnd e errs ok pwr) s = .next u ∧ (u.engine e).loop = none
            ∧ (∀ n, u.optLane n = s.optLane n)
            ∧ u.fld .leLoopRes (64 * e + p) 63 62
              = (if errs ≤ 2125 * dur ∧ ok = true ∧ -40 ≤ pwr ∧ pwr ≤ 20 then 1 else 2))

/-- Demand, matching, routing, restarts and the modes of the bypass planes. On a live part. A demand report of a leaf
that takes part is kept for the next boundary, with the reports that were missed counted. The matchings of slot s
are made once, in beat s - 7: they grant only leaves that take part, with lanes in service, on planes that are FAST,
at most 24 tiles, on one plane no leaf twice as a source or as a destination, and from one leaf to another no more
in all than the demand that stands; each plane's pointer moves by one. In beat s - 6 the grants of slot s are
routed: each plane that joins any pair takes the settings of a Beneš network for them (which settings: the model's
choice, log entry 55). A restart of a direction that was bypassed is measured and ends its wait; one of a direction
that was not changes nothing. A plane that loses lock falls back at the next boundary; once locked again its
circuits are ready 24 beats later; without lock for 977 beats it goes OFF; after 3,907 beats of clean lock it is
FAST again where software asked for it. The planes' timer is called for the boundary at which its grid has a point
(called within the beat: the model's choice, log entry 3); there it asks for the next plane's calibration, which
ends no sooner than its hand-over. (09_optical_bypass.md R251; 09_optical_bypass.md R259; 09_optical_bypass.md R262;
09_optical_bypass.md R264; 09_optical_bypass.md R265; 09_optical_bypass.md R266; 09_optical_bypass.md R268;
09_optical_bypass.md R270; 09_optical_bypass.md R271; 09_optical_bypass.md R272; 09_optical_bypass.md R273) -/
def Obligations.OpticalBypass : Prop :=
  ∀ s : State, s.live = true →
    (∀ lane pay, lane < 1024 → (s.portOf lane).bind s.bypLeafOf = none ∨ s.laneUp lane = false →
      exec (.bypDemandReceived lane pay) s = .next s)
    ∧ (∀ lane pay n w, lane < 1024 → (s.portOf lane).bind s.bypLeafOf = some n → s.laneUp lane = true →
        w = (beWords 32 pay).getD 0 0 →
      ∃ u, exec (.bypDemandReceived lane pay) s = .next u ∧ u.net = s.net ∧ u.mem = s.mem ∧ u.lnk = s.lnk
        ∧ u.fld .bypLeafCnt n 31 0 = Nat.min 4294967295 (s.fld .bypLeafCnt n 31 0 + 1)
        ∧ ((s.bleaf n).takes = false ∨ 62 < bits w 23 16 → u.byp = s.byp)
        ∧ ((s.bleaf n).takes = true → bits w 23 16 ≤ 62 →
            (∀ m, m ≠ n → u.bleaf m = s.bleaf m)
            ∧ u.fld .bypLeafCnt n 63 48
              = Nat.min 65535 (s.fld .bypLeafCnt n 63 48 + (sdiff 32 (s.beat.now + 2) (bits w 63 32)).toNat)
            ∧ ∃ r, (u.bleaf n).fresh = some r ∧ r.seen = bits w 63 32 ∧ r.recv = bits w 31 28 ∧ r.send = bits w 27 24
                ∧ r.entries.length = bits w 23 16 ∧ r.at_ = s.beat.bc ∧ (u.bleaf n).repAt = some s.beat.bc))
    ∧ (s.byp.matched = true → exec .bypassMatching s = .next s)
    ∧ (s.byp.matched = false → s.flag .bypCfg 0 0 = false →
        exec .bypassMatching s = .next { s with byp := { s.byp with matched := true } })
    ∧ (s.byp.matched = false → s.flag .bypCfg 0 0 = true → (s.byp.leaves.map (·.1)).Nodup →
      ∃ u gs, exec .bypassMatching s = .next u ∧ u = { s with byp := u.byp } ∧ u.byp.matched = true
        ∧ u.byp.grants = s.byp.grants ++ gs
        ∧ (∀ w, w < 4 → SMap.get 0 u.byp.ptr w = (SMap.get 0 s.byp.ptr w + 1) % 256)
        ∧ (∀ g ∈ gs, g.slot = s.beat.bc + 7 ∧ g.plane < 4 ∧ g.src ≠ g.dst ∧ g.tiles ≤ 24 ∧ g.void = false ∧ g.routed = false
            ∧ (s.bleaf g.src).takes = true ∧ (s.bleaf g.dst).takes = true ∧ (s.plane g.plane).cur = 1
            ∧ s.laneUp (s.bypLane g.src g.plane) = true ∧ s.laneUp (s.bypLane g.dst g.plane) = true)
        ∧ gs.Pairwise (fun g h => g.plane = h.plane → g.src ≠ h.src ∧ g.dst ≠ h.dst)
        ∧ ∀ i j, ((gs.filter fun g => decide (g.src = i) && decide (g.dst = j)).map (·.tiles)).sum ≤ s.demandOf i j)
    ∧ (∃ u, exec .bypassRouting s = .next u ∧ u = { s with byp := u.byp } ∧ u.byp.routed = true
        ∧ u.byp.grants = s.byp.grants.map (fun g => if g.slot = s.beat.bc + 6 then { g with routed := true } else g)
        ∧ ∀ w, w < 4 → SMap.get [] u.byp.routes (4 * (s.beat.bc + 6) + w)
            = if s.joinings w (s.beat.bc + 6) = [] then SMap.get [] s.byp.routes (4 * (s.beat.bc + 6) + w)
              else benes 8 (fillPerm 256 (s.joinings w (s.beat.bc + 6))))
    ∧ (∀ lane meas first, lane < 1024 →
      (SMap.get 0 s.byp.back lane = 0 → exec (.restartReceived lane meas first) s = .next s)
      ∧ ∀ n, SMap.get 0 s.byp.back lane ≠ 0 → SMap.get 0 s.byp.back lane ≤ 3906250 →
          (s.portOf lane).bind s.bypLeafOf = some n → -16 ≤ meas → meas ≤ 16 → sdiff 32 first (s.lane lane).rxNum ≤ 0 →
        ∃ u, exec (.restartReceived lane meas first) s = .next u ∧ SMap.get 0 u.byp.back lane = 0 ∧ (u.bleaf n).outside = 0
          ∧ u.fld .timeAlign lane 15 0 = ofSigned 16 meas
          ∧ u.fld .timeAlign lane 63 48 = Nat.min 65535 (s.fld .timeAlign lane 63 48 + 1)
          ∧ u.opt = s.opt ∧ u.lnk = s.lnk ∧ u.net = s.net)
    ∧ (∀ w d, w < 4 → (s.plane w).cur = 0 →
      exec (.planeFallback w d) s = .next s ∧ exec (.planeRelock w) s = .next s ∧ exec (.planeLockTimeout w) s = .next s
        ∧ exec (.planeAutoFast w) s = .next s)
    ∧ (∀ w, w < 4 → (s.plane w).cur ≠ 0 →
      (∀ d, ∃ u, exec (.planeFallback w d) s = .next u ∧ u = { s with byp := u.byp } ∧ (u.plane w).fall = some d
        ∧ (u.plane w).lock = false ∧ (u.plane w).lostAt = s.beat.bc ∧ ∀ v, v ≠ w → u.plane v = s.plane v)
      ∧ ((s.plane w).lock = true ∨ (s.plane w).fall.isSome = true → exec (.planeRelock w) s = .next s)
      ∧ ((s.plane w).lock = false → (s.plane w).fall = none →
        ∃ u, exec (.planeRelock w) s = .next u ∧ u = { s with byp := u.byp } ∧ (u.plane w).lock = true
          ∧ (u.plane w).cleanAt = s.beat.bc
          ∧ u.byp.circs = s.byp.circs.map (fun c => if c.plane = w ∧ c.ready = none then
              { c with ready := some (s.beat.bc + 24) } else c))
      ∧ ((s.plane w).lock = true ∨ s.beat.bc < (s.plane w).lostAt + 977 → exec (.planeLockTimeout w) s = .next s)
      ∧ ((s.plane w).lock = false → (s.plane w).lostAt + 977 ≤ s.beat.bc →
        ∃ u, exec (.planeLockTimeout w) s = .next u ∧ (u.plane w).cur = 0 ∧ (u.plane w).cause = (s.plane w).cause
          ∧ (∀ v, v ≠ w → u.plane v = s.plane v) ∧ (∀ c ∈ u.byp.circs, c.plane = w → c.gone.isSome = true) ∧ u.net = s.net)
      ∧ ((s.plane w).fell = false ∨ (s.plane w).lock = false ∨ s.beat.bc < (s.plane w).cleanAt + 3907 →
          exec (.planeAutoFast w) s = .next s)
      ∧ ((s.plane w).fell = true → (s.plane w).cur = 2 → (s.plane w).lock = true → (s.plane w).cal = false →
          s.flag .bypCfg 0 1 = true → s.planeWant w = 1 → s.disabled 4 w = false → (s.plane w).cleanAt + 3907 ≤ s.beat.bc →
        ∃ u, exec (.planeAutoFast w) s = .next u ∧ (u.plane w).cur = 1 ∧ (u.plane w).fell = false
          ∧ (u.plane w).burstFrom = s.beat.bc + 31 ∧ ∀ v, v ≠ w → u.plane v = s.plane v))
    ∧ (s.planePeriod = 0 ∨ pointDue s.time.planeAt s.comingNs = false → exec .planeCalStart s = .next s)
    ∧ (s.planePeriod ≠ 0 → pointDue s.time.planeAt s.comingNs = true →
        exec .planeCalStart s = .next (s.call .planeCalStart true))
    ∧ (∀ now t, s.planePeriod ≠ 0 → s.time.planeAt = some t → t ≤ now →
      ∃ u : State, s.planeDueAt now = u ∧ u = { s with byp := u.byp, time := u.time }
        ∧ u.byp.calDue = s.byp.calDue ++ [s.byp.nextCal] ∧ u.byp.nextCal = (s.byp.nextCal + 1) % 4
        ∧ u.byp.planes = s.byp.planes)
    ∧ ∀ w, w < 4 →
      ((s.plane w).cal = false ∨ s.beat.bc < (s.plane w).calAt + 31 → exec (.planeCalDone w) s = .next s)
      ∧ ((s.plane w).cal = true → (s.plane w).calAt + 31 ≤ s.beat.bc →
        ∃ u, exec (.planeCalDone w) s = .next u ∧ (u.plane w).cal = false
          ∧ (s.disabled 4 w = true ∨ (s.plane w).fell = true → (u.plane w).cur = (s.plane w).cur)
          ∧ (s.disabled 4 w = false → (s.plane w).fell = false → (u.plane w).cur = s.planeWant w)
          ∧ ∀ v, v ≠ w → u.plane v = s.plane v)
end

