-- ==== Sys2Proof/Laws/Maps.lean ====
section
/-! SUPPORT. What the operations on sparse maps and on bit ranges do, said once: a read after a write, and the
canonical form that every write keeps. -/

namespace Sys2Proof

namespace SMap

variable {α : Type}

@[simp] theorem get_nil (d : α) (k : Nat) : get d [] k = d := rfl

theorem get_cons (d : α) (j : Nat) (v : α) (m : SMap α) (k : Nat) :
    get d ((j, v) :: m) k = if k = j then v else get d m k := rfl

/-- A read after an insert: the value inserted at its key, every other key as before. -/
theorem get_insert (d : α) (m : SMap α) (k j : Nat) (v : α) :
    get d (insert m k v) j = if j = k then v else get d m j := by
  induction m with
  | nil => simp [insert, get_cons]
  | cons e m ih =>
    obtain ⟨i, w⟩ := e
    unfold insert
    split
    · rfl
    · split
      · subst_vars; by_cases h : j = i <;> simp [get_cons, h]
      · by_cases h : j = i
        · subst h; rename_i h2; simp [get_cons, Ne.symm h2]
        · simp [get_cons, h, ih]

/-- A read after an erase. -/
theorem get_erase (d : α) (m : SMap α) (k j : Nat) :
    get d (erase m k) j = if j = k then d else get d m j := by
  induction m with
  | nil => simp [erase]
  | cons e m ih =>
    obtain ⟨i, w⟩ := e
    unfold erase
    split
    · subst_vars; rw [ih]; by_cases h : j = i <;> simp [get_cons, h]
    · by_cases h : j = i
      · subst h; rename_i h2; simp [get_cons, Ne.symm h2]
      · simp [get_cons, h, ih]

/-- A read after a write. -/
theorem get_set [DecidableEq α] (d : α) (m : SMap α) (k j : Nat) (v : α) :
    get d (set d m k v) j = if j = k then v else get d m j := by
  unfold set
  split
  · subst_vars; exact get_erase v m k j
  · exact get_insert d m k j v

@[simp] theorem get_set_same [DecidableEq α] (d : α) (m : SMap α) (k : Nat) (v : α) :
    get d (set d m k v) k = v := by simp [get_set]

theorem get_set_other [DecidableEq α] (d : α) (m : SMap α) {k j : Nat} (v : α) (h : j ≠ k) :
    get d (set d m k v) j = get d m j := by simp [get_set, h]

/-- A read after a change of one value. -/
theorem get_upd [DecidableEq α] (d : α) (m : SMap α) (k j : Nat) (f : α → α) :
    get d (upd d m k f) j = if j = k then f (get d m k) else get d m j := get_set d m k j _

@[simp] theorem get_upd_same [DecidableEq α] (d : α) (m : SMap α) (k : Nat) (f : α → α) :
    get d (upd d m k f) k = f (get d m k) := by simp [get_upd]

theorem rising_mono {b c : Nat} {m : SMap α} (h : c ≤ b) (hr : rising b m = true) : rising c m = true := by
  cases m with
  | nil => rfl
  | cons e m => simp [rising] at hr ⊢; exact ⟨by omega, hr.2⟩

theorem rising_erase {b : Nat} {m : SMap α} (k : Nat) (h : rising b m = true) : rising b (erase m k) = true := by
  induction m generalizing b with
  | nil => rfl
  | cons e m ih =>
    obtain ⟨i, w⟩ := e
    simp [rising] at h
    unfold erase
    split
    · exact rising_mono (by omega) (ih h.2)
    · simp [rising]; exact ⟨h.1, ih h.2⟩

theorem rising_insert {b : Nat} {m : SMap α} {k : Nat} (v : α) (hk : b ≤ k) (h : rising b m = true) :
    rising b (insert m k v) = true := by
  induction m generalizing b with
  | nil => simp [insert, rising, hk]
  | cons e m ih =>
    obtain ⟨i, w⟩ := e
    simp [rising] at h
    unfold insert
    split
    · simp [rising]; exact ⟨hk, by omega, h.2⟩
    · split
      · subst_vars; simp [rising]; exact h
      · simp [rising]; exact ⟨h.1, ih (by omega) h.2⟩

theorem all_erase {p : Nat × α → Bool} {m : SMap α} (k : Nat) (h : m.all p = true) : (erase m k).all p = true := by
  induction m with
  | nil => rfl
  | cons e m ih =>
    obtain ⟨i, w⟩ := e
    simp only [List.all_cons, Bool.and_eq_true] at h
    unfold erase
    split
    · exact ih h.2
    · simp only [List.all_cons, Bool.and_eq_true]; exact ⟨h.1, ih h.2⟩

theorem all_insert {p : Nat × α → Bool} {m : SMap α} {k : Nat} {v : α} (hv : p (k, v) = true) (h : m.all p = true) :
    (insert m k v).all p = true := by
  induction m with
  | nil => simp [insert, hv]
  | cons e m ih =>
    obtain ⟨i, w⟩ := e
    simp only [List.all_cons, Bool.and_eq_true] at h
    unfold insert
    split
    · simp only [List.all_cons, Bool.and_eq_true]; exact ⟨hv, h.1, h.2⟩
    · split
      · simp only [List.all_cons, Bool.and_eq_true]; exact ⟨hv, h.2⟩
      · simp only [List.all_cons, Bool.and_eq_true]; exact ⟨h.1, ih h.2⟩

/-- A write keeps the canonical form. -/
theorem wf_set [DecidableEq α] (d : α) (m : SMap α) (k : Nat) (v : α) (h : wf d m = true) : wf d (set d m k v) = true := by
  simp only [wf, Bool.and_eq_true] at h ⊢
  unfold set
  split
  · exact ⟨rising_erase k h.1, all_erase k h.2⟩
  · rename_i hv
    exact ⟨rising_insert v (Nat.zero_le k) h.1, all_insert (by simp [hv]) h.2⟩

/-- A change of one value keeps the canonical form. -/
theorem wf_upd [DecidableEq α] (d : α) (m : SMap α) (k : Nat) (f : α → α) (h : wf d m = true) :
    wf d (upd d m k f) = true := wf_set d m k _ h

@[simp] theorem wf_nil [DecidableEq α] (d : α) : wf d ([] : SMap α) = true := rfl

end SMap

/-! ## Bit ranges -/

theorem getLsbD_ofNat_shift (v lo i : Nat) :
    (BitVec.ofNat 64 (v <<< lo)).getLsbD i = (decide (i < 64) && decide (lo ≤ i) && v.testBit (i - lo)) := by
  simp [BitVec.getLsbD_ofNat, Nat.testBit_shiftLeft, Bool.and_assoc]

/-- The bits of a word after a field is set. -/
theorem getLsbD_setBits (w : Word) (hi lo v i : Nat) :
    (setBits w hi lo v).getLsbD i
      = if lo ≤ i ∧ i < hi + 1 ∧ i < 64 then v.testBit (i - lo) else w.getLsbD i := by
  unfold setBits
  simp only [BitVec.getLsbD_or, BitVec.getLsbD_and, BitVec.getLsbD_not, getLsbD_ofNat_shift, Nat.testBit_two_pow_sub_one]
  by_cases h64 : i < 64
  · by_cases hl : lo ≤ i
    · by_cases hh : i < hi + 1
      · have : i - lo < hi + 1 - lo := by omega
        simp [h64, hl, hh, this]
      · have : ¬ (i - lo < hi + 1 - lo) := by omega
        simp [h64, hl, hh, this]
    · simp [h64, hl]
  · have : w.getLsbD i = false := BitVec.getLsbD_of_ge w i (by omega)
    simp [h64, this]

/-- Bit i of a field. -/
theorem testBit_bits (w : Word) (hi lo i : Nat) :
    (bits w hi lo).testBit i = (decide (i < hi + 1 - lo) && w.getLsbD (lo + i)) := by
  simp [bits, Nat.testBit_mod_two_pow, Nat.testBit_shiftRight, BitVec.getLsbD]

/-- A field reads as what was put into it. -/
theorem bits_setBits_same (w : Word) {hi lo : Nat} (v : Nat) (hhi : hi < 64) :
    bits (setBits w hi lo v) hi lo = v % 2 ^ (hi + 1 - lo) := by
  apply Nat.eq_of_testBit_eq
  intro i
  rw [testBit_bits, getLsbD_setBits, Nat.testBit_mod_two_pow]
  by_cases h : i < hi + 1 - lo
  · have h2 : lo ≤ lo + i ∧ lo + i < hi + 1 ∧ lo + i < 64 := ⟨by omega, by omega, by omega⟩
    simp only [h, if_pos h2, Nat.add_sub_cancel_left]
  · simp [h]

/-- A field reads as before where another field is set. -/
theorem bits_setBits_other (w : Word) {hi lo hi' lo' : Nat} (v : Nat) (h : hi < lo' ∨ hi' < lo) :
    bits (setBits w hi lo v) hi' lo' = bits w hi' lo' := by
  apply Nat.eq_of_testBit_eq
  intro i
  rw [testBit_bits, testBit_bits, getLsbD_setBits]
  by_cases hi2 : i < hi' + 1 - lo'
  · have h2 : ¬ (lo ≤ lo' + i ∧ lo' + i < hi + 1 ∧ lo' + i < 64) := by omega
    simp only [if_neg h2]
  · simp [hi2]

theorem bit_setBits (w : Word) (hi lo v n : Nat) :
    bit (setBits w hi lo v) n = if lo ≤ n ∧ n < hi + 1 ∧ n < 64 then v.testBit (n - lo) else bit w n :=
  getLsbD_setBits w hi lo v n

/-- A bit reads as what was put into it. -/
theorem bit_setBit_same (w : Word) {n : Nat} (b : Bool) (h : n < 64) : bit (setBit w n b) n = b := by
  unfold setBit
  rw [bit_setBits]
  cases b <;> simp [h]

end Sys2Proof
end

