-- ==== Sys2Proof/Laws/Buffers.lean ====
section
/-! SUPPORT. What the operations of the buffer pools can do: a list loses what a draw takes, and a draw changes the
buffers alone. -/

namespace Sys2Proof.Machine

/-! ## Free lists -/

@[simp] theorem listLen_nil : listLen [] = 0 := rfl

@[simp] theorem listLen_cons (r : Run) (l : List Run) : listLen (r :: l) = r.count + listLen l := by
  have h : ∀ (l : List Run) (n : Nat), l.foldl (fun n r => n + r.count) n = n + listLen l := by
    intro l
    induction l with
    | nil => intro n; rfl
    | cons a l ih =>
      intro n
      have e : listLen (a :: l) = l.foldl (fun n r => n + r.count) (0 + a.count) := rfl
      rw [e, List.foldl_cons, ih, ih]
      omega
  have e : listLen (r :: l) = l.foldl (fun n r => n + r.count) (0 + r.count) := rfl
  rw [e, h]
  omega

/-- A buffer put at the head makes a list one longer. -/
@[simp] theorem listLen_pushList (i : Nat) (l : List Run) : listLen (pushList i l) = listLen l + 1 := by
  cases l with
  | nil => rfl
  | cons r l =>
    simp only [pushList]
    split <;> simp <;> omega

@[simp] theorem length_rangeFrom (a b : Nat) : (rangeFrom a b).length = b - a := by simp [rangeFrom]

/-- What is taken from the head of a list and what is left make the list. -/
theorem listLen_popList (n : Nat) (l : List Run) : (popList n l).1.length + listLen (popList n l).2 = listLen l := by
  induction l generalizing n with
  | nil => rfl
  | cons r l ih =>
    unfold popList
    split
    · simp; omega
    · have := ih (n - r.count)
      simp; omega

/-- As many buffers are taken as are asked for, or as the list has. -/
theorem length_popList (n : Nat) (l : List Run) : (popList n l).1.length = min n (listLen l) := by
  induction l generalizing n with
  | nil => simp [popList]
  | cons r l ih =>
    unfold popList
    split
    · simp; omega
    · have := ih (n - r.count)
      simp at this ⊢; omega

/-- A list that is cut keeps and loses together what it had. -/
theorem listLen_cutRuns {i : Nat} {l keep gone : List Run} (h : cutRuns i l = some (keep, gone)) :
    listLen keep + listLen gone = listLen l := by
  induction l generalizing keep gone with
  | nil => cases h
  | cons r l ih =>
    unfold cutRuns at h
    split at h
    · rename_i hi
      simp only [Option.some.injEq, Prod.mk.injEq] at h
      obtain ⟨rfl, rfl⟩ := h
      simp only [Bool.and_eq_true, decide_eq_true_eq] at hi
      split <;> simp <;> omega
    · cases hc : cutRuns i l with
      | none => simp [hc] at h
      | some x =>
        simp only [hc, Option.map_some, Option.some.injEq, Prod.mk.injEq] at h
        obtain ⟨rfl, rfl⟩ := h
        have := ih (keep := x.1) (gone := x.2) (by rw [hc])
        simp; omega

/-! ## Draws -/

/-- A state that differs in its buffers alone. -/
def State.onlyBuf (s t : State) : Prop := t = { s with buf := t.buf }

theorem State.onlyBuf_refl (s : State) : s.onlyBuf s := rfl

theorem State.onlyBuf_trans {s t u : State} (h : s.onlyBuf t) (g : t.onlyBuf u) : s.onlyBuf u := by
  unfold State.onlyBuf at *
  rw [g, h]

/-- A pipeline takes a tile: its cache, its die's list and nothing else change. -/
theorem State.onlyBuf_popTile {s u : State} {pipe die t : Nat} (h : s.popTile pipe die = some (t, u)) : s.onlyBuf u := by
  unfold State.popTile at h
  split at h
  · have hf : s.onlyBuf (s.fillCache pipe) := by
      unfold State.fillCache
      split <;> rfl
    simp only at h
    split at h
    · simp only [Option.some.injEq, Prod.mk.injEq] at h
      obtain ⟨-, rfl⟩ := h
      exact State.onlyBuf_trans hf rfl
    · cases h
  · split at h
    · simp only [Option.some.injEq, Prod.mk.injEq] at h
      obtain ⟨-, rfl⟩ := h
      rfl
    · cases h

/-- A tile is drawn: the buffers and nothing else change. -/
theorem State.onlyBuf_drawTile {s u : State} {pipe die p c t : Nat} {head : Bool} (h : s.drawTile pipe die p c head = some (t, u)) :
    s.onlyBuf u := by
  unfold State.drawTile at h
  split at h
  · rename_i hp
    simp only [Option.some.injEq, Prod.mk.injEq] at h
    obtain ⟨-, rfl⟩ := h
    exact State.onlyBuf_trans (State.onlyBuf_popTile hp) rfl
  · cases h

/-- A draw of n tiles that succeeds takes n tiles and changes the buffers alone (07 R177, R181). -/
theorem State.drawTiles_spec {s u : State} {pipe die p c n : Nat} {head : Bool} {l : List Nat}
    (h : s.drawTiles pipe die p c head n = some (l, u)) : l.length = n ∧ s.onlyBuf u := by
  induction n generalizing s u l with
  | zero =>
    simp only [State.drawTiles, Option.some.injEq, Prod.mk.injEq] at h
    obtain ⟨rfl, rfl⟩ := h
    exact ⟨rfl, State.onlyBuf_refl s⟩
  | succ n ih =>
    unfold State.drawTiles at h
    split at h
    · cases h
    · rename_i t v hd
      cases hr : v.drawTiles pipe die p c head n with
      | none => simp [hr] at h
      | some x =>
        simp only [hr, Option.map_some, Option.some.injEq, Prod.mk.injEq] at h
        obtain ⟨rfl, rfl⟩ := h
        obtain ⟨hl, hb⟩ := ih (l := x.1) (u := x.2) (by rw [hr])
        exact ⟨by simp [hl], State.onlyBuf_trans (State.onlyBuf_drawTile hd) hb⟩

/-- The tiles of a packet: as many as asked for, and nothing but the buffers changes (01 R20). -/
theorem State.allocTiles_spec {s u : State} {pipe n p c die : Nat} {head both : Bool} {a : Alloc}
    (h : s.allocTiles pipe n p c head die both = some (a, u)) : a.total = n ∧ s.onlyBuf u := by
  unfold State.allocTiles at h
  simp only at h
  split at h
  · cases h
  · rename_i d hd
    cases hr : s.drawTiles pipe d p c head n with
    | none => simp [hr] at h
    | some x =>
      simp only [hr, Option.map_some, Option.some.injEq, Prod.mk.injEq] at h
      obtain ⟨rfl, rfl⟩ := h
      obtain ⟨hl, hb⟩ := State.drawTiles_spec (l := x.1) (u := x.2) (by rw [hr])
      exact ⟨hl, hb⟩

end Sys2Proof.Machine
end

