-- ==== Sys2Proof/Laws/Memory.lean ====
section
/-! SUPPORT. Memory: the canonical form is kept by every write, a byte reads as it was last written, and a write
leaves every other byte as it was. -/

namespace Sys2Proof.Machine

/-- A byte after a write of one byte. -/
theorem memGet_memSet (m : List Host.Cell) (a b : Nat) (v : Byte) :
    memGet (memSet m a v) b = if b = a then v else memGet m b :=
  SMap.get_set 0 m a b v

theorem memWf_memSet {m : List Host.Cell} (a : Nat) (v : Byte) (h : Memory.wf m = true) : Memory.wf (memSet m a v) = true :=
  SMap.wf_set 0 m a v h

theorem memWf_memWrite {m : List Host.Cell} (a : Nat) (bs : List Byte) (h : Memory.wf m = true) :
    Memory.wf (memWrite m a bs) = true := by
  induction bs generalizing m a with
  | nil => exact h
  | cons b bs ih => exact ih (a + 1) (memWf_memSet a b h)

theorem memWf_memPutWord {m : List Host.Cell} (a : Nat) (w : Word) (h : Memory.wf m = true) :
    Memory.wf (memPutWord m a w) = true :=
  memWf_memWrite a _ h

theorem memWf_putBytes {m : List Host.Cell} (a : Nat) (bs : List (Option Byte)) (h : Memory.wf m = true) :
    Memory.wf (putBytes m a bs) = true := by
  induction bs generalizing m a with
  | nil => exact h
  | cons b bs ih =>
    cases b with
    | none => exact ih (a + 1) h
    | some v => exact ih (a + 1) (memWf_memSet a v h)

/-- A write of bytes leaves every other byte as it was. -/
theorem memGet_memWrite_other (m : List Host.Cell) (a b : Nat) (bs : List Byte) (h : b < a ∨ a + bs.length ≤ b) :
    memGet (memWrite m a bs) b = memGet m b := by
  induction bs generalizing m a with
  | nil => rfl
  | cons v bs ih =>
    simp only [List.length_cons] at h
    rw [memWrite, ih _ _ (by omega), memGet_memSet, if_neg (by omega)]

/-- The bytes read are those written. -/
theorem memRead_memWrite (m : List Host.Cell) (a : Nat) (bs : List Byte) : memRead (memWrite m a bs) a bs.length = bs := by
  induction bs generalizing m a with
  | nil => rfl
  | cons v bs ih =>
    simp only [List.length_cons, memRead, memWrite]
    rw [ih, memGet_memWrite_other _ _ _ _ (by omega), memGet_memSet, if_pos rfl]

/-- Bytes that a write does not reach are read as before. -/
theorem memRead_memWrite_other (m : List Host.Cell) (a b n : Nat) (bs : List Byte) (h : b + n ≤ a ∨ a + bs.length ≤ b) :
    memRead (memWrite m a bs) b n = memRead m b n := by
  induction n generalizing b with
  | zero => rfl
  | succ n ih =>
    simp only [memRead]
    rw [memGet_memWrite_other _ _ _ _ (by omega), ih (b + 1) (by omega)]

@[simp] theorem leBytes_length (n v : Nat) : (leBytes n v).length = n := by
  induction n generalizing v with
  | zero => rfl
  | succ n ih => simp [leBytes, ih]

/-- A number is read back from its bytes. -/
theorem leNat_leBytes (n v : Nat) : leNat (leBytes n v) = v % 256 ^ n := by
  induction n generalizing v with
  | zero => simp [leBytes, leNat, Nat.mod_one]
  | succ n ih =>
    simp only [leBytes, leNat, ih, BitVec.toNat_ofNat]
    have := Nat.mod_mul (a := 256) (b := 256 ^ n) (x := v)
    simpa [Nat.pow_succ'] using this.symm

/-- A word reads as it was written. -/
theorem memWord_memPutWord (m : List Host.Cell) (a : Nat) (w : Word) : memWord (memPutWord m a w) a = w := by
  have h := memRead_memWrite m a (leBytes 8 w.toNat)
  rw [leBytes_length] at h
  rw [memWord, memPutWord, h, leNat_leBytes]
  apply BitVec.eq_of_toNat_eq
  have := w.isLt
  simp only [BitVec.toNat_ofNat]
  omega

theorem memWord_memPutWord_other (m : List Host.Cell) (a b : Nat) (w : Word) (h : b + 8 ≤ a ∨ a + 8 ≤ b) :
    memWord (memPutWord m a w) b = memWord m b := by
  unfold memWord memPutWord
  rw [memRead_memWrite_other _ _ _ _ _ (by simpa using h)]

/-- A write of memory bytes: the memory that it names has them, and every other byte of both memories is as it was. -/
theorem State.bytesOf_setBytes (s : State) (sp : Space) (m : List Host.Cell) : (s.setBytes sp m).bytesOf sp = m := by
  cases sp <;> rfl

@[simp] theorem State.setPoison_bytesOf (s : State) (sp sp' : Space) (l : Nat) (b : Bool) :
    (s.setPoison sp l b).bytesOf sp' = s.bytesOf sp' := by
  cases sp <;> cases sp' <;> rfl

/-- A write of memory leaves bytes of exactly the memory that it names. -/
theorem State.bytesOf_writeMem (s : State) (sp : Space) (a : Nat) (bs : List Byte) (p : Bool) :
    (s.writeMem sp a bs p).bytesOf sp = memWrite (s.bytesOf sp) a bs := by
  unfold State.writeMem
  have : ∀ (l : List Nat) (t : State) (f : State → Nat → State), (∀ t n, (f t n).bytesOf sp = t.bytesOf sp) →
      (l.foldl f t).bytesOf sp = t.bytesOf sp := by
    intro l
    induction l with
    | nil => intros; rfl
    | cons x l ih => intro t f hf; rw [List.foldl_cons, ih _ _ hf, hf]
  rw [this, State.bytesOf_setBytes]
  intro t n
  split
  · simp
  · split <;> simp

end Sys2Proof.Machine
end

