-- ==== Sys2Proof/Laws/Ops.lean ====
section
/-! SUPPORT. What the shared operations can do: counters change counters alone, hop-local frames also go out, a lane
moves alone, and a tracker entry is performed or left. -/

namespace Sys2Proof.Machine

/-- A state that differs in its counters alone. -/
def State.onlyCnt (s t : State) : Prop := t = { s with cnt := t.cnt }

theorem State.onlyCnt_refl (s : State) : s.onlyCnt s := rfl

theorem State.onlyCnt_trans {s t u : State} (h : s.onlyCnt t) (g : t.onlyCnt u) : s.onlyCnt u := by
  unfold State.onlyCnt at *
  rw [g, h]

theorem State.onlyCnt_count (s : State) (k n : Nat) : s.onlyCnt (s.count k n) := rfl

/-- A walk whose every step changes counters alone changes counters alone. -/
theorem State.onlyCnt_foldl {α : Type} (f : State → α → State) (h : ∀ (s : State) (a : α), s.onlyCnt (f s a)) (l : List α) (s : State) :
    s.onlyCnt (l.foldl f s) := by
  induction l generalizing s with
  | nil => rfl
  | cons a l ih => exact State.onlyCnt_trans (h s a) (ih (f s a))

/-- An event counts in programmable counters and changes nothing else (17 R497). -/
theorem State.onlyCnt_progEvent (s : State) (src idx : Nat) (p : Option Nat) (n : Nat) : s.onlyCnt (s.progEvent src idx p n) :=
  State.onlyCnt_foldl _ (fun s i => State.onlyCnt_count s (cntProg i) n) _ _

/-- A frame that leaves counts and changes nothing else (17 R490). -/
theorem State.onlyCnt_laneSent (s : State) (n p f : Nat) : s.onlyCnt (s.laneSent n p f) :=
  State.onlyCnt_trans (t := (s.count (cntLane n 2) 1).count (cntLane n 3) f) rfl
    (State.onlyCnt_trans (State.onlyCnt_progEvent _ _ _ _ _) (State.onlyCnt_progEvent _ _ _ _ _))

/-- Accesses to lines count and change nothing else. -/
theorem State.onlyCnt_lineAccess (s : State) (l : List (Space × Nat)) : s.onlyCnt (s.lineAccess l) := by
  refine State.onlyCnt_foldl _ (fun s a => ?_) _ _
  split
  · exact State.onlyCnt_progEvent _ _ _ _ _
  · rfl

/-- What a sending of hop-local frames can do: the link state of lanes, counters and the frames put out on the lane. -/
def State.onlyHops (lane : Nat) (s t : State) : Prop :=
  ∃ o : List OutEv, (∀ e ∈ o, ∃ b, e = .hop lane b) ∧ (∀ m, m ≠ lane → t.lane m = s.lane m)
    ∧ t = { s with lnk := t.lnk, cnt := t.cnt, out := s.out ++ o }

theorem State.onlyHops_trans {lane : Nat} {s t u : State} (h : s.onlyHops lane t) (g : t.onlyHops lane u) : s.onlyHops lane u := by
  obtain ⟨o, ho, hl, h⟩ := h
  obtain ⟨q, hq, gl, g⟩ := g
  refine ⟨o ++ q, fun e he => (List.mem_append.mp he).elim (ho e) (hq e), fun m hm => (gl m hm).trans (hl m hm), ?_⟩
  rw [g, h]
  simp

/-- A change of the lane's own link state. -/
theorem State.onlyHops_setLane (s : State) (lane : Nat) (f : Lane → Lane) : s.onlyHops lane (s.setLane lane f) :=
  ⟨[], by simp, fun _ hm => SMap.get_set_other _ _ _ hm, by simp [State.setLane]⟩

/-- A hop-local frame goes out on its lane; its lane time passes, and it counts (03 R627; 06 R152). -/
theorem State.emitHop_spec (s : State) (lane op : Nat) (pay : List Byte) :
    ∃ c, s.emitHop lane op pay
      = { s.setLane lane fun l => l.pass (laneBytes 256) with
          cnt := c, out := s.out ++ [.hop lane (fitBytes 256 (Hdr.bytes { op := op, len := pay.length } ++ pay))] } := by
  refine ⟨((s.setLane lane fun l => l.pass (laneBytes 256)).laneSent lane 0 256).cnt, ?_⟩
  have h := State.onlyCnt_laneSent (s.setLane lane fun l => l.pass (laneBytes 256)) lane 0 256
  unfold State.onlyCnt at h
  unfold State.emitHop
  simp only [State.emit]
  rw [h]
  rfl

theorem State.onlyHops_emitHop (s : State) (lane op : Nat) (pay : List Byte) : s.onlyHops lane (s.emitHop lane op pay) := by
  obtain ⟨c, h⟩ := s.emitHop_spec lane op pay
  refine ⟨[.hop lane (fitBytes 256 (Hdr.bytes { op := op, len := pay.length } ++ pay))],
    fun e he => ⟨_, List.mem_singleton.mp he⟩, fun m hm => ?_, ?_⟩
  · rw [h]; exact SMap.get_set_other _ _ _ hm
  · rw [h]; rfl

theorem State.onlyHops_flushHops (s : State) (lane : Nat) : s.onlyHops lane (s.flushHops lane) := by
  have k : ∀ (l : List Hop) (s : State), s.onlyHops lane (l.foldl (fun s h => s.emitHop lane h.op h.pay) s) := by
    intro l
    induction l with
    | nil => exact fun s => ⟨[], by simp, fun _ _ => rfl, by simp⟩
    | cons a l ih => exact fun s => State.onlyHops_trans (State.onlyHops_emitHop s lane _ _) (ih _)
  exact State.onlyHops_trans (State.onlyHops_setLane s lane _) (k _ _)

/-- A hop-local frame is sent, or waits on its lane (03 R627; 09 R250, R264). -/
theorem State.onlyHops_sendHop (s : State) (lane op : Nat) (pay : List Byte) (after : List Nat) :
    s.onlyHops lane (s.sendHop lane op pay after) := by
  unfold State.sendHop
  dsimp only
  split
  · exact State.onlyHops_setLane s lane _
  · exact State.onlyHops_trans (State.onlyHops_setLane s lane _) (State.onlyHops_flushHops _ lane)

/-- A reading of a lane's heaters draws at most one free value (08 R223). -/
theorem State.heats_spec (s : State) (n : Nat) : (s.heats n).2 = s ∨ (s.heats n).2 = { s with free := s.free + 1 } := by
  unfold State.heats
  split
  · exact .inl rfl
  · exact .inr rfl

/-- A lane item changes no lane. -/
@[simp] theorem State.laneItem_optLane (s : State) (n m : Nat) (old : LaneSt) :
    (s.laneItem n old).optLane m = s.optLane m := by
  unfold State.laneItem State.laneItemOf State.itemWord State.leItem State.post State.optLane
  rcases s.heats_spec n with h | h <;> simp [h]

/-- A lane that moves leaves every other lane as it was (08 R230). -/
theorem State.moveLane_other (s : State) (n : Nat) (st : LaneSt) (c : Option Nat) {m : Nat} (h : m ≠ n) :
    (s.moveLane n st c).optLane m = s.optLane m := by
  unfold State.moveLane
  dsimp only
  split
  · rw [State.laneItem_optLane]; exact SMap.get_set_other _ _ _ h
  · exact SMap.get_set_other _ _ _ h

/-- A lane that moves is in the state named, with the cause named, or its own where none is. -/
theorem State.moveLane_same (s : State) (n : Nat) (st : LaneSt) (c : Option Nat) :
    ((s.moveLane n st c).optLane n).st = st ∧ ((s.moveLane n st c).optLane n).cause = c.getD (s.optLane n).cause
      ∧ ((s.moveLane n st c).optLane n).inSvc = (s.optLane n).inSvc := by
  have g : ∀ f, (s.setOpt n f).optLane n = f (s.optLane n) := fun f => SMap.get_upd_same _ _ _ _
  unfold State.moveLane
  dsimp only
  split
  · rw [State.laneItem_optLane, g]; exact ⟨rfl, rfl, rfl⟩
  · rw [g]; exact ⟨rfl, rfl, rfl⟩

/-- Where no BAR2 access waits, none is performed (18 R519). -/
theorem State.hostGoes_none {s : State} (h : s.mem.hostAcc = []) : s.hostGoes = s := by
  unfold State.hostGoes
  rw [h]
  rfl

/-- An entry that waits for no reply, of another opcode, blocked or held is left as it is (10 R293). -/
theorem State.performed_left {s : State} {id : Nat} {ops : Nat → Bool} {f : State → Trk → Option Reply × State} {t : Trk}
    (h : s.trkAt id = some t)
    (g : (t.reply.isSome || !ops t.req.hdr.op || s.trkBlocked t || s.recalHolds (s.reqLines t.req.hdr)) = true) :
    s.performed id ops f = s := by
  unfold State.performed
  rw [h]
  dsimp only
  rw [if_pos g]

/-- An entry that is performed takes its reply, or is freed where it gets none (10 R285, R307). -/
theorem State.performed_done {s : State} {id : Nat} {ops : Nat → Bool} {f : State → Trk → Option Reply × State} {t : Trk}
    (h : s.trkAt id = some t) (hs : t.silent = false)
    (g : (t.reply.isSome || !ops t.req.hdr.op || s.trkBlocked t || s.recalHolds (s.reqLines t.req.hdr)) = false)
    (x : Option Reply × State) (hx : x = f (s.lineAccess (s.reqLines t.req.hdr)) t) :
    s.performed id ops f = match x.1 with
      | some r => (x.2.freeStreamTiles t.req).putTrk { t with reply := some r, req := { t.req with alloc := none } }
      | none => (x.2.freeStreamTiles t.req).dropTrk id := by
  subst hx
  unfold State.performed
  rw [h]
  dsimp only
  rw [if_neg (by rw [g]; decide)]
  split <;> simp_all

end Sys2Proof.Machine
end

