-- ==== Sys2Proof/Laws/PerInstr.lean ====
section
/-! SUPPORT. Statements made per command: the units that a well-formed command names are units of the part. -/

namespace Sys2Proof

/-- The units that a command names, each beside the number of such units that the part has. -/
def Instr.unitsOf (i : Instr) : List (Nat × Nat) :=
  match i with
  | .beatBoundary => []
  | .beatImageCheck _ => []
  | .crossingTimeout _ _ _ => []
  | .wideLeadRead _ _ => []
  | .rcRead _ _ _ => []
  | .registerWrite _ _ _ _ => []
  | .asuneFrameArrival lane _ _ => [(lane, 1024)]
  | .ethernetFrameArrival port _ _ => [(port, 1024)]
  | .pfcXoffRepeat port cls => [(port, 1024), (cls, 8)]
  | .portReconfig port _ _ _ _ => [(port, 1024)]
  | .stationSteer pipe => [(pipe, 64)]
  | .progMemRepairDone pipe _ _ _ => [(pipe, 64)]
  | .stationHold pipe => [(pipe, 64)]
  | .pennantRelease _ => []
  | .seqPennantRelease _ => []
  | .pennantTimeout _ => []
  | .stationMerge pipe => [(pipe, 64)]
  | .stationMirror pipe => [(pipe, 64)]
  | .mirrorDigestTimeout _ => []
  | .shadowDropEnd node => [(node, 262144)]
  | .stationQueue pipe => [(pipe, 64)]
  | .resultPlacement die => [(die, 2)]
  | .launch port => [(port, 1024)]
  | .frameTransmitEnd lane => [(lane, 1024)]
  | .uncorrectableCodeword hit => [(hit.lane, 1024)]
  | .replayRequestReceived lane _ _ => [(lane, 1024)]
  | .replayStartReceived lane _ => [(lane, 1024)]
  | .replayRetryTimeout lane => [(lane, 1024)]
  | .handoverReceived lane _ _ => [(lane, 1024)]
  | .linkCreditSend lane => [(lane, 1024)]
  | .linkCreditReceived lane _ _ _ => [(lane, 1024)]
  | .weevilAudit => []
  | .weevilWalkEnd => []
  | .weevilTeardownCheck part => [(part, 4096)]
  | .stgCarveWrite _ _ _ _ _ => []
  | .stgCarveApply => []
  | .clsMinWrite cls _ _ _ _ => [(cls, 8)]
  | .loadGo epoch => [(epoch, 2)]
  | .loadDone _ => []
  | .cmdFetchComplete ring _ _ _ => [(ring, 64)]
  | .cmdFetchTimeout ring => [(ring, 64)]
  | .cmdProgramRelease ring => [(ring, 64)]
  | .epochDrainComplete epoch => [(epoch, 2)]
  | .loadRequest _ => []
  | .store _ => []
  | .countedStore _ => []
  | .subArm _ => []
  | .atomAdd _ => []
  | .atomFetchAdd _ => []
  | .atomSwap _ => []
  | .atomCas _ => []
  | .atomMinS _ => []
  | .atomMaxS _ => []
  | .atomMinU _ => []
  | .atomMaxU _ => []
  | .atomAnd _ => []
  | .atomOr _ => []
  | .atomXor _ => []
  | .atomFp32Add _ => []
  | .atomBf16Add _ => []
  | .waitingRequestAccept => []
  | .memoryCompletion _ => []
  | .trackerTimeout _ => []
  | .stagingDraw ctx chunk => [(ctx, 4096), (chunk, 1048576)]
  | .contributionCombine cluster => [(cluster, 768)]
  | .stragglerWindowExpiry ctx chunk => [(ctx, 4096), (chunk, 1048576)]
  | .chunkSpill ctx chunk => [(ctx, 4096), (chunk, 1048576)]
  | .partialRecallDone ctx chunk => [(ctx, 4096), (chunk, 1048576)]
  | .cascadeResultRelay => []
  | .digestCompare ctx chunk _ _ => [(ctx, 4096), (chunk, 1048576)]
  | .arbiterResult ctx chunk _ _ => [(ctx, 4096), (chunk, 1048576)]
  | .checkLimitExpiry ctx chunk _ => [(ctx, 4096), (chunk, 1048576)]
  | .mgmtRead => []
  | .mgmtWrite _ => []
  | .mgmtCommand _ => []
  | .mgmtPtp => []
  | .termiteVisit => []
  | .compareEngineStep _ => []
  | .cmpCtrlWrite _ _ _ => []
  | .emSeedWrite _ _ _ => []
  | .laserFail engine _ => [(engine, 16)]
  | .spareSwitchIn engine _ => [(engine, 16)]
  | .laserRetire engine _ _ => [(engine, 16)]
  | .retireSwitch engine _ => [(engine, 16)]
  | .ringUnlock lane _ => [(lane, 1024)]
  | .pilotWindow lane _ _ => [(lane, 1024)]
  | .reacqVerified lane _ _ => [(lane, 1024)]
  | .reacqTimeout lane => [(lane, 1024)]
  | .lightPresent lane => [(lane, 1024)]
  | .laneTrainComplete lane => [(lane, 1024)]
  | .trainTimeout lane => [(lane, 1024)]
  | .linkFault loss => [(loss.lane, 1024)]
  | .calSlot engine => [(engine, 16)]
  | .calRequest engine _ _ => [(engine, 16)]
  | .calForce engine _ _ => [(engine, 16)]
  | .calComplete engine _ _ => [(engine, 16)]
  | .calTimeout engine _ => [(engine, 16)]
  | .laneRetry lane _ => [(lane, 1024)]
  | .loopStart engine _ _ => [(engine, 16)]
  | .loopEnd engine _ _ _ => [(engine, 16)]
  | .bypDemandReceived lane _ => [(lane, 1024)]
  | .bypassMatching => []
  | .bypassRouting => []
  | .restartReceived lane _ _ => [(lane, 1024)]
  | .planeFallback plane _ => [(plane, 4)]
  | .planeRelock plane => [(plane, 4)]
  | .planeLockTimeout plane => [(plane, 4)]
  | .planeAutoFast plane => [(plane, 4)]
  | .planeCalStart => []
  | .planeCalForce plane _ => [(plane, 4)]
  | .planeCalDone plane => [(plane, 4)]
  | .bypPlaneModeWrite plane _ _ => [(plane, 4)]
  | .leafEnable leaf _ _ => [(leaf, 256)]
  | .patrolRead mem die _ _ => [(mem, 17), (die, 2)]
  | .fieldTestSlot => []
  | .fieldTestStep _ => []
  | .fieldTestResult _ => []
  | .testWaitExpiry => []
  | .ftRequest cluster _ => [(cluster, 768)]
  | .ftForce cluster _ => [(cluster, 768)]
  | .clusterStepWrite cluster _ _ => [(cluster, 768)]
  | .watchdogExpiry => []
  | .quarantineEntry part => [(part, 4096)]
  | .partitionFree part => [(part, 4096)]
  | .drainEndClean _ _ => []
  | .drainDeadline _ _ => []
  | .broadcastReport ctx => [(ctx, 4096)]
  | .timeStep _ _ => []
  | .timeSet _ => []
  | .slewAdd _ _ => []
  | .slewComplete => []
  | .triggerFire _ => []
  | .cicadaPeriodic => []
  | .userRefresh => []
  | .dumpComplete => []
  | .deferredSnapshot => []
  | .cicadaDumpRequest _ => []
  | .snapshotRequest _ => []
  | .counterRunAllocate _ => []
  | .counterRunRelease _ _ _ => []
  | .bar2Read _ _ => []
  | .bar2Write _ _ => []
  | .doorbell ring _ => [(ring, 64)]
  | .cmdRingFlush ring => [(ring, 64)]
  | .cmdRingDisable ring => [(ring, 64)]
  | .cmdRingEnable ring => [(ring, 64)]
  | .d2hPacketWrite ring => [(ring, 64)]
  | .d2hPop ring _ => [(ring, 64)]
  | .d2hFlush ring => [(ring, 64)]
  | .d2hCfgWrite ring _ _ _ => [(ring, 64)]
  | .d2hHoldoffExpiry ring => [(ring, 64)]
  | .ddrTrainStart _ => []
  | .ddrTrainDone _ => []
  | .ddrRecal channel _ => [(channel, 8)]
  | .domainRequest domain _ _ => [(domain, 96)]
  | .domainRampUpDone domain => [(domain, 96)]
  | .domainRampDownDone domain => [(domain, 96)]
  | .supplyFault domain => [(domain, 96)]
  | .powerTrip _ => []
  | .tripHoldEnd _ => []
  | .thermalWarning unit _ => [(unit, 18)]
  | .stretchComparatorFire die _ => [(die, 2)]
  | .stretchEnd die => [(die, 2)]
  | .photonicTrip engine _ => [(engine, 16)]
  | .sleepEntry => []
  | .wakeD0 => []
  | .lightWake pair => [(pair, 256)]
  | .ageingSample _ => []
  | .marginReplan _ => []
  | .powerOnReset _ _ => []
  | .fundamentalReset => []
  | .softwareReset => []
  | .functionReset _ => []
  | .controllerReset => []
  | .bootStepAdvance => []
  | .bootImageRead _ _ _ => []
  | .bootGo _ => []
  | .writeSlot => []
  | .writeSlotDone _ _ _ => []
  | .activate => []
  | .confirm => []
  | .svnCommit => []
  | .trialTimeout => []
  | .getVersion => []
  | .getCapabilities => []
  | .negotiateAlgorithms => []
  | .getDigests => []
  | .getCertificate _ _ _ => []
  | .challenge _ _ => []
  | .getMeasurements _ _ _ => []
  | .respondIfReady _ => []
  | .tableDigestWalkDone => []
  | .extest => []
  | .idcode => []
  | .samplePreload _ => []
  | .extestPulse => []
  | .extestTrain => []
  | .clamp => []
  | .highz => []
  | .ecid => []
  | .bypass => []
  | .tapReset => []
  | .trefLost => []
  | .trefRestore => []
  | .vaonFall => []
  | .perstNRelease _ => []
  | .sleepComparatorFire => []
  | .pfcPauseExpiry port cls => [(port, 1024), (cls, 8)]
  | .laserSettled engine => [(engine, 16)]
  | .controllerSend _ => []
  | .pcieLinkTrained _ _ _ => []
  | .unsupportedSpdmRequest _ => []
  | .moduleHotRefresh channel _ => [(channel, 8)]
  | .thermalWarningRearm unit => [(unit, 18)]
  | .vectorUnmask _ _ _ => []

namespace Laws

/-- Every unit that a well-formed command names is one that the part has. -/
def NamesUnits.Statement (i : Instr) : Prop := i.wellFormed = true → ∀ u ∈ i.unitsOf, u.1 < u.2

theorem units_nil (b : Prop) : b → ∀ u ∈ ([] : List (Nat × Nat)), u.1 < u.2 := fun _ _ h => nomatch h

theorem units_one {a b : Nat} (h : a < b) : ∀ u ∈ [(a, b)], u.1 < u.2 := List.forall_mem_singleton.2 h

theorem units_two {a b c d : Nat} (h : a < b) (g : c < d) : ∀ u ∈ [(a, b), (c, d)], u.1 < u.2 :=
  List.forall_mem_cons.2 ⟨h, units_one g⟩

theorem NamesUnits.beatBoundary :
    Statement (.beatBoundary) := units_nil _

theorem NamesUnits.beatImageCheck (diff : Int) :
    Statement (.beatImageCheck diff) := units_nil _

theorem NamesUnits.crossingTimeout (dom : Nat) (unit : Nat) (read : Bool) :
    Statement (.crossingTimeout dom unit read) := units_nil _

theorem NamesUnits.wideLeadRead (rd : Reader) (t : Tlp) :
    Statement (.wideLeadRead rd t) := units_nil _

theorem NamesUnits.rcRead (rd : Reader) (t : Tlp) (hwInc : Word) :
    Statement (.rcRead rd t hwInc) := units_nil _

theorem NamesUnits.registerWrite (t : Tlp) (vals : List Word) (hwSet : Word) (late : Bool) :
    Statement (.registerWrite t vals hwSet late) := units_nil _

theorem NamesUnits.asuneFrameArrival (lane : Nat) (delim : Byte) (frame : RxFrame) :
    Statement (.asuneFrameArrival lane delim frame) := fun h => units_one (of_decide_eq_true h)

theorem NamesUnits.ethernetFrameArrival (port : Nat) (frame : List Byte) (fifoFull : Bool) :
    Statement (.ethernetFrameArrival port frame fifoFull) := fun h => units_one (of_decide_eq_true h)

theorem NamesUnits.pfcXoffRepeat (port : Nat) (cls : Nat) :
    Statement (.pfcXoffRepeat port cls) := fun h => units_two (of_decide_eq_true h).1 (of_decide_eq_true h).2

theorem NamesUnits.portReconfig (port : Nat) (valid : Bool) (mode : Bool) (width : Nat) (late : Bool) :
    Statement (.portReconfig port valid mode width late) := fun h => units_one (of_decide_eq_true h).1

theorem NamesUnits.stationSteer (pipe : Nat) :
    Statement (.stationSteer pipe) := fun h => units_one (of_decide_eq_true h)

theorem NamesUnits.progMemRepairDone (pipe : Nat) (station : Nat) (bank : Nat) (addr : Nat) :
    Statement (.progMemRepairDone pipe station bank addr) := fun h => units_one (of_decide_eq_true h).1

theorem NamesUnits.stationHold (pipe : Nat) :
    Statement (.stationHold pipe) := fun h => units_one (of_decide_eq_true h)

theorem NamesUnits.pennantRelease (id : Nat) :
    Statement (.pennantRelease id) := units_nil _

theorem NamesUnits.seqPennantRelease (id : Nat) :
    Statement (.seqPennantRelease id) := units_nil _

theorem NamesUnits.pennantTimeout (id : Nat) :
    Statement (.pennantTimeout id) := units_nil _

theorem NamesUnits.stationMerge (pipe : Nat) :
    Statement (.stationMerge pipe) := fun h => units_one (of_decide_eq_true h)

theorem NamesUnits.stationMirror (pipe : Nat) :
    Statement (.stationMirror pipe) := fun h => units_one (of_decide_eq_true h)

theorem NamesUnits.mirrorDigestTimeout (idx : Nat) :
    Statement (.mirrorDigestTimeout idx) := units_nil _

theorem NamesUnits.shadowDropEnd (node : Nat) :
    Statement (.shadowDropEnd node) := fun h => units_one (of_decide_eq_true h)

theorem NamesUnits.stationQueue (pipe : Nat) :
    Statement (.stationQueue pipe) := fun h => units_one (of_decide_eq_true h)

theorem NamesUnits.resultPlacement (die : Nat) :
    Statement (.resultPlacement die) := fun h => units_one (of_decide_eq_true h)

theorem NamesUnits.launch (port : Nat) :
    Statement (.launch port) := fun h => units_one (of_decide_eq_true h)

theorem NamesUnits.frameTransmitEnd (lane : Nat) :
    Statement (.frameTransmitEnd lane) := fun h => units_one (of_decide_eq_true h)

theorem NamesUnits.uncorrectableCodeword (hit : CodewordHit) :
    Statement (.uncorrectableCodeword hit) := fun h => units_one (of_decide_eq_true h)

theorem NamesUnits.replayRequestReceived (lane : Nat) (frame : Nat) (attempt : Nat) :
    Statement (.replayRequestReceived lane frame attempt) := fun h => units_one (of_decide_eq_true h).1

theorem NamesUnits.replayStartReceived (lane : Nat) (frame : Nat) :
    Statement (.replayStartReceived lane frame) := fun h => units_one (of_decide_eq_true h).1

theorem NamesUnits.replayRetryTimeout (lane : Nat) :
    Statement (.replayRetryTimeout lane) := fun h => units_one (of_decide_eq_true h)

theorem NamesUnits.handoverReceived (lane : Nat) (pos : Nat) (frame : Nat) :
    Statement (.handoverReceived lane pos frame) := fun h => units_one (of_decide_eq_true h).1

theorem NamesUnits.linkCreditSend (lane : Nat) :
    Statement (.linkCreditSend lane) := fun h => units_one (of_decide_eq_true h)

theorem NamesUnits.linkCreditReceived (lane : Nat) (g5 : Nat) (g6 : Nat) (g7 : Nat) :
    Statement (.linkCreditReceived lane g5 g6 g7) := fun h => units_one (of_decide_eq_true h).1

theorem NamesUnits.weevilAudit :
    Statement (.weevilAudit) := units_nil _

theorem NamesUnits.weevilWalkEnd :
    Statement (.weevilWalkEnd) := units_nil _

theorem NamesUnits.weevilTeardownCheck (part : Nat) :
    Statement (.weevilTeardownCheck part) := fun h => units_one (of_decide_eq_true h)

theorem NamesUnits.stgCarveWrite (n1 : Nat) (n4 : Nat) (n16 : Nat) (n64 : Nat) (late : Bool) :
    Statement (.stgCarveWrite n1 n4 n16 n64 late) := units_nil _

theorem NamesUnits.stgCarveApply :
    Statement (.stgCarveApply) := units_nil _

theorem NamesUnits.clsMinWrite (cls : Nat) (spillMin : Nat) (stgMin : Nat) (tileMin : Nat) (late : Bool) :
    Statement (.clsMinWrite cls spillMin stgMin tileMin late) := fun h => units_one (of_decide_eq_true h).1

theorem NamesUnits.loadGo (epoch : Nat) :
    Statement (.loadGo epoch) := fun h => units_one (of_decide_eq_true h)

theorem NamesUnits.loadDone (image : List (Option Word)) :
    Statement (.loadDone image) := units_nil _

theorem NamesUnits.cmdFetchComplete (ring : Nat) (words : List Word) (how : FetchEnd) (late : Bool) :
    Statement (.cmdFetchComplete ring words how late) := fun h => units_one (of_decide_eq_true h)

theorem NamesUnits.cmdFetchTimeout (ring : Nat) :
    Statement (.cmdFetchTimeout ring) := fun h => units_one (of_decide_eq_true h)

theorem NamesUnits.cmdProgramRelease (ring : Nat) :
    Statement (.cmdProgramRelease ring) := fun h => units_one (of_decide_eq_true h)

theorem NamesUnits.epochDrainComplete (epoch : Nat) :
    Statement (.epochDrainComplete epoch) := fun h => units_one (of_decide_eq_true h)

theorem NamesUnits.loadRequest (id : Nat) :
    Statement (.loadRequest id) := units_nil _

theorem NamesUnits.store (id : Nat) :
    Statement (.store id) := units_nil _

theorem NamesUnits.countedStore (id : Nat) :
    Statement (.countedStore id) := units_nil _

theorem NamesUnits.subArm (id : Nat) :
    Statement (.subArm id) := units_nil _

theorem NamesUnits.atomAdd (id : Nat) :
    Statement (.atomAdd id) := units_nil _

theorem NamesUnits.atomFetchAdd (id : Nat) :
    Statement (.atomFetchAdd id) := units_nil _

theorem NamesUnits.atomSwap (id : Nat) :
    Statement (.atomSwap id) := units_nil _

theorem NamesUnits.atomCas (id : Nat) :
    Statement (.atomCas id) := units_nil _

theorem NamesUnits.atomMinS (id : Nat) :
    Statement (.atomMinS id) := units_nil _

theorem NamesUnits.atomMaxS (id : Nat) :
    Statement (.atomMaxS id) := units_nil _

theorem NamesUnits.atomMinU (id : Nat) :
    Statement (.atomMinU id) := units_nil _

theorem NamesUnits.atomMaxU (id : Nat) :
    Statement (.atomMaxU id) := units_nil _

theorem NamesUnits.atomAnd (id : Nat) :
    Statement (.atomAnd id) := units_nil _

theorem NamesUnits.atomOr (id : Nat) :
    Statement (.atomOr id) := units_nil _

theorem NamesUnits.atomXor (id : Nat) :
    Statement (.atomXor id) := units_nil _

theorem NamesUnits.atomFp32Add (id : Nat) :
    Statement (.atomFp32Add id) := units_nil _

theorem NamesUnits.atomBf16Add (id : Nat) :
    Statement (.atomBf16Add id) := units_nil _

theorem NamesUnits.waitingRequestAccept :
    Statement (.waitingRequestAccept) := units_nil _

theorem NamesUnits.memoryCompletion (id : Nat) :
    Statement (.memoryCompletion id) := units_nil _

theorem NamesUnits.trackerTimeout (id : Nat) :
    Statement (.trackerTimeout id) := units_nil _

theorem NamesUnits.stagingDraw (ctx : Nat) (chunk : Nat) :
    Statement (.stagingDraw ctx chunk) := fun h => units_two (of_decide_eq_true h).1 (of_decide_eq_true h).2

theorem NamesUnits.contributionCombine (cluster : Nat) :
    Statement (.contributionCombine cluster) := fun h => units_one (of_decide_eq_true h)

theorem NamesUnits.stragglerWindowExpiry (ctx : Nat) (chunk : Nat) :
    Statement (.stragglerWindowExpiry ctx chunk) := fun h => units_two (of_decide_eq_true h).1 (of_decide_eq_true h).2

theorem NamesUnits.chunkSpill (ctx : Nat) (chunk : Nat) :
    Statement (.chunkSpill ctx chunk) := fun h => units_two (of_decide_eq_true h).1 (of_decide_eq_true h).2

theorem NamesUnits.partialRecallDone (ctx : Nat) (chunk : Nat) :
    Statement (.partialRecallDone ctx chunk) := fun h => units_two (of_decide_eq_true h).1 (of_decide_eq_true h).2

theorem NamesUnits.cascadeResultRelay :
    Statement (.cascadeResultRelay) := units_nil _

theorem NamesUnits.digestCompare (ctx : Nat) (chunk : Nat) (seg : Nat) (checkDigest : Word) :
    Statement (.digestCompare ctx chunk seg checkDigest) := fun h => units_two (of_decide_eq_true h).1 (of_decide_eq_true h).2

theorem NamesUnits.arbiterResult (ctx : Nat) (chunk : Nat) (seg : Nat) (digest : Word) :
    Statement (.arbiterResult ctx chunk seg digest) := fun h => units_two (of_decide_eq_true h).1 (of_decide_eq_true h).2

theorem NamesUnits.checkLimitExpiry (ctx : Nat) (chunk : Nat) (seg : Nat) :
    Statement (.checkLimitExpiry ctx chunk seg) := fun h => units_two (of_decide_eq_true h).1 (of_decide_eq_true h).2

theorem NamesUnits.mgmtRead :
    Statement (.mgmtRead) := units_nil _

theorem NamesUnits.mgmtWrite (late : Bool) :
    Statement (.mgmtWrite late) := units_nil _

theorem NamesUnits.mgmtCommand (late : Bool) :
    Statement (.mgmtCommand late) := units_nil _

theorem NamesUnits.mgmtPtp :
    Statement (.mgmtPtp) := units_nil _

theorem NamesUnits.termiteVisit :
    Statement (.termiteVisit) := units_nil _

theorem NamesUnits.compareEngineStep (table : Nat) :
    Statement (.compareEngineStep table) := units_nil _

theorem NamesUnits.cmpCtrlWrite (rate : Nat) (en : Nat) (late : Bool) :
    Statement (.cmpCtrlWrite rate en late) := units_nil _

theorem NamesUnits.emSeedWrite (seedA : Nat) (seedB : Nat) (late : Bool) :
    Statement (.emSeedWrite seedA seedB late) := units_nil _

theorem NamesUnits.laserFail (engine : Nat) (k : Nat) :
    Statement (.laserFail engine k) := fun h => units_one (of_decide_eq_true h).1

theorem NamesUnits.spareSwitchIn (engine : Nat) (k : Nat) :
    Statement (.spareSwitchIn engine k) := fun h => units_one (of_decide_eq_true h).1

theorem NamesUnits.laserRetire (engine : Nat) (k : Nat) (late : Bool) :
    Statement (.laserRetire engine k late) := fun h => units_one (of_decide_eq_true h).1

theorem NamesUnits.retireSwitch (engine : Nat) (k : Nat) :
    Statement (.retireSwitch engine k) := fun h => units_one (of_decide_eq_true h).1

theorem NamesUnits.ringUnlock (lane : Nat) (ring : RingLoss) :
    Statement (.ringUnlock lane ring) := fun h => units_one (of_decide_eq_true h)

theorem NamesUnits.pilotWindow (lane : Nat) (tx : Bool) (tone : Nat) :
    Statement (.pilotWindow lane tx tone) := fun h => units_one (of_decide_eq_true h).1

theorem NamesUnits.reacqVerified (lane : Nat) (tx : Bool) (heat : Nat) :
    Statement (.reacqVerified lane tx heat) := fun h => units_one (of_decide_eq_true h).1

theorem NamesUnits.reacqTimeout (lane : Nat) :
    Statement (.reacqTimeout lane) := fun h => units_one (of_decide_eq_true h)

theorem NamesUnits.lightPresent (lane : Nat) :
    Statement (.lightPresent lane) := fun h => units_one (of_decide_eq_true h)

theorem NamesUnits.laneTrainComplete (lane : Nat) :
    Statement (.laneTrainComplete lane) := fun h => units_one (of_decide_eq_true h)

theorem NamesUnits.trainTimeout (lane : Nat) :
    Statement (.trainTimeout lane) := fun h => units_one (of_decide_eq_true h)

theorem NamesUnits.linkFault (loss : LinkLoss) :
    Statement (.linkFault loss) := fun h => units_one (of_decide_eq_true h)

theorem NamesUnits.calSlot (engine : Nat) :
    Statement (.calSlot engine) := fun h => units_one (of_decide_eq_true h)

theorem NamesUnits.calRequest (engine : Nat) (pos : Nat) (late : Bool) :
    Statement (.calRequest engine pos late) := fun h => units_one (of_decide_eq_true h).1

theorem NamesUnits.calForce (engine : Nat) (pos : Nat) (late : Bool) :
    Statement (.calForce engine pos late) := fun h => units_one (of_decide_eq_true h).1

theorem NamesUnits.calComplete (engine : Nat) (tx : RingCal) (rx : RingCal) :
    Statement (.calComplete engine tx rx) := fun h => units_one (of_decide_eq_true h).1

theorem NamesUnits.calTimeout (engine : Nat) (tx : Bool) :
    Statement (.calTimeout engine tx) := fun h => units_one (of_decide_eq_true h)

theorem NamesUnits.laneRetry (lane : Nat) (late : Bool) :
    Statement (.laneRetry lane late) := fun h => units_one (of_decide_eq_true h)

theorem NamesUnits.loopStart (engine : Nat) (target : Nat) (dur : Nat) :
    Statement (.loopStart engine target dur) := fun h => units_one (of_decide_eq_true h).1

theorem NamesUnits.loopEnd (engine : Nat) (errs : Nat) (pilotOk : Bool) (rxPwr : Int) :
    Statement (.loopEnd engine errs pilotOk rxPwr) := fun h => units_one (of_decide_eq_true h)

theorem NamesUnits.bypDemandReceived (lane : Nat) (payload : List Byte) :
    Statement (.bypDemandReceived lane payload) := fun h => units_one (of_decide_eq_true h)

theorem NamesUnits.bypassMatching :
    Statement (.bypassMatching) := units_nil _

theorem NamesUnits.bypassRouting :
    Statement (.bypassRouting) := units_nil _

theorem NamesUnits.restartReceived (lane : Nat) (meas : Int) (firstFrame : Nat) :
    Statement (.restartReceived lane meas firstFrame) := fun h => units_one (of_decide_eq_true h)

theorem NamesUnits.planeFallback (plane : Nat) (driver : Bool) :
    Statement (.planeFallback plane driver) := fun h => units_one (of_decide_eq_true h)

theorem NamesUnits.planeRelock (plane : Nat) :
    Statement (.planeRelock plane) := fun h => units_one (of_decide_eq_true h)

theorem NamesUnits.planeLockTimeout (plane : Nat) :
    Statement (.planeLockTimeout plane) := fun h => units_one (of_decide_eq_true h)

theorem NamesUnits.planeAutoFast (plane : Nat) :
    Statement (.planeAutoFast plane) := fun h => units_one (of_decide_eq_true h)

theorem NamesUnits.planeCalStart :
    Statement (.planeCalStart) := units_nil _

theorem NamesUnits.planeCalForce (plane : Nat) (late : Bool) :
    Statement (.planeCalForce plane late) := fun h => units_one (of_decide_eq_true h)

theorem NamesUnits.planeCalDone (plane : Nat) :
    Statement (.planeCalDone plane) := fun h => units_one (of_decide_eq_true h)

theorem NamesUnits.bypPlaneModeWrite (plane : Nat) (mode : Nat) (late : Bool) :
    Statement (.bypPlaneModeWrite plane mode late) := fun h => units_one (of_decide_eq_true h).1

theorem NamesUnits.leafEnable (leaf : Nat) (anchorPref : Nat) (late : Bool) :
    Statement (.leafEnable leaf anchorPref late) := fun h => units_one (of_decide_eq_true h).1

theorem NamesUnits.patrolRead (mem : Nat) (die : Nat) (addr : Nat) (kind : EccKind) :
    Statement (.patrolRead mem die addr kind) := fun h => units_two (of_decide_eq_true h).1 (of_decide_eq_true h).2

theorem NamesUnits.fieldTestSlot :
    Statement (.fieldTestSlot) := units_nil _

theorem NamesUnits.fieldTestStep (idle : Bool) :
    Statement (.fieldTestStep idle) := units_nil _

theorem NamesUnits.fieldTestResult (pass : Bool) :
    Statement (.fieldTestResult pass) := units_nil _

theorem NamesUnits.testWaitExpiry :
    Statement (.testWaitExpiry) := units_nil _

theorem NamesUnits.ftRequest (cluster : Nat) (late : Bool) :
    Statement (.ftRequest cluster late) := fun h => units_one (of_decide_eq_true h)

theorem NamesUnits.ftForce (cluster : Nat) (late : Bool) :
    Statement (.ftForce cluster late) := fun h => units_one (of_decide_eq_true h)

theorem NamesUnits.clusterStepWrite (cluster : Nat) (step : Nat) (late : Bool) :
    Statement (.clusterStepWrite cluster step late) := fun h => units_one (of_decide_eq_true h).1

theorem NamesUnits.watchdogExpiry :
    Statement (.watchdogExpiry) := units_nil _

theorem NamesUnits.quarantineEntry (part : Nat) :
    Statement (.quarantineEntry part) := fun h => units_one (of_decide_eq_true h)

theorem NamesUnits.partitionFree (part : Nat) :
    Statement (.partitionFree part) := fun h => units_one (of_decide_eq_true h)

theorem NamesUnits.drainEndClean (kind : Nat) (idx : Nat) :
    Statement (.drainEndClean kind idx) := units_nil _

theorem NamesUnits.drainDeadline (kind : Nat) (idx : Nat) :
    Statement (.drainDeadline kind idx) := units_nil _

theorem NamesUnits.broadcastReport (ctx : Nat) :
    Statement (.broadcastReport ctx) := fun h => units_one (of_decide_eq_true h)

theorem NamesUnits.timeStep (ns : Int) (cycle : Nat) :
    Statement (.timeStep ns cycle) := units_nil _

theorem NamesUnits.timeSet (cycle : Nat) :
    Statement (.timeSet cycle) := units_nil _

theorem NamesUnits.slewAdd (rate : Nat) (add : Int) :
    Statement (.slewAdd rate add) := units_nil _

theorem NamesUnits.slewComplete :
    Statement (.slewComplete) := units_nil _

theorem NamesUnits.triggerFire (n : Nat) :
    Statement (.triggerFire n) := units_nil _

theorem NamesUnits.cicadaPeriodic :
    Statement (.cicadaPeriodic) := units_nil _

theorem NamesUnits.userRefresh :
    Statement (.userRefresh) := units_nil _

theorem NamesUnits.dumpComplete :
    Statement (.dumpComplete) := units_nil _

theorem NamesUnits.deferredSnapshot :
    Statement (.deferredSnapshot) := units_nil _

theorem NamesUnits.cicadaDumpRequest (late : Bool) :
    Statement (.cicadaDumpRequest late) := units_nil _

theorem NamesUnits.snapshotRequest (late : Bool) :
    Statement (.snapshotRequest late) := units_nil _

theorem NamesUnits.counterRunAllocate (n : Nat) :
    Statement (.counterRunAllocate n) := units_nil _

theorem NamesUnits.counterRunRelease (base : Nat) (n : Nat) (late : Bool) :
    Statement (.counterRunRelease base n late) := units_nil _

theorem NamesUnits.bar2Read (addr : Nat) (len : Nat) :
    Statement (.bar2Read addr len) := units_nil _

theorem NamesUnits.bar2Write (addr : Nat) (data : List (Option Byte)) :
    Statement (.bar2Write addr data) := units_nil _

theorem NamesUnits.doorbell (ring : Nat) (pi : Nat) :
    Statement (.doorbell ring pi) := fun h => units_one (of_decide_eq_true h).1

theorem NamesUnits.cmdRingFlush (ring : Nat) :
    Statement (.cmdRingFlush ring) := fun h => units_one (of_decide_eq_true h)

theorem NamesUnits.cmdRingDisable (ring : Nat) :
    Statement (.cmdRingDisable ring) := fun h => units_one (of_decide_eq_true h)

theorem NamesUnits.cmdRingEnable (ring : Nat) :
    Statement (.cmdRingEnable ring) := fun h => units_one (of_decide_eq_true h)

theorem NamesUnits.d2hPacketWrite (ring : Nat) :
    Statement (.d2hPacketWrite ring) := fun h => units_one (of_decide_eq_true h)

theorem NamesUnits.d2hPop (ring : Nat) (pois : Nat) :
    Statement (.d2hPop ring pois) := fun h => units_one (of_decide_eq_true h)

theorem NamesUnits.d2hFlush (ring : Nat) :
    Statement (.d2hFlush ring) := fun h => units_one (of_decide_eq_true h)

theorem NamesUnits.d2hCfgWrite (ring : Nat) (en : Bool) (lg : Nat) (base : Nat) :
    Statement (.d2hCfgWrite ring en lg base) := fun h => units_one (of_decide_eq_true h).1

theorem NamesUnits.d2hHoldoffExpiry (ring : Nat) :
    Statement (.d2hHoldoffExpiry ring) := fun h => units_one (of_decide_eq_true h)

theorem NamesUnits.ddrTrainStart (speed : Bool) :
    Statement (.ddrTrainStart speed) := units_nil _

theorem NamesUnits.ddrTrainDone (chans : List ChannelResult) :
    Statement (.ddrTrainDone chans) := units_nil _

theorem NamesUnits.ddrRecal (channel : Nat) (sub : Nat) :
    Statement (.ddrRecal channel sub) := fun h => units_one (of_decide_eq_true h).1

theorem NamesUnits.domainRequest (domain : Nat) (on : Bool) (late : Bool) :
    Statement (.domainRequest domain on late) := fun h => units_one (of_decide_eq_true h)

theorem NamesUnits.domainRampUpDone (domain : Nat) :
    Statement (.domainRampUpDone domain) := fun h => units_one (of_decide_eq_true h)

theorem NamesUnits.domainRampDownDone (domain : Nat) :
    Statement (.domainRampDownDone domain) := fun h => units_one (of_decide_eq_true h)

theorem NamesUnits.supplyFault (domain : Nat) :
    Statement (.supplyFault domain) := fun h => units_one (of_decide_eq_true h)

theorem NamesUnits.powerTrip (temp : Nat) :
    Statement (.powerTrip temp) := units_nil _

theorem NamesUnits.tripHoldEnd (temp : Nat) :
    Statement (.tripHoldEnd temp) := units_nil _

theorem NamesUnits.thermalWarning (unit : Nat) (temp : Nat) :
    Statement (.thermalWarning unit temp) := fun h => units_one (of_decide_eq_true h).1

theorem NamesUnits.stretchComparatorFire (die : Nat) (temp : Nat) :
    Statement (.stretchComparatorFire die temp) := fun h => units_one (of_decide_eq_true h).1

theorem NamesUnits.stretchEnd (die : Nat) :
    Statement (.stretchEnd die) := fun h => units_one (of_decide_eq_true h)

theorem NamesUnits.photonicTrip (engine : Nat) (temp : Nat) :
    Statement (.photonicTrip engine temp) := fun h => units_one (of_decide_eq_true h).1

theorem NamesUnits.sleepEntry :
    Statement (.sleepEntry) := units_nil _

theorem NamesUnits.wakeD0 :
    Statement (.wakeD0) := units_nil _

theorem NamesUnits.lightWake (pair : Nat) :
    Statement (.lightWake pair) := fun h => units_one (of_decide_eq_true h)

theorem NamesUnits.ageingSample (r : AgeReading) :
    Statement (.ageingSample r) := units_nil _

theorem NamesUnits.marginReplan (fmargin : List Nat) :
    Statement (.marginReplan fmargin) := units_nil _

theorem NamesUnits.powerOnReset (testMode : Bool) (bootSrc : Bool) :
    Statement (.powerOnReset testMode bootSrc) := units_nil _

theorem NamesUnits.fundamentalReset :
    Statement (.fundamentalReset) := units_nil _

theorem NamesUnits.softwareReset :
    Statement (.softwareReset) := units_nil _

theorem NamesUnits.functionReset (linkDown : Bool) :
    Statement (.functionReset linkDown) := units_nil _

theorem NamesUnits.controllerReset :
    Statement (.controllerReset) := units_nil _

theorem NamesUnits.bootStepAdvance :
    Statement (.bootStepAdvance) := units_nil _

theorem NamesUnits.bootImageRead (src : ImageSource) (image : Option (List Byte)) (sigOk : Bool) :
    Statement (.bootImageRead src image sigOk) := units_nil _

theorem NamesUnits.bootGo (addr : Nat) :
    Statement (.bootGo addr) := units_nil _

theorem NamesUnits.writeSlot :
    Statement (.writeSlot) := units_nil _

theorem NamesUnits.writeSlotDone (image : Option (List Byte)) (sigOk : Bool) (flashOk : Bool) :
    Statement (.writeSlotDone image sigOk flashOk) := units_nil _

theorem NamesUnits.activate :
    Statement (.activate) := units_nil _

theorem NamesUnits.confirm :
    Statement (.confirm) := units_nil _

theorem NamesUnits.svnCommit :
    Statement (.svnCommit) := units_nil _

theorem NamesUnits.trialTimeout :
    Statement (.trialTimeout) := units_nil _

theorem NamesUnits.getVersion :
    Statement (.getVersion) := units_nil _

theorem NamesUnits.getCapabilities :
    Statement (.getCapabilities) := units_nil _

theorem NamesUnits.negotiateAlgorithms :
    Statement (.negotiateAlgorithms) := units_nil _

theorem NamesUnits.getDigests :
    Statement (.getDigests) := units_nil _

theorem NamesUnits.getCertificate (slot : Nat) (off : Nat) (len : Nat) :
    Statement (.getCertificate slot off len) := units_nil _

theorem NamesUnits.challenge (slot : Nat) (nonce : List Byte) :
    Statement (.challenge slot nonce) := units_nil _

theorem NamesUnits.getMeasurements (index : Nat) (signed : Bool) (nonce : List Byte) :
    Statement (.getMeasurements index signed nonce) := units_nil _

theorem NamesUnits.respondIfReady (token : Nat) :
    Statement (.respondIfReady token) := units_nil _

theorem NamesUnits.tableDigestWalkDone :
    Statement (.tableDigestWalkDone) := units_nil _

theorem NamesUnits.extest :
    Statement (.extest) := units_nil _

theorem NamesUnits.idcode :
    Statement (.idcode) := units_nil _

theorem NamesUnits.samplePreload (sampled : Nat) :
    Statement (.samplePreload sampled) := units_nil _

theorem NamesUnits.extestPulse :
    Statement (.extestPulse) := units_nil _

theorem NamesUnits.extestTrain :
    Statement (.extestTrain) := units_nil _

theorem NamesUnits.clamp :
    Statement (.clamp) := units_nil _

theorem NamesUnits.highz :
    Statement (.highz) := units_nil _

theorem NamesUnits.ecid :
    Statement (.ecid) := units_nil _

theorem NamesUnits.bypass :
    Statement (.bypass) := units_nil _

theorem NamesUnits.tapReset :
    Statement (.tapReset) := units_nil _

theorem NamesUnits.trefLost :
    Statement (.trefLost) := units_nil _

theorem NamesUnits.trefRestore :
    Statement (.trefRestore) := units_nil _

theorem NamesUnits.vaonFall :
    Statement (.vaonFall) := units_nil _

theorem NamesUnits.perstNRelease (bootSrc : Bool) :
    Statement (.perstNRelease bootSrc) := units_nil _

theorem NamesUnits.sleepComparatorFire :
    Statement (.sleepComparatorFire) := units_nil _

theorem NamesUnits.pfcPauseExpiry (port : Nat) (cls : Nat) :
    Statement (.pfcPauseExpiry port cls) := fun h => units_two (of_decide_eq_true h).1 (of_decide_eq_true h).2

theorem NamesUnits.laserSettled (engine : Nat) :
    Statement (.laserSettled engine) := fun h => units_one (of_decide_eq_true h)

theorem NamesUnits.controllerSend (words : List Word) :
    Statement (.controllerSend words) := units_nil _

theorem NamesUnits.pcieLinkTrained (speed : Nat) (width : Nat) (flit : Bool) :
    Statement (.pcieLinkTrained speed width flit) := units_nil _

theorem NamesUnits.unsupportedSpdmRequest (code : Nat) :
    Statement (.unsupportedSpdmRequest code) := units_nil _

theorem NamesUnits.moduleHotRefresh (channel : Nat) (temp : Nat) :
    Statement (.moduleHotRefresh channel temp) := fun h => units_one (of_decide_eq_true h).1

theorem NamesUnits.thermalWarningRearm (unit : Nat) :
    Statement (.thermalWarningRearm unit) := fun h => units_one (of_decide_eq_true h)

theorem NamesUnits.vectorUnmask (entry : Option Nat) (addr : Word) (data : Word) :
    Statement (.vectorUnmask entry addr data) := units_nil _

end Laws

end Sys2Proof
end

