-- ==== Sys2Proof/Laws/State.lean ====
section
/-! SUPPORT. One law for each field of State and each named update: what the update leaves as it was. -/

namespace Sys2Proof.Machine

/-! ## setReg, which changes `regs` alone -/

@[simp] theorem State.setReg_pending (s : State) (k : RegKind) (i : Nat) (v : Word) : (s.setReg k i v).pending = s.pending := rfl
@[simp] theorem State.setReg_out (s : State) (k : RegKind) (i : Nat) (v : Word) : (s.setReg k i v).out = s.out := rfl
@[simp] theorem State.setReg_free (s : State) (k : RegKind) (i : Nat) (v : Word) : (s.setReg k i v).free = s.free := rfl
@[simp] theorem State.setReg_beat (s : State) (k : RegKind) (i : Nat) (v : Word) : (s.setReg k i v).beat = s.beat := rfl
@[simp] theorem State.setReg_stn (s : State) (k : RegKind) (i : Nat) (v : Word) : (s.setReg k i v).stn = s.stn := rfl
@[simp] theorem State.setReg_tbl (s : State) (k : RegKind) (i : Nat) (v : Word) : (s.setReg k i v).tbl = s.tbl := rfl
@[simp] theorem State.setReg_net (s : State) (k : RegKind) (i : Nat) (v : Word) : (s.setReg k i v).net = s.net := rfl
@[simp] theorem State.setReg_buf (s : State) (k : RegKind) (i : Nat) (v : Word) : (s.setReg k i v).buf = s.buf := rfl
@[simp] theorem State.setReg_q (s : State) (k : RegKind) (i : Nat) (v : Word) : (s.setReg k i v).q = s.q := rfl
@[simp] theorem State.setReg_lnk (s : State) (k : RegKind) (i : Nat) (v : Word) : (s.setReg k i v).lnk = s.lnk := rfl
@[simp] theorem State.setReg_opt (s : State) (k : RegKind) (i : Nat) (v : Word) : (s.setReg k i v).opt = s.opt := rfl
@[simp] theorem State.setReg_byp (s : State) (k : RegKind) (i : Nat) (v : Word) : (s.setReg k i v).byp = s.byp := rfl
@[simp] theorem State.setReg_part (s : State) (k : RegKind) (i : Nat) (v : Word) : (s.setReg k i v).part = s.part := rfl
@[simp] theorem State.setReg_cnt (s : State) (k : RegKind) (i : Nat) (v : Word) : (s.setReg k i v).cnt = s.cnt := rfl
@[simp] theorem State.setReg_host (s : State) (k : RegKind) (i : Nat) (v : Word) : (s.setReg k i v).host = s.host := rfl
@[simp] theorem State.setReg_mem (s : State) (k : RegKind) (i : Nat) (v : Word) : (s.setReg k i v).mem = s.mem := rfl
@[simp] theorem State.setReg_coll (s : State) (k : RegKind) (i : Nat) (v : Word) : (s.setReg k i v).coll = s.coll := rfl
@[simp] theorem State.setReg_red (s : State) (k : RegKind) (i : Nat) (v : Word) : (s.setReg k i v).red = s.red := rfl
@[simp] theorem State.setReg_time (s : State) (k : RegKind) (i : Nat) (v : Word) : (s.setReg k i v).time = s.time := rfl
@[simp] theorem State.setReg_pwr (s : State) (k : RegKind) (i : Nat) (v : Word) : (s.setReg k i v).pwr = s.pwr := rfl
@[simp] theorem State.setReg_boot (s : State) (k : RegKind) (i : Nat) (v : Word) : (s.setReg k i v).boot = s.boot := rfl
@[simp] theorem State.setReg_pins (s : State) (k : RegKind) (i : Nat) (v : Word) : (s.setReg k i v).pins = s.pins := rfl

/-! ## setFld, which changes `regs` alone -/

@[simp] theorem State.setFld_pending (s : State) (k : RegKind) (i hi lo v : Nat) : (s.setFld k i hi lo v).pending = s.pending := rfl
@[simp] theorem State.setFld_out (s : State) (k : RegKind) (i hi lo v : Nat) : (s.setFld k i hi lo v).out = s.out := rfl
@[simp] theorem State.setFld_free (s : State) (k : RegKind) (i hi lo v : Nat) : (s.setFld k i hi lo v).free = s.free := rfl
@[simp] theorem State.setFld_beat (s : State) (k : RegKind) (i hi lo v : Nat) : (s.setFld k i hi lo v).beat = s.beat := rfl
@[simp] theorem State.setFld_stn (s : State) (k : RegKind) (i hi lo v : Nat) : (s.setFld k i hi lo v).stn = s.stn := rfl
@[simp] theorem State.setFld_tbl (s : State) (k : RegKind) (i hi lo v : Nat) : (s.setFld k i hi lo v).tbl = s.tbl := rfl
@[simp] theorem State.setFld_net (s : State) (k : RegKind) (i hi lo v : Nat) : (s.setFld k i hi lo v).net = s.net := rfl
@[simp] theorem State.setFld_buf (s : State) (k : RegKind) (i hi lo v : Nat) : (s.setFld k i hi lo v).buf = s.buf := rfl
@[simp] theorem State.setFld_q (s : State) (k : RegKind) (i hi lo v : Nat) : (s.setFld k i hi lo v).q = s.q := rfl
@[simp] theorem State.setFld_lnk (s : State) (k : RegKind) (i hi lo v : Nat) : (s.setFld k i hi lo v).lnk = s.lnk := rfl
@[simp] theorem State.setFld_opt (s : State) (k : RegKind) (i hi lo v : Nat) : (s.setFld k i hi lo v).opt = s.opt := rfl
@[simp] theorem State.setFld_byp (s : State) (k : RegKind) (i hi lo v : Nat) : (s.setFld k i hi lo v).byp = s.byp := rfl
@[simp] theorem State.setFld_part (s : State) (k : RegKind) (i hi lo v : Nat) : (s.setFld k i hi lo v).part = s.part := rfl
@[simp] theorem State.setFld_cnt (s : State) (k : RegKind) (i hi lo v : Nat) : (s.setFld k i hi lo v).cnt = s.cnt := rfl
@[simp] theorem State.setFld_host (s : State) (k : RegKind) (i hi lo v : Nat) : (s.setFld k i hi lo v).host = s.host := rfl
@[simp] theorem State.setFld_mem (s : State) (k : RegKind) (i hi lo v : Nat) : (s.setFld k i hi lo v).mem = s.mem := rfl
@[simp] theorem State.setFld_coll (s : State) (k : RegKind) (i hi lo v : Nat) : (s.setFld k i hi lo v).coll = s.coll := rfl
@[simp] theorem State.setFld_red (s : State) (k : RegKind) (i hi lo v : Nat) : (s.setFld k i hi lo v).red = s.red := rfl
@[simp] theorem State.setFld_time (s : State) (k : RegKind) (i hi lo v : Nat) : (s.setFld k i hi lo v).time = s.time := rfl
@[simp] theorem State.setFld_pwr (s : State) (k : RegKind) (i hi lo v : Nat) : (s.setFld k i hi lo v).pwr = s.pwr := rfl
@[simp] theorem State.setFld_boot (s : State) (k : RegKind) (i hi lo v : Nat) : (s.setFld k i hi lo v).boot = s.boot := rfl
@[simp] theorem State.setFld_pins (s : State) (k : RegKind) (i hi lo v : Nat) : (s.setFld k i hi lo v).pins = s.pins := rfl

/-! ## setFlag, which changes `regs` alone -/

@[simp] theorem State.setFlag_pending (s : State) (k : RegKind) (i n : Nat) (b : Bool) : (s.setFlag k i n b).pending = s.pending := rfl
@[simp] theorem State.setFlag_out (s : State) (k : RegKind) (i n : Nat) (b : Bool) : (s.setFlag k i n b).out = s.out := rfl
@[simp] theorem State.setFlag_free (s : State) (k : RegKind) (i n : Nat) (b : Bool) : (s.setFlag k i n b).free = s.free := rfl
@[simp] theorem State.setFlag_beat (s : State) (k : RegKind) (i n : Nat) (b : Bool) : (s.setFlag k i n b).beat = s.beat := rfl
@[simp] theorem State.setFlag_stn (s : State) (k : RegKind) (i n : Nat) (b : Bool) : (s.setFlag k i n b).stn = s.stn := rfl
@[simp] theorem State.setFlag_tbl (s : State) (k : RegKind) (i n : Nat) (b : Bool) : (s.setFlag k i n b).tbl = s.tbl := rfl
@[simp] theorem State.setFlag_net (s : State) (k : RegKind) (i n : Nat) (b : Bool) : (s.setFlag k i n b).net = s.net := rfl
@[simp] theorem State.setFlag_buf (s : State) (k : RegKind) (i n : Nat) (b : Bool) : (s.setFlag k i n b).buf = s.buf := rfl
@[simp] theorem State.setFlag_q (s : State) (k : RegKind) (i n : Nat) (b : Bool) : (s.setFlag k i n b).q = s.q := rfl
@[simp] theorem State.setFlag_lnk (s : State) (k : RegKind) (i n : Nat) (b : Bool) : (s.setFlag k i n b).lnk = s.lnk := rfl
@[simp] theorem State.setFlag_opt (s : State) (k : RegKind) (i n : Nat) (b : Bool) : (s.setFlag k i n b).opt = s.opt := rfl
@[simp] theorem State.setFlag_byp (s : State) (k : RegKind) (i n : Nat) (b : Bool) : (s.setFlag k i n b).byp = s.byp := rfl
@[simp] theorem State.setFlag_part (s : State) (k : RegKind) (i n : Nat) (b : Bool) : (s.setFlag k i n b).part = s.part := rfl
@[simp] theorem State.setFlag_cnt (s : State) (k : RegKind) (i n : Nat) (b : Bool) : (s.setFlag k i n b).cnt = s.cnt := rfl
@[simp] theorem State.setFlag_host (s : State) (k : RegKind) (i n : Nat) (b : Bool) : (s.setFlag k i n b).host = s.host := rfl
@[simp] theorem State.setFlag_mem (s : State) (k : RegKind) (i n : Nat) (b : Bool) : (s.setFlag k i n b).mem = s.mem := rfl
@[simp] theorem State.setFlag_coll (s : State) (k : RegKind) (i n : Nat) (b : Bool) : (s.setFlag k i n b).coll = s.coll := rfl
@[simp] theorem State.setFlag_red (s : State) (k : RegKind) (i n : Nat) (b : Bool) : (s.setFlag k i n b).red = s.red := rfl
@[simp] theorem State.setFlag_time (s : State) (k : RegKind) (i n : Nat) (b : Bool) : (s.setFlag k i n b).time = s.time := rfl
@[simp] theorem State.setFlag_pwr (s : State) (k : RegKind) (i n : Nat) (b : Bool) : (s.setFlag k i n b).pwr = s.pwr := rfl
@[simp] theorem State.setFlag_boot (s : State) (k : RegKind) (i n : Nat) (b : Bool) : (s.setFlag k i n b).boot = s.boot := rfl
@[simp] theorem State.setFlag_pins (s : State) (k : RegKind) (i n : Nat) (b : Bool) : (s.setFlag k i n b).pins = s.pins := rfl

/-! ## bump, which changes `regs` alone -/

@[simp] theorem State.bump_pending (s : State) (k : RegKind) (i hi lo n : Nat) : (s.bump k i hi lo n).pending = s.pending := rfl
@[simp] theorem State.bump_out (s : State) (k : RegKind) (i hi lo n : Nat) : (s.bump k i hi lo n).out = s.out := rfl
@[simp] theorem State.bump_free (s : State) (k : RegKind) (i hi lo n : Nat) : (s.bump k i hi lo n).free = s.free := rfl
@[simp] theorem State.bump_beat (s : State) (k : RegKind) (i hi lo n : Nat) : (s.bump k i hi lo n).beat = s.beat := rfl
@[simp] theorem State.bump_stn (s : State) (k : RegKind) (i hi lo n : Nat) : (s.bump k i hi lo n).stn = s.stn := rfl
@[simp] theorem State.bump_tbl (s : State) (k : RegKind) (i hi lo n : Nat) : (s.bump k i hi lo n).tbl = s.tbl := rfl
@[simp] theorem State.bump_net (s : State) (k : RegKind) (i hi lo n : Nat) : (s.bump k i hi lo n).net = s.net := rfl
@[simp] theorem State.bump_buf (s : State) (k : RegKind) (i hi lo n : Nat) : (s.bump k i hi lo n).buf = s.buf := rfl
@[simp] theorem State.bump_q (s : State) (k : RegKind) (i hi lo n : Nat) : (s.bump k i hi lo n).q = s.q := rfl
@[simp] theorem State.bump_lnk (s : State) (k : RegKind) (i hi lo n : Nat) : (s.bump k i hi lo n).lnk = s.lnk := rfl
@[simp] theorem State.bump_opt (s : State) (k : RegKind) (i hi lo n : Nat) : (s.bump k i hi lo n).opt = s.opt := rfl
@[simp] theorem State.bump_byp (s : State) (k : RegKind) (i hi lo n : Nat) : (s.bump k i hi lo n).byp = s.byp := rfl
@[simp] theorem State.bump_part (s : State) (k : RegKind) (i hi lo n : Nat) : (s.bump k i hi lo n).part = s.part := rfl
@[simp] theorem State.bump_cnt (s : State) (k : RegKind) (i hi lo n : Nat) : (s.bump k i hi lo n).cnt = s.cnt := rfl
@[simp] theorem State.bump_host (s : State) (k : RegKind) (i hi lo n : Nat) : (s.bump k i hi lo n).host = s.host := rfl
@[simp] theorem State.bump_mem (s : State) (k : RegKind) (i hi lo n : Nat) : (s.bump k i hi lo n).mem = s.mem := rfl
@[simp] theorem State.bump_coll (s : State) (k : RegKind) (i hi lo n : Nat) : (s.bump k i hi lo n).coll = s.coll := rfl
@[simp] theorem State.bump_red (s : State) (k : RegKind) (i hi lo n : Nat) : (s.bump k i hi lo n).red = s.red := rfl
@[simp] theorem State.bump_time (s : State) (k : RegKind) (i hi lo n : Nat) : (s.bump k i hi lo n).time = s.time := rfl
@[simp] theorem State.bump_pwr (s : State) (k : RegKind) (i hi lo n : Nat) : (s.bump k i hi lo n).pwr = s.pwr := rfl
@[simp] theorem State.bump_boot (s : State) (k : RegKind) (i hi lo n : Nat) : (s.bump k i hi lo n).boot = s.boot := rfl
@[simp] theorem State.bump_pins (s : State) (k : RegKind) (i hi lo n : Nat) : (s.bump k i hi lo n).pins = s.pins := rfl

/-! ## putRw, which changes `regs` alone -/

@[simp] theorem State.putRw_pending (s : State) (k : RegKind) (i : Nat) (v : Word) : (s.putRw k i v).pending = s.pending := rfl
@[simp] theorem State.putRw_out (s : State) (k : RegKind) (i : Nat) (v : Word) : (s.putRw k i v).out = s.out := rfl
@[simp] theorem State.putRw_free (s : State) (k : RegKind) (i : Nat) (v : Word) : (s.putRw k i v).free = s.free := rfl
@[simp] theorem State.putRw_beat (s : State) (k : RegKind) (i : Nat) (v : Word) : (s.putRw k i v).beat = s.beat := rfl
@[simp] theorem State.putRw_stn (s : State) (k : RegKind) (i : Nat) (v : Word) : (s.putRw k i v).stn = s.stn := rfl
@[simp] theorem State.putRw_tbl (s : State) (k : RegKind) (i : Nat) (v : Word) : (s.putRw k i v).tbl = s.tbl := rfl
@[simp] theorem State.putRw_net (s : State) (k : RegKind) (i : Nat) (v : Word) : (s.putRw k i v).net = s.net := rfl
@[simp] theorem State.putRw_buf (s : State) (k : RegKind) (i : Nat) (v : Word) : (s.putRw k i v).buf = s.buf := rfl
@[simp] theorem State.putRw_q (s : State) (k : RegKind) (i : Nat) (v : Word) : (s.putRw k i v).q = s.q := rfl
@[simp] theorem State.putRw_lnk (s : State) (k : RegKind) (i : Nat) (v : Word) : (s.putRw k i v).lnk = s.lnk := rfl
@[simp] theorem State.putRw_opt (s : State) (k : RegKind) (i : Nat) (v : Word) : (s.putRw k i v).opt = s.opt := rfl
@[simp] theorem State.putRw_byp (s : State) (k : RegKind) (i : Nat) (v : Word) : (s.putRw k i v).byp = s.byp := rfl
@[simp] theorem State.putRw_part (s : State) (k : RegKind) (i : Nat) (v : Word) : (s.putRw k i v).part = s.part := rfl
@[simp] theorem State.putRw_cnt (s : State) (k : RegKind) (i : Nat) (v : Word) : (s.putRw k i v).cnt = s.cnt := rfl
@[simp] theorem State.putRw_host (s : State) (k : RegKind) (i : Nat) (v : Word) : (s.putRw k i v).host = s.host := rfl
@[simp] theorem State.putRw_mem (s : State) (k : RegKind) (i : Nat) (v : Word) : (s.putRw k i v).mem = s.mem := rfl
@[simp] theorem State.putRw_coll (s : State) (k : RegKind) (i : Nat) (v : Word) : (s.putRw k i v).coll = s.coll := rfl
@[simp] theorem State.putRw_red (s : State) (k : RegKind) (i : Nat) (v : Word) : (s.putRw k i v).red = s.red := rfl
@[simp] theorem State.putRw_time (s : State) (k : RegKind) (i : Nat) (v : Word) : (s.putRw k i v).time = s.time := rfl
@[simp] theorem State.putRw_pwr (s : State) (k : RegKind) (i : Nat) (v : Word) : (s.putRw k i v).pwr = s.pwr := rfl
@[simp] theorem State.putRw_boot (s : State) (k : RegKind) (i : Nat) (v : Word) : (s.putRw k i v).boot = s.boot := rfl
@[simp] theorem State.putRw_pins (s : State) (k : RegKind) (i : Nat) (v : Word) : (s.putRw k i v).pins = s.pins := rfl

/-! ## queueWrite, which changes `regs` alone -/

@[simp] theorem State.queueWrite_pending (s : State) (k : RegKind) (i : Nat) (v : Word) (b : Bool) : (s.queueWrite k i v b).pending = s.pending := rfl
@[simp] theorem State.queueWrite_out (s : State) (k : RegKind) (i : Nat) (v : Word) (b : Bool) : (s.queueWrite k i v b).out = s.out := rfl
@[simp] theorem State.queueWrite_free (s : State) (k : RegKind) (i : Nat) (v : Word) (b : Bool) : (s.queueWrite k i v b).free = s.free := rfl
@[simp] theorem State.queueWrite_beat (s : State) (k : RegKind) (i : Nat) (v : Word) (b : Bool) : (s.queueWrite k i v b).beat = s.beat := rfl
@[simp] theorem State.queueWrite_stn (s : State) (k : RegKind) (i : Nat) (v : Word) (b : Bool) : (s.queueWrite k i v b).stn = s.stn := rfl
@[simp] theorem State.queueWrite_tbl (s : State) (k : RegKind) (i : Nat) (v : Word) (b : Bool) : (s.queueWrite k i v b).tbl = s.tbl := rfl
@[simp] theorem State.queueWrite_net (s : State) (k : RegKind) (i : Nat) (v : Word) (b : Bool) : (s.queueWrite k i v b).net = s.net := rfl
@[simp] theorem State.queueWrite_buf (s : State) (k : RegKind) (i : Nat) (v : Word) (b : Bool) : (s.queueWrite k i v b).buf = s.buf := rfl
@[simp] theorem State.queueWrite_q (s : State) (k : RegKind) (i : Nat) (v : Word) (b : Bool) : (s.queueWrite k i v b).q = s.q := rfl
@[simp] theorem State.queueWrite_lnk (s : State) (k : RegKind) (i : Nat) (v : Word) (b : Bool) : (s.queueWrite k i v b).lnk = s.lnk := rfl
@[simp] theorem State.queueWrite_opt (s : State) (k : RegKind) (i : Nat) (v : Word) (b : Bool) : (s.queueWrite k i v b).opt = s.opt := rfl
@[simp] theorem State.queueWrite_byp (s : State) (k : RegKind) (i : Nat) (v : Word) (b : Bool) : (s.queueWrite k i v b).byp = s.byp := rfl
@[simp] theorem State.queueWrite_part (s : State) (k : RegKind) (i : Nat) (v : Word) (b : Bool) : (s.queueWrite k i v b).part = s.part := rfl
@[simp] theorem State.queueWrite_cnt (s : State) (k : RegKind) (i : Nat) (v : Word) (b : Bool) : (s.queueWrite k i v b).cnt = s.cnt := rfl
@[simp] theorem State.queueWrite_host (s : State) (k : RegKind) (i : Nat) (v : Word) (b : Bool) : (s.queueWrite k i v b).host = s.host := rfl
@[simp] theorem State.queueWrite_mem (s : State) (k : RegKind) (i : Nat) (v : Word) (b : Bool) : (s.queueWrite k i v b).mem = s.mem := rfl
@[simp] theorem State.queueWrite_coll (s : State) (k : RegKind) (i : Nat) (v : Word) (b : Bool) : (s.queueWrite k i v b).coll = s.coll := rfl
@[simp] theorem State.queueWrite_red (s : State) (k : RegKind) (i : Nat) (v : Word) (b : Bool) : (s.queueWrite k i v b).red = s.red := rfl
@[simp] theorem State.queueWrite_time (s : State) (k : RegKind) (i : Nat) (v : Word) (b : Bool) : (s.queueWrite k i v b).time = s.time := rfl
@[simp] theorem State.queueWrite_pwr (s : State) (k : RegKind) (i : Nat) (v : Word) (b : Bool) : (s.queueWrite k i v b).pwr = s.pwr := rfl
@[simp] theorem State.queueWrite_boot (s : State) (k : RegKind) (i : Nat) (v : Word) (b : Bool) : (s.queueWrite k i v b).boot = s.boot := rfl
@[simp] theorem State.queueWrite_pins (s : State) (k : RegKind) (i : Nat) (v : Word) (b : Bool) : (s.queueWrite k i v b).pins = s.pins := rfl

/-! ## emit, which changes `out` alone -/

@[simp] theorem State.emit_pending (s : State) (o : OutEv) : (s.emit o).pending = s.pending := rfl
@[simp] theorem State.emit_free (s : State) (o : OutEv) : (s.emit o).free = s.free := rfl
@[simp] theorem State.emit_beat (s : State) (o : OutEv) : (s.emit o).beat = s.beat := rfl
@[simp] theorem State.emit_regs (s : State) (o : OutEv) : (s.emit o).regs = s.regs := rfl
@[simp] theorem State.emit_stn (s : State) (o : OutEv) : (s.emit o).stn = s.stn := rfl
@[simp] theorem State.emit_tbl (s : State) (o : OutEv) : (s.emit o).tbl = s.tbl := rfl
@[simp] theorem State.emit_net (s : State) (o : OutEv) : (s.emit o).net = s.net := rfl
@[simp] theorem State.emit_buf (s : State) (o : OutEv) : (s.emit o).buf = s.buf := rfl
@[simp] theorem State.emit_q (s : State) (o : OutEv) : (s.emit o).q = s.q := rfl
@[simp] theorem State.emit_lnk (s : State) (o : OutEv) : (s.emit o).lnk = s.lnk := rfl
@[simp] theorem State.emit_opt (s : State) (o : OutEv) : (s.emit o).opt = s.opt := rfl
@[simp] theorem State.emit_byp (s : State) (o : OutEv) : (s.emit o).byp = s.byp := rfl
@[simp] theorem State.emit_part (s : State) (o : OutEv) : (s.emit o).part = s.part := rfl
@[simp] theorem State.emit_cnt (s : State) (o : OutEv) : (s.emit o).cnt = s.cnt := rfl
@[simp] theorem State.emit_host (s : State) (o : OutEv) : (s.emit o).host = s.host := rfl
@[simp] theorem State.emit_mem (s : State) (o : OutEv) : (s.emit o).mem = s.mem := rfl
@[simp] theorem State.emit_coll (s : State) (o : OutEv) : (s.emit o).coll = s.coll := rfl
@[simp] theorem State.emit_red (s : State) (o : OutEv) : (s.emit o).red = s.red := rfl
@[simp] theorem State.emit_time (s : State) (o : OutEv) : (s.emit o).time = s.time := rfl
@[simp] theorem State.emit_pwr (s : State) (o : OutEv) : (s.emit o).pwr = s.pwr := rfl
@[simp] theorem State.emit_boot (s : State) (o : OutEv) : (s.emit o).boot = s.boot := rfl
@[simp] theorem State.emit_pins (s : State) (o : OutEv) : (s.emit o).pins = s.pins := rfl

/-! ## raise, which changes `out` alone -/

@[simp] theorem State.raise_pending (s : State) (k : EventKind) (l : List Nat) : (s.raise k l).pending = s.pending := rfl
@[simp] theorem State.raise_free (s : State) (k : EventKind) (l : List Nat) : (s.raise k l).free = s.free := rfl
@[simp] theorem State.raise_beat (s : State) (k : EventKind) (l : List Nat) : (s.raise k l).beat = s.beat := rfl
@[simp] theorem State.raise_regs (s : State) (k : EventKind) (l : List Nat) : (s.raise k l).regs = s.regs := rfl
@[simp] theorem State.raise_stn (s : State) (k : EventKind) (l : List Nat) : (s.raise k l).stn = s.stn := rfl
@[simp] theorem State.raise_tbl (s : State) (k : EventKind) (l : List Nat) : (s.raise k l).tbl = s.tbl := rfl
@[simp] theorem State.raise_net (s : State) (k : EventKind) (l : List Nat) : (s.raise k l).net = s.net := rfl
@[simp] theorem State.raise_buf (s : State) (k : EventKind) (l : List Nat) : (s.raise k l).buf = s.buf := rfl
@[simp] theorem State.raise_q (s : State) (k : EventKind) (l : List Nat) : (s.raise k l).q = s.q := rfl
@[simp] theorem State.raise_lnk (s : State) (k : EventKind) (l : List Nat) : (s.raise k l).lnk = s.lnk := rfl
@[simp] theorem State.raise_opt (s : State) (k : EventKind) (l : List Nat) : (s.raise k l).opt = s.opt := rfl
@[simp] theorem State.raise_byp (s : State) (k : EventKind) (l : List Nat) : (s.raise k l).byp = s.byp := rfl
@[simp] theorem State.raise_part (s : State) (k : EventKind) (l : List Nat) : (s.raise k l).part = s.part := rfl
@[simp] theorem State.raise_cnt (s : State) (k : EventKind) (l : List Nat) : (s.raise k l).cnt = s.cnt := rfl
@[simp] theorem State.raise_host (s : State) (k : EventKind) (l : List Nat) : (s.raise k l).host = s.host := rfl
@[simp] theorem State.raise_mem (s : State) (k : EventKind) (l : List Nat) : (s.raise k l).mem = s.mem := rfl
@[simp] theorem State.raise_coll (s : State) (k : EventKind) (l : List Nat) : (s.raise k l).coll = s.coll := rfl
@[simp] theorem State.raise_red (s : State) (k : EventKind) (l : List Nat) : (s.raise k l).red = s.red := rfl
@[simp] theorem State.raise_time (s : State) (k : EventKind) (l : List Nat) : (s.raise k l).time = s.time := rfl
@[simp] theorem State.raise_pwr (s : State) (k : EventKind) (l : List Nat) : (s.raise k l).pwr = s.pwr := rfl
@[simp] theorem State.raise_boot (s : State) (k : EventKind) (l : List Nat) : (s.raise k l).boot = s.boot := rfl
@[simp] theorem State.raise_pins (s : State) (k : EventKind) (l : List Nat) : (s.raise k l).pins = s.pins := rfl

/-! ## post, which changes `host` alone -/

@[simp] theorem State.post_pending (s : State) (r : Nat) (l : List Item) : (s.post r l).pending = s.pending := rfl
@[simp] theorem State.post_out (s : State) (r : Nat) (l : List Item) : (s.post r l).out = s.out := rfl
@[simp] theorem State.post_free (s : State) (r : Nat) (l : List Item) : (s.post r l).free = s.free := rfl
@[simp] theorem State.post_beat (s : State) (r : Nat) (l : List Item) : (s.post r l).beat = s.beat := rfl
@[simp] theorem State.post_regs (s : State) (r : Nat) (l : List Item) : (s.post r l).regs = s.regs := rfl
@[simp] theorem State.post_stn (s : State) (r : Nat) (l : List Item) : (s.post r l).stn = s.stn := rfl
@[simp] theorem State.post_tbl (s : State) (r : Nat) (l : List Item) : (s.post r l).tbl = s.tbl := rfl
@[simp] theorem State.post_net (s : State) (r : Nat) (l : List Item) : (s.post r l).net = s.net := rfl
@[simp] theorem State.post_buf (s : State) (r : Nat) (l : List Item) : (s.post r l).buf = s.buf := rfl
@[simp] theorem State.post_q (s : State) (r : Nat) (l : List Item) : (s.post r l).q = s.q := rfl
@[simp] theorem State.post_lnk (s : State) (r : Nat) (l : List Item) : (s.post r l).lnk = s.lnk := rfl
@[simp] theorem State.post_opt (s : State) (r : Nat) (l : List Item) : (s.post r l).opt = s.opt := rfl
@[simp] theorem State.post_byp (s : State) (r : Nat) (l : List Item) : (s.post r l).byp = s.byp := rfl
@[simp] theorem State.post_part (s : State) (r : Nat) (l : List Item) : (s.post r l).part = s.part := rfl
@[simp] theorem State.post_cnt (s : State) (r : Nat) (l : List Item) : (s.post r l).cnt = s.cnt := rfl
@[simp] theorem State.post_mem (s : State) (r : Nat) (l : List Item) : (s.post r l).mem = s.mem := rfl
@[simp] theorem State.post_coll (s : State) (r : Nat) (l : List Item) : (s.post r l).coll = s.coll := rfl
@[simp] theorem State.post_red (s : State) (r : Nat) (l : List Item) : (s.post r l).red = s.red := rfl
@[simp] theorem State.post_time (s : State) (r : Nat) (l : List Item) : (s.post r l).time = s.time := rfl
@[simp] theorem State.post_pwr (s : State) (r : Nat) (l : List Item) : (s.post r l).pwr = s.pwr := rfl
@[simp] theorem State.post_boot (s : State) (r : Nat) (l : List Item) : (s.post r l).boot = s.boot := rfl
@[simp] theorem State.post_pins (s : State) (r : Nat) (l : List Item) : (s.post r l).pins = s.pins := rfl

/-! ## count, which changes `cnt` alone -/

@[simp] theorem State.count_pending (s : State) (k n : Nat) : (s.count k n).pending = s.pending := rfl
@[simp] theorem State.count_out (s : State) (k n : Nat) : (s.count k n).out = s.out := rfl
@[simp] theorem State.count_free (s : State) (k n : Nat) : (s.count k n).free = s.free := rfl
@[simp] theorem State.count_beat (s : State) (k n : Nat) : (s.count k n).beat = s.beat := rfl
@[simp] theorem State.count_regs (s : State) (k n : Nat) : (s.count k n).regs = s.regs := rfl
@[simp] theorem State.count_stn (s : State) (k n : Nat) : (s.count k n).stn = s.stn := rfl
@[simp] theorem State.count_tbl (s : State) (k n : Nat) : (s.count k n).tbl = s.tbl := rfl
@[simp] theorem State.count_net (s : State) (k n : Nat) : (s.count k n).net = s.net := rfl
@[simp] theorem State.count_buf (s : State) (k n : Nat) : (s.count k n).buf = s.buf := rfl
@[simp] theorem State.count_q (s : State) (k n : Nat) : (s.count k n).q = s.q := rfl
@[simp] theorem State.count_lnk (s : State) (k n : Nat) : (s.count k n).lnk = s.lnk := rfl
@[simp] theorem State.count_opt (s : State) (k n : Nat) : (s.count k n).opt = s.opt := rfl
@[simp] theorem State.count_byp (s : State) (k n : Nat) : (s.count k n).byp = s.byp := rfl
@[simp] theorem State.count_part (s : State) (k n : Nat) : (s.count k n).part = s.part := rfl
@[simp] theorem State.count_host (s : State) (k n : Nat) : (s.count k n).host = s.host := rfl
@[simp] theorem State.count_mem (s : State) (k n : Nat) : (s.count k n).mem = s.mem := rfl
@[simp] theorem State.count_coll (s : State) (k n : Nat) : (s.count k n).coll = s.coll := rfl
@[simp] theorem State.count_red (s : State) (k n : Nat) : (s.count k n).red = s.red := rfl
@[simp] theorem State.count_time (s : State) (k n : Nat) : (s.count k n).time = s.time := rfl
@[simp] theorem State.count_pwr (s : State) (k n : Nat) : (s.count k n).pwr = s.pwr := rfl
@[simp] theorem State.count_boot (s : State) (k n : Nat) : (s.count k n).boot = s.boot := rfl
@[simp] theorem State.count_pins (s : State) (k n : Nat) : (s.count k n).pins = s.pins := rfl

/-! ## laneCount, which changes `cnt` alone -/

@[simp] theorem State.laneCount_pending (s : State) (n k : Nat) : (s.laneCount n k).pending = s.pending := rfl
@[simp] theorem State.laneCount_out (s : State) (n k : Nat) : (s.laneCount n k).out = s.out := rfl
@[simp] theorem State.laneCount_free (s : State) (n k : Nat) : (s.laneCount n k).free = s.free := rfl
@[simp] theorem State.laneCount_beat (s : State) (n k : Nat) : (s.laneCount n k).beat = s.beat := rfl
@[simp] theorem State.laneCount_regs (s : State) (n k : Nat) : (s.laneCount n k).regs = s.regs := rfl
@[simp] theorem State.laneCount_stn (s : State) (n k : Nat) : (s.laneCount n k).stn = s.stn := rfl
@[simp] theorem State.laneCount_tbl (s : State) (n k : Nat) : (s.laneCount n k).tbl = s.tbl := rfl
@[simp] theorem State.laneCount_net (s : State) (n k : Nat) : (s.laneCount n k).net = s.net := rfl
@[simp] theorem State.laneCount_buf (s : State) (n k : Nat) : (s.laneCount n k).buf = s.buf := rfl
@[simp] theorem State.laneCount_q (s : State) (n k : Nat) : (s.laneCount n k).q = s.q := rfl
@[simp] theorem State.laneCount_lnk (s : State) (n k : Nat) : (s.laneCount n k).lnk = s.lnk := rfl
@[simp] theorem State.laneCount_opt (s : State) (n k : Nat) : (s.laneCount n k).opt = s.opt := rfl
@[simp] theorem State.laneCount_byp (s : State) (n k : Nat) : (s.laneCount n k).byp = s.byp := rfl
@[simp] theorem State.laneCount_part (s : State) (n k : Nat) : (s.laneCount n k).part = s.part := rfl
@[simp] theorem State.laneCount_host (s : State) (n k : Nat) : (s.laneCount n k).host = s.host := rfl
@[simp] theorem State.laneCount_mem (s : State) (n k : Nat) : (s.laneCount n k).mem = s.mem := rfl
@[simp] theorem State.laneCount_coll (s : State) (n k : Nat) : (s.laneCount n k).coll = s.coll := rfl
@[simp] theorem State.laneCount_red (s : State) (n k : Nat) : (s.laneCount n k).red = s.red := rfl
@[simp] theorem State.laneCount_time (s : State) (n k : Nat) : (s.laneCount n k).time = s.time := rfl
@[simp] theorem State.laneCount_pwr (s : State) (n k : Nat) : (s.laneCount n k).pwr = s.pwr := rfl
@[simp] theorem State.laneCount_boot (s : State) (n k : Nat) : (s.laneCount n k).boot = s.boot := rfl
@[simp] theorem State.laneCount_pins (s : State) (n k : Nat) : (s.laneCount n k).pins = s.pins := rfl

/-! ## partCount, which changes `cnt` alone -/

@[simp] theorem State.partCount_pending (s : State) (p j : Nat) : (s.partCount p j).pending = s.pending := rfl
@[simp] theorem State.partCount_out (s : State) (p j : Nat) : (s.partCount p j).out = s.out := rfl
@[simp] theorem State.partCount_free (s : State) (p j : Nat) : (s.partCount p j).free = s.free := rfl
@[simp] theorem State.partCount_beat (s : State) (p j : Nat) : (s.partCount p j).beat = s.beat := rfl
@[simp] theorem State.partCount_regs (s : State) (p j : Nat) : (s.partCount p j).regs = s.regs := rfl
@[simp] theorem State.partCount_stn (s : State) (p j : Nat) : (s.partCount p j).stn = s.stn := rfl
@[simp] theorem State.partCount_tbl (s : State) (p j : Nat) : (s.partCount p j).tbl = s.tbl := rfl
@[simp] theorem State.partCount_net (s : State) (p j : Nat) : (s.partCount p j).net = s.net := rfl
@[simp] theorem State.partCount_buf (s : State) (p j : Nat) : (s.partCount p j).buf = s.buf := rfl
@[simp] theorem State.partCount_q (s : State) (p j : Nat) : (s.partCount p j).q = s.q := rfl
@[simp] theorem State.partCount_lnk (s : State) (p j : Nat) : (s.partCount p j).lnk = s.lnk := rfl
@[simp] theorem State.partCount_opt (s : State) (p j : Nat) : (s.partCount p j).opt = s.opt := rfl
@[simp] theorem State.partCount_byp (s : State) (p j : Nat) : (s.partCount p j).byp = s.byp := rfl
@[simp] theorem State.partCount_part (s : State) (p j : Nat) : (s.partCount p j).part = s.part := rfl
@[simp] theorem State.partCount_host (s : State) (p j : Nat) : (s.partCount p j).host = s.host := rfl
@[simp] theorem State.partCount_mem (s : State) (p j : Nat) : (s.partCount p j).mem = s.mem := rfl
@[simp] theorem State.partCount_coll (s : State) (p j : Nat) : (s.partCount p j).coll = s.coll := rfl
@[simp] theorem State.partCount_red (s : State) (p j : Nat) : (s.partCount p j).red = s.red := rfl
@[simp] theorem State.partCount_time (s : State) (p j : Nat) : (s.partCount p j).time = s.time := rfl
@[simp] theorem State.partCount_pwr (s : State) (p j : Nat) : (s.partCount p j).pwr = s.pwr := rfl
@[simp] theorem State.partCount_boot (s : State) (p j : Nat) : (s.partCount p j).boot = s.boot := rfl
@[simp] theorem State.partCount_pins (s : State) (p j : Nat) : (s.partCount p j).pins = s.pins := rfl

/-! ## setLane, which changes `lnk` alone -/

@[simp] theorem State.setLane_pending (s : State) (n : Nat) (f : Lane → Lane) : (s.setLane n f).pending = s.pending := rfl
@[simp] theorem State.setLane_out (s : State) (n : Nat) (f : Lane → Lane) : (s.setLane n f).out = s.out := rfl
@[simp] theorem State.setLane_free (s : State) (n : Nat) (f : Lane → Lane) : (s.setLane n f).free = s.free := rfl
@[simp] theorem State.setLane_beat (s : State) (n : Nat) (f : Lane → Lane) : (s.setLane n f).beat = s.beat := rfl
@[simp] theorem State.setLane_regs (s : State) (n : Nat) (f : Lane → Lane) : (s.setLane n f).regs = s.regs := rfl
@[simp] theorem State.setLane_stn (s : State) (n : Nat) (f : Lane → Lane) : (s.setLane n f).stn = s.stn := rfl
@[simp] theorem State.setLane_tbl (s : State) (n : Nat) (f : Lane → Lane) : (s.setLane n f).tbl = s.tbl := rfl
@[simp] theorem State.setLane_net (s : State) (n : Nat) (f : Lane → Lane) : (s.setLane n f).net = s.net := rfl
@[simp] theorem State.setLane_buf (s : State) (n : Nat) (f : Lane → Lane) : (s.setLane n f).buf = s.buf := rfl
@[simp] theorem State.setLane_q (s : State) (n : Nat) (f : Lane → Lane) : (s.setLane n f).q = s.q := rfl
@[simp] theorem State.setLane_opt (s : State) (n : Nat) (f : Lane → Lane) : (s.setLane n f).opt = s.opt := rfl
@[simp] theorem State.setLane_byp (s : State) (n : Nat) (f : Lane → Lane) : (s.setLane n f).byp = s.byp := rfl
@[simp] theorem State.setLane_part (s : State) (n : Nat) (f : Lane → Lane) : (s.setLane n f).part = s.part := rfl
@[simp] theorem State.setLane_cnt (s : State) (n : Nat) (f : Lane → Lane) : (s.setLane n f).cnt = s.cnt := rfl
@[simp] theorem State.setLane_host (s : State) (n : Nat) (f : Lane → Lane) : (s.setLane n f).host = s.host := rfl
@[simp] theorem State.setLane_mem (s : State) (n : Nat) (f : Lane → Lane) : (s.setLane n f).mem = s.mem := rfl
@[simp] theorem State.setLane_coll (s : State) (n : Nat) (f : Lane → Lane) : (s.setLane n f).coll = s.coll := rfl
@[simp] theorem State.setLane_red (s : State) (n : Nat) (f : Lane → Lane) : (s.setLane n f).red = s.red := rfl
@[simp] theorem State.setLane_time (s : State) (n : Nat) (f : Lane → Lane) : (s.setLane n f).time = s.time := rfl
@[simp] theorem State.setLane_pwr (s : State) (n : Nat) (f : Lane → Lane) : (s.setLane n f).pwr = s.pwr := rfl
@[simp] theorem State.setLane_boot (s : State) (n : Nat) (f : Lane → Lane) : (s.setLane n f).boot = s.boot := rfl
@[simp] theorem State.setLane_pins (s : State) (n : Nat) (f : Lane → Lane) : (s.setLane n f).pins = s.pins := rfl

/-! ## setPfc, which changes `lnk` alone -/

@[simp] theorem State.setPfc_pending (s : State) (p : Nat) (f : Pfc → Pfc) : (s.setPfc p f).pending = s.pending := rfl
@[simp] theorem State.setPfc_out (s : State) (p : Nat) (f : Pfc → Pfc) : (s.setPfc p f).out = s.out := rfl
@[simp] theorem State.setPfc_free (s : State) (p : Nat) (f : Pfc → Pfc) : (s.setPfc p f).free = s.free := rfl
@[simp] theorem State.setPfc_beat (s : State) (p : Nat) (f : Pfc → Pfc) : (s.setPfc p f).beat = s.beat := rfl
@[simp] theorem State.setPfc_regs (s : State) (p : Nat) (f : Pfc → Pfc) : (s.setPfc p f).regs = s.regs := rfl
@[simp] theorem State.setPfc_stn (s : State) (p : Nat) (f : Pfc → Pfc) : (s.setPfc p f).stn = s.stn := rfl
@[simp] theorem State.setPfc_tbl (s : State) (p : Nat) (f : Pfc → Pfc) : (s.setPfc p f).tbl = s.tbl := rfl
@[simp] theorem State.setPfc_net (s : State) (p : Nat) (f : Pfc → Pfc) : (s.setPfc p f).net = s.net := rfl
@[simp] theorem State.setPfc_buf (s : State) (p : Nat) (f : Pfc → Pfc) : (s.setPfc p f).buf = s.buf := rfl
@[simp] theorem State.setPfc_q (s : State) (p : Nat) (f : Pfc → Pfc) : (s.setPfc p f).q = s.q := rfl
@[simp] theorem State.setPfc_opt (s : State) (p : Nat) (f : Pfc → Pfc) : (s.setPfc p f).opt = s.opt := rfl
@[simp] theorem State.setPfc_byp (s : State) (p : Nat) (f : Pfc → Pfc) : (s.setPfc p f).byp = s.byp := rfl
@[simp] theorem State.setPfc_part (s : State) (p : Nat) (f : Pfc → Pfc) : (s.setPfc p f).part = s.part := rfl
@[simp] theorem State.setPfc_cnt (s : State) (p : Nat) (f : Pfc → Pfc) : (s.setPfc p f).cnt = s.cnt := rfl
@[simp] theorem State.setPfc_host (s : State) (p : Nat) (f : Pfc → Pfc) : (s.setPfc p f).host = s.host := rfl
@[simp] theorem State.setPfc_mem (s : State) (p : Nat) (f : Pfc → Pfc) : (s.setPfc p f).mem = s.mem := rfl
@[simp] theorem State.setPfc_coll (s : State) (p : Nat) (f : Pfc → Pfc) : (s.setPfc p f).coll = s.coll := rfl
@[simp] theorem State.setPfc_red (s : State) (p : Nat) (f : Pfc → Pfc) : (s.setPfc p f).red = s.red := rfl
@[simp] theorem State.setPfc_time (s : State) (p : Nat) (f : Pfc → Pfc) : (s.setPfc p f).time = s.time := rfl
@[simp] theorem State.setPfc_pwr (s : State) (p : Nat) (f : Pfc → Pfc) : (s.setPfc p f).pwr = s.pwr := rfl
@[simp] theorem State.setPfc_boot (s : State) (p : Nat) (f : Pfc → Pfc) : (s.setPfc p f).boot = s.boot := rfl
@[simp] theorem State.setPfc_pins (s : State) (p : Nat) (f : Pfc → Pfc) : (s.setPfc p f).pins = s.pins := rfl

/-! ## setOpt, which changes `opt` alone -/

@[simp] theorem State.setOpt_pending (s : State) (n : Nat) (f : OptLane → OptLane) : (s.setOpt n f).pending = s.pending := rfl
@[simp] theorem State.setOpt_out (s : State) (n : Nat) (f : OptLane → OptLane) : (s.setOpt n f).out = s.out := rfl
@[simp] theorem State.setOpt_free (s : State) (n : Nat) (f : OptLane → OptLane) : (s.setOpt n f).free = s.free := rfl
@[simp] theorem State.setOpt_beat (s : State) (n : Nat) (f : OptLane → OptLane) : (s.setOpt n f).beat = s.beat := rfl
@[simp] theorem State.setOpt_regs (s : State) (n : Nat) (f : OptLane → OptLane) : (s.setOpt n f).regs = s.regs := rfl
@[simp] theorem State.setOpt_stn (s : State) (n : Nat) (f : OptLane → OptLane) : (s.setOpt n f).stn = s.stn := rfl
@[simp] theorem State.setOpt_tbl (s : State) (n : Nat) (f : OptLane → OptLane) : (s.setOpt n f).tbl = s.tbl := rfl
@[simp] theorem State.setOpt_net (s : State) (n : Nat) (f : OptLane → OptLane) : (s.setOpt n f).net = s.net := rfl
@[simp] theorem State.setOpt_buf (s : State) (n : Nat) (f : OptLane → OptLane) : (s.setOpt n f).buf = s.buf := rfl
@[simp] theorem State.setOpt_q (s : State) (n : Nat) (f : OptLane → OptLane) : (s.setOpt n f).q = s.q := rfl
@[simp] theorem State.setOpt_lnk (s : State) (n : Nat) (f : OptLane → OptLane) : (s.setOpt n f).lnk = s.lnk := rfl
@[simp] theorem State.setOpt_byp (s : State) (n : Nat) (f : OptLane → OptLane) : (s.setOpt n f).byp = s.byp := rfl
@[simp] theorem State.setOpt_part (s : State) (n : Nat) (f : OptLane → OptLane) : (s.setOpt n f).part = s.part := rfl
@[simp] theorem State.setOpt_cnt (s : State) (n : Nat) (f : OptLane → OptLane) : (s.setOpt n f).cnt = s.cnt := rfl
@[simp] theorem State.setOpt_host (s : State) (n : Nat) (f : OptLane → OptLane) : (s.setOpt n f).host = s.host := rfl
@[simp] theorem State.setOpt_mem (s : State) (n : Nat) (f : OptLane → OptLane) : (s.setOpt n f).mem = s.mem := rfl
@[simp] theorem State.setOpt_coll (s : State) (n : Nat) (f : OptLane → OptLane) : (s.setOpt n f).coll = s.coll := rfl
@[simp] theorem State.setOpt_red (s : State) (n : Nat) (f : OptLane → OptLane) : (s.setOpt n f).red = s.red := rfl
@[simp] theorem State.setOpt_time (s : State) (n : Nat) (f : OptLane → OptLane) : (s.setOpt n f).time = s.time := rfl
@[simp] theorem State.setOpt_pwr (s : State) (n : Nat) (f : OptLane → OptLane) : (s.setOpt n f).pwr = s.pwr := rfl
@[simp] theorem State.setOpt_boot (s : State) (n : Nat) (f : OptLane → OptLane) : (s.setOpt n f).boot = s.boot := rfl
@[simp] theorem State.setOpt_pins (s : State) (n : Nat) (f : OptLane → OptLane) : (s.setOpt n f).pins = s.pins := rfl

/-! ## setEngine, which changes `opt` alone -/

@[simp] theorem State.setEngine_pending (s : State) (e : Nat) (f : EngineSt → EngineSt) : (s.setEngine e f).pending = s.pending := rfl
@[simp] theorem State.setEngine_out (s : State) (e : Nat) (f : EngineSt → EngineSt) : (s.setEngine e f).out = s.out := rfl
@[simp] theorem State.setEngine_free (s : State) (e : Nat) (f : EngineSt → EngineSt) : (s.setEngine e f).free = s.free := rfl
@[simp] theorem State.setEngine_beat (s : State) (e : Nat) (f : EngineSt → EngineSt) : (s.setEngine e f).beat = s.beat := rfl
@[simp] theorem State.setEngine_regs (s : State) (e : Nat) (f : EngineSt → EngineSt) : (s.setEngine e f).regs = s.regs := rfl
@[simp] theorem State.setEngine_stn (s : State) (e : Nat) (f : EngineSt → EngineSt) : (s.setEngine e f).stn = s.stn := rfl
@[simp] theorem State.setEngine_tbl (s : State) (e : Nat) (f : EngineSt → EngineSt) : (s.setEngine e f).tbl = s.tbl := rfl
@[simp] theorem State.setEngine_net (s : State) (e : Nat) (f : EngineSt → EngineSt) : (s.setEngine e f).net = s.net := rfl
@[simp] theorem State.setEngine_buf (s : State) (e : Nat) (f : EngineSt → EngineSt) : (s.setEngine e f).buf = s.buf := rfl
@[simp] theorem State.setEngine_q (s : State) (e : Nat) (f : EngineSt → EngineSt) : (s.setEngine e f).q = s.q := rfl
@[simp] theorem State.setEngine_lnk (s : State) (e : Nat) (f : EngineSt → EngineSt) : (s.setEngine e f).lnk = s.lnk := rfl
@[simp] theorem State.setEngine_byp (s : State) (e : Nat) (f : EngineSt → EngineSt) : (s.setEngine e f).byp = s.byp := rfl
@[simp] theorem State.setEngine_part (s : State) (e : Nat) (f : EngineSt → EngineSt) : (s.setEngine e f).part = s.part := rfl
@[simp] theorem State.setEngine_cnt (s : State) (e : Nat) (f : EngineSt → EngineSt) : (s.setEngine e f).cnt = s.cnt := rfl
@[simp] theorem State.setEngine_host (s : State) (e : Nat) (f : EngineSt → EngineSt) : (s.setEngine e f).host = s.host := rfl
@[simp] theorem State.setEngine_mem (s : State) (e : Nat) (f : EngineSt → EngineSt) : (s.setEngine e f).mem = s.mem := rfl
@[simp] theorem State.setEngine_coll (s : State) (e : Nat) (f : EngineSt → EngineSt) : (s.setEngine e f).coll = s.coll := rfl
@[simp] theorem State.setEngine_red (s : State) (e : Nat) (f : EngineSt → EngineSt) : (s.setEngine e f).red = s.red := rfl
@[simp] theorem State.setEngine_time (s : State) (e : Nat) (f : EngineSt → EngineSt) : (s.setEngine e f).time = s.time := rfl
@[simp] theorem State.setEngine_pwr (s : State) (e : Nat) (f : EngineSt → EngineSt) : (s.setEngine e f).pwr = s.pwr := rfl
@[simp] theorem State.setEngine_boot (s : State) (e : Nat) (f : EngineSt → EngineSt) : (s.setEngine e f).boot = s.boot := rfl
@[simp] theorem State.setEngine_pins (s : State) (e : Nat) (f : EngineSt → EngineSt) : (s.setEngine e f).pins = s.pins := rfl

/-! ## setPlane, which changes `byp` alone -/

@[simp] theorem State.setPlane_pending (s : State) (w : Nat) (f : Plane → Plane) : (s.setPlane w f).pending = s.pending := rfl
@[simp] theorem State.setPlane_out (s : State) (w : Nat) (f : Plane → Plane) : (s.setPlane w f).out = s.out := rfl
@[simp] theorem State.setPlane_free (s : State) (w : Nat) (f : Plane → Plane) : (s.setPlane w f).free = s.free := rfl
@[simp] theorem State.setPlane_beat (s : State) (w : Nat) (f : Plane → Plane) : (s.setPlane w f).beat = s.beat := rfl
@[simp] theorem State.setPlane_regs (s : State) (w : Nat) (f : Plane → Plane) : (s.setPlane w f).regs = s.regs := rfl
@[simp] theorem State.setPlane_stn (s : State) (w : Nat) (f : Plane → Plane) : (s.setPlane w f).stn = s.stn := rfl
@[simp] theorem State.setPlane_tbl (s : State) (w : Nat) (f : Plane → Plane) : (s.setPlane w f).tbl = s.tbl := rfl
@[simp] theorem State.setPlane_net (s : State) (w : Nat) (f : Plane → Plane) : (s.setPlane w f).net = s.net := rfl
@[simp] theorem State.setPlane_buf (s : State) (w : Nat) (f : Plane → Plane) : (s.setPlane w f).buf = s.buf := rfl
@[simp] theorem State.setPlane_q (s : State) (w : Nat) (f : Plane → Plane) : (s.setPlane w f).q = s.q := rfl
@[simp] theorem State.setPlane_lnk (s : State) (w : Nat) (f : Plane → Plane) : (s.setPlane w f).lnk = s.lnk := rfl
@[simp] theorem State.setPlane_opt (s : State) (w : Nat) (f : Plane → Plane) : (s.setPlane w f).opt = s.opt := rfl
@[simp] theorem State.setPlane_part (s : State) (w : Nat) (f : Plane → Plane) : (s.setPlane w f).part = s.part := rfl
@[simp] theorem State.setPlane_cnt (s : State) (w : Nat) (f : Plane → Plane) : (s.setPlane w f).cnt = s.cnt := rfl
@[simp] theorem State.setPlane_host (s : State) (w : Nat) (f : Plane → Plane) : (s.setPlane w f).host = s.host := rfl
@[simp] theorem State.setPlane_mem (s : State) (w : Nat) (f : Plane → Plane) : (s.setPlane w f).mem = s.mem := rfl
@[simp] theorem State.setPlane_coll (s : State) (w : Nat) (f : Plane → Plane) : (s.setPlane w f).coll = s.coll := rfl
@[simp] theorem State.setPlane_red (s : State) (w : Nat) (f : Plane → Plane) : (s.setPlane w f).red = s.red := rfl
@[simp] theorem State.setPlane_time (s : State) (w : Nat) (f : Plane → Plane) : (s.setPlane w f).time = s.time := rfl
@[simp] theorem State.setPlane_pwr (s : State) (w : Nat) (f : Plane → Plane) : (s.setPlane w f).pwr = s.pwr := rfl
@[simp] theorem State.setPlane_boot (s : State) (w : Nat) (f : Plane → Plane) : (s.setPlane w f).boot = s.boot := rfl
@[simp] theorem State.setPlane_pins (s : State) (w : Nat) (f : Plane → Plane) : (s.setPlane w f).pins = s.pins := rfl

/-! ## setBleaf, which changes `byp` alone -/

@[simp] theorem State.setBleaf_pending (s : State) (n : Nat) (f : BypLeaf → BypLeaf) : (s.setBleaf n f).pending = s.pending := rfl
@[simp] theorem State.setBleaf_out (s : State) (n : Nat) (f : BypLeaf → BypLeaf) : (s.setBleaf n f).out = s.out := rfl
@[simp] theorem State.setBleaf_free (s : State) (n : Nat) (f : BypLeaf → BypLeaf) : (s.setBleaf n f).free = s.free := rfl
@[simp] theorem State.setBleaf_beat (s : State) (n : Nat) (f : BypLeaf → BypLeaf) : (s.setBleaf n f).beat = s.beat := rfl
@[simp] theorem State.setBleaf_regs (s : State) (n : Nat) (f : BypLeaf → BypLeaf) : (s.setBleaf n f).regs = s.regs := rfl
@[simp] theorem State.setBleaf_stn (s : State) (n : Nat) (f : BypLeaf → BypLeaf) : (s.setBleaf n f).stn = s.stn := rfl
@[simp] theorem State.setBleaf_tbl (s : State) (n : Nat) (f : BypLeaf → BypLeaf) : (s.setBleaf n f).tbl = s.tbl := rfl
@[simp] theorem State.setBleaf_net (s : State) (n : Nat) (f : BypLeaf → BypLeaf) : (s.setBleaf n f).net = s.net := rfl
@[simp] theorem State.setBleaf_buf (s : State) (n : Nat) (f : BypLeaf → BypLeaf) : (s.setBleaf n f).buf = s.buf := rfl
@[simp] theorem State.setBleaf_q (s : State) (n : Nat) (f : BypLeaf → BypLeaf) : (s.setBleaf n f).q = s.q := rfl
@[simp] theorem State.setBleaf_lnk (s : State) (n : Nat) (f : BypLeaf → BypLeaf) : (s.setBleaf n f).lnk = s.lnk := rfl
@[simp] theorem State.setBleaf_opt (s : State) (n : Nat) (f : BypLeaf → BypLeaf) : (s.setBleaf n f).opt = s.opt := rfl
@[simp] theorem State.setBleaf_part (s : State) (n : Nat) (f : BypLeaf → BypLeaf) : (s.setBleaf n f).part = s.part := rfl
@[simp] theorem State.setBleaf_cnt (s : State) (n : Nat) (f : BypLeaf → BypLeaf) : (s.setBleaf n f).cnt = s.cnt := rfl
@[simp] theorem State.setBleaf_host (s : State) (n : Nat) (f : BypLeaf → BypLeaf) : (s.setBleaf n f).host = s.host := rfl
@[simp] theorem State.setBleaf_mem (s : State) (n : Nat) (f : BypLeaf → BypLeaf) : (s.setBleaf n f).mem = s.mem := rfl
@[simp] theorem State.setBleaf_coll (s : State) (n : Nat) (f : BypLeaf → BypLeaf) : (s.setBleaf n f).coll = s.coll := rfl
@[simp] theorem State.setBleaf_red (s : State) (n : Nat) (f : BypLeaf → BypLeaf) : (s.setBleaf n f).red = s.red := rfl
@[simp] theorem State.setBleaf_time (s : State) (n : Nat) (f : BypLeaf → BypLeaf) : (s.setBleaf n f).time = s.time := rfl
@[simp] theorem State.setBleaf_pwr (s : State) (n : Nat) (f : BypLeaf → BypLeaf) : (s.setBleaf n f).pwr = s.pwr := rfl
@[simp] theorem State.setBleaf_boot (s : State) (n : Nat) (f : BypLeaf → BypLeaf) : (s.setBleaf n f).boot = s.boot := rfl
@[simp] theorem State.setBleaf_pins (s : State) (n : Nat) (f : BypLeaf → BypLeaf) : (s.setBleaf n f).pins = s.pins := rfl

/-! ## setCtx, which changes `coll` alone -/

@[simp] theorem State.setCtx_pending (s : State) (i : Nat) (c : Option Context) : (s.setCtx i c).pending = s.pending := rfl
@[simp] theorem State.setCtx_out (s : State) (i : Nat) (c : Option Context) : (s.setCtx i c).out = s.out := rfl
@[simp] theorem State.setCtx_free (s : State) (i : Nat) (c : Option Context) : (s.setCtx i c).free = s.free := rfl
@[simp] theorem State.setCtx_beat (s : State) (i : Nat) (c : Option Context) : (s.setCtx i c).beat = s.beat := rfl
@[simp] theorem State.setCtx_regs (s : State) (i : Nat) (c : Option Context) : (s.setCtx i c).regs = s.regs := rfl
@[simp] theorem State.setCtx_stn (s : State) (i : Nat) (c : Option Context) : (s.setCtx i c).stn = s.stn := rfl
@[simp] theorem State.setCtx_tbl (s : State) (i : Nat) (c : Option Context) : (s.setCtx i c).tbl = s.tbl := rfl
@[simp] theorem State.setCtx_net (s : State) (i : Nat) (c : Option Context) : (s.setCtx i c).net = s.net := rfl
@[simp] theorem State.setCtx_buf (s : State) (i : Nat) (c : Option Context) : (s.setCtx i c).buf = s.buf := rfl
@[simp] theorem State.setCtx_q (s : State) (i : Nat) (c : Option Context) : (s.setCtx i c).q = s.q := rfl
@[simp] theorem State.setCtx_lnk (s : State) (i : Nat) (c : Option Context) : (s.setCtx i c).lnk = s.lnk := rfl
@[simp] theorem State.setCtx_opt (s : State) (i : Nat) (c : Option Context) : (s.setCtx i c).opt = s.opt := rfl
@[simp] theorem State.setCtx_byp (s : State) (i : Nat) (c : Option Context) : (s.setCtx i c).byp = s.byp := rfl
@[simp] theorem State.setCtx_part (s : State) (i : Nat) (c : Option Context) : (s.setCtx i c).part = s.part := rfl
@[simp] theorem State.setCtx_cnt (s : State) (i : Nat) (c : Option Context) : (s.setCtx i c).cnt = s.cnt := rfl
@[simp] theorem State.setCtx_host (s : State) (i : Nat) (c : Option Context) : (s.setCtx i c).host = s.host := rfl
@[simp] theorem State.setCtx_mem (s : State) (i : Nat) (c : Option Context) : (s.setCtx i c).mem = s.mem := rfl
@[simp] theorem State.setCtx_red (s : State) (i : Nat) (c : Option Context) : (s.setCtx i c).red = s.red := rfl
@[simp] theorem State.setCtx_time (s : State) (i : Nat) (c : Option Context) : (s.setCtx i c).time = s.time := rfl
@[simp] theorem State.setCtx_pwr (s : State) (i : Nat) (c : Option Context) : (s.setCtx i c).pwr = s.pwr := rfl
@[simp] theorem State.setCtx_boot (s : State) (i : Nat) (c : Option Context) : (s.setCtx i c).boot = s.boot := rfl
@[simp] theorem State.setCtx_pins (s : State) (i : Nat) (c : Option Context) : (s.setCtx i c).pins = s.pins := rfl

/-! ## setCring, which changes `host` alone -/

@[simp] theorem State.setCring_pending (s : State) (r : Nat) (f : CmdRing → CmdRing) : (s.setCring r f).pending = s.pending := rfl
@[simp] theorem State.setCring_out (s : State) (r : Nat) (f : CmdRing → CmdRing) : (s.setCring r f).out = s.out := rfl
@[simp] theorem State.setCring_free (s : State) (r : Nat) (f : CmdRing → CmdRing) : (s.setCring r f).free = s.free := rfl
@[simp] theorem State.setCring_beat (s : State) (r : Nat) (f : CmdRing → CmdRing) : (s.setCring r f).beat = s.beat := rfl
@[simp] theorem State.setCring_regs (s : State) (r : Nat) (f : CmdRing → CmdRing) : (s.setCring r f).regs = s.regs := rfl
@[simp] theorem State.setCring_stn (s : State) (r : Nat) (f : CmdRing → CmdRing) : (s.setCring r f).stn = s.stn := rfl
@[simp] theorem State.setCring_tbl (s : State) (r : Nat) (f : CmdRing → CmdRing) : (s.setCring r f).tbl = s.tbl := rfl
@[simp] theorem State.setCring_net (s : State) (r : Nat) (f : CmdRing → CmdRing) : (s.setCring r f).net = s.net := rfl
@[simp] theorem State.setCring_buf (s : State) (r : Nat) (f : CmdRing → CmdRing) : (s.setCring r f).buf = s.buf := rfl
@[simp] theorem State.setCring_q (s : State) (r : Nat) (f : CmdRing → CmdRing) : (s.setCring r f).q = s.q := rfl
@[simp] theorem State.setCring_lnk (s : State) (r : Nat) (f : CmdRing → CmdRing) : (s.setCring r f).lnk = s.lnk := rfl
@[simp] theorem State.setCring_opt (s : State) (r : Nat) (f : CmdRing → CmdRing) : (s.setCring r f).opt = s.opt := rfl
@[simp] theorem State.setCring_byp (s : State) (r : Nat) (f : CmdRing → CmdRing) : (s.setCring r f).byp = s.byp := rfl
@[simp] theorem State.setCring_part (s : State) (r : Nat) (f : CmdRing → CmdRing) : (s.setCring r f).part = s.part := rfl
@[simp] theorem State.setCring_cnt (s : State) (r : Nat) (f : CmdRing → CmdRing) : (s.setCring r f).cnt = s.cnt := rfl
@[simp] theorem State.setCring_mem (s : State) (r : Nat) (f : CmdRing → CmdRing) : (s.setCring r f).mem = s.mem := rfl
@[simp] theorem State.setCring_coll (s : State) (r : Nat) (f : CmdRing → CmdRing) : (s.setCring r f).coll = s.coll := rfl
@[simp] theorem State.setCring_red (s : State) (r : Nat) (f : CmdRing → CmdRing) : (s.setCring r f).red = s.red := rfl
@[simp] theorem State.setCring_time (s : State) (r : Nat) (f : CmdRing → CmdRing) : (s.setCring r f).time = s.time := rfl
@[simp] theorem State.setCring_pwr (s : State) (r : Nat) (f : CmdRing → CmdRing) : (s.setCring r f).pwr = s.pwr := rfl
@[simp] theorem State.setCring_boot (s : State) (r : Nat) (f : CmdRing → CmdRing) : (s.setCring r f).boot = s.boot := rfl
@[simp] theorem State.setCring_pins (s : State) (r : Nat) (f : CmdRing → CmdRing) : (s.setCring r f).pins = s.pins := rfl

/-! ## setRing, which changes `host` alone -/

@[simp] theorem State.setRing_pending (s : State) (r : Nat) (f : D2hRing → D2hRing) : (s.setRing r f).pending = s.pending := rfl
@[simp] theorem State.setRing_out (s : State) (r : Nat) (f : D2hRing → D2hRing) : (s.setRing r f).out = s.out := rfl
@[simp] theorem State.setRing_free (s : State) (r : Nat) (f : D2hRing → D2hRing) : (s.setRing r f).free = s.free := rfl
@[simp] theorem State.setRing_beat (s : State) (r : Nat) (f : D2hRing → D2hRing) : (s.setRing r f).beat = s.beat := rfl
@[simp] theorem State.setRing_regs (s : State) (r : Nat) (f : D2hRing → D2hRing) : (s.setRing r f).regs = s.regs := rfl
@[simp] theorem State.setRing_stn (s : State) (r : Nat) (f : D2hRing → D2hRing) : (s.setRing r f).stn = s.stn := rfl
@[simp] theorem State.setRing_tbl (s : State) (r : Nat) (f : D2hRing → D2hRing) : (s.setRing r f).tbl = s.tbl := rfl
@[simp] theorem State.setRing_net (s : State) (r : Nat) (f : D2hRing → D2hRing) : (s.setRing r f).net = s.net := rfl
@[simp] theorem State.setRing_buf (s : State) (r : Nat) (f : D2hRing → D2hRing) : (s.setRing r f).buf = s.buf := rfl
@[simp] theorem State.setRing_q (s : State) (r : Nat) (f : D2hRing → D2hRing) : (s.setRing r f).q = s.q := rfl
@[simp] theorem State.setRing_lnk (s : State) (r : Nat) (f : D2hRing → D2hRing) : (s.setRing r f).lnk = s.lnk := rfl
@[simp] theorem State.setRing_opt (s : State) (r : Nat) (f : D2hRing → D2hRing) : (s.setRing r f).opt = s.opt := rfl
@[simp] theorem State.setRing_byp (s : State) (r : Nat) (f : D2hRing → D2hRing) : (s.setRing r f).byp = s.byp := rfl
@[simp] theorem State.setRing_part (s : State) (r : Nat) (f : D2hRing → D2hRing) : (s.setRing r f).part = s.part := rfl
@[simp] theorem State.setRing_cnt (s : State) (r : Nat) (f : D2hRing → D2hRing) : (s.setRing r f).cnt = s.cnt := rfl
@[simp] theorem State.setRing_mem (s : State) (r : Nat) (f : D2hRing → D2hRing) : (s.setRing r f).mem = s.mem := rfl
@[simp] theorem State.setRing_coll (s : State) (r : Nat) (f : D2hRing → D2hRing) : (s.setRing r f).coll = s.coll := rfl
@[simp] theorem State.setRing_red (s : State) (r : Nat) (f : D2hRing → D2hRing) : (s.setRing r f).red = s.red := rfl
@[simp] theorem State.setRing_time (s : State) (r : Nat) (f : D2hRing → D2hRing) : (s.setRing r f).time = s.time := rfl
@[simp] theorem State.setRing_pwr (s : State) (r : Nat) (f : D2hRing → D2hRing) : (s.setRing r f).pwr = s.pwr := rfl
@[simp] theorem State.setRing_boot (s : State) (r : Nat) (f : D2hRing → D2hRing) : (s.setRing r f).boot = s.boot := rfl
@[simp] theorem State.setRing_pins (s : State) (r : Nat) (f : D2hRing → D2hRing) : (s.setRing r f).pins = s.pins := rfl

/-! ## setDom, which changes `pwr` alone -/

@[simp] theorem State.setDom_pending (s : State) (d : Nat) (f : Dom → Dom) : (s.setDom d f).pending = s.pending := rfl
@[simp] theorem State.setDom_out (s : State) (d : Nat) (f : Dom → Dom) : (s.setDom d f).out = s.out := rfl
@[simp] theorem State.setDom_free (s : State) (d : Nat) (f : Dom → Dom) : (s.setDom d f).free = s.free := rfl
@[simp] theorem State.setDom_beat (s : State) (d : Nat) (f : Dom → Dom) : (s.setDom d f).beat = s.beat := rfl
@[simp] theorem State.setDom_regs (s : State) (d : Nat) (f : Dom → Dom) : (s.setDom d f).regs = s.regs := rfl
@[simp] theorem State.setDom_stn (s : State) (d : Nat) (f : Dom → Dom) : (s.setDom d f).stn = s.stn := rfl
@[simp] theorem State.setDom_tbl (s : State) (d : Nat) (f : Dom → Dom) : (s.setDom d f).tbl = s.tbl := rfl
@[simp] theorem State.setDom_net (s : State) (d : Nat) (f : Dom → Dom) : (s.setDom d f).net = s.net := rfl
@[simp] theorem State.setDom_buf (s : State) (d : Nat) (f : Dom → Dom) : (s.setDom d f).buf = s.buf := rfl
@[simp] theorem State.setDom_q (s : State) (d : Nat) (f : Dom → Dom) : (s.setDom d f).q = s.q := rfl
@[simp] theorem State.setDom_lnk (s : State) (d : Nat) (f : Dom → Dom) : (s.setDom d f).lnk = s.lnk := rfl
@[simp] theorem State.setDom_opt (s : State) (d : Nat) (f : Dom → Dom) : (s.setDom d f).opt = s.opt := rfl
@[simp] theorem State.setDom_byp (s : State) (d : Nat) (f : Dom → Dom) : (s.setDom d f).byp = s.byp := rfl
@[simp] theorem State.setDom_part (s : State) (d : Nat) (f : Dom → Dom) : (s.setDom d f).part = s.part := rfl
@[simp] theorem State.setDom_cnt (s : State) (d : Nat) (f : Dom → Dom) : (s.setDom d f).cnt = s.cnt := rfl
@[simp] theorem State.setDom_host (s : State) (d : Nat) (f : Dom → Dom) : (s.setDom d f).host = s.host := rfl
@[simp] theorem State.setDom_mem (s : State) (d : Nat) (f : Dom → Dom) : (s.setDom d f).mem = s.mem := rfl
@[simp] theorem State.setDom_coll (s : State) (d : Nat) (f : Dom → Dom) : (s.setDom d f).coll = s.coll := rfl
@[simp] theorem State.setDom_red (s : State) (d : Nat) (f : Dom → Dom) : (s.setDom d f).red = s.red := rfl
@[simp] theorem State.setDom_time (s : State) (d : Nat) (f : Dom → Dom) : (s.setDom d f).time = s.time := rfl
@[simp] theorem State.setDom_boot (s : State) (d : Nat) (f : Dom → Dom) : (s.setDom d f).boot = s.boot := rfl
@[simp] theorem State.setDom_pins (s : State) (d : Nat) (f : Dom → Dom) : (s.setDom d f).pins = s.pins := rfl

/-! ## setBoot, which changes `boot` alone -/

@[simp] theorem State.setBoot_pending (s : State) (f : BootState → BootState) : (s.setBoot f).pending = s.pending := rfl
@[simp] theorem State.setBoot_out (s : State) (f : BootState → BootState) : (s.setBoot f).out = s.out := rfl
@[simp] theorem State.setBoot_free (s : State) (f : BootState → BootState) : (s.setBoot f).free = s.free := rfl
@[simp] theorem State.setBoot_beat (s : State) (f : BootState → BootState) : (s.setBoot f).beat = s.beat := rfl
@[simp] theorem State.setBoot_regs (s : State) (f : BootState → BootState) : (s.setBoot f).regs = s.regs := rfl
@[simp] theorem State.setBoot_stn (s : State) (f : BootState → BootState) : (s.setBoot f).stn = s.stn := rfl
@[simp] theorem State.setBoot_tbl (s : State) (f : BootState → BootState) : (s.setBoot f).tbl = s.tbl := rfl
@[simp] theorem State.setBoot_net (s : State) (f : BootState → BootState) : (s.setBoot f).net = s.net := rfl
@[simp] theorem State.setBoot_buf (s : State) (f : BootState → BootState) : (s.setBoot f).buf = s.buf := rfl
@[simp] theorem State.setBoot_q (s : State) (f : BootState → BootState) : (s.setBoot f).q = s.q := rfl
@[simp] theorem State.setBoot_lnk (s : State) (f : BootState → BootState) : (s.setBoot f).lnk = s.lnk := rfl
@[simp] theorem State.setBoot_opt (s : State) (f : BootState → BootState) : (s.setBoot f).opt = s.opt := rfl
@[simp] theorem State.setBoot_byp (s : State) (f : BootState → BootState) : (s.setBoot f).byp = s.byp := rfl
@[simp] theorem State.setBoot_part (s : State) (f : BootState → BootState) : (s.setBoot f).part = s.part := rfl
@[simp] theorem State.setBoot_cnt (s : State) (f : BootState → BootState) : (s.setBoot f).cnt = s.cnt := rfl
@[simp] theorem State.setBoot_host (s : State) (f : BootState → BootState) : (s.setBoot f).host = s.host := rfl
@[simp] theorem State.setBoot_mem (s : State) (f : BootState → BootState) : (s.setBoot f).mem = s.mem := rfl
@[simp] theorem State.setBoot_coll (s : State) (f : BootState → BootState) : (s.setBoot f).coll = s.coll := rfl
@[simp] theorem State.setBoot_red (s : State) (f : BootState → BootState) : (s.setBoot f).red = s.red := rfl
@[simp] theorem State.setBoot_time (s : State) (f : BootState → BootState) : (s.setBoot f).time = s.time := rfl
@[simp] theorem State.setBoot_pwr (s : State) (f : BootState → BootState) : (s.setBoot f).pwr = s.pwr := rfl
@[simp] theorem State.setBoot_pins (s : State) (f : BootState → BootState) : (s.setBoot f).pins = s.pins := rfl

/-! ## setIr, which changes `pins` alone -/

@[simp] theorem State.setIr_pending (s : State) (c : Nat) : (s.setIr c).pending = s.pending := rfl
@[simp] theorem State.setIr_out (s : State) (c : Nat) : (s.setIr c).out = s.out := rfl
@[simp] theorem State.setIr_free (s : State) (c : Nat) : (s.setIr c).free = s.free := rfl
@[simp] theorem State.setIr_beat (s : State) (c : Nat) : (s.setIr c).beat = s.beat := rfl
@[simp] theorem State.setIr_regs (s : State) (c : Nat) : (s.setIr c).regs = s.regs := rfl
@[simp] theorem State.setIr_stn (s : State) (c : Nat) : (s.setIr c).stn = s.stn := rfl
@[simp] theorem State.setIr_tbl (s : State) (c : Nat) : (s.setIr c).tbl = s.tbl := rfl
@[simp] theorem State.setIr_net (s : State) (c : Nat) : (s.setIr c).net = s.net := rfl
@[simp] theorem State.setIr_buf (s : State) (c : Nat) : (s.setIr c).buf = s.buf := rfl
@[simp] theorem State.setIr_q (s : State) (c : Nat) : (s.setIr c).q = s.q := rfl
@[simp] theorem State.setIr_lnk (s : State) (c : Nat) : (s.setIr c).lnk = s.lnk := rfl
@[simp] theorem State.setIr_opt (s : State) (c : Nat) : (s.setIr c).opt = s.opt := rfl
@[simp] theorem State.setIr_byp (s : State) (c : Nat) : (s.setIr c).byp = s.byp := rfl
@[simp] theorem State.setIr_part (s : State) (c : Nat) : (s.setIr c).part = s.part := rfl
@[simp] theorem State.setIr_cnt (s : State) (c : Nat) : (s.setIr c).cnt = s.cnt := rfl
@[simp] theorem State.setIr_host (s : State) (c : Nat) : (s.setIr c).host = s.host := rfl
@[simp] theorem State.setIr_mem (s : State) (c : Nat) : (s.setIr c).mem = s.mem := rfl
@[simp] theorem State.setIr_coll (s : State) (c : Nat) : (s.setIr c).coll = s.coll := rfl
@[simp] theorem State.setIr_red (s : State) (c : Nat) : (s.setIr c).red = s.red := rfl
@[simp] theorem State.setIr_time (s : State) (c : Nat) : (s.setIr c).time = s.time := rfl
@[simp] theorem State.setIr_pwr (s : State) (c : Nat) : (s.setIr c).pwr = s.pwr := rfl
@[simp] theorem State.setIr_boot (s : State) (c : Nat) : (s.setIr c).boot = s.boot := rfl

/-! ## toReturn, which changes `net` alone -/

@[simp] theorem State.toReturn_pending (s : State) (r : Ret) : (s.toReturn r).pending = s.pending := rfl
@[simp] theorem State.toReturn_out (s : State) (r : Ret) : (s.toReturn r).out = s.out := rfl
@[simp] theorem State.toReturn_free (s : State) (r : Ret) : (s.toReturn r).free = s.free := rfl
@[simp] theorem State.toReturn_beat (s : State) (r : Ret) : (s.toReturn r).beat = s.beat := rfl
@[simp] theorem State.toReturn_regs (s : State) (r : Ret) : (s.toReturn r).regs = s.regs := rfl
@[simp] theorem State.toReturn_stn (s : State) (r : Ret) : (s.toReturn r).stn = s.stn := rfl
@[simp] theorem State.toReturn_tbl (s : State) (r : Ret) : (s.toReturn r).tbl = s.tbl := rfl
@[simp] theorem State.toReturn_buf (s : State) (r : Ret) : (s.toReturn r).buf = s.buf := rfl
@[simp] theorem State.toReturn_q (s : State) (r : Ret) : (s.toReturn r).q = s.q := rfl
@[simp] theorem State.toReturn_lnk (s : State) (r : Ret) : (s.toReturn r).lnk = s.lnk := rfl
@[simp] theorem State.toReturn_opt (s : State) (r : Ret) : (s.toReturn r).opt = s.opt := rfl
@[simp] theorem State.toReturn_byp (s : State) (r : Ret) : (s.toReturn r).byp = s.byp := rfl
@[simp] theorem State.toReturn_part (s : State) (r : Ret) : (s.toReturn r).part = s.part := rfl
@[simp] theorem State.toReturn_cnt (s : State) (r : Ret) : (s.toReturn r).cnt = s.cnt := rfl
@[simp] theorem State.toReturn_host (s : State) (r : Ret) : (s.toReturn r).host = s.host := rfl
@[simp] theorem State.toReturn_mem (s : State) (r : Ret) : (s.toReturn r).mem = s.mem := rfl
@[simp] theorem State.toReturn_coll (s : State) (r : Ret) : (s.toReturn r).coll = s.coll := rfl
@[simp] theorem State.toReturn_red (s : State) (r : Ret) : (s.toReturn r).red = s.red := rfl
@[simp] theorem State.toReturn_time (s : State) (r : Ret) : (s.toReturn r).time = s.time := rfl
@[simp] theorem State.toReturn_pwr (s : State) (r : Ret) : (s.toReturn r).pwr = s.pwr := rfl
@[simp] theorem State.toReturn_boot (s : State) (r : Ret) : (s.toReturn r).boot = s.boot := rfl
@[simp] theorem State.toReturn_pins (s : State) (r : Ret) : (s.toReturn r).pins = s.pins := rfl

/-! ## setFt, which changes `red` alone -/

@[simp] theorem State.setFt_pending (s : State) (f : FieldTest → FieldTest) : (s.setFt f).pending = s.pending := rfl
@[simp] theorem State.setFt_out (s : State) (f : FieldTest → FieldTest) : (s.setFt f).out = s.out := rfl
@[simp] theorem State.setFt_free (s : State) (f : FieldTest → FieldTest) : (s.setFt f).free = s.free := rfl
@[simp] theorem State.setFt_beat (s : State) (f : FieldTest → FieldTest) : (s.setFt f).beat = s.beat := rfl
@[simp] theorem State.setFt_regs (s : State) (f : FieldTest → FieldTest) : (s.setFt f).regs = s.regs := rfl
@[simp] theorem State.setFt_stn (s : State) (f : FieldTest → FieldTest) : (s.setFt f).stn = s.stn := rfl
@[simp] theorem State.setFt_tbl (s : State) (f : FieldTest → FieldTest) : (s.setFt f).tbl = s.tbl := rfl
@[simp] theorem State.setFt_net (s : State) (f : FieldTest → FieldTest) : (s.setFt f).net = s.net := rfl
@[simp] theorem State.setFt_buf (s : State) (f : FieldTest → FieldTest) : (s.setFt f).buf = s.buf := rfl
@[simp] theorem State.setFt_q (s : State) (f : FieldTest → FieldTest) : (s.setFt f).q = s.q := rfl
@[simp] theorem State.setFt_lnk (s : State) (f : FieldTest → FieldTest) : (s.setFt f).lnk = s.lnk := rfl
@[simp] theorem State.setFt_opt (s : State) (f : FieldTest → FieldTest) : (s.setFt f).opt = s.opt := rfl
@[simp] theorem State.setFt_byp (s : State) (f : FieldTest → FieldTest) : (s.setFt f).byp = s.byp := rfl
@[simp] theorem State.setFt_part (s : State) (f : FieldTest → FieldTest) : (s.setFt f).part = s.part := rfl
@[simp] theorem State.setFt_cnt (s : State) (f : FieldTest → FieldTest) : (s.setFt f).cnt = s.cnt := rfl
@[simp] theorem State.setFt_host (s : State) (f : FieldTest → FieldTest) : (s.setFt f).host = s.host := rfl
@[simp] theorem State.setFt_mem (s : State) (f : FieldTest → FieldTest) : (s.setFt f).mem = s.mem := rfl
@[simp] theorem State.setFt_coll (s : State) (f : FieldTest → FieldTest) : (s.setFt f).coll = s.coll := rfl
@[simp] theorem State.setFt_time (s : State) (f : FieldTest → FieldTest) : (s.setFt f).time = s.time := rfl
@[simp] theorem State.setFt_pwr (s : State) (f : FieldTest → FieldTest) : (s.setFt f).pwr = s.pwr := rfl
@[simp] theorem State.setFt_boot (s : State) (f : FieldTest → FieldTest) : (s.setFt f).boot = s.boot := rfl
@[simp] theorem State.setFt_pins (s : State) (f : FieldTest → FieldTest) : (s.setFt f).pins = s.pins := rfl

/-! ## act, which keeps the queue alone -/

@[simp] theorem State.act_pending (s : State) (f : State → State) : (s.act f).pending = s.pending := rfl
@[simp] theorem State.act_out (s : State) (f : State → State) : (s.act f).out = (f s).out := rfl
@[simp] theorem State.act_free (s : State) (f : State → State) : (s.act f).free = (f s).free := rfl
@[simp] theorem State.act_beat (s : State) (f : State → State) : (s.act f).beat = (f s).beat := rfl
@[simp] theorem State.act_regs (s : State) (f : State → State) : (s.act f).regs = (f s).regs := rfl
@[simp] theorem State.act_stn (s : State) (f : State → State) : (s.act f).stn = (f s).stn := rfl
@[simp] theorem State.act_tbl (s : State) (f : State → State) : (s.act f).tbl = (f s).tbl := rfl
@[simp] theorem State.act_net (s : State) (f : State → State) : (s.act f).net = (f s).net := rfl
@[simp] theorem State.act_buf (s : State) (f : State → State) : (s.act f).buf = (f s).buf := rfl
@[simp] theorem State.act_q (s : State) (f : State → State) : (s.act f).q = (f s).q := rfl
@[simp] theorem State.act_lnk (s : State) (f : State → State) : (s.act f).lnk = (f s).lnk := rfl
@[simp] theorem State.act_opt (s : State) (f : State → State) : (s.act f).opt = (f s).opt := rfl
@[simp] theorem State.act_byp (s : State) (f : State → State) : (s.act f).byp = (f s).byp := rfl
@[simp] theorem State.act_part (s : State) (f : State → State) : (s.act f).part = (f s).part := rfl
@[simp] theorem State.act_cnt (s : State) (f : State → State) : (s.act f).cnt = (f s).cnt := rfl
@[simp] theorem State.act_host (s : State) (f : State → State) : (s.act f).host = (f s).host := rfl
@[simp] theorem State.act_mem (s : State) (f : State → State) : (s.act f).mem = (f s).mem := rfl
@[simp] theorem State.act_coll (s : State) (f : State → State) : (s.act f).coll = (f s).coll := rfl
@[simp] theorem State.act_red (s : State) (f : State → State) : (s.act f).red = (f s).red := rfl
@[simp] theorem State.act_time (s : State) (f : State → State) : (s.act f).time = (f s).time := rfl
@[simp] theorem State.act_pwr (s : State) (f : State → State) : (s.act f).pwr = (f s).pwr := rfl
@[simp] theorem State.act_boot (s : State) (f : State → State) : (s.act f).boot = (f s).boot := rfl
@[simp] theorem State.act_pins (s : State) (f : State → State) : (s.act f).pins = (f s).pins := rfl

/-! ## What each update writes -/

@[simp] theorem State.emit_out (s : State) (o : OutEv) : (s.emit o).out = s.out ++ [o] := rfl

@[simp] theorem State.raise_out (s : State) (k : EventKind) (l : List Nat) : (s.raise k l).out = s.out ++ [.event k l] := rfl

@[simp] theorem State.post_outbox (s : State) (r : Nat) (l : List Item) :
    (s.post r l).host.outbox = s.host.outbox ++ [(r % 64, l)] := rfl

@[simp] theorem State.setBoot_boot (s : State) (f : BootState → BootState) : (s.setBoot f).boot = f s.boot := rfl

@[simp] theorem State.setFt_ft (s : State) (f : FieldTest → FieldTest) : (s.setFt f).red.ft = f s.red.ft := rfl

@[simp] theorem State.queueWrite_eff (s : State) (k : RegKind) (i : Nat) (v : Word) (b : Bool) :
    (s.queueWrite k i v b).regs.eff = s.regs.eff := rfl

@[simp] theorem State.queueWrite_pend (s : State) (k : RegKind) (i : Nat) (v : Word) (b : Bool) :
    (s.queueWrite k i v b).regs.pend = s.regs.pend ++ [⟨k, i, v, b⟩] := rfl

/-- A register reads as it was written. -/
@[simp] theorem State.reg_setReg (s : State) (k : RegKind) (i : Nat) (v : Word) : (s.setReg k i v).reg k i = v := by
  simp [State.reg, State.setReg]

/-- A write of a register leaves a register at another offset as it was. -/
theorem State.reg_setReg_other (s : State) (k : RegKind) (i : Nat) (v : Word) (k' : RegKind) (i' : Nat)
    (h : k'.off i' / 8 ≠ k.off i / 8) : (s.setReg k i v).reg k' i' = s.reg k' i' := by
  simp only [State.reg, State.setReg]
  have : ∀ (d e : Word) (m : SMap Word) (a b : Nat), a ≠ b → SMap.get d (SMap.set e m b v) a = SMap.get d m a := by
    intro d e m a b hab
    unfold SMap.set
    split
    · induction m with
      | nil => rfl
      | cons x m ih =>
        obtain ⟨j, w⟩ := x
        unfold SMap.erase
        split
        · subst_vars; rw [ih]; simp [SMap.get_cons, hab]
        · simp only [SMap.get_cons, ih]
    · rw [SMap.get_insert, if_neg hab]
  exact this _ _ _ _ _ h

/-- A field reads as it was written. -/
theorem State.fld_setFld (s : State) (k : RegKind) (i lo v : Nat) {hi : Nat} (h : hi < 64) :
    (s.setFld k i hi lo v).fld k i hi lo = v % 2 ^ (hi + 1 - lo) := by
  simp only [State.fld, State.setFld, State.reg_setReg]
  exact bits_setBits_same _ v h

/-- A field that another write does not reach reads as before. -/
theorem State.fld_setFld_other (s : State) (k : RegKind) (i v : Nat) {hi lo hi' lo' : Nat} (h : hi < lo' ∨ hi' < lo) :
    (s.setFld k i hi lo v).fld k i hi' lo' = s.fld k i hi' lo' := by
  simp only [State.fld, State.setFld, State.reg_setReg]
  exact bits_setBits_other _ v h

@[simp] theorem State.dom_setDom (s : State) (d e : Nat) (f : Dom → Dom) :
    (s.setDom d f).dom e = if e = d then f (s.dom d) else s.dom e := SMap.get_upd _ _ _ _ _

@[simp] theorem State.lane_setLane (s : State) (n m : Nat) (f : Lane → Lane) :
    (s.setLane n f).lane m = if m = n then f (s.lane n) else s.lane m := SMap.get_upd _ _ _ _ _

@[simp] theorem State.optLane_setOpt (s : State) (n m : Nat) (f : OptLane → OptLane) :
    (s.setOpt n f).optLane m = if m = n then f (s.optLane n) else s.optLane m := SMap.get_upd _ _ _ _ _

end Sys2Proof.Machine
end

