-- ==== Sys2Proof/Laws/Regs.lean ====
section
/-! SUPPORT. What the named operations on registers leave as it was, and what they write. -/

namespace Sys2Proof.Machine

/-- A write of a field leaves a register at another offset as it was. -/
theorem State.reg_setFld_other (s : State) (k : RegKind) (i hi lo v : Nat) (k' : RegKind) (i' : Nat)
    (h : k'.off i' / 8 ≠ k.off i / 8) : (s.setFld k i hi lo v).reg k' i' = s.reg k' i' :=
  s.reg_setReg_other k i _ k' i' h

theorem State.reg_bump_other (s : State) (k : RegKind) (i hi lo n : Nat) (k' : RegKind) (i' : Nat)
    (h : k'.off i' / 8 ≠ k.off i / 8) : (s.bump k i hi lo n).reg k' i' = s.reg k' i' :=
  s.reg_setReg_other k i _ k' i' h

theorem State.reg_setFlag_other (s : State) (k : RegKind) (i n : Nat) (b : Bool) (k' : RegKind) (i' : Nat)
    (h : k'.off i' / 8 ≠ k.off i / 8) : (s.setFlag k i n b).reg k' i' = s.reg k' i' :=
  s.reg_setReg_other k i _ k' i' h

/-- A count field after a count: it stays at its largest value. -/
theorem State.fld_bump (s : State) (k : RegKind) (i lo n : Nat) {hi : Nat} (h : hi < 64) :
    (s.bump k i hi lo n).fld k i hi lo = Nat.min (2 ^ (hi + 1 - lo) - 1) (s.fld k i hi lo + n) := by
  unfold State.bump
  rw [State.fld_setFld _ _ _ _ _ h]
  apply Nat.mod_eq_of_lt
  have := Nat.two_pow_pos (hi + 1 - lo)
  have := Nat.min_le_left (2 ^ (hi + 1 - lo) - 1) (s.fld k i hi lo + n)
  exact Nat.lt_of_le_of_lt this (by omega)

/-- A field that a count does not reach reads as before. -/
theorem State.fld_bump_other (s : State) (k : RegKind) (i n : Nat) {hi lo hi' lo' : Nat} (h : hi < lo' ∨ hi' < lo) :
    (s.bump k i hi lo n).fld k i hi' lo' = s.fld k i hi' lo' :=
  s.fld_setFld_other k i _ h

/-- A bit reads as it was set. -/
theorem State.flag_setFlag (s : State) (k : RegKind) (i : Nat) {n : Nat} (b : Bool) (h : n < 64) :
    (s.setFlag k i n b).flag k i n = b := by
  simp only [State.flag, State.setFlag, State.setFld, State.reg_setReg]
  cases b
  · exact bit_setBit_same (s.reg k i) false h
  · exact bit_setBit_same (s.reg k i) true h

end Sys2Proof.Machine
end

