-- ==== Sys2Proof/Laws/Run.lean ====
section
/-! SUPPORT. Everything that `run`, `runAlways` and `step` can answer, so that no later proof unfolds them. -/

namespace Sys2Proof.Machine

/-- A command of the core that is well formed reaches a live part. -/
theorem run_live {i : Instr} {s : State} {f : State → State} (h : i.wellFormed = true) (hl : s.live = true) :
    run i s f = .next (s.act f) := by
  simp [run, h, hl]

/-- A command of the core does not reach a part that is held. -/
theorem run_held {i : Instr} {s : State} {f : State → State} (h : i.wellFormed = true) (hl : s.live = false) :
    run i s f = .next s := by
  simp [run, h, hl]

/-- A command that names a unit that the part has not stops. -/
theorem run_illFormed {i : Instr} {s : State} {f : State → State} (h : i.wellFormed = false) :
    run i s f = .fault .noSuchUnit := by
  simp [run, h]

/-- A command of the pins, the supplies or a reset acts whether the part is held or not. -/
theorem runAlways_next {i : Instr} {s : State} {f : State → State} (h : i.wellFormed = true) :
    runAlways i s f = .next (s.act f) := by
  simp [runAlways, h]

theorem runAlways_illFormed {i : Instr} {s : State} {f : State → State} (h : i.wellFormed = false) :
    runAlways i s f = .fault .noSuchUnit := by
  simp [runAlways, h]

/-- What a command of the core can answer. -/
theorem run_cases {i : Instr} {s t : State} {f : State → State} (h : run i s f = .next t) :
    i.wellFormed = true ∧ (s.live = false ∧ t = s ∨ s.live = true ∧ t = s.act f) := by
  cases hw : i.wellFormed
  · rw [run_illFormed hw] at h; cases h
  · cases hl : s.live
    · rw [run_held hw hl] at h; cases h; exact ⟨rfl, .inl ⟨rfl, rfl⟩⟩
    · rw [run_live hw hl] at h; cases h; exact ⟨rfl, .inr ⟨rfl, rfl⟩⟩

/-- A meaning that changes nothing. -/
@[simp] theorem State.act_id (s : State) : s.act (fun s => s) = s := rfl

theorem State.act_same {s : State} {f : State → State} (h : f s = s) : s.act f = s := by
  unfold State.act; rw [h]

/-- What a step answers where a command waits. -/
theorem step_cons {s : State} {c : Instr} {rest : List Instr} (h : s.pending = c :: rest) :
    step s = exec c { s with pending := rest } := by
  simp [step, h]

theorem step_nil {s : State} (h : s.pending = []) : step s = .next s := by simp [step, h]

/-- A call changes the list of calls alone (02 R28, R29). -/
theorem State.call_spec (s : State) (i : Instr) (due : Bool) :
    s.call i due = { s with beat := { s.beat with calls := (s.call i due).beat.calls } } := by
  unfold State.call; split <;> rfl

/-- An event that is due is called for the coming boundary, once. -/
theorem State.call_calls (s : State) (i : Instr) (due : Bool) :
    (s.call i due).beat.calls = if due && !s.beat.calls.contains i then s.beat.calls ++ [i] else s.beat.calls := by
  unfold State.call; split <;> rfl

theorem State.call_early (s : State) (i : Instr) : s.call i false = s := by simp [State.call]

@[simp] theorem State.coming_bc (s : State) : s.coming (fun t => t.beat.bc) = s.beat.bc + 1 := rfl

end Sys2Proof.Machine
end

