-- ==== Sys2Proof/Tests/Slice0.lean ====
section
/-! SUPPORT. The model's own tests: the smoke tests of WellFormed, a witness for each statement's hypotheses, and small
tests of single commands against values worked out from the spec. -/

open Sys2Proof Sys2Proof.Machine

namespace Sys2Proof.Tests

set_option Elab.async false

/-- A part that no reset holds. -/
def up : State := { pins := { perstLow := false } }

/-- A live part with registers set. -/
def upR (l : List (RegKind × Nat × Word)) : State := l.foldl (fun s x => s.setReg x.1 x.2.1 x.2.2) up

/-- A live part in the beat of boundary count `bc`, with registers set. -/
def upB (bc : Nat) (l : List (RegKind × Nat × Word)) : State := { upR l with beat := { running := true, bc := bc } }

/-- A live part whose beat runs, with one power domain as given. -/
def upDom (d : Nat) (x : Dom) : State := { up with beat := { running := true, bc := 100 }, pwr := { dom := [(d, x)] } }

/-- A live part whose firmware runs. -/
def upFw : State := { up with boot := { running := true, step := 12 } }

/-- Ill-formed commands, one for each check of WellFormed: piece 0. -/
def illFormed0 : List Instr :=
  [.crossingTimeout 5 0 false, .crossingTimeout 0 1 false, .crossingTimeout 3 8 true,
   .crossingTimeout 4 16 false, .crossingTimeout 1 1 true, .asuneFrameArrival 1024 0 ⟨[], false⟩,
   .ethernetFrameArrival 1024 [] false, .pfcXoffRepeat 1024 0, .pfcXoffRepeat 0 8,
   .portReconfig 1024 false false 0 false, .portReconfig 0 false false 4 false, .stationSteer 64,
   .progMemRepairDone 64 0 0 0, .progMemRepairDone 0 9 0 0, .progMemRepairDone 0 0 2 0, .stationHold 64,
   .stationMerge 64, .stationMirror 64, .shadowDropEnd 262144, .stationQueue 64, .resultPlacement 2,
   .launch 1024, .frameTransmitEnd 1024, .uncorrectableCodeword ⟨1024, 0⟩, .replayRequestReceived 1024 0 0,
   .replayRequestReceived 0 4294967296 0, .replayRequestReceived 0 0 65536, .replayStartReceived 1024 0,
   .replayStartReceived 0 4294967296, .replayRetryTimeout 1024]

theorem test_ill_formed_0 : illFormed0.all (fun i => !i.wellFormed) = true := by decide

/-- Ill-formed commands, one for each check of WellFormed: piece 1. -/
def illFormed1 : List Instr :=
  [.handoverReceived 1024 0 0, .handoverReceived 0 8 0, .handoverReceived 0 0 4294967296,
   .linkCreditSend 1024, .linkCreditReceived 1024 0 0 0, .linkCreditReceived 0 4294967296 0 0,
   .linkCreditReceived 0 0 4294967296 0, .linkCreditReceived 0 0 0 4294967296,
   .weevilTeardownCheck 4096, .stgCarveWrite 256 0 0 0 false, .stgCarveWrite 0 64 0 0 false,
   .stgCarveWrite 0 0 16 0 false, .stgCarveWrite 0 0 0 4 false, .clsMinWrite 8 0 0 0 false,
   .clsMinWrite 0 65536 0 0 false, .clsMinWrite 0 0 256 0 false, .clsMinWrite 0 0 0 2097152 false,
   .loadGo 2, .cmdFetchComplete 64 [] .data false, .cmdFetchTimeout 64, .cmdProgramRelease 64,
   .epochDrainComplete 2, .stagingDraw 4096 0, .stagingDraw 0 1048576, .contributionCombine 768,
   .stragglerWindowExpiry 4096 0, .stragglerWindowExpiry 0 1048576, .chunkSpill 4096 0,
   .chunkSpill 0 1048576, .partialRecallDone 4096 0]

theorem test_ill_formed_1 : illFormed1.all (fun i => !i.wellFormed) = true := by decide

/-- Ill-formed commands, one for each check of WellFormed: piece 2. -/
def illFormed2 : List Instr :=
  [.partialRecallDone 0 1048576, .digestCompare 4096 0 0 0, .digestCompare 0 1048576 0 0,
   .arbiterResult 4096 0 0 0, .arbiterResult 0 1048576 0 0, .checkLimitExpiry 4096 0 0,
   .checkLimitExpiry 0 1048576 0, .compareEngineStep 3, .cmpCtrlWrite 32 0 false,
   .cmpCtrlWrite 0 8 false, .emSeedWrite 4294967296 0 false, .emSeedWrite 0 4294967296 false,
   .laserFail 16 0, .laserFail 0 12, .spareSwitchIn 16 8, .spareSwitchIn 0 7, .spareSwitchIn 0 12,
   .laserRetire 16 0 false, .laserRetire 0 12 false, .retireSwitch 16 8, .retireSwitch 0 7,
   .retireSwitch 0 12, .ringUnlock 1024 ⟨false, false⟩, .pilotWindow 1024 false 0, .pilotWindow 0 false 4,
   .reacqVerified 1024 false 0, .reacqVerified 0 false 4096, .reacqTimeout 1024, .lightPresent 1024,
   .laneTrainComplete 1024]

theorem test_ill_formed_2 : illFormed2.all (fun i => !i.wellFormed) = true := by decide

/-- Ill-formed commands, one for each check of WellFormed: piece 3. -/
def illFormed3 : List Instr :=
  [.trainTimeout 1024, .linkFault ⟨1024, false⟩, .calSlot 16, .calRequest 16 0 false,
   .calRequest 0 64 false, .calForce 16 0 false, .calForce 0 64 false, .calComplete 16 ⟨0, 0⟩ ⟨0, 0⟩,
   .calComplete 0 ⟨4096, 0⟩ ⟨0, 0⟩, .calComplete 0 ⟨0, 0⟩ ⟨4096, 0⟩, .calComplete 0 ⟨0, 4096⟩ ⟨0, 0⟩,
   .calComplete 0 ⟨0, 0⟩ ⟨0, 4096⟩, .calTimeout 16 false, .laneRetry 1024 false, .loopStart 16 0 0,
   .loopStart 0 64 0, .loopStart 0 0 65536, .loopEnd 16 0 false 0, .bypDemandReceived 1024 [],
   .restartReceived 1024 0 0, .planeFallback 4 false, .planeRelock 4, .planeLockTimeout 4,
   .planeAutoFast 4, .planeCalForce 4 false, .planeCalDone 4, .bypPlaneModeWrite 4 0 false,
   .bypPlaneModeWrite 0 4 false, .leafEnable 256 0 false, .leafEnable 0 4 false]

theorem test_ill_formed_3 : illFormed3.all (fun i => !i.wellFormed) = true := by decide

/-- Ill-formed commands, one for each check of WellFormed: piece 4. -/
def illFormed4 : List Instr :=
  [.patrolRead 17 0 0 .single, .patrolRead 0 2 0 .single, .ftRequest 768 false, .ftForce 768 false,
   .clusterStepWrite 768 0 false, .clusterStepWrite 0 16 false, .quarantineEntry 4096,
   .partitionFree 4096, .drainEndClean 5 0, .drainDeadline 5 0, .broadcastReport 4096, .slewAdd 65536 0,
   .triggerFire 64, .counterRunAllocate 512, .counterRunRelease 8192 0 false,
   .counterRunRelease 0 512 false, .doorbell 64 0, .doorbell 0 4294967296, .cmdRingFlush 64,
   .cmdRingDisable 64, .cmdRingEnable 64, .d2hPacketWrite 64, .d2hPop 64 0, .d2hFlush 64,
   .d2hCfgWrite 64 false 0 0, .d2hCfgWrite 0 false 32 0, .d2hCfgWrite 0 false 0 131072,
   .d2hHoldoffExpiry 64, .ddrRecal 8 0, .ddrRecal 0 2]

theorem test_ill_formed_4 : illFormed4.all (fun i => !i.wellFormed) = true := by decide

/-- Ill-formed commands, one for each check of WellFormed: piece 5. -/
def illFormed5 : List Instr :=
  [.domainRequest 96 false false, .domainRampUpDone 96, .domainRampDownDone 96, .supplyFault 96,
   .powerTrip 4096, .tripHoldEnd 4096, .thermalWarning 18 0, .thermalWarning 0 4096,
   .stretchComparatorFire 2 0, .stretchComparatorFire 0 4096, .stretchEnd 2, .photonicTrip 16 0,
   .photonicTrip 0 4096, .lightWake 256, .getCertificate 8 0 0, .challenge 8 [], .pfcPauseExpiry 1024 0,
   .pfcPauseExpiry 0 8, .laserSettled 16, .pcieLinkTrained 8 0 false, .pcieLinkTrained 0 3 false,
   .moduleHotRefresh 8 0, .moduleHotRefresh 0 256, .thermalWarningRearm 18,
   .ddrTrainDone [⟨true, 2, 1, 0, 256⟩], .ddrTrainDone [⟨true, 2, 1, 8, 0⟩],
   .ddrTrainDone [⟨true, 256, 1, 0, 0⟩], .ddrTrainDone [⟨true, 2, 16, 0, 0⟩],
   .vectorUnmask (some 2048) 0 0]

theorem test_ill_formed_5 : illFormed5.all (fun i => !i.wellFormed) = true := by decide
/-! ## Witnesses: the queue, the pins, power and start-up -/

theorem witness_StepRunsFrontCommand : State.reset.pending = [] := rfl

theorem witness_WellFormedCommandsComplete :
    (Instr.linkFault ⟨1023, true⟩).wellFormed = true ∧ (Instr.linkFault ⟨1024, true⟩).wellFormed = false := by decide

theorem witness_WellFormedQueueDrains :
    (∀ c ∈ ({ State.reset with pending := [.linkFault ⟨0, true⟩] } : State).pending, c.wellFormed = true)
      ∧ step { State.reset with pending := [.linkFault ⟨0, true⟩] } = .next State.reset := ⟨by decide, rfl⟩

theorem witness_HeldPartIsNotReached :
    ({ State.reset with pending := [.linkFault ⟨0, true⟩] } : State).live = false
      ∧ (∀ c ∈ ({ State.reset with pending := [.linkFault ⟨0, true⟩] } : State).pending,
          c.wellFormed = true ∧ c.reachesHeld = false) := by decide

theorem witness_TapTakesThePins : (Instr.highz, 0x06) ∈ [(Instr.extest, 0x00), (.highz, 0x06)] := by decide

theorem witness_ReferenceAndSupplyPins : State.reset.pins.refOk = true := rfl

theorem witness_DomainRampsAndFaults :
    (upDom 0 { st := 1 }).live = true ∧ ((upDom 95 { st := 1 }).dom 95).st = 1 ∧ (upDom 0 { st := 1 }).beat.running = true
      ∧ ((upDom 95 { st := 3 }).dom 95).st = 3 ∧ ((upDom 79 { st := 2 }).dom 79).st = 2 ∧ up.boot.step = 1
      ∧ ((upDom 64 { st := 2 }).dom (64 + 0)).st = 2 ∧ ((upDom 79 { st := 1 }).dom (64 + 15)).force = none := by decide

theorem witness_PowerTripTakesEveryDomainOff :
    State.reset.pwr.trip = none ∧ State.reset.pwr.asleep = false ∧ State.reset.pins.vaonLow = false
      ∧ ((upDom 80 { st := 2 }).dom 80).st = 2 ∧ (upDom 80 { st := 2 }).boot.step = 1
      ∧ ((upDom 95 { st := 2 }).dom 95).st = 2 := by decide

/-- A part held by a thermal trip. -/
def tripped : State := { up with pwr := { trip := some 3 } }

/-- A part that sleeps, with the wake mask of fibre pair 255 set. -/
def asleep : State := { upR [(.pwrWakeMask, 3, at_ 63 1)] with pwr := { asleep := true } }

theorem witness_TripSleepAndWake :
    tripped.pwr.trip = some 3 ∧ (0 + 160 < 16 * tripped.tWarn) ∧ tripped.heldReset = false ∧ up.live = true
      ∧ asleep.pwr.asleep = true ∧ asleep.heldReset = false ∧ asleep.pwr.wakePair = none
      ∧ asleep.flag .pwrWakeMask (255 / 64) (255 % 64) = true := by decide

theorem witness_WarningsPostOnceUntilRearmed :
    up.live = true ∧ SMap.get false up.pwr.warned 17 = false ∧ 16 * up.unitLimit 17 ≤ 4095
      ∧ SMap.get false ({ up with pwr := { warned := [(17, true)] } } : State).pwr.warned 17 = true := by decide

theorem witness_StretchStartsAndEnds :
    up.live = true ∧ up.beat.stretchW = false ∧ up.pwr.startW = none ∧ up.beat.stretchE = false ∧ up.pwr.startE = none
      ∧ (let s : State := { up with beat := { running := true, stretchW := true, stretchE := true },
                                    pwr := { quietW := 10000, quietE := 10000 } }
         s.beat.stretchW = true ∧ s.release ≤ s.quietBeats false ∧ s.beat.stretchE = true ∧ s.release ≤ s.quietBeats true) := by
  decide

theorem witness_AgeingAndReplan :
    upFw.live = true ∧ upFw.boot.running = true ∧ upFw.beat.stretchW = false ∧ upFw.beat.stretchE = false
      ∧ (∀ e ∈ upFw.pwr.dom, e.2.ramping = false)
      ∧ (∃ e ∈ ({ upFw with pwr := { dom := [(0, { st := 1 })] } } : State).pwr.dom, e.2.ramping = true)
      ∧ (({ upFw with pwr := { dom := [(93, { st := 2 })] } } : State).dom 93).st = 2 := by
  refine ⟨by decide, by decide, by decide, by decide, by decide, ⟨(0, { st := 1 }), by decide, by decide⟩, by decide⟩

theorem witness_ResetsKeepWhatTheTableKeeps : up.live = true ∧ up.boot.trial = false := by decide

theorem witness_StartAfterPerst :
    State.reset.pins.perstLow = true ∧ State.reset.boot.step = 1
      ∧ (let s : State := { boot := { step := 12 } }
         s.boot.step ≠ 1 ∧ s.pins.perstLow = true ∧ s.pins.tapHold = false ∧ s.pins.vaonLow = false ∧ s.pwr.trip = none
          ∧ s.pins.manufacturing = false) := by decide

/-- A part whose boot ROM looks for an image. -/
def upRom : State := { up with boot := { step := 3 } }

/-- An image header of slot 0 with no body, whose key is 133 zero bytes. -/
def imgGood : List Byte := [0x31, 0x59, 0x57, 0x46, 1, 0, 7, 0, 0, 0]

theorem witness_BootImageIsCheckedAndRun :
    upRom.live = true ∧ upRom.romLooks = true ∧ upRom.romSource = some (srcCode .slotA) ∧ upRom.boot.owed = []
      ∧ upRom.boot.checkFw (some []) true = some 1 ∧ upRom.boot.checkFw none true = some 7 := by decide

theorem witness_BootImageIsCheckedAndRun_image : upRom.boot.checkFw (some imgGood) true = none := by decide +kernel

theorem witness_FirmwareRoll :
    upFw.live = true ∧ upFw.boot.running = true ∧ upFw.boot.opState ≠ 1 ∧ upFw.boot.trial = false
      ∧ (let s : State := { upFw with beat := { bc := 234374999 }, boot := { running := true, opState := 1, trial := true } }
         s.boot.opState = 1 ∧ s.boot.trial = true ∧ s.boot.trialAt + 234375000 ≤ s.beat.bc + 1
          ∧ s.boot.checkFw none true = some 7) := by decide

theorem witness_FirmwareRoll_image : upFw.boot.checkFw (some imgGood) true = none := by decide +kernel

theorem witness_BootStepsAdvanceInOrder :
    up.live = true ∧ up.pins.manufacturing = false ∧ up.boot.halted = false ∧ up.boot.step = 1
      ∧ (let s : State := { up with boot := { step := 2 }, pwr := { dom := [(92, { st := 2 }), (93, { st := 2 })] } }
         s.boot.step = 2 ∧ (s.dom 92).st = 2 ∧ (s.dom 93).st = 2)
      ∧ (let s : State := { up with boot := { step := 4, running := true } }
         s.boot.step = 4 ∧ s.boot.running = true)
      ∧ (let s : State := { up with boot := { step := 2 } }
         (s.dom 92).st ≠ 2 ∧ s.boot.running = false)
      ∧ (let s : State := { up with boot := { step := 4 } }
         4 ≤ s.boot.step ∧ s.boot.running = false) := by decide

/-- A part with an SPDM exchange, and perhaps a walk, in progress. -/
def upSpdm (n : Nat) (w : Option DigestWalk) : State := { upFw with boot := { running := true, spdm := n, walk := w } }

theorem witness_SpdmResponder :
    (upSpdm 0 none).live = true ∧ (upSpdm 0 none).boot.running = true ∧ (upSpdm 0 none).boot.walk = none
      ∧ (upSpdm 0 none).boot.spdm = 0 ∧ 1 ≤ (upSpdm 1 none).boot.spdm ∧ 2 ≤ (upSpdm 2 none).boot.spdm
      ∧ 3 ≤ (upSpdm 3 none).boot.spdm
      ∧ (upSpdm 3 (some ⟨6, false, [], 2, none⟩)).boot.walk = some ⟨6, false, [], 2, none⟩
      ∧ (upSpdm 3 (some ⟨6, false, [], 2, some (0, 0)⟩)).boot.walk = some ⟨6, false, [], 2, some (0, 0)⟩ := by decide

/-! ## Witnesses: registers, time, telemetry and the host -/

theorem witness_RegisterCommandsQueueTheirWrite :
    up.live = true ∧ 8 + 4 * 30 + 16 * 0 + 64 * 0 ≤ 128 ∧ up.clsMinFits 7 (at_ 0 1) = true ∧ up.engineOn 15 = false
      ∧ (upDom (64 + 15) { st := 2 }).engineOn 15 = true
      ∧ ({ up with opt := { lasers := [(12 * 15 + 7, { st := 2 }), (12 * 15 + spareOf 7, { st := 3 })] } } : State).canRetire
          (12 * 15 + 7) = true
      ∧ (({ up with opt := { lanes := [(1023, { st := .failed })] } } : State).optLane 1023).st = .failed
      ∧ up.clsMinFits 7 (at_ 29 65535 ||| at_ 21 255 ||| at_ 0 2097151) = false := by decide

theorem witness_WaitingWritesTakeEffectInOrder :
    (∃ (p q r : PendWrite), p = ⟨.strItemCfg, 0, 1, false⟩ ∧ q = ⟨.strItemCfg, 0, 2, true⟩ ∧ r = ⟨.devSelf, 0, 2, false⟩
      ∧ ({ up with regs := { pend := [p, q] } } : State).regs.pend = p :: [q] ∧ p.late = false ∧ (∀ x ∈ [q], x.late = true)
      ∧ ({ up with regs := { pend := [p, r] } } : State).regs.pend = [p] ++ [r] ∧ r.late = false
      ∧ (∀ x ∈ ({ up with regs := { pend := [q] } } : State).regs.pend, x.late = true))
    ∧ RegKind.pwrThermCfg ∈ [RegKind.devSelf, .pwrThermCfg] :=
  ⟨⟨_, _, _, rfl, rfl, rfl, rfl, rfl, by decide, rfl, rfl, by decide⟩, by decide⟩

theorem witness_RegisterMapIsOneToOne :
    1023 < RegKind.leLane.total ∧ RegKind.leLane.off 1023 = RegKind.leLane.off 1023
      ∧ regAt (RegKind.leLane.off 1023) = some (.leLane, 1023) := by decide

theorem witness_RegisterReadsAndWrites :
    up.live = true ∧ tlpFits ⟨0, 7, true⟩ = false ∧ tlpFits ⟨RegKind.leLane.off 1023, 8, true⟩ = true
      ∧ tlpFits ⟨RegKind.devSelf.off 0 + 64, 8, true⟩ = true ∧ 31 < RegKind.intEcc.total ∧ 255 < RegKind.strLeaf.total
      ∧ regAt (RegKind.devSelf.off 0 + 64) = none ∧ pcfgOk (at_ 63 1 ||| at_ 60 3) = true ∧ pcfgOk (at_ 63 1 ||| at_ 41 63) = false
      ∧ (upR [(.cntPcfg, 8191, at_ 62 1)]).held 8191 = true ∧ up.held 8191 = false
      ∧ 32767 < 32768 ∧ (up.dom (80 + 32767 / 32 / 128)).st ≠ 2 := by
  decide

theorem witness_BeatBoundaryInItsOrder :
    up.live = true ∧ up.beat.running = false ∧ (upB 5 []).live = true ∧ (upB 5 []).beat.running = true
      ∧ (∃ m a e u r : State, m = (if (upB 5 []).byp.routed then (upB 5 []).matching else (upB 5 []).matching.routing).endStreams.lanesEnd
          ∧ a = m.trigDumps m.comingNs ∧ e = a.endBeat
          ∧ u = ((e.snapshotStep.weevilAudit.stepTwo e.cleanDrains).triggers).stepFour (e.quietNow false) (e.quietNow true)
              (a.time.stepped || a.beat.reload)
          ∧ r = u.freshBeat.placeAll.admission.postRounds.schedule.bypassStep.lanesGo.rings) :=
  ⟨rfl, rfl, by decide, by decide, _, _, _, _, _, rfl, rfl, rfl, rfl, rfl⟩

/-- A live part with one nanosecond of slew left, at the greatest rate. -/
def slewing : State := { upR [(.timeSlew, 0, at_ 48 65535)] with time := { remain := 2 ^ 33 } }

theorem witness_StepsAndSlewsOfLocalTime :
    up.live = true ∧ up.fld .timeSet1 0 61 32 < 10 ^ 9
      ∧ 10 ^ 9 ≤ (upR [(.timeSet1, 0, at_ 32 (10 ^ 9))]).fld .timeSet1 0 61 32 ∧ up.time.remain = 0
      ∧ 0 < ({ slewing with time := { remain := 1 } } : State).time.remain.natAbs
      ∧ 0 < ({ slewing with time := { remain := 1 } } : State).slewStep
      ∧ ceilDiv ({ slewing with time := { remain := 1 } } : State).time.remain.natAbs
          ({ slewing with time := { remain := 1 } } : State).slewStep
        < ({ slewing with time := { remain := 1 } } : State).toBoundary := by decide

/-- A live part whose trigger 63 is armed, with action `a` and vector 0, which is not masked. -/
def upTrig (a : Nat) : State :=
  { upR [(.timeTrigCtl, 63, at_ 58 a)] with
    time := { armed := [(63, some 0)] }, host := { msix := [(0, { addr := 8, data := 1, mask := false })] } }

theorem witness_TriggersFireOnce :
    (upTrig 1).live = true ∧ up.trigDue 63 up.comingNs = false
      ∧ (∀ a ∈ [0, 1, 2, 3, 4], (upTrig a).trigDue 63 (upTrig a).comingNs = true ∧ (upTrig a).trigPeriod 63 = 0
          ∧ (upTrig a).fld .timeTrigCtl 63 60 58 = a)
      ∧ ((upTrig 1).msix ((upTrig 1).fld .timeTrigCtl 63 57 47)).mask = false ∧ (upTrig 1).host.funcMask = false := by
  decide

theorem witness_BeatImageCheck : up.live = true ∧ 1000 ≤ 1000 ∧ 1000 < 1001 := by decide

theorem witness_CrossingFault :
    up.live = true ∧ 7 < (if 3 = 3 then 8 else if 3 = 4 then 16 else 1) ∧ 15 < (if 4 = 3 then 8 else if 4 = 4 then 16 else 1)
      ∧ 0 < (if 0 = 3 then 8 else if 0 = 4 then 16 else 1) := by decide

/-- A live part with periodic dumps of the least period and region; the first falls due at boundary 64. -/
def upDump (bc : Nat) : State := upB bc [(.cntCicadaCfg, 0, at_ 63 1 ||| at_ 0 64), (.cntCicadaRegion, 0, at_ 63 1 ||| at_ 0 1)]

/-- A dump into the region. -/
def dump0 : Dump := { bc := 5, ring := none, seq := 0, slot := 0, sections := 31, overrun := 0, beat := 5, sec := 0, ns := 0, off := 0 }

theorem witness_SnapshotsAndDumps :
    up.live = true ∧ up.flag .cntCicadaCfg 0 63 = false
      ∧ (upDump 63).live = true ∧ (upDump 63).flag .cntCicadaCfg 0 63 = true ∧ (upDump 63).cnt.sinceEn < (upDump 63).beat.bc + 1
      ∧ ((upDump 63).beat.bc + 1 - (upDump 63).cnt.sinceEn) % Nat.max 64 ((upDump 63).fld .cntCicadaCfg 0 31 0) = 0
      ∧ (upDump 64).cnt.periodicDone = false ∧ (upDump 64).cnt.sinceEn < (upDump 64).beat.bc
      ∧ ((upDump 64).beat.bc - (upDump 64).cnt.sinceEn) % Nat.max 64 ((upDump 64).fld .cntCicadaCfg 0 31 0) = 0
      ∧ (upDump 64).cnt.dump = none ∧ (upDump 64).cnt.taken = false ∧ (upDump 64).flag .cntCicadaCfg 0 62 = false
      ∧ (upDump 64).flag .cntCicadaRegion 0 63 = true
      ∧ (let s : State := { upDump 64 with cnt := { dump := some dump0 } }
         s.cnt.dump = some dump0 ∧ dump0.bc < s.beat.bc ∧ s.cnt.skipDone = false)
      ∧ (let s := upB 15 [(.cntCfg, 0, at_ 32 16)]
         0 < s.fld .cntCfg 0 47 32 ∧ s.cnt.sinceUser < s.beat.bc + 1
          ∧ (s.beat.bc + 1 - s.cnt.sinceUser) % Nat.max 16 (s.fld .cntCfg 0 47 32) = 0)
      ∧ (let s := upB 16 [(.cntCfg, 0, at_ 32 16)]
         0 < s.fld .cntCfg 0 47 32 ∧ s.cnt.userDone = false ∧ s.cnt.sinceUser < s.beat.bc
          ∧ (s.beat.bc - s.cnt.sinceUser) % Nat.max 16 (s.fld .cntCfg 0 47 32) = 0 ∧ s.cnt.dump = none ∧ s.cnt.taken = false)
      ∧ (let s : State := { up with cnt := { deferred := true } }
         s.cnt.deferred = true ∧ s.cnt.dump = none ∧ s.cnt.taken = false)
      ∧ (let s : State := { up with cnt := { dump := some dump0 }, host := { ddrState := 2 } }
         s.cnt.dump = some dump0 ∧ dump0.ring = none ∧ s.ddrReady = true ∧ dump0.sections < 32 ∧ dump0.seq < 2 ^ 32
          ∧ dump0.beat < 2 ^ 32) := by decide

/-- A live part on which every 256th counter is held. -/
def upHeld : State := upR ((List.range 32).map fun k => (.cntPcfg, 255 + 256 * k, at_ 62 1))

theorem upHeld_held : ∀ k, k < 32 → upHeld.held (255 + 256 * k) = true := by decide +kernel

theorem witness_CounterRunsAreAllocatedLowestFirst :
    up.live = true ∧ 1 ≤ 1 ∧ 1 ≤ 256 ∧ 8191 + 1 ≤ 8192
      ∧ (∀ i, 0 ≤ i → i < 0 + 1 → up.held i = false) ∧ (∀ c, c < 0 → ∃ i, c ≤ i ∧ i < c + 1 ∧ up.held i = true)
      ∧ upHeld.live = true ∧ (∀ b, b + 256 ≤ 8192 → ∃ i, b ≤ i ∧ i < b + 256 ∧ upHeld.held i = true)
      ∧ 257 < 512 ∧ 256 < 257 := by
  refine ⟨by decide, by decide, by decide, by decide, fun i _ h => ?_, fun c h => absurd h (Nat.not_lt_zero c), by decide +kernel,
    fun b hb => ⟨255 + 256 * (b / 256), by omega, by omega, upHeld_held _ (by omega)⟩, by decide, by decide⟩
  obtain rfl : i = 0 := by omega
  decide

/-- A live part whose device-to-host ring 63 is enabled and as given. -/
def upRing (g : D2hRing) : State := { upR [(.hostD2hCfg, 63, at_ 63 1)] with host := { d2h := [(63, g)] } }

theorem witness_FullRingDiscardsItsOldestItem :
    (upRing { wr := 64 }).ringFull 63 = true ∧ ((upRing { wr := 64 }).ring 63).rd < 2 ^ ((upRing { wr := 64 }).ringLg 63 + 1)
      ∧ ((upRing { wr := 64 }).ring 63).wr < 2 ^ ((upRing { wr := 64 }).ringLg 63 + 1) := by decide

/-- Ring 63 with a vector, its holdoff of one boundary, and one packet; the vector is not masked. -/
def upHoldoff : State :=
  { upR [(.hostD2hCfg, 63, at_ 63 1), (.hostD2hIrq, 63, at_ 63 1 ||| at_ 16 1)] with
    host := { d2h := [(63, { wr := 1, pkts := 1 })], msix := [(0, { addr := 8, data := 1, mask := false })] } }

theorem witness_DeviceToHostRings :
    (let s : State := { upRing {} with host := { outbox := [(63, [⟨1, 2, 3, 4⟩])] } }
     s.live = true ∧ s.host.outbox = (63, [⟨1, 2, 3, 4⟩]) :: [] ∧ s.flag .hostD2hCfg 63 63 = true ∧ s.ringFull 63 = false
      ∧ s.flag .hostD2hIrq 63 63 = false)
    ∧ (let s : State := { up with host := { outbox := [(63, [⟨1, 2, 3, 4⟩, ⟨5, 6, 7, 8⟩])] } }
       s.host.outbox = (63, [⟨1, 2, 3, 4⟩, ⟨5, 6, 7, 8⟩]) :: [] ∧ s.flag .hostD2hCfg 63 63 = false)
    ∧ ((upRing {}).ring 63).pkts = 0 ∧ ((upRing { wr := 1, pkts := 1 }).ring 63).pkts ≠ 0
    ∧ (upRing {}).flag .hostD2hCfg 63 63 = true ∧ up.flag .hostD2hCfg 63 63 = false
    ∧ 131071 ≠ up.fld .hostD2hCfg 63 16 0 ∧ 0 = up.fld .hostD2hCfg 63 16 0 ∧ 11 = up.fld .hostD2hCfg 63 56 52
    ∧ upHoldoff.fld .hostD2hIrq 63 31 16 ≠ 0 ∧ (upHoldoff.ring 63).pkts ≠ 0
    ∧ upHoldoff.fld .hostD2hIrq 63 31 16 ≤ (upHoldoff.ring 63).nonzero + 1 ∧ upHoldoff.flag .hostD2hIrq 63 63 = true
    ∧ (upHoldoff.ring 63).armed = true ∧ upHoldoff.host.funcMask = false
    ∧ (upHoldoff.msix (upHoldoff.fld .hostD2hIrq 63 58 48)).mask = false
    ∧ ((upRing { armed := false }).ring 63).armed = false ∧ up.host.pba = [] ∧ up.host.funcMask = false ∧ 2047 < 2048 := by
  decide

/-- A live part whose command ring 63 is enabled, with the given producer index and ring. -/
def upCmd (pi : Nat) (g : CmdRing) : State :=
  { upR [(.hostCmdCtl, 63, at_ 63 1), (.hostCmdIdx, 63, at_ 32 pi)] with host := { cmd := [(63, g)] } }

/-- A program of one `end` instruction, fetched and held until beat 9. -/
def prog0 : CmdProg :=
  { ring := 63, tag := 1, part := 0, irq := false, atBeatEn := true, atBeat := 9, late := false, code := [at_ 56 0xC0],
    cut := false, words := 3, mgmt := none }

theorem witness_CommandRings_code : [(at_ 56 0xC0 : Word)].all ctlDefined = true := by decide +kernel

theorem witness_CommandRings :
    (upCmd 0 {}).live = true ∧ up.cringEn 63 = false
      ∧ ((upCmd 0 {}).setFld .hostCmdIdx 63 63 32 512).ringAvail 63 ≤ 2 ^ (upCmd 0 {}).cringLg 63
      ∧ (upCmd 0 {}).cringEn 63 = true ∧ ((upCmd 0 {}).cring 63).error = false
      ∧ 2 ^ (upCmd 0 {}).cringLg 63 < (513 + 2 ^ 32 - ((upCmd 0 {}).cring 63).ci) % 2 ^ 32
      ∧ ((upCmd 3 {}).cring 63).held = none ∧ (upCmd 3 {}).ringAvail 63 ≠ 0 ∧ ((upCmd 3 {}).cring 63).flush = false
      ∧ (upCmd 3 {}).postedAt 63 = none
      ∧ bit (at_ 44 1 : Word) 63 = false ∧ bits (at_ 44 1 : Word) 54 44 = [(at_ 56 0xC0 : Word)].length
      ∧ [(at_ 56 0xC0 : Word)].length + 2 ≤ (upCmd 3 {}).ringAvail 63 ∧ headZero [at_ 44 1, 0, at_ 56 0xC0] = true
      ∧ [(at_ 56 0xC0 : Word)].foldl (fun n w => n + ctlCost w) 0 ≤ 8192
      ∧ bit (at_ 44 1 : Word) 15 = false ∧ sdiff 32 (bits (0 : Word) 31 0) up.beat.now ≤ 0
      ∧ bit (at_ 44 1 ||| at_ 15 1 : Word) 15 = true ∧ headZero [at_ 44 1 ||| at_ 15 1, 1, at_ 56 0xC0] = true
      ∧ 0 < sdiff 32 (bits (1 : Word) 31 0) up.beat.now
      ∧ (let s : State := { upCmd 3 { held := some prog0 } with beat := { running := true, now := 8 } }
         (s.cring 63).held = some prog0 ∧ s.postedAt 63 = none ∧ 0 ≤ sdiff 32 ((s.beat.now + 1) % 2 ^ 32) prog0.atBeat
          ∧ prog0.mgmt = none ∧ prog0.irq = false
          ∧ sdiff 32 (({ s with beat := { running := true, now := 7 } } : State).beat.now + 1) prog0.atBeat < 0
          ∧ 0 ≤ sdiff 32 ({ s with beat := { running := true, now := 9 } } : State).beat.now prog0.atBeat)
      ∧ (upCmd 0 {}).ringAvail 63 = 0 := by decide

/-- The words of a controller's frame of 48 bytes for port 0. -/
def sendWords : List Word := [at_ 63 1 ||| at_ 44 48, 0, 0, 0, 0, 0, 0, 0]

theorem witness_CommandRings_send :
    ∃ (s : State) (w : Word) (ws : List Word), s = { upR [(.stnPort, 0, at_ 0 1)] with boot := { running := true } }
      ∧ w :: ws = sendWords ∧ s.live = true ∧ s.boot.running = true ∧ s.unitWaits .controller = false ∧ bit w 63 = true ∧ bits w 14 0 = 0 ∧ ws.getD 0 0 = 0
      ∧ 1 + ceilDiv (bits w 57 44) 8 ≤ ws.length ∧ s.portValid (bits w 24 15) = true
      ∧ bits w 60 58 < s.portWidth (bits w 24 15) ∧ s.portEth (bits w 24 15) = false
      ∧ 48 ≤ bits w 57 44 ∧ bits w 57 44 ≤ 8240 :=
  ⟨_, at_ 63 1 ||| at_ 44 48, [0, 0, 0, 0, 0, 0, 0], rfl, by decide⟩

/-- A result that waits at a return port. -/
def ret0 : Ret :=
  { pipe := 0, unit := .controller, bytes := List.replicate 48 0, eth := false, part := 0, cls := 3, epoch := false, kind := 2,
    target := 7, subq := 0, desc := none, tsReq := false, pin := none, bcast := none, trk := none }

/-- A live part with page 63 on the near store and page 62 on channel 0's memory. -/
def upPages : State :=
  { upR [(.hostBar2Page, 63, at_ 62 3), (.hostBar2Page, 62, at_ 63 1)] with
    host := { ddrState := 2, ddr := (List.range 8).map fun c => (c, { state := 2, cap := 2 }) } }

theorem witness_Bar2ReadsAndWritesMemory :
    upPages.live = true ∧ upPages.bar2At 0 1 = none ∧ bit (upPages.reg .hostBar2Page (0 / 2 ^ 30)) 63 = false
      ∧ upPages.bar2At (63 * 2 ^ 30 + 2 ^ 25 - 8) 8 = some (.near, 2 ^ 25 - 8)
      ∧ upPages.bar2At (62 * 2 ^ 30 + 3) [some (1 : Byte), none].length = some (.spine, 3)
      ∧ ¬ (3 ≤ 64 * 0 ∧ 64 * 0 + 64 ≤ 3 + 2) ∧ Space.spine ≠ .near ∧ upPages.mem.hostAcc = []
      ∧ (∃ x : HostAcc, x = { ord := upPages.mem.nextOrd, spine := false, addr := 2 ^ 25 - 8, read := some 8, data := [] }
          ∧ upPages.hostHeld x = false
          ∧ ({ upPages with net := { ret := [{ ret0 with pipe := pipeOnDie (nearDie (64 * (2 ^ 19 - 1))) 0, unit := .engine (nearDie (64 * (2 ^ 19 - 1))), held := true }] } } : State).hostHeld x = true) :=
  ⟨by decide, by decide, by decide, by decide, by decide, by decide, by decide, rfl, _, rfl, by decide, by decide⟩

theorem witness_DdrAndPcieLink :
    up.live = true ∧ up.flag .hostDdrCfg 0 63 = false ∧ (upR [(.hostDdrCfg, 0, at_ 63 1)]).flag .hostDdrCfg 0 63 = true
      ∧ [0, 0, 0, 0, 0, 0, 0, 255].length = 8 ∧ (∀ x ∈ [0, 0, 0, 0, 0, 0, 0, 255], x < 256)
      ∧ ({ up with host := { ddrState := 1 } } : State).host.ddrState = 1
      ∧ (let l : List ChannelResult := ⟨true, 255, 15, 7, 255⟩ :: List.replicate 7 ⟨true, 2, 1, 0, 0⟩
         l.length = 8 ∧ (∀ r ∈ l, r.temp < 256 ∧ r.failStep < 8 ∧ r.cap < 256 ∧ r.ranks < 16)
          ∧ (l[0]?.map fun r => (r.present, decide (r.failStep ≠ 0))) = some (true, true))
      ∧ upPages.ddrReady = true ∧ ({ up with host := { ddr := [(7, { present := true })] } } : State).live = true
      ∧ (({ up with host := { ddr := [(7, { present := true })] } } : State).chan 7).present = true
      ∧ up.stn.loadState ≠ 1 ∧ up.boot.opState ≠ 1 ∧ up.romLooks = false := by decide

/-! ## Witnesses: programs, buffers, tables, checks, partitions, frames, stations and links -/

/-- A station image with no code: header, 449 words of bypass entries, 64 constants and 16 words of entries. -/
def imageEmpty : List Word :=
  [0x4649475200010007, 0, 0, 0, 0, 0, 0, 0, 0, 0, 0x0000001000000000, 0x000001D100000000, 0x0000021100000000, 545, 0, 0]
    ++ List.replicate 529 0

/-- A live part that loads epoch 1. -/
def upLoad : State := { up with stn := { loadState := 1, loadEpoch := 1 } }

/-- The refusal and the programs of an image. -/
def refuseOf (img : List Word) : Option Refuse := match checkImage (img.map some) with | .error r => some r | .ok _ => none

theorem imageEmpty_ok : refuseOf imageEmpty = none := by decide +kernel

theorem witness_LoadsOfProgramSets :
    upLoad.live = true ∧ upLoad.stn.loadState = 1 ∧ up.stn.loadState ≠ 1 ∧ up.stn.st (1 = 1) = .closed
      ∧ ({ up with stn := { st1 := .open_ } } : State).stn.st (1 = 1) ≠ .closed
      ∧ upLoad.flag .stnLoadSrc 0 63 = false ∧ upLoad.stn.loadEpoch < 2 ∧ refuseOf [] = some { code := 1 }
      ∧ (let s : State := { up with stn := { st1 := .closing, quiet1 := 255 } }
         s.stn.st (1 = 1) = .closing ∧ s.quietNow (1 = 1) = true ∧ s.drainBeats ≤ Nat.min 0xFFFF (s.stn.quiet (1 = 1) + 1))
      ∧ ({ up with stn := { st1 := .closing, passed1 := true } } : State).quietNow (1 = 1) = false
      ∧ ({ up with stn := { st1 := .open_ } } : State).stn.st (1 = 1) = .open_ := by decide

theorem witness_LoadsOfProgramSets_image : ∃ b, checkImage (imageEmpty.map some) = .ok b := by
  have h := imageEmpty_ok
  unfold refuseOf at h
  cases hc : checkImage (imageEmpty.map some) with
  | error r => rw [hc] at h; cases h
  | ok b => exact ⟨b, rfl⟩

/-- A live part whose firmware runs, with audits of the least period: the first falls due at boundary 1,024. -/
def upAudit (bc : Nat) (b : BufState) : State :=
  { upB bc [(.bufWeevilCfg, 0, at_ 0 1024)] with boot := { running := true, step := 12 }, buf := b }

/-- Partition 4,095 as given, with firmware, at boundary count `bc`. -/
def upPart (bc : Nat) (p : PartInfo) : State := { upAudit bc {} with part := { st := [(4095, p)] } }

theorem witness_BufferAuditsAndCarve :
    up.live = true ∧ up.boot.running = false ∧ (upAudit 1023 {}).boot.running = true ∧ (upAudit 1023 {}).buf.walk = none
      ∧ (upAudit 1023 {}).fld .bufWeevilCfg 0 31 0 ≠ 0
      ∧ (upAudit 1023 {}).buf.auditAt + Nat.max 1024 ((upAudit 1023 {}).fld .bufWeevilCfg 0 31 0)
          ≤ (upAudit 1023 {}).beat.bc + 1
      ∧ (upAudit 1022 {}).beat.bc + 1
          < (upAudit 1022 {}).buf.auditAt + Nat.max 1024 ((upAudit 1022 {}).fld .bufWeevilCfg 0 31 0)
      ∧ (upAudit 1024 {}).buf.auditAt + Nat.max 1024 ((upAudit 1024 {}).fld .bufWeevilCfg 0 31 0) ≤ (upAudit 1024 {}).beat.bc
      ∧ (∀ x ∈ (upAudit 1024 {}).auditDiffs, x = 0) ∧ (∃ x ∈ (upAudit 1024 { lists := [(0, some [])] }).auditDiffs, x ≠ 0)
      ∧ (upAudit 1023 { walk := some 1 }).buf.walk.isSome = true ∧ (upAudit 1023 { walk := some 1 }).ownersOf (.tile 1) = []
      ∧ (upPart 63 { st := .reset }).pst 4095 = .reset
      ∧ ((upPart 63 { st := .reset }).partInfo 4095).resetAt + 64 ≤ (upPart 63 { st := .reset }).beat.bc + 1
      ∧ (upPart 62 { st := .reset }).beat.bc + 1 < ((upPart 62 { st := .reset }).partInfo 4095).resetAt + 64
      ∧ (upPart 63 {}).pst 4095 ≠ .reset ∧ up.unused 4095 = true ∧ (upAudit 63 { tileUse := [(8191, 1)] }).unused 4095 = false
      ∧ up.buf.carve = none ∧ ({ up with buf := { carve := some 1 } } : State).buf.carve = some 1 ∧ up.buf.stg = []
      ∧ ({ up with buf := { stg := [⟨767, [⟨.staging 767 3, 1⟩], 1, 2, 3⟩] } } : State).buf.stg ≠ [] := by
  decide +kernel

/-- A walk that finds nothing. -/
theorem witness_BufferAuditsAndCarve_clear :
    ∀ i ∈ (upAudit 1023 { walk := some 1 }).auditLists, (upAudit 1023 { walk := some 1 }).walkRuns i = ([], [])
      ∧ ∀ p, (upAudit 1023 { walk := some 1 }).surplus i p = [] := by
  have h : ∀ i ∈ (upAudit 1023 { walk := some 1 }).auditLists, (upAudit 1023 { walk := some 1 }).walkRuns i = ([], [])
      ∧ (upAudit 1023 { walk := some 1 }).ownersOf i = [] := by decide +kernel
  exact fun i hi => ⟨(h i hi).1, fun p => by simp [State.surplus, (h i hi).2]⟩

/-- A live part with firmware, whose exact-match slot 0 is as given, with termite's period set. -/
def upEm (x : Slot) : State := { upFw with regs := (upR [(.strAgeCfg, 0, 1)]).regs, tbl := { em := [(0, x)] } }

/-- A live part whose compare engine checks group 1,234 of version 0 against memory that lists nothing. -/
def upCmp (w : List Host.Cell) : State :=
  { upR [(.strCmpCtrl, 0, at_ 0 4)] with
    boot := { running := true, step := 12 }, host := { ddrState := 2 }, mem := { spine := w }
    tbl := { cmpPos := [(2, 1234)], mc := [(1234, at_ 63 1)] } }

theorem witness_TableKeepers :
    up.live = true ∧ up.boot.running = false ∧ (upEm Slot.free).boot.running = true
      ∧ (upEm Slot.free).fld .strAgeCfg 0 11 0 ≠ 0 ∧ (upEm Slot.free).tbl.sweepSlot + 1 < emTotal
      ∧ (∀ x ∈ [{ Slot.free with vmask := 1, hit := 1 }, { Slot.free with vmask := 1 }, { Slot.free with vmask := 1, idle := true }],
          emAt (upEm x).tbl.em 0 = x ∧ x.vmask ≠ 0 ∧ bit x.data 27 = false ∧ x.suspect = 0)
      ∧ emAt (upEm Slot.free).tbl.em 0 = Slot.free ∧ Slot.free.vmask = 0
      ∧ up.flag .strCmpCtrl 0 2 = false ∧ 31 < 32 ∧ 7 < 8 := by decide

theorem witness_TableKeepers_compare :
    (upCmp [⟨9879, 0x80⟩]).live = true ∧ (upCmp [⟨9879, 0x80⟩]).flag .strCmpCtrl 0 2 = true
      ∧ (upCmp [⟨9879, 0x80⟩]).ddrReady = true ∧ (upCmp [⟨9879, 0x80⟩]).boot.running = true
      ∧ (upCmp [⟨9879, 0x80⟩]).fld .strCmpCtrl 0 12 8 ≤ 1 ∧ SMap.get 0 (upCmp [⟨9879, 0x80⟩]).tbl.cmpPos 2 = 1234 ∧ 1234 + 1 < 32768
      ∧ memWord (upCmp [⟨9879, 0x80⟩]).mem.spine ((upCmp [⟨9879, 0x80⟩]).fld .strCmpSrc 2 63 35 * 4096 + 8 * 1234) = at_ 63 1
      ∧ memWord (upCmp [⟨9872, 1⟩, ⟨9879, 0x80⟩]).mem.spine (8 * 1234) = at_ 63 1 ||| at_ 0 1
      ∧ bit (at_ 63 1 : Word) 45 = false ∧ bit (at_ 63 1 : Word) 63 = true
      ∧ (upCmp [⟨9879, 0x80⟩]).tbl.mcBad.contains (1234, SMap.get 0 (upCmp [⟨9879, 0x80⟩]).tbl.cmpDie 2) = false
      ∧ setBits (at_ 63 1 ||| at_ 0 1 : Word) 45 16 0 ≠ setBits (at_ 63 1) 45 16 0 := by decide +kernel

/-- A live part with the field test enabled and in the given state. -/
def upFt (f : FieldTest) : State := { upR [(.intFtCfg, 0, at_ 63 1)] with red := { ft := f } }

theorem witness_PatrolsFieldTestsAndWatchdog :
    up.live = true ∧ up.flag .intFtCfg 0 63 = false ∧ (upFt {}).flag .intFtCfg 0 63 = true ∧ (upFt {}).red.ft.cur = none
      ∧ (upFt { pend := [767] }).red.ft.pend = [767] ∧ (upFt { pend := [767] }).clusterActive 767 = true
      ∧ (upFt { cur := some 767, steps := 15 }).red.ft.cur = some 767 ∧ (upFt { cur := some 767, steps := 15 }).red.ft.steps < 16
      ∧ (upFt { cur := some 767, steps := 15 }).red.ft.stepped = false ∧ (upFt { cur := some 767, steps := 15 }).inUse 767 = 0
      ∧ (upFt { cur := some 767, steps := 15 }).red.ft.forced = false
      ∧ (upFt { cur := some 767, stepped := true }).red.ft.stepped = true
      ∧ 16 ≤ (upFt { cur := some 767, steps := 16 }).red.ft.steps
      ∧ (let s : State := { upFt { cur := some 767 } with beat := { running := true, bc := 1000000000 } }
         s.red.ft.cur.isSome = true ∧ s.red.ft.forced = false ∧ s.red.ft.steps < 16
          ∧ s.red.ft.startAt + msBeats s.ftWait ≤ s.beat.bc + 1 ∧ s.red.ft.startAt + msBeats s.ftWait ≤ s.beat.bc)
      ∧ ({ upFt {} with time := { testAt := some 0 } } : State).time.testAt = some 0
      ∧ (upFt { cur := some 767, steps := 15, forced := true }).red.ft.forced = true
      ∧ (let d : Damage := { pipe := 63, station := 7, bank := 1, addr := 5 }
         let s : State := { up with stn := { damage := [d] } }
         s.stn.damage = [d] ∧ d.given = false ∧ s.goodSource d = true)
      ∧ ({ pipe := 63, station := 8, bank := 1, addr := 5, given := true } : Damage).given = true
      ∧ upFw.boot.running = true ∧ upFw.boot.trial = false := by decide +kernel

/-- A live part with one disabled function. -/
def upDis (bc : Nat) (d : Disable) : State := { upB bc [] with part := { dis := [d] } }

/-- A live part whose reduction domain 63 drains, with a chunk of it open, to its deadline at boundary 10. -/
def upDrain (bc : Nat) : State :=
  { upDis bc ⟨3, 63, true, 0, 10, true, false⟩ with
    coll := { chunks := [{ ctx := 0, chunk := 0, epoch := false, home := 767, openedAt := 0, window := 100, place := .staging, segs := [] }] } }

theorem witness_PartitionsOwnChanges :
    (upPart 63 { st := .reset }).live = true ∧ (upPart 63 { st := .reset }).pst 4095 = .reset
      ∧ ((upPart 63 { st := .reset }).partInfo 4095).resetAt + 64 ≤ (upPart 63 { st := .reset }).beat.bc + 1
      ∧ ((upPart 64 { st := .reset }).partInfo 4095).resetAt + 64 ≤ (upPart 64 { st := .reset }).beat.bc
      ∧ (upPart 3906 { st := .quarantine }).pst 4095 = .quarantine
      ∧ ((upPart 3906 { st := .quarantine }).partInfo 4095).resetAt + 3907 ≤ (upPart 3906 { st := .quarantine }).beat.bc + 1
      ∧ ((upPart 3907 { st := .quarantine }).partInfo 4095).resetAt + 3907 ≤ (upPart 3907 { st := .quarantine }).beat.bc
      ∧ (upPart 3905 { st := .quarantine }).beat.bc + 1 < ((upPart 3905 { st := .quarantine }).partInfo 4095).resetAt + 3907
      ∧ up.draining 4 3 = false
      ∧ (∀ d ∈ [(⟨0, 1023, true, 0, 10, true, false⟩ : Disable), ⟨1, 4095, true, 0, 10, true, false⟩, ⟨3, 63, true, 0, 10, true, false⟩],
          (upDis 9 d).draining d.kind d.idx = true ∧ (upDis 9 d).drained d.kind d.idx = true)
      ∧ (∀ bc ∈ [8, 9, 10], (upDrain bc).draining 3 63 = true ∧ (upDrain bc).drained 3 63 = false
          ∧ (upDrain bc).disable 3 63 = some ⟨3, 63, true, 0, 10, true, false⟩)
      ∧ (upDrain 8).beat.bc + 1 < 10 ∧ 10 ≤ (upDrain 9).beat.bc + 1 ∧ 10 ≤ (upDrain 10).beat.bc := by decide +kernel

theorem witness_LanesBelongToTheirDie : 1023 < 1024 ∧ 511 / 64 ≤ 7 ∧ 8 ≤ 512 / 64 := by decide

/-- A live part whose port `p`, one lane wide, is as given and has its lane in service. -/
def upPort (p : Nat) (w : Word) : State :=
  { upR [(.stnPort, p, w)] with stn := { st0 := .open_ }, opt := { lanes := [(p, { st := .service, inSvc := true })] } }

/-- A MGMT frame of partition 0 for node 5, epoch 0. -/
def mgmtHdr : Hdr := { dst := 5, src := 6, op := opMgmt, len := 8 }

/-- A terminating load of no bytes, for this node. -/
def badHdr : Hdr := { dst := 7, src := 6, part := 1, op := opLdReq }

/-- A frame with its payload zero. -/
def frameOf (h : Hdr) : List Byte := fitBytes (Nat.max 256 (48 + h.payLen)) h.bytes

theorem witness_ArrivingFrames :
    (upPort 1023 1).live = true ∧ (upPort 1023 1).portOf 1023 = some 1023 ∧ (upPort 1023 1).laneUp 1023 = true
      ∧ (upPort 1023 1).portEth 1023 = false ∧ (upPort 1023 1).portConflict 1023 = false ∧ (upPort 1023 1).rxIgnored 1023 = false
      ∧ ((upPort 1023 1).lane 1023).req = none ∧ frameCheck 0 [] = some 6 ∧ (upPort 1023 1).flag .stnPort 1023 10 = false
      ∧ (let h := Hdr.ofBytes (frameOf mgmtHdr)
         frameCheck 0xA5 (frameOf mgmtHdr) = none ∧ isHop h.op = false ∧ opListed h.op = true
          ∧ (upPort 1023 1).disabled 0 1023 = false ∧ h.cls < 5 ∧ noNode h = false ∧ isTerm h.op = true
          ∧ (upPort 1023 1).isSelf h.dst = false ∧ (upPort 1023 1).admits h.part h.op = true
          ∧ (upPort 1023 1).stn.st h.epoch ≠ .closed ∧ up.stn.st h.epoch = .closed) := by decide +kernel

theorem witness_ArrivingFrames_more :
    (let s : State := upR [(.devSelf, 0, at_ 32 1 ||| at_ 0 7)]
     let h := Hdr.ofBytes (frameOf badHdr)
     frameCheck 0xA5 (frameOf badHdr) = none ∧ isTerm h.op = true ∧ s.isSelf h.dst = true ∧ termFieldsOk h = false
      ∧ h.cls < 5 ∧ noNode h = false)
      ∧ (let s : State := { upPort 1023 1 with lnk := { lanes := [(1023, { req := some 9 })] } }
         (s.lane 1023).req.isSome = true ∧ isHop (Hdr.ofBytes (frameOf mgmtHdr)).op = false)
      ∧ (let s : State := { up with lnk := { pfc := [(1023, { x7 := some 0 })] }, beat := { running := true, bc := 32 } }
         (s.pfcOf 1023).xoff 7 = some 0 ∧ 0 + 32 ≤ s.beat.bc
          ∧ ({ s with beat := { running := true, bc := 31 } } : State).beat.bc < 0 + 32)
      ∧ (up.pfcOf 1023).xoff 7 = none := by decide +kernel

/-- Ethernet port 1,023, one lane wide, in service, with epoch 0 open and partition 1 running. -/
def upEth : State :=
  { upPort 1023 (at_ 9 1 ||| 1) with part := { st := [(1, { st := .running })] } }

/-- A frame of 64 bytes whose EtherType and opcode fields are as given, with its FCS. -/
def ethOf (type op : Nat) : List Byte :=
  let b := List.replicate 12 (0 : Byte) ++ [BitVec.ofNat 8 (type / 256), BitVec.ofNat 8 type, BitVec.ofNat 8 (op / 256), BitVec.ofNat 8 op]
    ++ List.replicate 44 0
  b ++ leBytes 4 (fcsOf (b ++ [0, 0, 0, 0]))

theorem witness_EthernetArrivals :
    upEth.live = true ∧ upEth.portValid 1023 = true ∧ upEth.portEth 1023 = true ∧ upEth.portLanesUp 1023 = true
      ∧ upEth.portConflict 1023 = false ∧ (List.replicate 63 (0 : Byte)).length < 64
      ∧ leNat ((List.replicate 64 (0 : Byte)).drop (64 - 4)) ≠ fcsOf (List.replicate 64 0)
      ∧ upEth.disabled 0 1023 = false ∧ ({ upEth with part := { dis := [⟨0, 1023, false, 0, 0, true, false⟩] } } : State).disabled 0 1023 = true
      ∧ upEth.stn.st upEth.stn.cur ≠ .closed ∧ ({ upEth with stn := {} } : State).stn.st false = .closed := by decide +kernel

theorem witness_EthernetArrivals_frames :
    (∀ x ∈ [(0x8808, 0x0101), (0x8808, 0x0001), (0x0800, 0)],
      (ethOf x.1 x.2).length = 64 ∧ leNat ((ethOf x.1 x.2).drop ((ethOf x.1 x.2).length - 4)) = fcsOf (ethOf x.1 x.2)
        ∧ halfAt (ethOf x.1 x.2) 12 = x.1 ∧ halfAt (ethOf x.1 x.2) 14 = x.2 ∧ upEth.ethClass 1023 (ethOf x.1 x.2) < 5)
    ∧ (let u := upEth.passEpoch false
       (u.runIntake (u.newStream 1023 1023 true 0 0 false false (ethOf 0x0800 0) false)).2.dropped = false) := by decide +kernel

/-- A stream of one tile at a stage of pipeline 63. -/
def stream0 (g : Stage) : Stream :=
  { id := 1, pipe := 63, stage := g, ret := false, inLane := 1023, inPort := 1023, eth := false, scls := 255, part := 0, cls := 0
    epoch := false, pennant := false, flen := 256, m1 := 0, mx := [], bytes := frameOf mgmtHdr, h := [], hdr := mgmtHdr, ce := false
    poison := false, dead := false, dropped := false, bucket := none, snap := 0, since := 0, alloc := none, credit := false
    desc := none, tsReq := false, pin := none, bcast := none, mirrorTo := none, trk := none }

/-- A live part with one stream, of port 1,023, which is in service. -/
def upStream (t : Stream) : State := { upPort 1023 1 with net := { streams := [t], nextId := 2 } }

/-- `stream0` bound for port 1,023. -/
def uni (g : Stage) : Stream := { stream0 g with m1 := at_ 61 1 ||| at_ 51 1023 }

/-- A result that its unit waits for. -/
def heldRet (u : RetUnit) : Ret := { ret0 with unit := u, held := true }

theorem witness_StationsPassStreams :
    (upStream (uni .steer)).live = true ∧ up.firstAt 63 .queue = none
      ∧ (upStream (uni .steer)).firstAt 63 .steer = some (uni .steer) ∧ (uni .steer).dropped = false
      ∧ (upStream (uni .steer)).dispEntry (uni .steer).epoch 1 (uni .steer).scls < 2 ^ 14
      ∧ (upStream (uni .steer)).flag .stnPort (uni .steer).inPort 11 = false ∧ (uni .steer).disp = 1
      ∧ (upStream (uni .steer)).portOpen (uni .steer).port = true
      ∧ (upStream { uni .steer with m1 := at_ 61 1 }).portOpen 0 = false
      ∧ (upStream (uni .hold)).firstAt 63 .hold = some (uni .hold) ∧ (uni .hold).disp ≠ 4
      ∧ (upStream (uni .hold)).dispEntry (uni .hold).epoch 2 (uni .hold).scls < 2 ^ 14
      ∧ (upStream (uni .hold)).seqFlow (uni .hold) = false ∧ (uni .hold).pennant = false
      ∧ (let t := { uni .hold with pennant := true }
         let s : State := { upStream t with net := { streams := [t], nextId := 2, occE := [(upStream t |>.bucketOfFlow t.key, 1)] } }
         sdiff 32 (s.occD (s.bucketOfFlow t.key)) (s.occE (s.bucketOfFlow t.key)) < 0 ∧ s.heldCount < 16384)
      ∧ ({ up with net := { ret := [heldRet (.pipeline 63)] } } : State).unitWaits (.pipeline 63) = true
      ∧ (upStream (uni .merge)).firstAt 63 .merge = some (uni .merge) ∧ (upStream (uni .merge)).unitWaits (.pipeline 63) = false
      ∧ (upStream (uni .merge)).dispEntry (uni .merge).epoch 3 (uni .merge).scls < 2 ^ 14
      ∧ (upStream (uni .merge)).terminates (uni .merge) = false ∧ (uni .merge).disp ≠ 3
      ∧ (upStream (uni .merge)).cascadeOf (uni .merge) = none ∧ (uni .merge).dead = false
      ∧ (upStream (uni .mirror)).firstAt 63 .mirror = some (uni .mirror)
      ∧ (upStream (uni .mirror)).dispEntry (uni .mirror).epoch 4 (uni .mirror).scls < 2 ^ 14 ∧ (uni .mirror).part = 0 := by
  decide +kernel

theorem witness_StationsPassStreams_more :
    (let t : Stream := { stream0 .merge with hdr := { badHdr with len := 8 }, part := 1 }
     let s : State := { upR [(.devSelf, 0, at_ 32 1 ||| at_ 0 7), (.fmemPart, 1, at_ 0 1)] with net := { streams := [t], nextId := 2 } }
     let w := s.acceptWaiting
     s.firstAt 63 .merge = some t ∧ s.terminates t = true ∧ isMemOp t.hdr.op = true ∧ s.shadowOf t.hdr.src = none
      ∧ s.primaryOf t.hdr.src = none ∧ s.fromShadow t = false ∧ w.trkRoom t.part = true ∧ w.waits t.part = false
      ∧ w.seqFind t.key = none)
    ∧ (let s := upStream (uni .queue)
       s.firstAt 63 .queue = some (uni .queue) ∧ s.poisonedOut (uni .queue) = false
        ∧ s.dispEntry (uni .queue).epoch 5 (uni .queue).scls < 2 ^ 14 ∧ (s.queueTiles (uni .queue) true).isSome = true) := by
  decide +kernel

theorem witness_PennantsAndMirrors :
    (let t := { stream0 .penHeld with bucket := some 5, snap := 1 }
     let s : State := { upStream t with beat := { running := true, bc := 100000 } }
     s.live = true ∧ s.stream 1 = some t ∧ t.stage = .penHeld ∧ s.penReady t = false ∧ t.since + s.penTimeout ≤ s.beat.bc
      ∧ s.coming (·.pennantDue 1) = true ∧ s.heldCount < 16384
      ∧ s.net.streams.all (fun t => decide (t.stage ≠ .penWait ∧ t.stage ≠ .seqWait)) = true)
    ∧ (upStream (stream0 .penHeld)).penReady (stream0 .penHeld) = true
    ∧ (upStream (stream0 .penHeld)).coming (·.pennantDue 1) = false
    ∧ (upStream (stream0 .seqHeld)).stream 1 = some (stream0 .seqHeld) ∧ (upStream (stream0 .seqHeld)).seqReady (stream0 .seqHeld) = true
    ∧ (upStream (stream0 .seqWait)).net.streams.find? (fun t => t.stage = .penWait || t.stage = .seqWait) = some (stream0 .seqWait)
    ∧ up.stream 1 = none
    ∧ (∀ bc ∈ [14, 15], ({ upB bc [(.stnPartCfg, 0, 0)] with part := { digests := [⟨511, [], 0, false, 0⟩] } } : State).part.digests[0]? = some ⟨511, [], 0, false, 0⟩)
    ∧ 0 + Nat.max 16 ((upB 15 [(.stnPartCfg, 0, 0)]).fld .stnPartCfg 0 63 48) ≤ (upB 15 [(.stnPartCfg, 0, 0)]).beat.bc + 1
    ∧ (upB 14 [(.stnPartCfg, 0, 0)]).beat.bc + 1 < 0 + Nat.max 16 ((upB 14 [(.stnPartCfg, 0, 0)]).fld .stnPartCfg 0 63 48)
    ∧ (({ upB 63 [] with part := { shadowDrop := [(262143, 0)] } } : State).part.shadowDrop.any fun x =>
        decide (x.1 = 262143) && decide (x.2 + 64 ≤ 63 + 1)) = true
    ∧ (up.part.shadowDrop.any fun x => decide (x.1 = 262143) && decide (x.2 + 64 ≤ up.beat.bc + 1)) = false := by decide +kernel

/-- A terminating pennant whose flow_seq is not yet reached, beside its flow's record. -/
def upSeqHeld : State :=
  let t := { stream0 .seqHeld with hdr := { badHdr with flowSeq := 5 } }
  let s : State := { upStream t with beat := { running := true, bc := 100000 } }
  { s with mem := { spine := memPutWord [] (s.seqAddr t.key 3) (seqWord0 t.key) } }

theorem witness_PennantsAndMirrors_seq :
    (let t := { stream0 .seqHeld with hdr := { badHdr with flowSeq := 5 } }
     upSeqHeld.stream 1 = some t ∧ upSeqHeld.seqReady t = false ∧ (upSeqHeld.seqFind t.key).isSome = true
      ∧ t.since + upSeqHeld.penTimeout ≤ upSeqHeld.beat.bc) := by decide +kernel

/-- A return-port result of partition 0 for port 1,023. -/
def ret1 : Ret := { ret0 with pipe := 63, bytes := frameOf mgmtHdr, cls := 0, target := 1023, subq := 127 }

/-- One copy, for port 1,023, of `uni .stored`. -/
def copy0 (sending : Option Nat) : Copy :=
  { cid := 0, sid := 1, port := 1023, cls := 0, subq := 0, part := 0, tiles := 1, tile := 0, flen := 256, ce := false, member := none, mirror := false
    sending := sending, frame := frameOf mgmtHdr }

/-- A live part with that copy, whose packet has `refs` references. -/
def upCopy (sending : Option Nat) (refs : Nat) : State :=
  { upStream (uni .stored) with
    q := { copies := [copy0 sending], nextCid := 1, lists := [(1023, [0])] }
    buf := { own := [(0, ownerWord 0 0 0 ||| at_ 23 refs)] }
    lnk := if sending = none then {} else { lanes := [(1023, { queue := [0], now := .copy })] } }

theorem witness_LaunchAndTheEndOfAFrame :
    (let s : State := { up with net := { ret := [ret1] } }
     s.live = true ∧ s.mem.hostAcc = [] ∧ s.net.ret.find? (fun r => dieOfPipe r.pipe = 1) = some ret1
      ∧ ret1.kind = 2 ∧ ret1.target < 1024 ∧ ret1.subq < 128
      ∧ s.dispEntry ret1.epoch 5 255 < 2 ^ 14 ∧ s.q.copies.length < 2097152
      ∧ (s.allocTiles ret1.pipe (tilesOf (Nat.max 256 ret1.bytes.length)) 0 ret1.cls false (dieOfLane ret1.target) true).isSome = true
      ∧ s.net.ret.find? (fun r => dieOfPipe r.pipe = 0) = none
      ∧ (({ s with buf := { lists := [(0, some []), (1, some [])] } } : State).allocTiles ret1.pipe
          (tilesOf (Nat.max 256 ret1.bytes.length)) 0 ret1.cls false (dieOfLane ret1.target) true).isNone = true)
    ∧ SMap.get [] up.lnk.resend 1023 = [] ∧ (∀ n ∈ up.portLanes 1023, (up.lane n).hops = [])
    ∧ SMap.get [] up.q.lists 1023 = [] ∧ (up.q.copies.map (·.cid)).Nodup
    ∧ SMap.get [] (upCopy none 1).q.lists 1023 = (copy0 none).cid :: []
    ∧ (upCopy none 1).q.copies.find? (fun x => x.cid = (copy0 none).cid) = some (copy0 none)
    ∧ (upCopy none 1).stream (copy0 none).sid = some (uni .stored)
    ∧ ((upCopy none 1).startable ((upCopy none 1).lanesFor (uni .stored) (copy0 none))).1 = [1023]
    ∧ (State.fewest (upCopy none 1) [1023]).1 = some 1023 ∧ (State.fewest (upCopy none 1) []).1 = none
    ∧ (upCopy none 1).dispEntry (uni .stored).epoch 6 (uni .stored).scls < 2 ^ 14
    ∧ (upCopy none 1).dispEntry (uni .stored).epoch 7 (uni .stored).scls < 2 ^ 14 ∧ (uni .stored).poison = false
    ∧ (up.lane 1023).now = .idle ∧ (up.lane 1023).hops = [] ∧ (up.lane 1023).asked = none
    ∧ (let l : Lane := { now := .ahead, ahead := [(1022, [])] }
       (({ up with lnk := { lanes := [(1023, l)] } } : State).lane 1023) = l)
    ∧ (∀ refs ∈ [1, 63], (upCopy (some 1023) refs).sendingOn 1023 = some (copy0 (some 1023)) ∧ (upCopy (some 1023) refs).portEth 1023 = false
        ∧ bit ((upCopy (some 1023) refs).owner (copy0 none).tile) 31 = true ∧ (upCopy (some 1023) refs).refs (copy0 none).tile = refs
        ∧ ((upCopy (some 1023) refs).lane 1023).hops = [] ∧ ((upCopy (some 1023) refs).lane 1023).asked = none)
    ∧ (uni .stored).desc = none ∧ (uni .stored).credit = false ∧ (uni .stored).tsReq = false := by
  decide +kernel

/-- Lane 1,023 of an Asune port in service, as given. -/
def upLane (bc : Nat) (l : Lane) : State := { upPort 1023 1 with lnk := { lanes := [(1023, l)] }, beat := { running := true, bc := bc } }

theorem witness_LaneReplay :
    (upLane 5 {}).live = true ∧ (upLane 5 {}).asuneLane 1023 = true ∧ (upLane 5 {}).rxIgnored 1023 = false
      ∧ ((upLane 5 {}).lane 1023).down = false ∧ ((upLane 5 {}).lane 1023).req = none ∧ ((upLane 5 {}).lane 1023).attempts = 0
      ∧ (upLane 5 {}).txBypassed 1023 = false ∧ ((upLane 5 { now := .copy }).lane 1023).now ≠ .idle
      ∧ ((upLane 5 { req := some 3 }).lane 1023).req.isSome = true ∧ up.asuneLane 1023 = false
      ∧ ({ upLane 5 {} with byp := { ignored := [1023] } } : State).rxIgnored 1023 = true
      ∧ ({ upLane 5 {} with byp := { txByp := [1023] } } : State).txBypassed 1023 = true
      ∧ ((upLane 5 {}).lane 1023).now = .idle ∧ ((upLane 5 {}).lane 1023).hops = []
      ∧ (∃ h ∈ ((upLane 5 { replay := [⟨4294967295, [], 0, 5⟩] }).lane 1023).replay, h.num = 4294967295)
      ∧ (let s := upLane 7 { req := some 3, attempts := 4, lastAt := 5, firstAt := 0 }
         (s.lane 1023).attempts = 4 ∧ (s.lane 1023).lastAt + 2 ≤ s.beat.bc ∧ (s.lane 1023).down = false)
      ∧ (let s := upLane 8 { attempts := 1, lastAt := 0, firstAt := 0 }
         (s.lane 1023).req = none ∧ (s.lane 1023).attempts ≠ 0 ∧ (s.lane 1023).firstAt + 8 ≤ s.beat.bc)
      ∧ (let s := upLane 7 { req := some 3, attempts := 3, lastAt := 5, firstAt := 0 }
         (s.lane 1023).attempts ≠ 0 ∧ (s.lane 1023).attempts < 4 ∧ (s.lane 1023).lastAt + 2 ≤ s.beat.bc
          ∧ s.beat.bc < (s.lane 1023).firstAt + 8)
      ∧ (let s : State := { upLane 7 { awaitHand := true } with opt := {} }
         (s.lane (1023 + 0)).awaitHand = true ∧ SMap.get [] s.lnk.resend 1023 = [] ∧ s.goodLanes 1023 = [])
      ∧ (upLane 5 {}).portOf 1023 = some 1023 ∧ 0 < (upLane 5 {}).portWidth 1023 ∧ ((upLane 5 {}).lane (1023 + 0)).awaitHand = false
      ∧ (upLane 5 {}).laneUp (1023 + 0) = true := by
  refine ⟨by decide +kernel, by decide +kernel, by decide +kernel, by decide +kernel, by decide +kernel, by decide +kernel,
    by decide +kernel, by decide +kernel, by decide +kernel, by decide +kernel, by decide +kernel, by decide +kernel,
    by decide +kernel, by decide +kernel, ⟨_, List.mem_cons_self, rfl⟩, by decide +kernel, by decide +kernel, by decide +kernel,
    by decide +kernel, by decide +kernel, by decide +kernel, by decide +kernel, by decide +kernel⟩

/-- A port two lanes wide, whose lane 1,023 is out of service and awaits the neighbour's hand-over; lane 1,022 is in service. -/
def upHand : State :=
  { upR [(.stnPort, 1022, at_ 5 1 ||| 1)] with
    opt := { lanes := [(1022, { st := .service, inSvc := true })] }
    lnk := { lanes := [(1022, { stopped := true }), (1023, { awaitHand := true, replay := [⟨4, [1], 0, 0⟩, ⟨5, [2], 0, 0⟩] })] } }

theorem witness_LaneReplay_hand :
    upHand.live = true ∧ upHand.asuneLane 1022 = true ∧ upHand.portOf 1022 = some 1022 ∧ 1 < upHand.portWidth 1022
      ∧ (upHand.lane (1022 + 1)).awaitHand = true ∧ SMap.get [] upHand.lnk.resend 1022 = [] ∧ upHand.goodLanes 1022 = []
      ∧ (let s : State := { upHand with lnk := {} }
         (s.lane (1022 + 1)).awaitHand = false ∧ s.laneUp (1022 + 1) = false) := by decide +kernel

theorem witness_LinkCredits :
    up.live = true ∧ up.creditDue 1023 = false ∧ (upLane 5 {}).creditDue 1023 = true ∧ ((upLane 5 {}).lane 1023).now = .idle
      ∧ ((upLane 5 { now := .copy }).lane 1023).now ≠ .idle ∧ (upLane 5 { now := .copy }).creditDue 1023 = true
      ∧ (upLane 5 {}).asuneLane 1023 = true ∧ (upLane 5 {}).portOf 1023 = some 1023
      ∧ SMap.get [] (upLane 5 {}).lnk.resend 1023 = [] ∧ up.asuneLane 1023 = false := by decide +kernel

/-! ## Witnesses: fabric memory -/

/-- A live part on which partition 1 has a window of 4 KiB at the start of each space with every right, owns counters 0
to 63, may use eight tracker entries, and has one tracker entry, of request `h`, at boundary count `bc`. -/
def upTrk (bc : Nat) (m : List Host.Cell) (h : Hdr) (pay : List Byte) : State :=
  { upB bc [(.fmemWin, 2, at_ 60 15 ||| at_ 0 1), (.fmemWin, 3, at_ 60 15 ||| at_ 0 1), (.fmemPart, 1, at_ 63 1 ||| at_ 0 8),
      (.fmemCntOwn, 0, at_ 12 1 ||| at_ 0 1), (.cntPart, 1, at_ 63 1), (.fmemAwinRegion, 0, at_ 63 1 ||| at_ 34 1)] with
    host := { ddrState := 2 }
    mem := { spine := m, trk := [{ id := 7, ord := 0, die := 0, since := 0, sent := false, silent := false, reset := false, owned := true, reply := none,
                                   req := { stream0 .merge with hdr := h, part := 1, bytes := h.bytes ++ pay } }] } }

/-- A request of partition 1, from node 6. -/
def req1 (op off len : Nat) : Hdr := { dst := 7, src := 6, part := 1, op := op, offset := off, len := len, opTag := 3 }

/-- The common premises of a performed request. -/
def waiting (s : State) (h : Hdr) : Bool :=
  s.live && (s.trkAt 7).isSome && ((s.trkAt 7).map fun t => (t.reply.isNone, t.silent, t.reset, t.req.hdr)) = some (true, false, false, h)
    && !(s.trkAt 7).any s.trkBlocked && !s.recalHolds (s.reqLines h) && (counterLines h).all (fun l => !s.poisoned .near l)

theorem witness_LoadsAndStores :
    (∀ h ∈ [req1 opLdReq (0x1000 - 8) 8, req1 opLdReq (2 ^ 46) 8, req1 opLdReq (2 * 2 ^ 46) 8, req1 opLdReq (3 * 2 ^ 46) 8],
      waiting (upTrk 0 [] h []) h = true ∧ (upTrk 0 [] h []).checkReq h = none ∧ (upTrk 0 [] h []).loadBad h = false)
    ∧ (let h := req1 opLdReq 0x1000 8
       waiting (upTrk 0 [] h []) h = true ∧ (upTrk 0 [] h []).checkReq h = some 3)
    ∧ (let h := req1 opLdReq 0 8
       let s : State := { upTrk 0 [] h [] with host := {} }
       waiting s h = true ∧ s.checkReq h = none ∧ s.loadBad h = true) := by decide +kernel

theorem witness_LoadsAndStores_store :
    (∀ h ∈ [req1 opSt 0 8, req1 opStCnt 0 8, req1 opStCnt (2 ^ 46) 8, req1 opSub 0 8],
      waiting (upTrk 0 [] h []) h = true ∧ (upTrk 0 [] h []).checkReq h = none ∧ h.poison = false)
    ∧ (let h := { req1 opSt 0 8 with poison := true }
       (upTrk 0 [] h []).checkReq h = none ∧ (upTrk 0 [] h []).carry h.part = false)
    ∧ (let h := { req1 opStCnt 0 8 with ctr := 64 }
       (upTrk 0 [] h []).checkReq h = some 3 ∧ (upTrk 0 [] h []).owns 1 0 = true ∧ (upTrk 0 [] (req1 opStCnt 0x1000 8) []).owns 1 0 = true
        ∧ (upTrk 0 [] (req1 opStCnt 0x1000 8) []).checkReq (req1 opStCnt 0x1000 8) = some 3)
    ∧ (upTrk 0 [] (req1 opStCnt (2 ^ 46) 8) []).winAddr (req1 opStCnt (2 ^ 46) 8) = (.near, 0x1C00000)
    ∧ (upTrk 0 [] (req1 opStCnt 0 8) []).winAddr (req1 opStCnt 0 8) = (.spine, 0)
    ∧ (upTrk 0 [] (req1 opSub 0 8) []).sub 0 = none
    ∧ (let s : State := { upTrk 0 [] (req1 opStCnt 0 8) [] with mem := { near := [⟨0x800000, 2⟩], subs := [(0, some ⟨req1 opSub 0 8⟩)] } }
       s.sub 0 = some ⟨req1 opSub 0 8⟩ ∧ (s.ctr 0 + 1) % 2 ^ 64 < s.subTarget 0
        ∧ ({ s with mem := { near := [⟨0x800000, 1⟩], subs := s.mem.subs } } : State).subTarget 0 ≤ (s.ctr 0 + 1) % 2 ^ 64) := by decide +kernel

/-- The record of node 6 and partition 1 whose slot 3 holds op_tag 3 with the result `r`, at its address. -/
def record3 (a : Nat) (r : Byte) : List Host.Cell :=
  [⟨a + 1, 0x80⟩, ⟨a + 2, 3⟩, ⟨a + 4, 1⟩, ⟨a + 5, 0x60⟩, ⟨a + 7, 0x80⟩, ⟨a + 64 + 16 * 3 + 5, 0x80⟩, ⟨a + 64 + 16 * 3 + 6, 3⟩, ⟨a + 72 + 16 * 3, r⟩]

theorem witness_AtomicsApplyOnce :
    (∀ p ∈ [(0, 4), (1, 8), (2, 1), (3, 16), (4, 4), (5, 4), (6, 4), (7, 4), (8, 4), (9, 4), (0xA, 4), (0xB, 4), (0xC, 2)],
      let h := req1 (0x10 + p.1) 0 p.2
      let s := upTrk 0 [] h []
      waiting s h = true ∧ s.checkReq h = none ∧ s.badRead .spine 0 (atomWidth h) = false ∧ s.atomAddr h = (.spine, 0)
        ∧ s.flag .fmemAwinRegion 0 63 = true) := by decide +kernel

theorem witness_AtomicsApplyOnce_record :
    (let h := req1 0x11 0 8
     let s := upTrk 0 [] h []
     (s.awinFind h.src h.part).map (fun x => (bit (x.2.spineWord x.1) 62, x.2.badRead .spine x.1 512, bit (x.2.spineWord x.1) 15,
        decide (0 + 8 ≤ x.1))) = some (false, false, false, true))
    ∧ (let h := req1 0x11 0 8
       let a := (upTrk 0 [] h []).awinRec 6 1 0
       let s := upTrk 0 (record3 a 9) h []
       waiting s h = true ∧ (s.awinFind h.src h.part).map (·.1) = some a ∧ bit (s.spineWord a) 62 = false ∧ bit (s.spineWord a) 15 = true
        ∧ sdiff 16 h.opTag (bits (s.spineWord a) 31 16) ≤ 0 ∧ -15 ≤ sdiff 16 h.opTag (bits (s.spineWord a) 31 16)
        ∧ bits (s.spineWord (a + 64 + 16 * (h.opTag % 16))) 63 48 = h.opTag
        ∧ bit (s.spineWord (a + 64 + 16 * (h.opTag % 16))) 47 = true) := by decide +kernel

/-- A request that waits at merge. -/
def waitReq : Stream := { stream0 .memWait with hdr := req1 opLdReq 0 8, part := 1 }

/-- `upTrk` with its entry changed. -/
def upEnt (bc : Nat) (f : Trk → Trk) : State :=
  let s := upTrk bc [] (req1 opLdReq 0 8) []
  { s with mem := { s.mem with trk := s.mem.trk.map f } }

theorem witness_TrackerEntries :
    up.live = true ∧ up.net.streams.filter (fun t => t.stage = .memWait) = []
      ∧ (let s : State := { upTrk 0 [] (req1 opLdReq 0 8) [] with net := { streams := [waitReq] } }
         s.net.streams.filter (fun t => t.stage = .memWait) = [waitReq] ∧ s.trkRoom waitReq.part = true ∧ s.seqFlow waitReq = false)
      ∧ (upR [(.fmemPart, 1, 0)]).trkRoom waitReq.part = false
      ∧ ((upEnt 0 id).trkAt 7).isSome = true
      ∧ ((upEnt 0 fun t => { t with reply := some ⟨0, [1], false⟩ }).trkAt 7).map (fun t => (t.reply, t.sent, t.silent))
          = some (some ⟨0, [1], false⟩, false, false)
      ∧ ((upEnt 0 fun t => { t with reply := some ⟨0, [1], false⟩, silent := true }).trkAt 7).map (fun t => (t.sent, t.silent))
          = some (false, true)
      ∧ (upEnt 0 id).beat.bc + 1 < 0 + (upEnt 0 id).trkTimeout
      ∧ 0 + (upEnt 1000000000 id).trkTimeout ≤ (upEnt 1000000000 id).beat.bc
      ∧ up.unitWaits (.engine 0) = false ∧ ({ up with net := { ret := [heldRet (.engine 1)] } } : State).unitWaits (.engine 1) = true
      ∧ (let s : State := { upB 1000000000 [] with net := { streams := [waitReq] } }
         s.trkAt 1 = none ∧ s.stream 1 = some waitReq ∧ waitReq.stage = .memWait ∧ waitReq.since + s.trkTimeout ≤ s.beat.bc)
      ∧ waitReq.since + up.trkTimeout > up.beat.bc + 1
      ∧ up.trkAt 7 = none ∧ up.stream 7 = none ∧ up.mem.late.find? (fun t => t.id = 7) = none
      ∧ (let s : State := { up with mem := { late := (upEnt 0 fun t => { t with reply := some ⟨0, [], false⟩ }).mem.trk } }
         s.trkAt 7 = none ∧ (s.mem.late.find? (fun t => t.id = 7)).map (·.reply.isSome) = some true) := by decide +kernel

theorem witness_MemoryKeepsItsCanonicalForm :
    State.reset.mem.wf = true
      ∧ (∃ t, exec (.trackerTimeout 7) State.reset = .next t) := ⟨by decide, State.reset, rfl⟩

/-! ## Witnesses: collectives, checks and management -/

/-- A context of partition 1: SUM of FP32 with two contributors, chunks of two segments of one tile, one group. -/
def desc0 (quorum : Bool) : Desc :=
  { part := 1, collId := 3, quorum := quorum, seat := false, cascade := false, keep := false, autoNext := false, resClass := 0, level := 0
    parent := 0, resTag := 0, ar := { op := 0, inFmt := 0, acc := 0, outFmt := 0, stoch := false }, comb := 0, chunkT := 2, segT := 1, k := 1
    window := 0, keepCtr := 0, keepOff := 0, rects := [⟨0, 0, 0, 1, 0, 0⟩], groups := [9] }

/-- A chunk of context 4,095, with two segments, of which the first has `n` contributors. -/
def chunk0 (place : Whereabouts) (n : Nat) : Chunk :=
  { ctx := 4095, chunk := 0, epoch := false, home := 767, openedAt := 0, window := 16, place := place,
    segs := [{ got := List.range n, done := List.range n }, {}] }

/-- A live part with that context and chunk, at boundary count `bc`, with spilling enabled. -/
def upColl (bc : Nat) (d : Desc) (c : Chunk) : State :=
  { upB bc [(.bufSpillCfg, 0, 1)] with
    coll := { ctx := [(4095, some { d := d, st := .running, span := 1, count := 1, open_ := true })], chunks := [c] } }

/-- A contribution of the context that waits at merge. -/
def contrib0 : Stream := { stream0 .collWait with part := 1, hdr := { op := opContrib, part := 1, coll := 3, chunk := 0 } }

/-- A contribution in the input buffer of cluster 767. -/
def inbuf0 : InBuf := ⟨767, 4095, 0, 0, 1, 1, false, List.replicate 256 0⟩

theorem witness_ChunksDrawCombineExpireAndSpill :
    (upColl 0 (desc0 false) (chunk0 .none 0)).live = true ∧ up.ctx 4095 = none ∧ up.chunk 4095 1048575 = none
      ∧ (let s : State := { upColl 0 (desc0 false) (chunk0 .none 0) with net := { streams := [contrib0] } }
         s.chunk 4095 0 = some (chunk0 .none 0) ∧ (s.ctx 4095).isSome = true ∧ s.tableUse 767 < 128
          ∧ s.net.streams.filter (fun t => t.stage = .collWait) = [contrib0] ∧ contrib0.hdr.chunk = 0
          ∧ s.ctxOf contrib0.part contrib0.hdr.coll = some 4095
          ∧ (s.drawPool 0 767 4095 0 1 0 (desc0 false).partialKib).isSome = true)
      ∧ (let s : State := { upR [(.bufStgCarve, 0, 0)] with coll := (upColl 0 (desc0 false) (chunk0 .none 0)).coll }
         s.drawPool 0 767 4095 0 1 0 (desc0 false).partialKib = none)
      ∧ (let s := upColl 0 (desc0 false) (chunk0 .spill 0)
         let v : State := { s with coll := { s.coll with inbuf := [inbuf0] } }
         v.wanted 4095 0 = true ∧ v.net.streams.all (fun t => t.stage ≠ .collWait) = true) := by decide +kernel

theorem witness_ChunksCombine :
    (let s := upColl 0 (desc0 false) (chunk0 .staging 1)
     let v : State := { s with coll := { s.coll with inbuf := [inbuf0] } }
     v.live = true ∧ v.clusterFree 767 = true ∧ v.coll.inbuf = inbuf0 :: [] ∧ v.chunk 4095 0 = some (chunk0 .staging 1)
      ∧ (v.ctx 4095).map (·.d) = some (desc0 false) ∧ v.combineHits (desc0 false) 767 false 0 {} inbuf0.data = false
      ∧ (chunk0 .staging 1).poisonEnd = false ∧ 1 + 1 = (desc0 false).n ∧ 0 + 1 ≠ (desc0 false).n
      ∧ (chunk0 .staging 1).check = none ∧ ((chunk0 .staging 1).segs.map (·.sent)) = [false, false]
      ∧ ((chunk0 .staging 0).segs.map (·.poison)) = [false, false])
    ∧ up.coll.inbuf.all (fun e => e.cluster ≠ 767) = true ∧ up.unitWaits (.cluster 767) = false
    ∧ ({ up with net := { ret := [heldRet (.cluster 767)] } } : State).unitWaits (.cluster 767) = true := by decide +kernel

/-- `upColl` with a poisoned first segment. -/
def chunkBad : Chunk := { chunk0 .staging 1 with segs := [{ poison := true }, {}] }

/-- `upColl` with spilling enabled after ten boundaries in staging, and one small and one large spill buffer. -/
def upSpill (bc : Nat) : State :=
  { upB bc [(.bufSpillCfg, 0, at_ 28 1 ||| at_ 12 1 ||| 1), (.collCfg, 0, at_ 48 10)] with
    coll := (upColl bc (desc0 false) (chunk0 .staging 1)).coll, host := { ddrState := 2 } }

theorem witness_ChunksEnd :
    (let s := upColl 16 (desc0 true) (chunk0 .staging 1)
     s.chunk 4095 0 = some (chunk0 .staging 1) ∧ 0 + 16 ≤ s.beat.bc ∧ 0 + 16 ≤ (upColl 15 (desc0 true) (chunk0 .staging 1)).beat.bc + 1
      ∧ (chunk0 .staging 1).segs.all (fun g => !g.poison) = true
      ∧ ((s.ctx 4095).map fun c => (c.roundIdx 0).isSome) = some true ∧ (desc0 true).quorum = true ∧ (desc0 false).quorum = false
      ∧ ({ chunk0 .staging 1 with segs := [{ sent := true }, { done := [0] }] } : Chunk).segs.all
          (fun g => g.sent || decide ((desc0 true).k ≤ g.done.length)) = true
      ∧ (chunk0 .staging 1).segs.all (fun g => g.sent || decide ((desc0 true).k ≤ g.done.length)) = false
      ∧ chunkBad.segs.any (fun g => g.poison && !g.sent) = true ∧ s.carry (desc0 true).part = false)
    ∧ (upColl 14 (desc0 true) (chunk0 .staging 1)).beat.bc + 1 < 0 + 16
    ∧ (∀ bc ∈ [9, 10], (let s := upSpill bc
       0 + Nat.max 1 (s.fld .collCfg 0 63 48) ≤ s.beat.bc + 1 ∧ s.beat.bc + 1 < 0 + 16 ∧ (chunk0 .staging 1).judged ≠ s.beat.bc + 1
        ∧ (chunk0 .staging 1).judged ≠ s.beat.bc ∧ s.flag .bufSpillCfg 0 0 = true
        ∧ (s.drawPool 1 0 4095 0 1 0 (desc0 false).partialKib).isSome = true))
    ∧ 0 + Nat.max 1 ((upSpill 10).fld .collCfg 0 63 48) ≤ (upSpill 10).beat.bc
    ∧ (upSpill 8).beat.bc + 1 < 0 + Nat.max 1 ((upSpill 8).fld .collCfg 0 63 48)
    ∧ up.flag .bufSpillCfg 0 0 = false ∧ (chunk0 .none 0).place ≠ .staging ∧ (chunk0 .recall 0).place = .recall := by decide +kernel

/-- A check of context 4,095's chunk 0, with one compare. -/
def check0 (differs : Option Nat) : Check :=
  { ctx := 4095, chunk := 0, desc := desc0 false, epoch := false, home := 0, check := 1, arb := 2, openedAt := 0,
    cmps := [{ seg := 1, digest := 5, differs := differs, sentAt := 0 }], arbDrawn := differs.isSome }

/-- A live part with that check. -/
def upCheck (bc : Nat) (differs : Option Nat) : State := { upB bc [] with coll := { checks := [check0 differs] } }

/-- A result of a parent. -/
def result0 : Stream := { stream0 .merge with part := 1, hdr := { dst := 0x3FFFF, op := opResult, part := 1, coll := 3 } }

theorem witness_ChecksRelaysAndBroadcasts :
    up.live = true ∧ up.checkOf 4095 1048575 1 = none ∧ (upCheck 0 none).checkOf 4095 0 1 = some (check0 none)
      ∧ ((check0 none).cmps.find? (fun m => m.seg = 1 && m.differs.isNone)).map (·.digest) = some (5 : Word).toNat
      ∧ (upCheck 0 none).checkWaits (check0 none) 1 = false
      ∧ ({ upCheck 0 none with coll := { inbuf := [{ inbuf0 with cluster := 1, seg := 1 }] } } : State).checkWaits (check0 none) 1 = true
      ∧ (check0 none).cmps.find? (fun m => m.seg = 1 && m.differs.isSome) = none
      ∧ ((check0 (some 6)).cmps.find? (fun m => m.seg = 1 && m.differs.isSome)).map (·.differs) = some (some (6 : Word).toNat)
      ∧ (check0 (some 6)).arbDrawn = true ∧ (check0 none).arbDrawn = false
      ∧ (check0 (some 6)).cmps.find? (fun m => m.seg = 1 && m.differs.isNone) = none
      ∧ (5 : Word).toNat ≠ (6 : Word).toNat ∧ (7 : Word).toNat ≠ (6 : Word).toNat ∧ (7 : Word).toNat ≠ (5 : Word).toNat
      ∧ ((check0 none).cmps.find? (fun m => m.seg = 1)).map (·.sentAt) = some 0
      ∧ (upCheck 0 none).beat.bc + 1 < 0 + (upCheck 0 none).checkLimit
      ∧ 0 + (upCheck 100000 none).checkLimit ≤ (upCheck 100000 none).beat.bc
      ∧ ({ upR [(.bufStgCarve, 0, 0)] with coll := (upCheck 0 none).coll } : State).drawPool 0 2 4095 0 1 0 (desc0 false).partialKib = none := by
  decide +kernel

theorem witness_RelaysAndBroadcasts :
    up.coll.casc = [] ∧ up.cascadeOf result0 = none ∧ up.unitWaits (.pipeline result0.pipe) = false
      ∧ (let s : State := { up with coll := { casc := [result0] }, net := { ret := [heldRet (.pipeline result0.pipe)] } }
         s.coll.casc = result0 :: [] ∧ s.unitWaits (.pipeline result0.pipe) = true)
      ∧ (let s : State := { upColl 0 { desc0 false with cascade := true } (chunk0 .none 0) with net := {} }
         s.cascadeOf result0 = some 4095 ∧ (s.ctx 4095).map (·.d.keep) = some false)
      ∧ up.coll.bcasts.find? (fun b => b.ctx = 4095 && !up.bcastLive b.id) = none
      ∧ (let s : State := { up with coll := { bcasts := [⟨8, 4095, 1, 3, 0, 0, 0, [9]⟩] }, net := { lost := [(8, 0, 511)] } }
         s.coll.bcasts.find? (fun b => b.ctx = 4095 && !s.bcastLive b.id) = some ⟨8, 4095, 1, 3, 0, 0, 0, [9]⟩
          ∧ s.net.lost.filter (fun x => x.1 = 8) = [(8, 0, 511)] ∧ 0 < [9].length
          ∧ up.net.lost.filter (fun x => x.1 = 8) = []) := by decide +kernel

/-- A MGMT frame of a kind, with its payload's words after the first. -/
def mgmt0 (kind n : Nat) (ws : List Word) : Stream :=
  let h : Hdr := { mgmtHdr with len := 8 + 8 * ws.length }
  { stream0 .merge with hdr := h, bytes := h.bytes ++ wordBytes (at_ 48 kind ||| at_ 32 n) ++ (ws.flatMap wordBytes) }

/-- A live part with that frame. -/
def upMgmt (t : Stream) : State := { up with net := { mgmt := [t] } }

theorem witness_ManagementFrames :
    up.live = true ∧ up.net.mgmt = []
      ∧ (∀ p ∈ [(1, 1, [0]), (1, 129, [0]), (2, 1, [0, 0]), (2, 65, []), (3, 0, [at_ 44 1, 0, 0]), (3, 0, [at_ 63 1]), (5, 0, []), (0x88F7, 0, [0])],
          mgmtKind (mgmt0 p.1 p.2.1 p.2.2) = p.1 ∧ halfAt ((mgmt0 p.1 p.2.1 p.2.2).bytes.drop 48) 2 = p.2.1
            ∧ mgmtWords (mgmt0 p.1 p.2.1 p.2.2) = p.2.2 ∧ (mgmt0 p.1 p.2.1 p.2.2).hdr.len = 8 + 8 * p.2.2.length)
      ∧ mgmtMay (BitVec.ofNat 64 (RegKind.devSelf.off 0) : Word).toNat = true ∧ mgmtMay (0x4A00000 : Word).toNat = false
      ∧ 2 + bits (at_ 44 1 : Word) 54 44 = [(at_ 44 1 : Word), 0, 0].length ∧ bit (at_ 44 1 : Word) 63 = false
      ∧ bit (at_ 63 1 : Word) 63 = true
      ∧ up.flag .hostMgmtCfg 0 63 = false ∧ (upMgmt (mgmt0 1 1 [0])).net.mgmt = mgmt0 1 1 [0] :: []
      ∧ up.unitWaits .controller = false ∧ ({ up with net := { ret := [heldRet .controller] } } : State).unitWaits .controller = true
      ∧ (let s : State := upR [(.hostMgmtCfg, 0, at_ 63 1 ||| at_ 0 63), (.hostCmdCtl, 63, at_ 63 1), (.hostCmdIdx, 63, at_ 32 512)]
         2 ^ s.cringLg 63 < s.ringAvail 63 + 3)
      ∧ (let s : State := upR [(.hostMgmtCfg, 0, at_ 63 1 ||| at_ 0 63), (.hostCmdCtl, 63, at_ 63 1)]
         s.flag .hostMgmtCfg 0 63 = true ∧ s.cringEn 63 = true ∧ (s.cring 63).error = false ∧ s.fld .hostMgmtCfg 0 5 0 = 63
          ∧ s.ringAvail 63 + 3 ≤ 2 ^ s.cringLg 63) := by decide +kernel

theorem witness_ManagementFrames_ptp :
    (let t := mgmt0 0x88F7 0 [at_ 56 0, 0]
     mgmtKind t = 0x88F7)
    ∧ (let t := mgmt0 0x88F7 0 [at_ 56 0, 0]
     let msg := (t.bytes.drop 50).take (t.hdr.len - 2)
     byteAt msg 0 % 16 ≤ 3 ∧ byteAt msg 4 = up.fld .timeDomCfg 0 31 24 ∧ up.time.captures < 64)
    ∧ (let msg : List Byte := [4, 0, 0, 0, 0]
       3 < byteAt msg 0 % 16)
    ∧ (let msg : List Byte := [3, 0, 0, 0, 77]
       byteAt msg 0 % 16 ≤ 3 ∧ byteAt msg 4 ≠ up.fld .timeDomCfg 0 31 24 ∧ byteAt msg 4 ≠ up.fld .timeDomCfg 0 39 32)
    ∧ 64 ≤ ({ up with time := { captures := 64 } } : State).time.captures := by decide +kernel

/-! ## Witnesses: light engines and optical bypass -/

/-- A live part whose engine 15 has lasers as given, lane 1,023 as given, and auto set. -/
def upLe (lasers : List (Nat × Laser)) (o : OptLane) : State :=
  { upB 200000 [(.leCfg, 15, at_ 0 15)] with
    opt := { lasers := lasers.map fun x => (180 + x.1, x.2), lanes := [(1023, o)] }, pwr := { dom := [(79, { st := 2 })] } }

theorem witness_LasersAndSpares :
    (upLe [] {}).live = true ∧ ((upLe [] {}).laser 15 11).st = 0
      ∧ (let s := upLe [(7, { st := 2 }), (11, { st := 3 })] { st := .service }
         (s.laser 15 7).st ≠ 0 ∧ (s.laser 15 7).st ≠ 4 ∧ s.flag .leCfg 15 2 = true ∧ (s.laser 15 (spareOf 7)).st = 3
          ∧ 1023 ∈ fedLanes 15 7 ∧ (s.optLane 1023).st ≠ .off ∧ 1022 ∉ fedLanes 15 7)
      ∧ (let s := upLe [(7, { st := 2 }), (11, { st := 4 })] { st := .service }
         (s.laser 15 (spareOf 7)).st ≠ 3 ∧ (s.laser 15 (spareOf 7)).st ≠ 1)
      ∧ (let s := upLe [(7, { st := 2 }), (11, { st := 1, forK := some 6 })] { st := .service }
         (s.laser 15 (spareOf 7)).st ≠ 3 ∧ (s.laser 15 (spareOf 7)).forK ≠ some 7)
      ∧ (let s := upLe [(7, { st := 4 }), (11, { st := 1, forK := some 7 })] {}
         11 = spareOf 7 ∧ s.engineOn 15 = true ∧ s.settling 15 = false ∧ (s.optLane 1023).st = .off)
      ∧ (let s := upLe [(11, { st := 2, sub := 7 })] { st := .service }
         (s.laser 15 11).st = 2 ∧ (s.laser 15 11).sub < 8)
      ∧ (∀ r ∈ [true, false],
          (let s := upLe [(7, { st := 2 }), (11, { st := 1, forK := some 7, retiring := r })] { st := .waitLaser }
           (s.laser 15 11).forK = some 7 ∧ (s.laser 15 11).st = 1 ∧ (s.laser 15 11).retiring = r))
      ∧ (upLe [] {}).engineOn 15 = true ∧ up.engineOn 15 = false
      ∧ ((upLe [(7, { st := 1 })] {}).laser 15 7).st = 1 ∧ feederOf 1023 = 7 ∧ 1023 / 64 = 15
      ∧ (∀ j, j < 8 → ((upLe [] {}).laser 15 j).st ≠ 1) := by decide +kernel

theorem witness_RingsAndTraining :
    (upLe [] {}).live = true ∧ (upLe [] {}).ringLocked 1023 true = false ∧ ((upLe [] {}).optLane 1023).st = .off
      ∧ (upLe [] {}).byp.rxByp.contains 1023 = false ∧ ({ upLe [] {} with byp := { rxByp := [1023] } } : State).byp.rxByp.contains 1023 = true
      ∧ (upLe [] { st := .train }).ringChecked 1023 false = false
      ∧ (upLe [] { st := .service, txOk := true, rxOk := true }).ringLocked 1023 true = true
      ∧ (upLe [] { st := .service, txOk := true, rxOk := true }).ringLocked 1023 false = true
      ∧ (upLe [] {}).flag .leCfg (1023 / 64) 3 = true ∧ 3 = 1023 % 4 ∧ 0 ≠ 1023 % 4
      ∧ ((upLe [] { winTx := some 0 }).optLane 1023).winTx = some 0 ∧ ((upLe [] {}).optLane 1023).winRx ≠ some 0
      ∧ (∀ tx ∈ [true, false],
          let s := upLe [] { st := .reacq, txFrom := some 199023, rxFrom := some 199023 }
          let o := s.optLane 1023
          o.st = .reacq ∧ (if tx then o.txOk else o.rxOk) = false ∧ (if tx then o.txFrom else o.rxFrom) = some 199023
            ∧ 199023 + 977 ≤ s.beat.bc)
      ∧ (let s := upLe [] { st := .acquire, rxFrom := some 199024, txOk := true }
         let o := s.optLane 1023
         o.rxOk = false ∧ o.rxFrom.isSome = true ∧ ringLate o.rxFrom s.beat.bc = false ∧ o.txOk = true)
      ∧ (let s := upLe [] { st := .reacq, txFrom := some 199024 }
         let o := s.optLane 1023
         o.txOk = false ∧ o.txFrom.isSome = true ∧ ringLate o.txFrom s.beat.bc = false)
      ∧ ((upLe [] { st := .reacq, noLight := true }).optLane 1023).noLight = true := by
  decide +kernel

/-- The registers that make port `p` an Ethernet port two lanes wide. -/
def ethPair (p : Nat) : RegState := (upR [(.stnPort, p, at_ 9 1 ||| at_ 5 1 ||| 1)]).regs

theorem witness_RingsAndTraining_train :
    (let s := upLe [] { st := .train, since := 4687, lightAt := 4687 }
     let o := s.optLane 1023
     o.st = .train ∧ o.noLight = false ∧ s.portOf 1023 = none ∧ Nat.max o.since o.lightAt + 195313 ≤ s.beat.bc)
      ∧ (let s := upLe [] { st := .train, since := 199999, cleanFrom := 199984 }
         let o := s.optLane 1023
         s.beat.bc < Nat.max o.since o.lightAt + 195313 ∧ o.cleanFrom + 16 ≤ s.beat.bc ∧ s.portOf 1023 = none)
      ∧ (let s := upLe [] { st := .train, since := 199999, cleanFrom := 199985 }
         s.beat.bc < (s.optLane 1023).cleanFrom + 16)
      ∧ (let s : State := { upLe [] { st := .train, cleanFrom := 199984 } with
                              regs := ethPair 1022
                              opt := { lanes := [(1022, { st := .train, ready := true }), (1023, { st := .train, cleanFrom := 199984 })] } }
         s.portOf 1023 = some 1022 ∧ s.portEth 1022 = true ∧ (∀ m ∈ s.portLanes 1022, m ≠ 1023 →
            (s.optLane m).st = .service ∨ (s.optLane m).st = .train ∧ (s.optLane m).ready = true))
      ∧ (let s : State := { upLe [] { st := .train } with regs := ethPair 1022 }
         s.portOf 1023 = some 1022 ∧ 1022 ∈ s.portLanes 1022 ∧ (s.optLane 1022).st ≠ .service ∧ (s.optLane 1022).st ≠ .train)
      ∧ (((upLe [] { st := .service }).optLane 1023).departs.filter (fun b => 200000 < b + 234375000)).length < 2
      ∧ 2 ≤ (((upLe [] { st := .service, departs := [1, 2] }).optLane 1023).departs.filter (fun b => 200000 < b + 234375000)).length := by
  decide +kernel

/-- A live part with an engine's calibration state. -/
def upEng (bc : Nat) (l : List (RegKind × Nat × Word)) (x : EngineSt) (o : OptLane) : State :=
  { upB bc l with opt := { eng := [(15, x)], lanes := [(1023, o)] } }

theorem witness_CalibrationAndLoopback :
    (upEng 0 [] {} {}).live = true ∧ (upEng 0 [(.leCfg, 15, 0)] {} {}).flag .leCfg 15 0 = false
      ∧ (upEng 0 [(.leCfg, 15, 1)] {} {}).flag .leCfg 15 0 = true ∧ pointDue none 0 = false
      ∧ (let s : State := { upEng 0 [(.leCfg, 15, 1)] {} {} with time := { calAt := [(15, some 0)] } }
         pointDue (SMap.get none s.time.calAt 15) s.comingNs = true ∧ s.beat.calls.contains (.calSlot 15) = false
          ∧ SMap.get none s.time.calAt 15 = some 0)
      ∧ ((upEng 0 [(.leCfg, 15, 1)] { cur := some (63, false, 0) } {}).engine 15).cur.isSome = true
      ∧ (let s := upEng 0 [(.leCfg, 15, 1)] { next := 63 } { st := .service }
         (s.engine 15).cur = none ∧ (s.engine 15).pend = [] ∧ (s.engine 15).next < 64 ∧ 1023 = 64 * 15 + (s.engine 15).next
          ∧ (s.optLane 1023).st = .service ∧ s.flag .leCfg 15 1 = false ∧ s.inCircuit 1023 = false)
      ∧ (let s := upEng 7813 [] { cur := some (63, false, 0) } { st := .calib }
         (s.engine 15).cur = some (63, false, 0) ∧ 0 + 7813 ≤ s.beat.bc)
      ∧ (upEng 7812 [] { cur := some (63, false, 0) } {}).beat.bc < 0 + 7813
      ∧ ((upEng 0 [] { loop := some (63, 1, 0) } {}).engine 15).loop = some (63, 1, 0)
      ∧ ((upEng 0 [] {} {}).optLane (64 * 15 + 63)).st ≠ .failed ∧ ((upEng 0 [] {} { st := .failed }).optLane (64 * 15 + 63)).st = .failed
      ∧ 0 + msBeats (1 + 1) ≤ (upEng (msBeats 2) [] { loop := some (63, 1, 0) } {}).beat.bc
      ∧ (upEng 0 [] { loop := some (63, 1, 0) } {}).beat.bc < 0 + msBeats (1 + 1) := by decide +kernel

theorem witness_CalibrationAndLoopback_dark : ∀ n, n / 64 = 15 → (up.optLane n).st ≠ .service := by
  intro n _
  show LaneSt.off ≠ .service
  decide

/-- A live part with bypass enabled, leaf 255 on port 1,023 and taking part, and plane 3 as given. -/
def upByp (bc : Nat) (b : BypState) (o : OptLane) : State :=
  { upB bc [(.bypCfg, 0, 3), (.strLeaf, 255, at_ 16 1 ||| at_ 0 1023), (.stnPort, 1023, 1), (.bypPlane, 3, 1)] with
    byp := b, opt := { lanes := [(1023, o)] } }

theorem witness_OpticalBypass :
    (upByp 0 {} {}).live = true ∧ (up.portOf 1023).bind up.bypLeafOf = none
      ∧ (let s := upByp 0 { leaves := [(255, { takes := true })] } { inSvc := true }
         (s.portOf 1023).bind s.bypLeafOf = some 255 ∧ s.laneUp 1023 = true ∧ (s.bleaf 255).takes = true
          ∧ bits ((beWords 32 []).getD 0 0) 23 16 ≤ 62 ∧ (s.byp.leaves.map (·.1)).Nodup)
      ∧ (upByp 0 {} {}).byp.matched = false ∧ (upByp 0 {} {}).flag .bypCfg 0 0 = true ∧ up.flag .bypCfg 0 0 = false
      ∧ ({ matched := true } : BypState).matched = true
      ∧ (let s := upByp 0 { back := [(1023, 3906250)] } { inSvc := true }
         SMap.get 0 s.byp.back 1023 ≠ 0 ∧ SMap.get 0 s.byp.back 1023 ≤ 3906250 ∧ (up.bleaf 255).takes = false ∧ (s.portOf 1023).bind s.bypLeafOf = some 255
          ∧ sdiff 32 0 (s.lane 1023).rxNum ≤ 0)
      ∧ (up.plane 3).cur = 0
      ∧ (∀ p ∈ [({ cur := 1, lock := true } : Plane), { cur := 2, fell := true }, { cur := 1, fall := some true }],
          ((upByp 0 { planes := [(3, p)] } {}).plane 3).cur ≠ 0 ∧ (upByp 0 { planes := [(3, p)] } {}).plane 3 = p)
      ∧ 0 + 977 ≤ (upByp 977 { planes := [(3, { cur := 1 })] } {}).beat.bc
      ∧ (let s := upByp 3907 { planes := [(3, { cur := 2, lock := true, fell := true })] } {}
         (s.plane 3).fell = true ∧ (s.plane 3).cur = 2 ∧ (s.plane 3).lock = true ∧ (s.plane 3).cal = false ∧ s.flag .bypCfg 0 1 = true
          ∧ s.planeWant 3 = 1 ∧ s.disabled 4 3 = false ∧ (s.plane 3).cleanAt + 3907 ≤ s.beat.bc)
      ∧ up.planePeriod ≠ 0 ∧ up.laneUp 1023 = false
      ∧ (let s : State := { upByp 0 {} {} with time := { planeAt := some 0 } }
         pointDue s.time.planeAt s.comingNs = true ∧ s.time.planeAt = some 0)
      ∧ (upR [(.bypCfg, 0, 0)]).planePeriod = 0
      ∧ (let s := upByp 31 { planes := [(3, { cur := 1, cal := true })] } {}
         (s.plane 3).cal = true ∧ (s.plane 3).calAt + 31 ≤ s.beat.bc) := by decide +kernel

/-! ## Small tests, whose values are the spec's own worked examples -/

/-- 03, the counted store to node 0x2_1C05. -/
def hdr03 : Hdr :=
  { dst := 0x21C05, src := 0x04A13, part := 0x123, cls := 6, epoch := true, pennant := true, op := 0x04, flowTag := 0x07,
    flowSeq := 0x01F2, len := 4096, opTag := 0x9C41, offset := 0x800000, ctr := 0x02A0F }

theorem test_header_words :
    (beWords 6 hdr03.bytes).take 5 = [0x870144A13123D808, 0x0701F24002710400, 0x800000, 0x02A0F00000000000, 0]
      ∧ Hdr.ofBytes hdr03.bytes = hdr03 := by decide +kernel

theorem test_frame_size : tilesOf (48 + 4096) = 17 ∧ laneBytes (48 + 4096) = 4166 := by decide

/-- 05, the learned seat of node 0x1_0B37. -/
theorem test_seat_key : seatKey 0x10B37 = 0x1000000000010B37 := by decide

/-- 12 R358 example: 2^24 + 1 is a tie in binary32, and the pair keeps the one. -/
theorem test_f32_tie : f32Add 0x4B800000 0x3F800000 = 0x4B800000 ∧ f32Add 0x4B800000 0xCB800000 = 0 := by decide +kernel

theorem test_pair_keeps_the_one :
    twoSum 0x4B800000 0x3F800000 = 0x3F8000004B800000 ∧ twoSum 0x3F8000004B800000 0xCB800000 = 0x3F80000000000000 := by
  decide +kernel

/-- 12 example: a block whose largest magnitude is 600.0 (0x4416_0000) has scale byte 0x80; 600.0 is 0x79, 1.5 is 0x34. -/
theorem test_mx_block :
    mxScale 0x10 [fp32.unpack 0x44160000, fp32.unpack 0x3FC00000] = 0x80
      ∧ ((⟨0, 0, 0, [], false⟩ : Enc).mx 0x10 0 1 (fp32.unpack 0x44160000)).1 = 0x79
      ∧ ((⟨0, 0, 0, [], false⟩ : Enc).mx 0x10 0 1 (fp32.unpack 0x3FC00000)).1 = 0x34 := by decide +kernel

/-- 10, the fetch-add of partition 0x123; R292 puts its target at 0x1C3_0040. -/
def upAtom (op tag newest : Nat) : State :=
  let h : Hdr := { dst := 7, src := 0x04A13, part := 0x123, op := op, offset := 0x400000020040, len := 8, opTag := tag }
  let s : State := { upR [(.fmemWin, 2 * 0x123 + 1, at_ 60 15 ||| at_ 29 0x10 ||| at_ 0 0x100), (.fmemAwinRegion, 0, at_ 63 1)] with
    host := { ddrState := 2 }
    mem := { near := [⟨0x1C30040, 0x30⟩, ⟨0x1C30041, 1⟩],
             trk := [{ id := 7, ord := 0, die := 0, since := 0, sent := false, silent := false, reset := false, owned := false, reply := none,
                       req := { stream0 .merge with hdr := h, part := 0x123, bytes := h.bytes ++ leBytes 8 8 } }] } }
  let a := s.awinRec 0x04A13 0x123 0
  { s with mem := { s.mem with spine := memPutWord [] a (at_ 63 1 ||| at_ 44 0x04A13 ||| at_ 32 0x123 ||| at_ 16 newest ||| at_ 15 1) } }

/-- What a command leaves, seen by `f`; none where it stops. -/
def after {α : Type} (o : Out) (f : State → α) : Option α := match o with | .next t => some (f t) | _ => none

theorem test_fetch_add :
    after (exec (.atomFetchAdd 7) (upAtom 0x11 0x9C51 0x9C50))
        (fun t => (leNat (memRead t.mem.near 0x1C30040 8), (t.trkAt 7).bind (·.reply)))
      = some (0x138, some ⟨0, leBytes 8 0x130, false⟩) := by decide +kernel

theorem test_fetch_add_stale :
    after (exec (.atomFetchAdd 7) (upAtom 0x11 0x9C51 0x9C65))
        (fun t => (leNat (memRead t.mem.near 0x1C30040 8), ((t.trkAt 7).bind (·.reply)).map (·.status)))
      = some (0x130, some 1) := by decide +kernel

/-- 10: the lines of a 4 KiB store at 0x40_0080_0000 put four lines on every subchannel. -/
theorem test_spine_subchannels :
    (List.range 16).all (fun k => ((List.range 64).filter fun i =>
      2 * spineChan (0x4000800000 + 64 * i) + spineSub (0x4000800000 + 64 * i) = k).length = 4) = true := by decide +kernel

/-- 10: line 2 of store 4 has A[8:6] = 2, so channel 2 ⊕ 4[5:3] = 2, on subchannel 0; with i[2] = 1 it lies in bank group
0 to 3, and with i[2] = 0 in 4 to 7. -/
theorem test_spine_place :
    (let p := ddrPlace 2 (0x4000800000 + 0x1000 * 4 + 128)
     p.channel = 2 ∧ p.sub = 0 ∧ p.bankGroup < 4 ∧ p.rank = 0 ∧ p.column = 0 ∧ p.row = 0x10002 ∧ p.byte = 0)
      ∧ 4 ≤ (ddrPlace 2 0x4000800000).bankGroup ∧ (ddrPlace 8 (2 ^ 22)).rank = 1 ∧ (ddrPlace 4 (2 ^ 23)).row = 1 := by decide +kernel

/-- 18 R547: 7 of 12 poison bits poison a line. -/
theorem test_poison_majority : linePoisoned 0x7F = true ∧ linePoisoned 0x3F = false ∧ linePoisoned 0xFC1 = true := by decide

/-- 18 R515. -/
theorem test_pci_identity :
    State.reset.pciIdentity = { vendor := 0x1D5A, device := 0x5016, revision := 0xB0, classCode := 0x028000, serial := 0 } := rfl

/-- 21: the balls A86, C94 and EP8. -/
theorem test_balls :
    ball 1 86 = .ddr 5 0 (.dq 0) ∧ ball 3 94 = .ddr 5 0 (.cb 0) ∧ rowName 109 = ['E', 'P']
      ∧ ball 109 8 = .ddr 2 1 (.ck true) := by decide

/-- 09 R249: the settings take each input of a small plane to its output. -/
theorem test_plane_settings :
    ([[1, 0, 3, 2, 5, 4, 7, 6], [7, 6, 5, 4, 3, 2, 1, 0], [0, 4, 1, 5, 2, 6, 3, 7], [3, 1, 4, 0, 5, 7, 2, 6]] : List (List Nat)).all
      (fun p => (List.range 8).all fun i => benesOut 3 (benes 3 p) i = p.getD i 9) = true := by decide +kernel

theorem test_plane_fill : fillPerm 4 [(2, 0), (0, 3)] = [3, 1, 0, 2] := by decide

/-- 07 R178: a list gives its buffers in address order, and an empty cache takes 16 of them. -/
theorem test_tile_lists :
    popList 3 [⟨5, 2⟩, ⟨9, 4⟩] = ([5, 6, 9], [⟨10, 3⟩]) ∧ (up.popTile 0 0).map (fun x => (x.1, x.2.cache 0, x.2.freeOn 0))
      = some (0, [1, 2, 3, 4, 5, 6, 7, 8, 9, 10, 11, 12, 13, 14, 15], 655359) := by decide +kernel

/-- 16: at cycle 300 a step of +1,250 ns gives a realignment beat of 572 cycles, and the next number is 6 higher. -/
theorem test_realignment_beat :
    after (exec (.timeStep 1250 300) (upB 0 [])) (fun t => (t.time.cyc + t.toBoundary, t.comingNs / 256))
      = some (572, 6) := by decide +kernel

/-- 18, ring 5 with 64 items at base 0x100, full, with its marks. -/
def ring5 : State :=
  { upR [(.hostD2hCfg, 5, at_ 63 1 ||| at_ 52 6 ||| at_ 0 0x100)] with
    host := { d2h := [(5, { wr := 0x70, rd := 0x30, pkts := 20 })],
              sram := [(0x130, ⟨⟨1, 0, 0, 0⟩, true, false⟩), (0x131, ⟨⟨2, 0, 0, 0⟩, true, false⟩), (0x132, ⟨⟨3, 0, 0, 0⟩, false, false⟩),
                       (0x133, ⟨⟨4, 0, 0, 0⟩, false, false⟩), (0x134, ⟨⟨5, 0, 0, 0⟩, true, false⟩)],
              outbox := [(5, [⟨0x88, 0, 0, 0⟩, ⟨0x89, 0, 0, 0⟩, ⟨0x89, 0, 0, 1⟩, ⟨0x89, 0, 0, 2⟩])] } }

theorem test_ring_overrun :
    after (exec (.d2hPacketWrite 5) ring5)
        (fun t => ((t.ring 5).rd, (t.ring 5).wr, (t.ring 5).pkts, t.fld .hostD2hCfg 5 51 36, (t.stored 0x134).brk))
      = some (0x34, 0x74, 19, 4, true) := by decide +kernel

theorem test_ring_pop :
    after (exec (.d2hPacketWrite 5) ring5) (fun t => after (exec (.d2hPop 5 0) t)
        (fun u => ((u.ring 5).cap.getD 4 0, (u.ring 5).rd, (u.ring 5).pkts)))
      = some (some (0x00C0000000000000, 0x35, 18)) := by decide +kernel

/-- 21: lane 781 passes its loopback test with 3,187 errors at -1.3 dBm. -/
theorem test_loopback :
    after (exec (.loopStart 12 13 10) { upB 0 [] with opt := { lanes := [(781, { st := .failed })] } }) (fun t =>
        after (exec (.loopEnd 12 3187 true (-13)) { t with beat := { t.beat with bc := 42969 } }) (fun u => u.reg .leLoopRes 781))
      = some (some 0x6000FF3000000C73) := by decide +kernel

theorem test_register_offsets :
    RegKind.leLoopRes.off 781 = 0x02C0668 ∧ RegKind.leLoop.off 12 = 0x02C0020 := by decide

/-- 09: leaves 0x25, 0x6B and 0xC3 in beat b + 1, with the reports of beat b = 4. -/
def upArb : State :=
  { upB 5 [(.bypCfg, 0, 1), (.strLeaf, 0x25, at_ 16 1 ||| at_ 0 148), (.strLeaf, 0xC3, at_ 16 1 ||| at_ 0 780),
      (.strLeaf, 0x6B, at_ 16 1 ||| at_ 0 428), (.stnPort, 148, at_ 5 2 ||| 1), (.stnPort, 780, at_ 5 2 ||| 1), (.stnPort, 428, at_ 5 2 ||| 1)] with
    beat := { running := true, bc := 5, now := 5 }
    opt := { lanes := ([148, 149, 150, 151, 428, 429, 430, 431, 780, 781, 782, 783] : List Nat).map fun n => (n, { st := .service, inSvc := true }) }
    byp := { planes := ([0, 1, 2, 3] : List Nat).map fun w => (w, { cur := 1, lock := true }),
             leaves := [(0x25, { takes := true, rep := some ⟨3, 14, 14, [(0xC3, 60), (0x6B, 10)], 4⟩ }),
                        (0x6B, { takes := true, rep := some ⟨3, 14, 14, [], 4⟩ }),
                        (0xC3, { takes := true, rep := some ⟨3, 14, 14, [], 4⟩ })] } }

theorem test_bypass_grants :
    after (exec .bypassMatching upArb) (fun t => t.byp.grants.map fun g => (g.slot, g.plane, g.src, g.dst, g.tiles))
      = some [(12, 1, 0x25, 0xC3, 24), (12, 2, 0x25, 0xC3, 24), (12, 3, 0x25, 0xC3, 12)] := by decide +kernel

/-- 14 R411: with every cluster active, the check cluster stands 384 places and the arbiter 192 places past the home. -/
theorem test_check_clusters :
    (let s := upColl 0 (desc0 false) (chunk0 .none 0)
     let c : Context := { d := { desc0 false with rects := [⟨0, 1, 0, 1, 0, 0⟩] } }
     let v : State := { s with regs := (upR [(.intDupCfg, 0, at_ 32 0xFFFFFFFF ||| at_ 0 4096)]).regs }
     let ch := (v.openChunk 0x1A c 0x4086 false).2
     ch.check = some ((ch.home + 384) % 768, (ch.home + 192) % 768)) := by decide +kernel

/-- 21 R616: the device identification code. -/
theorem test_idcode :
    after (exec .idcode State.reset) (fun t => (t.pins.ir, t.out)) = some (1, [.tdo 0x25E169E7]) := by decide

/-- An ill-formed command faults; a well-formed one on a held part is dropped. -/
theorem test_ill_formed_faults : after (exec (.launch 1024) up) (fun _ => ()) = none := by decide

theorem test_held : exec (.timeStep 1 0) State.reset = .next State.reset := rfl

/-- No word spells a command. -/
theorem test_decode_none : decodeTableWord 16 0 = none := by decide

end Sys2Proof.Tests
end

/-! ## The map of registers (00 R2, R6; 18 R517) -/

namespace Sys2Proof

/-- The greatest offset that a row of the map holds. -/
def RegRow.last (r : RegRow) : Nat := r.base + r.stride2 * (r.count2 - 1) + r.stride * (r.count - 1)

/-- A row whose registers stand apart, aligned and within the blocks: without a second stride it has one group, and
with one a group ends before the next begins. -/
def RegRow.Sound (r : RegRow) : Prop :=
  0 < r.stride ∧ 0 < r.count ∧ (r.stride2 = 0 → r.count2 = 1) ∧ (r.stride2 ≠ 0 → r.stride * (r.count - 1) < r.stride2)
    ∧ (r.base % 8 = 0 ∧ r.stride % 8 = 0 ∧ r.stride2 % 8 = 0) ∧ r.last < 0x4C00000

/-- The distance after which a row repeats. -/
def RegRow.period (r : RegRow) : Nat := if r.stride2 = 0 then r.stride else r.stride2

/-- The distance from the first to the last register of one repetition of a row. -/
def RegRow.width (r : RegRow) : Nat := if r.stride2 = 0 then 0 else r.stride * (r.count - 1)

/-- The first row ends below the second, or both repeat after one period and, inside it, the first ends below the second
and the second before the first comes again (the light engines, the triggers and the rings). -/
def RegRow.Below (r t : RegRow) : Prop :=
  r.last < t.base
    ∨ r.period = t.period ∧ r.base + r.width < t.base ∧ t.base + t.width < r.base + r.period

/-- Every register has a place in the list of registers. -/
theorem mem_allRegs (k : RegKind) : k ∈ allRegs := by cases k <;> decide

theorem row_sound (k : RegKind) : k.row.Sound := by
  have h : ∀ j ∈ allRegs, j.row.Sound := by unfold RegRow.Sound; decide +kernel
  exact h k (mem_allRegs k)

theorem allRegs_below : allRegs.Pairwise fun k j => k.row.Below j.row := by
  unfold RegRow.Below; decide +kernel

/-- The offset of a register, by its group and its place in the group. -/
theorem RegKind.off_eq (k : RegKind) (n : Nat) :
    k.off n = k.row.base + k.row.stride2 * (n / k.row.count) + k.row.stride * (n % k.row.count) := rfl

/-- Where a row has one group, a register's offset is its place times the stride. -/
theorem RegKind.off_of_oneGroup {k : RegKind} {n : Nat} (h2 : k.row.stride2 = 0) (hn : n < k.total) :
    n < k.row.count ∧ k.off n = k.row.base + k.row.stride * n := by
  obtain ⟨-, -, hone, -⟩ := row_sound k
  have hc : n < k.row.count := by simpa [RegKind.total, hone h2] using hn
  exact ⟨hc, by rw [off_eq, h2, Nat.mod_eq_of_lt hc]; omega⟩

/-- The group and the place of a register of a kind. -/
theorem RegKind.group_lt {k : RegKind} {n : Nat} (hn : n < k.total) :
    n / k.row.count < k.row.count2 ∧ n % k.row.count < k.row.count := by
  obtain ⟨-, hc, -⟩ := row_sound k
  exact ⟨Nat.div_lt_of_lt_mul hn, Nat.mod_lt _ hc⟩

/-- The decoder of a kind finds each register of the kind at its offset. -/
theorem RegKind.find_off {k : RegKind} {n : Nat} (hn : n < k.total) : k.find (k.off n) = some n := by
  obtain ⟨hs, -, hone, hgap, -⟩ := row_sound k
  by_cases h2 : k.row.stride2 = 0
  · obtain ⟨hlt, hoff⟩ := off_of_oneGroup h2 hn
    simp [RegKind.find, hoff, h2, hone h2, hs, hlt]
  · obtain ⟨hq, hw⟩ := group_lt hn
    have hlt : k.row.stride * (n % k.row.count) < k.row.stride2 :=
      Nat.lt_of_le_of_lt (Nat.mul_le_mul_left _ (by omega)) (hgap h2)
    have hd : k.off n - k.row.base = k.row.stride * (n % k.row.count) + k.row.stride2 * (n / k.row.count) := by
      rw [off_eq]; omega
    have hge : ¬ k.off n < k.row.base := by rw [off_eq]; omega
    simp [RegKind.find, hge, hd, h2, Nat.add_mul_div_left, Nat.mod_eq_of_lt hlt, Nat.div_eq_of_lt hlt,
      Nat.pos_of_ne_zero h2, hs, hq, hw, Nat.div_add_mod']

/-- What the decoder of a kind finds is a register of the kind, at that offset. -/
theorem RegKind.off_of_find {k : RegKind} {off n : Nat} (h : k.find off = some n) : n < k.total ∧ k.off n = off := by
  obtain ⟨hs, hc, hone, -⟩ := row_sound k
  unfold RegKind.find at h
  by_cases h2 : k.row.stride2 = 0
  · simp [h2, hone h2] at h
    obtain ⟨hge, ⟨hdiv, hlt⟩, rfl⟩ := h
    have htot : (off - k.row.base) / k.row.stride < k.total := by simpa [RegKind.total, hone h2] using hlt
    refine ⟨htot, ?_⟩
    rw [(off_of_oneGroup h2 htot).2, Nat.mul_div_cancel' (Nat.dvd_of_mod_eq_zero hdiv)]
    omega
  · simp [h2] at h
    obtain ⟨hge, ⟨⟨hq, hdiv⟩, hlt⟩, rfl⟩ := h
    have hplace : k.row.stride * ((off - k.row.base) % k.row.stride2 / k.row.stride)
        = (off - k.row.base) % k.row.stride2 := Nat.mul_div_cancel' (Nat.dvd_of_mod_eq_zero hdiv)
    have hsplit := Nat.mod_add_div (off - k.row.base) k.row.stride2
    generalize (off - k.row.base) / k.row.stride2 = q at *
    generalize (off - k.row.base) % k.row.stride2 / k.row.stride = w at *
    constructor
    · calc q * k.row.count + w < (q + 1) * k.row.count := by rw [Nat.add_mul]; omega
        _ ≤ k.row.count2 * k.row.count := Nat.mul_le_mul_right _ hq
        _ = k.total := Nat.mul_comm _ _
    · rw [off_eq, Nat.mul_comm q, Nat.mul_add_div hc, Nat.div_eq_of_lt hlt, Nat.add_zero, Nat.mul_add_mod,
        Nat.mod_eq_of_lt hlt]
      omega

/-- No register of a kind stands above the row's last offset. -/
theorem RegKind.off_le_last {k : RegKind} {n : Nat} (hn : n < k.total) : k.off n ≤ k.row.last := by
  obtain ⟨hq, hw⟩ := group_lt hn
  have hgroup := Nat.mul_le_mul_left k.row.stride2 (Nat.le_sub_one_of_lt hq)
  have hplace := Nat.mul_le_mul_left k.row.stride (Nat.le_sub_one_of_lt hw)
  rw [off_eq, RegRow.last]
  omega

theorem RegKind.base_le_off (k : RegKind) (n : Nat) : k.row.base ≤ k.off n := by rw [off_eq]; omega

/-- A register's offset, by the repetition of its row's period. -/
theorem RegKind.off_eq_period {k : RegKind} {n : Nat} (hn : n < k.total) :
    ∃ q w, k.off n = k.row.base + k.row.period * q + w ∧ w ≤ k.row.width := by
  by_cases h2 : k.row.stride2 = 0
  · exact ⟨n, 0, by simp [RegRow.period, h2, (off_of_oneGroup h2 hn).2], Nat.zero_le _⟩
  · refine ⟨n / k.row.count, k.row.stride * (n % k.row.count), by simp [RegRow.period, h2, off_eq], ?_⟩
    simpa [RegRow.width, h2] using Nat.mul_le_mul_left _ (Nat.le_sub_one_of_lt (group_lt hn).2)

/-- Two numbers that differ by more than 0 and less than a period do not meet after whole periods. -/
theorem add_mul_ne_add_mul {p q q' x y : Nat} (h : x < y) (h' : y < x + p) : x + p * q ≠ y + p * q' := by
  intro he
  rcases Nat.lt_or_ge q' q with hq | hq
  · have := Nat.mul_le_mul_left p hq
    rw [Nat.mul_succ] at this
    omega
  · have := Nat.mul_le_mul_left p hq
    omega

/-- No register of one kind stands at the offset of a register of the other. -/
def RegKind.Apart (k j : RegKind) : Prop := ∀ n m, n < k.total → m < j.total → k.off n ≠ j.off m

theorem RegKind.apart_of_below {k j : RegKind} (h : k.row.Below j.row) : k.Apart j := by
  intro n m hn hm
  rcases h with hlast | ⟨hper, hlo, hhi⟩
  · have := off_le_last hn
    have := j.base_le_off m
    omega
  · obtain ⟨q, w, hoff, hw⟩ := off_eq_period hn
    obtain ⟨q', w', hoff', hw'⟩ := off_eq_period hm
    have := add_mul_ne_add_mul (p := k.row.period) (q := q) (q' := q') (x := k.row.base + w) (y := j.row.base + w')
      (by omega) (by omega)
    rw [hoff, hoff', ← hper]
    omega

theorem RegKind.Apart.symm {k j : RegKind} (h : k.Apart j) : j.Apart k := fun n m hn hm => (h m n hm hn).symm

/-- Any two kinds are apart: in the list of registers each is below those that follow it. -/
theorem RegKind.apart_of_ne {k j : RegKind} (h : k ≠ j) : k.Apart j := by
  have hbelow := List.pairwise_iff_getElem.1 allRegs_below
  obtain ⟨a, ha, rfl⟩ := List.getElem_of_mem (mem_allRegs k)
  obtain ⟨b, hb, rfl⟩ := List.getElem_of_mem (mem_allRegs j)
  rcases Nat.lt_trichotomy a b with hab | rfl | hba
  · exact apart_of_below (hbelow a b ha hb hab)
  · exact absurd rfl h
  · exact (apart_of_below (hbelow b a hb ha hba)).symm

/-- What the decoder of BAR0 offsets finds is a register of the part, at that offset. -/
theorem off_of_regAt {off : Nat} {k : RegKind} {n : Nat} (h : regAt off = some (k, n)) :
    n < k.total ∧ k.off n = off := by
  obtain ⟨j, -, hj⟩ := List.exists_of_findSome?_eq_some h
  obtain ⟨i, hfind, heq⟩ := Option.map_eq_some_iff.1 hj
  cases heq
  exact RegKind.off_of_find hfind

/-- The decoder of BAR0 offsets finds each register at its offset. -/
theorem regAt_off {k : RegKind} {n : Nat} (hn : n < k.total) : regAt (k.off n) = some (k, n) := by
  have hsome : (regAt (k.off n)).isSome := by
    rw [regAt, List.findSome?_isSome_iff]
    exact ⟨k, mem_allRegs k, by simp [RegKind.find_off hn]⟩
  obtain ⟨⟨j, m⟩, hat⟩ := Option.isSome_iff_exists.1 hsome
  obtain ⟨hm, hoff⟩ := off_of_regAt hat
  have hkj : k = j := Decidable.byContradiction fun hne => RegKind.apart_of_ne hne n m hn hm hoff.symm
  subst hkj
  have hmn : some m = some n := by rw [← RegKind.find_off hm, hoff, RegKind.find_off hn]
  rw [hat, Option.some.inj hmn]

theorem RegKind.off_mod_eight (k : RegKind) (n : Nat) : k.off n % 8 = 0 := by
  obtain ⟨-, -, -, -, ⟨hb, hs, hs2⟩, -⟩ := row_sound k
  simp [off_eq, Nat.add_mod, Nat.mul_mod, hb, hs, hs2]

theorem RegKind.inBlock_off {k : RegKind} {n : Nat} (hn : n < k.total) : inBlock (k.off n) = true := by
  obtain ⟨-, -, -, -, -, hlast⟩ := row_sound k
  exact decide_eq_true (Nat.lt_of_le_of_lt (off_le_last hn) hlast)

/-- Settles O23: the rows of the map are sound and apart, so the decoder answers each offset with its one register. -/
theorem registerMapIsOneToOne : Obligations.RegisterMapIsOneToOne := by
  refine ⟨fun k n hn => ⟨regAt_off hn, k.off_mod_eight n, RegKind.inBlock_off hn⟩, fun k j n m hn hm h => ?_,
    fun off k n => off_of_regAt⟩
  have hsame : some (k, n) = some (j, m) := by rw [← regAt_off hn, h, regAt_off hm]
  cases hsame
  exact ⟨rfl, rfl⟩

end Sys2Proof

/-! ## Writes of one register (00 R8; 02 R45) -/

namespace Sys2Proof

/-! ### Fields of a word built field by field -/

theorem bits_or (x y : Word) (hi lo : Nat) : bits (x ||| y) hi lo = bits x hi lo ||| bits y hi lo := by
  apply Nat.eq_of_testBit_eq
  intro i
  simp [testBit_bits, Bool.and_or_distrib_left]

/-- A field placed at its own bits reads as its value. -/
theorem bits_at_same {hi lo v : Nat} (hhi : hi < 64) (hv : v < 2 ^ (hi + 1 - lo)) : bits (at_ lo v) hi lo = v := by
  apply Nat.eq_of_testBit_eq
  intro i
  rw [testBit_bits, at_, getLsbD_ofNat_shift]
  by_cases h : i < hi + 1 - lo
  · simp [h, show lo + i < 64 by omega]
  · have := Nat.testBit_lt_two_pow (Nat.lt_of_lt_of_le hv (Nat.pow_le_pow_right Nat.two_pos (Nat.le_of_not_lt h)))
    simp [h, this]

/-- A field placed below another leaves it zero. -/
theorem bits_at_below {hi lo lo' v : Nat} (h : lo ≤ lo') (hv : v < 2 ^ (lo' - lo)) : bits (at_ lo v) hi lo' = 0 := by
  apply Nat.eq_of_testBit_eq
  intro i
  have hle : lo' - lo ≤ lo' + i - lo := by omega
  have := Nat.testBit_lt_two_pow (Nat.lt_of_lt_of_le hv (Nat.pow_le_pow_right Nat.two_pos hle))
  simp [testBit_bits, at_, getLsbD_ofNat_shift, this]

/-- A field placed above another leaves it zero. -/
theorem bits_at_above {hi lo hi' v : Nat} (h : hi' < lo) : bits (at_ lo v) hi' hi = 0 := by
  apply Nat.eq_of_testBit_eq
  intro i
  rw [testBit_bits, at_, getLsbD_ofNat_shift]
  by_cases hi2 : i < hi' + 1 - hi
  · simp [show ¬ lo ≤ hi + i by omega]
  · simp [hi2]

end Sys2Proof

namespace Sys2Proof.Machine

/-! ### Where a register's write goes -/

/-- On a live part a well-formed command whose meaning keeps the queue answers the state of its meaning. -/
theorem run_live_eq {i : Instr} {s t : State} {f : State → State} (h : i.wellFormed = true) (hl : s.live = true)
    (hf : f s = t) (hp : t.pending = s.pending) : run i s f = .next t := by
  rw [run_live h hl, State.act, hf, ← hp]

/-- A register above the engines' blocks belongs to no engine. -/
theorem engineOf_eq_none {k : RegKind} (h : 0x300000 ≤ k.row.base) (i : Nat) : engineOf k i = none := by
  have := k.base_le_off i
  have hout : ¬ (0x200000 ≤ k.off i ∧ k.off i < 0x300000) := by omega
  simpa [engineOf] using hout

/-- A register in an engine's block of 64 KiB belongs to that engine. -/
theorem engineOf_eq_some {k : RegKind} {i e r : Nat} (h : k.off i = 0x200000 + 0x10000 * e + r) (hr : r < 0x10000)
    (he : e < 16) : engineOf k i = some e := by
  have hin : 0x200000 ≤ k.off i ∧ k.off i < 0x300000 := by omega
  have hdiv : (k.off i - 0x200000) / 0x10000 = e := by omega
  simp [engineOf, hin, hdiv]

theorem engineOf_leLaser {e k : Nat} (he : e < 16) (hk : k < 12) : engineOf .leLaser (12 * e + k) = some e :=
  engineOf_eq_some (r := 0x100 + 8 * k) (by simp only [RegKind.off, RegKind.row]; omega) (by omega) he

theorem engineOf_leCalCtrl {e : Nat} (he : e < 16) : engineOf .leCalCtrl e = some e :=
  engineOf_eq_some (r := 8) (by simp only [RegKind.off, RegKind.row]; omega) (by omega) he

theorem engineOf_leLane {n : Nat} (hn : n < 1024) : engineOf .leLane n = some (n / 64) :=
  engineOf_eq_some (r := 0x200 + 8 * (n % 64)) (by simp only [RegKind.off, RegKind.row]; omega) (by omega) (by omega)

/-- Registers of the core whose writes wait for a boundary. -/
def coreKinds : List RegKind :=
  [.stnPort, .bufStgCarve, .bufClsMin, .strEmSeed, .bypPlane, .bypLeaf, .intFtCtrl, .intClu, .cntCicadaCtrl, .pwrDom,
    .cntPcfg]

/-- Registers of the light engines whose writes wait for a boundary. -/
def engineKinds : List RegKind := [.leLaser, .leCalCtrl, .leLane]

/-- The write of a register that is reached, and holds no W1C bit, is that of its fields. -/
theorem State.writeReg_reached {s : State} {k : RegKind} {i : Nat} (hx : s.offCrossing k i = none) (hm : k.w1cMask = 0)
    (hw : Word) (late : Bool) (v : Word) : s.writeReg hw late k i v = s.writeFields k i v late := by
  simp [State.writeReg, hx, State.clearW1c, hm]

theorem State.writeFields_eq_laterWrite {k : RegKind} (hk : k ∈ coreKinds ++ engineKinds) (s : State) (i : Nat)
    (v : Word) (late : Bool) : s.writeFields k i v late = s.laterWrite k i v late := by
  simp only [coreKinds, engineKinds, List.cons_append, List.nil_append, List.mem_cons, List.not_mem_nil, or_false] at hk
  rcases hk with rfl | rfl | rfl | rfl | rfl | rfl | rfl | rfl | rfl | rfl | rfl | rfl | rfl | rfl <;> rfl

theorem coreDomain_eq_none {k : RegKind} (hk : k ∈ coreKinds) (i : Nat) : coreDomain k i = none := by
  simp only [coreKinds, List.mem_cons, List.not_mem_nil, or_false] at hk
  rcases hk with rfl | rfl | rfl | rfl | rfl | rfl | rfl | rfl | rfl | rfl | rfl <;> rfl

theorem State.offCrossing_core {k : RegKind} (hk : k ∈ coreKinds) (s : State) (i : Nat) : s.offCrossing k i = none := by
  have hbase : ∀ j ∈ coreKinds, 0x300000 ≤ j.row.base := by decide
  simp [State.offCrossing, engineOf_eq_none (hbase k hk), coreDomain_eq_none hk]

/-- A write of a register of the core that waits. -/
theorem State.writeReg_core {k : RegKind} (hk : k ∈ coreKinds) (s : State) (hw : Word) (late : Bool) (i : Nat)
    (v : Word) : s.writeReg hw late k i v = s.laterWrite k i v late := by
  have hm : ∀ j ∈ coreKinds, j.w1cMask = 0 := by decide
  rw [writeReg_reached (s.offCrossing_core hk i) (hm k hk), s.writeFields_eq_laterWrite (List.mem_append_left _ hk)]

/-- A write of a register of an engine that waits: a crossing fault where the engine is off (02 R45). -/
theorem State.writeReg_engine {k : RegKind} (hk : k ∈ engineKinds) {i e : Nat} (he : engineOf k i = some e) (s : State)
    (hw : Word) (late : Bool) (v : Word) : s.writeReg hw late k i v
      = if s.engineOn e then s.laterWrite k i v late else s.crossingFault 4 e false := by
  have hm : ∀ j ∈ engineKinds, j.w1cMask = 0 := by decide
  cases hon : s.engineOn e
  · simp [State.writeReg, State.offCrossing, he, hon]
  · have hx : s.offCrossing k i = none := by simp [State.offCrossing, he, hon]
    rw [writeReg_reached hx (hm k hk), s.writeFields_eq_laterWrite (List.mem_append_right _ hk)]
    rfl

/-! ### Which writes wait, and with what value -/

/-- The kinds whose writes wait as they are written, and go without a trace where their rule has the part ignore them. -/
def plainKinds : List RegKind :=
  [.stnPort, .bufStgCarve, .strEmSeed, .leLaser, .leCalCtrl, .leLane, .bypPlane, .intFtCtrl, .intClu, .cntCicadaCtrl,
    .pwrDom]

theorem State.laterWrite_plain {k : RegKind} (hk : k ∈ plainKinds) (s : State) (i : Nat) (v : Word) (late : Bool) :
    s.laterWrite k i v late = if s.ignoresWrite k i v then s else s.queueWrite k i v late := by
  have hother : ∀ j ∈ plainKinds, j ≠ .bufClsMin ∧ j ≠ .cntPcfg ∧ j ≠ .strCmpCtrl ∧ j ≠ .stnHoldCfg ∧ j ≠ .bypLeaf
      ∧ ¬ (j.rwMask = 0#64 ∧ j.woMask = 0#64) := by decide
  obtain ⟨hmin, hcfg, hcmp, hhold, hleaf, hmask⟩ := hother k hk
  simp [State.laterWrite, hmin, hcfg, hcmp, hhold, hleaf, hmask]

/-- Minima of a class that do not fit give the event of 07 R182. -/
theorem State.laterWrite_bufClsMin (s : State) (c : Nat) (v : Word) (late : Bool) :
    s.laterWrite .bufClsMin c v late
      = if s.clsMinFits c v then s.queueWrite .bufClsMin c v late else s.raise .bufConfig [c] := by
  have hmask : RegKind.bufClsMin.rwMask ≠ 0#64 := by decide
  cases h : s.clsMinFits c v <;> simp [State.laterWrite, State.ignoresWrite, h, hmask]

/-- anchor_pref is kept while en is shown (09 R274). -/
theorem State.laterWrite_bypLeaf (s : State) (l : Nat) (v : Word) (late : Bool) :
    s.laterWrite .bypLeaf l v late = s.queueWrite .bypLeaf l
      (if bit (s.shown .bypLeaf l) 0 then setBits v 5 4 (bits (s.shown .bypLeaf l) 5 4) else v) late := by
  have hmask : RegKind.bypLeaf.rwMask ≠ 0#64 := by decide
  cases h : bit (s.shown .bypLeaf l) 0 <;> simp [State.laterWrite, State.ignoresWrite, h, hmask]

/-- The KiB of a carve written field by field (07 R210). -/
theorem carveKib_fields {a b c d : Nat} (ha : a < 256) (hb : b < 64) (hc : c < 16) (hd : d < 4) :
    carveKib (at_ 12 a ||| at_ 6 b ||| at_ 2 c ||| at_ 0 d) = a + 4 * b + 16 * c + 64 * d := by
  simp (disch := omega) only [carveKib, bits_or, bits_at_same, bits_at_above, bits_at_below, Nat.zero_or, Nat.or_zero]

/-! ### Each command that is a register write -/

/-- A command that writes a register of the core, on a live part; the value may show what waits. -/
theorem run_coreWrite {c : Instr} {s : State} {late : Bool} {k : RegKind} {i : Nat} {v : State → Word}
    (hc : c.wellFormed = true) (hl : s.live = true) (hk : k ∈ coreKinds ∧ k ∈ plainKinds) :
    run c s (fun s => s.writeReg 0 late k i (v s))
      = .next (if s.ignoresWrite k i (v s) then s else s.queueWrite k i (v s) late) := by
  refine run_live_eq hc hl ?_ (by split <;> rfl)
  rw [s.writeReg_core hk.1, s.laterWrite_plain hk.2]

/-- A command that writes a register of an engine, on a live part. -/
theorem run_engineWrite {c : Instr} {s : State} {late : Bool} {k : RegKind} {i e : Nat} {v : Word}
    (hc : c.wellFormed = true) (hl : s.live = true) (hk : k ∈ engineKinds) (he : engineOf k i = some e) :
    run c s (fun s => s.writeReg 0 late k i v) = .next (if s.engineOn e then
      (if s.ignoresWrite k i v then s else s.queueWrite k i v late) else s.crossingFault 4 e false) := by
  have hplain : ∀ j ∈ engineKinds, j ∈ plainKinds := by decide
  refine run_live_eq hc hl ?_ ?_
  · rw [s.writeReg_engine hk he, s.laterWrite_plain (hplain k hk)]
  · split
    · split <;> rfl
    · rfl

/-- Settles O21: each command is the write of one register, which waits unless the register's rule has the part ignore
it or its engine is off. -/
theorem registerCommandsQueueTheirWrite : Obligations.RegisterCommandsQueueTheirWrite := by
  refine ⟨fun s k n v late => ⟨rfl, fun _ _ => rfl, rfl⟩, fun s late hl => ⟨
    fun p v m w hp hw => run_coreWrite (decide_eq_true ⟨hp, hw⟩) hl (by decide),
    ?stgCarveWrite, ?clsMinWrite,
    fun a b ha hb => run_coreWrite (decide_eq_true ⟨ha, hb⟩) hl (by decide),
    ?laserRetire,
    fun e p he hp => run_engineWrite (decide_eq_true ⟨he, hp⟩) hl (by decide) (engineOf_leCalCtrl he),
    fun e p he hp => run_engineWrite (decide_eq_true ⟨he, hp⟩) hl (by decide) (engineOf_leCalCtrl he),
    ?laneRetry,
    fun p hp => run_coreWrite (decide_eq_true hp) hl (by decide),
    fun p m hp hm => run_coreWrite (decide_eq_true ⟨hp, hm⟩) hl (by decide),
    ?leafEnable,
    fun c hc => ⟨run_coreWrite (decide_eq_true hc) hl (by decide), run_coreWrite (decide_eq_true hc) hl (by decide)⟩,
    ?clusterStepWrite,
    run_coreWrite (c := .cicadaDumpRequest late) rfl hl (by decide),
    run_coreWrite (c := .snapshotRequest late) rfl hl (by decide),
    fun d on hd => run_coreWrite (decide_eq_true hd) hl (by decide)⟩⟩
  case stgCarveWrite =>
    intro a b c d ha hb hc hd
    refine (run_coreWrite (c := .stgCarveWrite a b c d late) (decide_eq_true ⟨ha, hb, hc, hd⟩) hl (by decide)).trans ?_
    simp only [State.ignoresWrite, carveKib_fields ha hb hc hd, decide_eq_true_eq, ← Nat.not_le, ite_not]
  case clsMinWrite =>
    intro c sp st ti hc hsp hst hti
    refine run_live_eq (decide_eq_true ⟨hc, hsp, hst, hti⟩) hl ?_ (by split <;> rfl)
    rw [s.writeReg_core (by decide), State.laterWrite_bufClsMin]
  case laserRetire =>
    intro e k he hk
    have hbit : bit (at_ 1 1) 1 = true := by decide
    refine (run_engineWrite (c := .laserRetire e k late) (decide_eq_true ⟨he, hk⟩) hl (by decide)
      (engineOf_leLaser he hk)).trans ?_
    cases h : s.canRetire (12 * e + k) <;> simp [State.ignoresWrite, hbit, h]
  case laneRetry =>
    intro n hn
    have hbit : bit (at_ 0 1) 0 = true := by decide
    refine (run_engineWrite (c := .laneRetry n late) (decide_eq_true hn) hl (by decide) (engineOf_leLane hn)).trans ?_
    simp [State.ignoresWrite, hbit]
  case leafEnable =>
    intro l a hll ha
    refine run_live_eq (decide_eq_true ⟨hll, ha⟩) hl ?_ rfl
    rw [s.writeReg_core (by decide), State.laterWrite_bypLeaf]
  case clusterStepWrite =>
    intro c st hc hst
    have hstep : bits (at_ 58 st) 61 58 = st := bits_at_same (by decide) hst
    refine (run_coreWrite (c := .clusterStepWrite c st late) (decide_eq_true ⟨hc, hst⟩) hl (by decide)).trans ?_
    simp only [State.ignoresWrite, hstep, decide_eq_true_eq, ← Nat.not_le, ite_not]

end Sys2Proof.Machine

/-! ## A write of BAR0 that names one register (00 R2; 18 R514) -/

namespace Sys2Proof.Machine

/-- The endpoint takes a request of the eight bytes of a register. -/
theorem tlpFits_off {k : RegKind} {n : Nat} (hn : n < k.total) : tlpFits ⟨k.off n, 8, true⟩ = true := by
  have h8 := k.off_mod_eight n
  have hline : k.off n / 64 = (k.off n + 7) / 64 := by omega
  simp [tlpFits, h8, RegKind.inBlock_off hn, ← hline]

/-- A write of the eight bytes of a register is the write of that register. -/
theorem State.bar0Write_off {k : RegKind} {n : Nat} (hn : n < k.total) (s : State) (v hw : Word) (late : Bool) :
    s.bar0Write ⟨k.off n, 8, true⟩ [v] hw late = s.writeReg hw late k n v := by
  have hoffs : tlpOffs ⟨k.off n, 8, true⟩ = [k.off n] := by simp [tlpOffs]
  simp [State.bar0Write, tlpFits_off hn, hoffs, State.writeMany, State.writeAt, regAt_off hn]

/-- Setting en on a programmable counter that is not held is ignored, and nothing counts it (17 R496). -/
theorem State.laterWrite_cntPcfg_notHeld {s : State} {n : Nat} {v : Word} (hen : bit v 63 = true) (hh : s.held n = false)
    (late : Bool) : s.laterWrite .cntPcfg n v late = s := by
  simp [State.laterWrite, State.ignoresWrite, hen, hh]

/-- Enabling a programmable counter that is not held changes nothing on a live part (17 R496). -/
theorem exec_registerWrite_cntPcfg_notHeld {s : State} (hl : s.live = true) {n : Nat} (hn : n < 8192) {v : Word}
    (hen : bit v 63 = true) (hh : s.held n = false) (hw : Word) (late : Bool) :
    exec (.registerWrite ⟨RegKind.cntPcfg.off n, 8, true⟩ [v] hw late) s = .next s := by
  have hwrite : s.bar0Write ⟨RegKind.cntPcfg.off n, 8, true⟩ [v] hw late = s := by
    rw [s.bar0Write_off (k := .cntPcfg) hn, s.writeReg_core (by decide), State.laterWrite_cntPcfg_notHeld hen hh]
  exact run_live_eq (i := .registerWrite ⟨RegKind.cntPcfg.off n, 8, true⟩ [v] hw late) rfl hl hwrite rfl

/-- A count of the rejected configurations of CNT_STATUS that is zero rises (17 R497). -/
theorem State.bump_cfgErr_ne {s : State} (h : s.fld .cntStatus 0 15 0 = 0) : s.bump .cntStatus 0 15 0 1 ≠ s := by
  intro heq
  have hbump := s.fld_bump .cntStatus 0 0 1 (hi := 15) (by decide)
  rw [heq, h] at hbump
  exact absurd hbump (by decide)

/-- Refutes O24: its clause on CNT_PCFG_n counts a write that sets en on a counter that is not held, where the part
ignores that write without a count (17 R496) and counts in cfg_err a configuration that does not suit (17 R497). On a
live part fresh from reset, enabling counter 0 in mode 3 leaves CNT_STATUS as it was. -/
theorem not_registerReadsAndWrites : ¬ Obligations.RegisterReadsAndWrites := by
  intro h
  let s : State := { pins := { perstLow := false } }
  have hl : s.live = true := by decide
  have hen : bit (at_ 63 1 ||| at_ 60 3) 63 = true := by decide
  have hheld : s.held 0 = false := by decide
  obtain ⟨-, -, -, -, -, hpcfg, -⟩ := h s hl
  obtain ⟨-, hcounts, -⟩ := hpcfg 0 (at_ 63 1 ||| at_ 60 3) 0 false (by decide)
  have hsame := exec_registerWrite_cntPcfg_notHeld hl (by decide) hen hheld 0 false
  rw [hcounts hen hheld, Host.Outcome.next.injEq] at hsame
  exact State.bump_cfgErr_ne (by decide) hsame

end Sys2Proof.Machine

/-! ## What any command can answer (00; 01 R11; 18) -/

namespace Sys2Proof.Machine

/-- Every arm runs its command's meaning: those that reach a held part always, the others on a live part. -/
theorem exec_eq_run (i : Instr) (s : State) :
    ∃ f, exec i s = if i.reachesHeld then runAlways i s f else run i s f := by
  cases i <;> exact ⟨_, rfl⟩

/-- A well-formed command changes everything but the queue, or nothing. -/
theorem exec_wellFormed {i : Instr} (h : i.wellFormed = true) (s : State) :
    exec i s = .next s ∨ ∃ f, exec i s = .next (s.act f) := by
  obtain ⟨f, hf⟩ := exec_eq_run i s
  rw [hf]
  cases i.reachesHeld
  · cases hl : s.live
    · exact .inl (run_held h hl)
    · exact .inr ⟨f, run_live h hl⟩
  · exact .inr ⟨f, runAlways_next h⟩

theorem exec_illFormed {i : Instr} (h : i.wellFormed = false) (s : State) : exec i s = .fault .noSuchUnit := by
  obtain ⟨f, hf⟩ := exec_eq_run i s
  rw [hf]
  cases i.reachesHeld
  · exact run_illFormed h
  · exact runAlways_illFormed h

/-- Settles O2: every arm runs its meaning through `run` or `runAlways`, which keep the queue. -/
theorem wellFormedCommandsComplete : Obligations.WellFormedCommandsComplete := by
  refine fun i s => ⟨fun h => ?_, fun h => exec_illFormed h s⟩
  rcases exec_wellFormed h s with hs | ⟨f, hs⟩
  · exact ⟨s, hs, rfl⟩
  · exact ⟨s.act f, hs, s.act_pending f⟩

/-- The die of a lane's pipeline is the lane's own: 16 lanes to a pipeline, 32 pipelines to a die (01 R9). -/
theorem dieOfPipe_pipeOf (n : Nat) : dieOfPipe (pipeOf n) = dieOfLane n := by
  simp [dieOfPipe, pipeOf, dieOfLane, Nat.div_div_eq_div_mul]

/-- Eight engines of 64 lanes to a die (01 R9). -/
theorem dieOfLane_eq (n : Nat) : dieOfLane n = n / 64 / 8 := by
  simp [dieOfLane, Nat.div_div_eq_div_mul]

/-- Settles O42: the die of a lane, and of its pipeline, is an eighth of its engine's number. -/
theorem lanesBelongToTheirDie : Obligations.LanesBelongToTheirDie := by
  intro n hn
  rw [dieOfPipe_pipeOf, dieOfLane_eq]
  omega

end Sys2Proof.Machine

/-! ## A pennant that finds the hold table full (01 R24; 06 R160, R161) -/

namespace Sys2Proof.Machine

/-- A dispatch entry of mode 0 bypasses its station, and so does a dropped stream (01 R18; 04 R90). -/
theorem State.runStation_bypass {s : State} {x : Place} {t : Stream}
    (h : s.dispEntry t.epoch x.stn t.scls < 2 ^ 14) : s.runStation x t = (s, t) := by
  have hmode : s.dispEntry t.epoch x.stn t.scls / 2 ^ 14 = 0 := Nat.div_eq_of_lt h
  unfold State.runStation State.runEntry
  rw [hmode]
  split <;> rfl

/-- What hold makes of a stream that its program bypasses: neither dropped nor of a terminating flow, it is counted into
its bucket, and a pennant that is not ready is held (06 R160, R161). -/
theorem State.hold_bypass {s : State} {pipe : Nat} {t : Stream} (hf : s.firstAt pipe .hold = some t)
    (he : s.dispEntry t.epoch 2 t.scls < 2 ^ 14) (hd : t.dropped = false) (h4 : t.disp ≠ 4) (hq : s.seqFlow t = false) :
    s.hold pipe =
      if t.pennant && !(s.enter t).1.penReady (s.enter t).2 then
        (s.enter t).1.holdPennant (s.enter t).2 .penHeld .penWait
      else (s.enter t).1.toStage (s.enter t).2 .merge := by
  unfold State.hold
  rw [hf]
  dsimp only
  rw [runStation_bypass (x := { stn := 2, pipe := pipe }) he]
  simp only [hd, h4, hq, decide_false, Bool.or_false, Bool.false_eq_true, if_false]
  rfl

/-- A stream that holds no credit, no tiles and no send descriptor: its end takes it off the list and counts it in D
(06 R160). -/
theorem State.endStream_bare (s : State) {t : Stream} (hc : t.credit = false) (ha : t.alloc = none) (hd : t.desc = none) :
    s.endStream t = (s.dropStream t.id).addD t.bucket := by
  simp [State.endStream, State.releaseCredit, State.freeStreamTiles, State.sendDone, hc, ha, hd]

/-- A pennant of class 0 on an Ethernet port, which no program has touched. -/
def ethPennant : Stream :=
  { id := 0, pipe := 0, stage := .hold, ret := false, inLane := 0, inPort := 0, eth := true, scls := 0, part := 0, cls := 0,
    epoch := false, pennant := true, flen := 0, m1 := 0, mx := [], bytes := [], h := [], hdr := {}, ce := false,
    poison := false, dead := false, dropped := false, bucket := none, snap := 0, since := 0, alloc := none, credit := false,
    desc := none, tsReq := false, pin := none, bcast := none, mirrorTo := none, trk := none }

/-- The bucket of its flow; its CRC is never computed. -/
@[irreducible] def ethBucket : Nat := State.bucketOfFlow {} ethPennant.key

/-- The pennant as hold has counted it, behind one earlier frame of its bucket. -/
def ethEntered : Stream := { ethPennant with bucket := some ethBucket, snap := 1 }

/-- A live part with n pennants in the hold table, and one more that waits for hold behind an earlier frame of its
bucket. -/
def tableOf (n : Nat) : State :=
  { pins := { perstLow := false }
    net := { streams := ethPennant :: List.replicate n { ethPennant with id := 1, stage := .penHeld },
             occE := [(ethBucket, 1)] } }

theorem tableOf_bypass (n : Nat) : (tableOf n).dispEntry ethPennant.epoch 2 ethPennant.scls < 2 ^ 14 := Nat.two_pow_pos 14

theorem tableOf_enter (n : Nat) : (tableOf n).enter ethPennant = ((tableOf n).addE ethBucket, ethEntered) := by
  have hb : (tableOf n).bucketOfFlow ethPennant.key = ethBucket := by unfold ethBucket; rfl
  have hE : (tableOf n).occE ethBucket = 1 := by simp [State.occE, tableOf, SMap.get_cons]
  rw [State.enter, hb, hE, ethEntered]

theorem tableOf_heldCount (n : Nat) : ((tableOf n).addE ethBucket).heldCount = n := by
  have hp : ethPennant.stage = .hold := rfl
  simp [State.heldCount, State.addE, tableOf, hp]

/-- Its snapshot is 1 and D is 0. -/
theorem tableOf_notReady (n : Nat) : ((tableOf n).addE ethBucket).penReady ethEntered = false := by
  have hD : ((tableOf n).addE ethBucket).occD ethBucket = 0 := SMap.get_nil _ _
  simp only [State.penReady, ethEntered, hD]
  decide

/-- With the table full, the pennant ends, and D of its bucket rises (01 R24). -/
theorem tableOf_hold {n : Nat} (hn : 16384 ≤ n) :
    (tableOf n).hold 0 = ((((tableOf n).addE ethBucket).stnDrop ethEntered).dropStream 0).addD (some ethBucket) := by
  rw [State.hold_bypass (t := ethPennant) rfl (tableOf_bypass n) rfl (by decide) rfl, tableOf_enter]
  dsimp only
  rw [tableOf_notReady, State.holdPennant, tableOf_heldCount, if_neg (Nat.not_lt.2 hn)]
  exact State.endStream_bare _ (t := ethEntered) rfl rfl rfl

/-- Refutes O45: its clause on hold keeps every D as it was, but a pennant of classes 0 to 4 that is not ready and finds
the hold table full is dropped (01 R24), and its end counts in D of its bucket (06 R160). -/
theorem not_stationsPassStreams : ¬ Obligations.StationsPassStreams := by
  intro h
  obtain ⟨n, hn⟩ : ∃ n, 16384 ≤ n := ⟨16384, Nat.le_refl _⟩
  have hlive : (tableOf n).live = true := rfl
  obtain ⟨-, -, -, -, -, -, hhold, -⟩ := h (tableOf n) 0 hlive (by decide)
  obtain ⟨u, b, hexec, -, -, -, hD, -⟩ := hhold ethPennant rfl rfl (tableOf_bypass n) (by decide) rfl
  have hrun : exec (.stationHold 0) (tableOf n) = .next ((tableOf n).act fun s => s.hold 0) :=
    run_live (i := .stationHold 0) rfl hlive
  rw [hrun, Host.Outcome.next.injEq] at hexec
  have hcount : SMap.get 0 u.net.occD ethBucket = 1 := by
    rw [← hexec, State.act_net, tableOf_hold hn]
    exact SMap.get_upd_same 0 [] ethBucket fun v => (v + 1) % 2 ^ 32
  have hzero : SMap.get 0 u.net.occD ethBucket = 0 := by rw [hD]; exact SMap.get_nil _ _
  omega

end Sys2Proof.Machine

/-! ## The return port (01 R19; 04 R92; 07 R191) -/

namespace Sys2Proof.Machine

/-! ### Waiting BAR2 accesses keep the queue (18 R519) -/

theorem State.hostBytes_pending (s : State) (sp : Space) (a n : Nat) : (s.hostBytes sp a n).2.pending = s.pending := by
  unfold State.hostBytes
  dsimp only
  split
  · refine List.foldlRecOn (motive := fun (x : List Byte × State) => x.2.pending = s.pending) _ _ rfl fun x hx i _ => ?_
    split <;> exact hx
  · rfl

theorem State.setPoison_pending (s : State) (sp : Space) (l : Nat) (b : Bool) :
    (s.setPoison sp l b).pending = s.pending := by
  cases sp <;> rfl

theorem State.hostDo_pending (s : State) (x : HostAcc) : (s.hostDo x).pending = s.pending := by
  have hline : (s.lineAccess x.lines).pending = s.pending := by rw [s.onlyCnt_lineAccess x.lines]
  unfold State.hostDo
  dsimp only
  split
  · rw [State.emit_pending, State.hostBytes_pending, hline]
  · refine List.foldlRecOn (motive := fun (t : State) => t.pending = s.pending) _ _ ?_ fun t ht l _ => ?_
    · split <;> exact hline
    · rw [State.setPoison_pending, ht]

/-- The BAR2 accesses that go leave the commands that wait. -/
theorem State.hostGoes_pending (s : State) : s.hostGoes.pending = s.pending := by
  refine List.foldlRecOn (motive := fun (t : State) => t.pending = s.pending) _ _ rfl fun t ht x _ => ?_
  unfold State.hostStep
  split
  · exact ht
  · rw [State.hostDo_pending, ← ht]

/-! ### A draw of tiles does not depend on the streams -/

/-- A state with other streams and return ports. -/
def State.setNet (s : State) (n : NetState) : State := { s with net := n }

theorem State.popTile_setNet (s : State) (n : NetState) (pipe die : Nat) :
    (s.setNet n).popTile pipe die = (s.popTile pipe die).map fun x => (x.1, x.2.setNet n) := by
  have hfill : (s.setNet n).fillCache pipe = (s.fillCache pipe).setNet n := by
    have hcache : (s.setNet n).cache pipe = s.cache pipe := rfl
    by_cases h : s.cache pipe = []
    · simp only [State.fillCache, hcache, h, ne_eq, not_true, if_false]; rfl
    · simp only [State.fillCache, hcache, h, ne_eq, not_false_eq_true, if_true]
  have hcache : ((s.fillCache pipe).setNet n).cache pipe = (s.fillCache pipe).cache pipe := rfl
  have hlist : (s.setNet n).freeList (.tile die) = s.freeList (.tile die) := rfl
  unfold State.popTile
  dsimp only
  rw [hfill, hcache, hlist]
  split
  · split <;> rfl
  · split <;> rfl

theorem State.drawTile_setNet (s : State) (n : NetState) (pipe die p c : Nat) (head : Bool) :
    (s.setNet n).drawTile pipe die p c head = (s.drawTile pipe die p c head).map fun x => (x.1, x.2.setNet n) := by
  have hsrc : (s.setNet n).tileSrc p c head = s.tileSrc p c head := rfl
  unfold State.drawTile
  rw [hsrc, State.popTile_setNet]
  cases s.tileSrc p c head with
  | none => rfl
  | some src => cases s.popTile pipe die <;> rfl

theorem State.drawTiles_setNet (s : State) (n : NetState) (pipe die p c : Nat) (head : Bool) (k : Nat) :
    (s.setNet n).drawTiles pipe die p c head k
      = (s.drawTiles pipe die p c head k).map fun x => (x.1, x.2.setNet n) := by
  induction k generalizing s with
  | zero => rfl
  | succ k ih =>
    unfold State.drawTiles
    rw [State.drawTile_setNet]
    cases s.drawTile pipe die p c head with
    | none => rfl
    | some x => simp [ih, Function.comp_def]

/-- The tiles of a packet are the same whatever streams there are. -/
theorem State.allocTiles_setNet (s : State) (m : NetState) (pipe n p c die : Nat) (head both : Bool) :
    (s.setNet m).allocTiles pipe n p c head die both
      = (s.allocTiles pipe n p c head die both).map fun x => (x.1, x.2.setNet m) := by
  have hreach : ∀ d, (s.setNet m).reach pipe d = s.reach pipe d := fun _ => rfl
  unfold State.allocTiles
  simp only [hreach]
  split
  · rfl
  · simp [State.drawTiles_setNet, Function.comp_def]

/-! ### A result of a port -/

theorem length_fitBytes (n : Nat) (bs : List Byte) : (fitBytes n bs).length = n := by
  simp [fitBytes]; omega

/-- The stream of a result of partition 0 for a port, as it reaches queue (04 R92). -/
def State.portResult (s : State) (r : Ret) : Stream :=
  { s.retStream r with m1 := at_ 61 1 ||| at_ 51 r.target ||| at_ 37 0 ||| at_ 30 r.subq }

/-- What is left of the return ports when the first result of a die is taken. -/
def State.resultTaken (s : State) (die : Nat) : State :=
  s.setNet { s.net with ret := dropFirst (fun x => dieOfPipe x.pipe = die) s.net.ret, nextId := s.net.nextId + 1 }

section
variable {s : State} {r : Ret} (ht : r.target < 1024) (hq : r.subq < 128)
include ht hq

theorem State.portResult_disp : (s.portResult r).disp = 1 := by
  have h : bits (s.portResult r).m1 63 61 = 1 := by
    simp (disch := omega) only [State.portResult, bits_or, bits_at_same, bits_at_below, Nat.or_zero]
  rw [Stream.disp, h]; rfl

theorem State.portResult_port : (s.portResult r).port = r.target := by
  simp (disch := omega) only [State.portResult, Stream.port, bits_or, bits_at_same, bits_at_below, bits_at_above,
    Nat.or_zero, Nat.zero_or]

omit ht in
theorem State.portResult_subq : (s.portResult r).subq = r.subq := by
  simp (disch := omega) only [State.portResult, Stream.subq, bits_or, bits_at_same, bits_at_above, Nat.zero_or]
end

theorem State.portResult_tiles {s : State} {r : Ret} (he : r.eth = false) :
    (s.portResult r).tiles = tilesOf (Nat.max 256 r.bytes.length) := by
  simp [State.portResult, Stream.tiles, State.retStream, he, length_fitBytes]

/-- A result of partition 0 for a port, whose class's program is bypassed, while queue has a descriptor free (07 R191). -/
structure PortResult (s : State) (die : Nat) (r : Ret) : Prop where
  first : s.net.ret.find? (fun r => dieOfPipe r.pipe = die) = some r
  kind : r.kind = 2
  target : r.target < 1024
  subq : r.subq < 128
  bypass : s.dispEntry r.epoch 5 255 < 2 ^ 14
  part : r.part = 0
  asune : r.eth = false
  room : s.q.copies.length < 2097152

/-- A result of partition 0 for a port is placed with the tiles that it is given, and held where it is given none (07
R191). -/
theorem State.place_portResult {s : State} {die : Nat} {r : Ret} (hr : PortResult s die r) :
    s.place die
      = match s.allocTiles r.pipe (tilesOf (Nat.max 256 r.bytes.length)) 0 r.cls false (dieOfLane r.target) true with
        | none => s.setNet { s.net with
            ret := updFirst (fun x => dieOfPipe x.pipe = die) (fun x => { x with held := true }) s.net.ret }
        | some (a, v) => v.setNet { (s.resultTaken die).net with
            streams := s.net.streams ++ [{ s.portResult r with stage := .pend, alloc := some a }] } := by
  obtain ⟨hf, hk, ht, hq, he, hp, heth, hc⟩ := hr
  have hdisp := State.portResult_disp (s := s) ht hq
  have hroute : State.retRoute { s with net := { s.net with
      ret := dropFirst (fun x => dieOfPipe x.pipe = die) s.net.ret, nextId := s.net.nextId + 1 } } r (s.retStream r)
        = (s.resultTaken die, s.portResult r) := by
    change (s.resultTaken die).retRoute r (s.retStream r) = _
    simp [State.retRoute, hk, State.portResult]
  have hrun : (s.resultTaken die).runStation { stn := 5, pipe := r.pipe } (s.portResult r)
      = (s.resultTaken die, s.portResult r) := State.runStation_bypass he
  have hmirror : (s.resultTaken die).mirrorCopy (s.portResult r) = (s.resultTaken die, s.portResult r) := by
    have hpart : (s.portResult r).part = 0 := hp
    simp [State.mirrorCopy, hpart]
  have hdraw : (s.resultTaken die).queueTiles (s.portResult r) false
      = (s.allocTiles r.pipe (tilesOf (Nat.max 256 r.bytes.length)) 0 r.cls false (dieOfLane r.target) true).map
          fun x => (x.1, x.2.setNet (s.resultTaken die).net) := by
    have hlen : ¬ 2097152 ≤ (s.resultTaken die).q.copies.length := Nat.not_le.2 hc
    have hsame : (s.portResult r).mirrorTo = none ∧ (s.portResult r).pipe = r.pipe ∧ (s.portResult r).cls = r.cls
        ∧ (s.portResult r).part = 0 := ⟨rfl, rfl, rfl, hp⟩
    obtain ⟨hm, hpipe, hcls, hpart⟩ := hsame
    rw [State.queueTiles, if_neg hlen, hdisp, hm, hpipe, hcls, hpart, State.portResult_port ht hq,
      State.portResult_tiles heth]
    exact State.allocTiles_setNet _ _ _ _ _ _ _ _ _
  unfold State.place
  rw [hf]
  have hown : (decide (r.kind = 2)) = true := decide_eq_true hk
  have hdrop : (s.portResult r).dropped = false := rfl
  simp only [hown, Bool.not_true, Bool.false_and, Bool.false_eq_true, if_false, hroute, hrun, hdisp, hdrop, hmirror, hdraw,
    Bool.or_false, show ¬ (1 = 4) by decide, decide_false]
  cases s.allocTiles r.pipe (tilesOf (Nat.max 256 r.bytes.length)) 0 r.cls false (dieOfLane r.target) true <;> rfl

end Sys2Proof.Machine

/-! ## launch (06 R147, R148; 07 R194) -/

namespace Sys2Proof.Machine

/-! ### What is drawn while a lane is picked -/

/-- A state that has drawn free values and nothing else (log entry 5). -/
def State.onlyFree (s t : State) : Prop := t = { s with free := t.free }

theorem State.onlyFree_refl (s : State) : s.onlyFree s := rfl

theorem State.onlyFree_trans {s t u : State} (h : s.onlyFree t) (g : t.onlyFree u) : s.onlyFree u := by
  unfold State.onlyFree at *
  rw [g, h]

theorem State.onlyFree_freshWord (s : State) : s.onlyFree s.freshWord.2 := rfl

/-- A frame may start only on a lane whose transmit direction is not bypassed (09 R250). -/
theorem State.mayStart_spec (s : State) (n : Nat) :
    s.onlyFree (s.mayStart n).2 ∧ ((s.mayStart n).1 = true → s.txBypassed n = false) := by
  unfold State.mayStart
  dsimp only [State.freshWord]
  cases hb : s.txBypassed n
  · cases hnext : s.bypassedNext n <;> exact ⟨rfl, fun _ => rfl⟩
  · exact ⟨rfl, fun h => absurd h Bool.false_ne_true⟩

theorem State.startable_spec (s : State) (ns : List Nat) :
    s.onlyFree (s.startable ns).2 ∧ ∀ n ∈ (s.startable ns).1, n ∈ ns ∧ s.txBypassed n = false := by
  refine List.foldlRecOn (motive := fun (x : List Nat × State) =>
    s.onlyFree x.2 ∧ ∀ n ∈ x.1, n ∈ ns ∧ s.txBypassed n = false) _ _ ⟨rfl, by simp⟩ fun x hx n hn => ?_
  obtain ⟨hfree, hok⟩ := hx
  obtain ⟨hdraw, hmay⟩ := x.2.mayStart_spec n
  have hbyp : x.2.txBypassed n = s.txBypassed n := by rw [hfree]; rfl
  refine ⟨State.onlyFree_trans hfree hdraw, fun m hm => ?_⟩
  dsimp only at hm
  split at hm
  · next h =>
    rcases List.mem_append.1 hm with hold | hnew
    · exact hok m hold
    · rw [List.mem_singleton.1 hnew]
      exact ⟨hn, hbyp ▸ hmay h⟩
  · exact hok m hm

theorem State.onlyFree_fifoBytes (s : State) (n : Nat) : s.onlyFree (s.fifoBytes n).2 := by
  unfold State.fifoBytes
  dsimp only [State.freshWord]
  split <;> rfl

/-- The lane picked is one of those that were offered, and one is picked where any is (06 R148). -/
theorem State.fewest_spec (s : State) (ns : List Nat) :
    s.onlyFree (s.fewest ns).2 ∧ ∀ n, (s.fewest ns).1 = some n → n ∈ ns := by
  match ns with
  | [] => exact ⟨rfl, nofun⟩
  | [n] => exact ⟨rfl, fun m h => by cases h; exact List.mem_singleton_self n⟩
  | n :: m :: ms =>
    have hwalk := List.foldlRecOn (l := m :: ms)
      (motive := fun (x : (Nat × Nat) × State) => s.onlyFree x.2 ∧ x.1.1 ∈ n :: m :: ms)
      (fun x k => (if (x.2.fifoBytes k).1 < x.1.2 then (k, (x.2.fifoBytes k).1) else x.1, (x.2.fifoBytes k).2))
      (b := ((n, (s.fifoBytes n).1), (s.fifoBytes n).2)) ⟨s.onlyFree_fifoBytes n, List.mem_cons_self⟩
      fun x hx k hk => ⟨State.onlyFree_trans hx.1 (x.2.onlyFree_fifoBytes k), by
        dsimp only
        split
        · exact List.mem_cons_of_mem _ hk
        · exact hx.2⟩
    exact ⟨hwalk.1, fun k h => by cases h; exact hwalk.2⟩

/-- What picking a lane does: free values are drawn, and the lane picked is one of those offered that is not bypassed. -/
theorem State.picked_spec {s s1 s2 : State} {ms ns : List Nat} {n? : Option Nat} (hns : s.startable ms = (ns, s1))
    (hpick : s1.fewest ns = (n?, s2)) : s.onlyFree s2 ∧ ∀ n, n? = some n → n ∈ ms ∧ s.txBypassed n = false := by
  have hstart := s.startable_spec ms
  have hfew := s1.fewest_spec ns
  rw [hns] at hstart
  rw [hpick] at hfew
  exact ⟨State.onlyFree_trans hstart.1 hfew.1, fun n h => hstart.2 n (hfew.2 n h)⟩

/-! ### The trace units (17 R511) -/

/-- A state that the trace units may have changed: their registers, their counts, a free value and a posted item. -/
def State.onlyTrace (s t : State) : Prop := t = { s with free := t.free, regs := t.regs, cnt := t.cnt, host := t.host }

theorem State.onlyTrace_trans {s t u : State} (h : s.onlyTrace t) (g : t.onlyTrace u) : s.onlyTrace u := by
  unfold State.onlyTrace at *
  rw [g, h]

theorem State.onlyTrace_traceUnit (s : State) (point lane : Nat) (t : Stream) (k : Nat) :
    s.onlyTrace (s.traceUnit point lane t k) := by
  unfold State.traceUnit
  dsimp only
  split
  · rfl
  · split
    · rfl
    · split <;> rfl

theorem State.onlyTrace_trace (s : State) (point lane : Nat) (t : Stream) : s.onlyTrace (s.trace point lane t) :=
  List.foldlRecOn (motive := fun (u : State) => s.onlyTrace u) _ _ rfl
    fun u hu k _ => State.onlyTrace_trans hu (u.onlyTrace_traceUnit point lane t k)

theorem State.onlyTrace_launchTraced (s : State) (port : Nat) : (s.launch port).onlyTrace (s.launchTraced port) := by
  unfold State.launchTraced
  dsimp only
  split
  · rfl
  · split
    · rfl
    · exact State.onlyTrace_trace _ _ _ _

/-- A copy's number names it. -/
theorem copy_eq_of_cid {l : List Copy} (hn : (l.map (·.cid)).Nodup) {x c : Copy} (hx : x ∈ l) (hc : c ∈ l)
    (h : x.cid = c.cid) : x = c := by
  induction l with
  | nil => cases hx
  | cons a l ih =>
    rw [List.map_cons, List.nodup_cons] at hn
    obtain ⟨hfirst, hrest⟩ := hn
    rcases List.mem_cons.1 hx with rfl | hxl <;> rcases List.mem_cons.1 hc with rfl | hcl
    · rfl
    · exact absurd (List.mem_map.2 ⟨c, hcl, h.symm⟩) hfirst
    · exact absurd (List.mem_map.2 ⟨x, hxl, h⟩) hfirst
    · exact ih hrest hxl hcl

/-- The trace units see nothing where the copies are as they were: no copy has started. -/
theorem State.launchTraced_sameCopies {s : State} {port : Nat} (hn : (s.q.copies.map (·.cid)).Nodup)
    (hq : (s.launch port).q.copies = s.q.copies) : s.launchTraced port = s.launch port := by
  have hnone : (s.q.copies.find? fun c => c.sending.isSome
      && (s.q.copies.find? fun x => x.cid = c.cid && x.sending.isNone).isSome) = none := by
    rw [List.find?_eq_none]
    intro c hc h
    simp only [Bool.and_eq_true, List.find?_isSome, decide_eq_true_eq] at h
    obtain ⟨hsend, x, hx, hcid, hwait⟩ := h
    have hsame : x = c := copy_eq_of_cid hn hx hc hcid
    rw [hsame] at hwait
    simp_all
  unfold State.launchTraced
  simp only [hq, hnone]

/-! ### The copy that is picked (06 R148; 07 R194) -/

theorem State.takeResend_none {s : State} {p : Nat} (h : SMap.get [] s.lnk.resend p = []) : s.takeResend p = s := by
  unfold State.takeResend
  rw [h]

/-- Where no hop-local frame waits on the lanes, none of them goes on. -/
theorem State.goOn_noHops {s : State} {ns : List Nat} (h : ∀ n ∈ ns, (s.lane n).hops = []) :
    ns.foldl (fun s n => if (State.lane s n).hops.isEmpty then s else s.startNext n) s = s := by
  induction ns with
  | nil => rfl
  | cons n ns ih =>
    rw [List.foldl_cons, h n List.mem_cons_self]
    exact ih fun m hm => h m (List.mem_cons_of_mem n hm)

/-- The copy with a number is the first that has the number and waits, where it waits. -/
theorem find_waiting {l : List Copy} {c : Copy} (hf : l.find? (fun x => x.cid = c.cid) = some c) (hs : c.sending = none) :
    l.find? (fun x => x.cid = c.cid && x.sending.isNone) = some c := by
  obtain ⟨-, as, bs, hl, hbefore⟩ := List.find?_eq_some_iff_append.1 hf
  refine List.find?_eq_some_iff_append.2 ⟨by simp [hs], as, bs, hl, fun a ha => ?_⟩
  have hne := hbefore a ha
  simp_all

section
variable {s : State} {port : Nat} (hr : SMap.get [] s.lnk.resend port = [])
include hr

theorem State.launch_empty (hh : ∀ n ∈ s.portLanes port, (s.lane n).hops = []) (hl : SMap.get [] s.q.lists port = []) :
    s.launch port = s := by
  unfold State.launch
  simp only [State.takeResend_none hr, hl, List.findSome?_nil]
  exact State.goOn_noHops hh

variable {c : Copy} {t : Stream} {rest ns : List Nat} {s1 u : State}
  (hl : SMap.get [] s.q.lists port = c.cid :: rest) (hf : s.q.copies.find? (fun x => x.cid = c.cid) = some c)
  (hs : c.sending = none) (ht : s.stream c.sid = some t) (hns : s.startable (s.lanesFor t c) = (ns, s1))
include hl hf hs ht hns

/-- Where no lane is picked for the first listed copy, only free values are drawn. -/
theorem State.launch_unpicked (hpick : s1.fewest ns = (none, u)) (hh : ∀ m ∈ u.portLanes port, (u.lane m).hops = []) :
    s.launch port = u := by
  unfold State.launch
  simp only [State.takeResend_none hr, hl, List.findSome?_cons, find_waiting hf hs, ht, hns, hpick]
  exact State.goOn_noHops hh

theorem State.launch_picked {n : Nat} (hpick : s1.fewest ns = (some n, u))
    (hh : ∀ m ∈ (u.launchOn t c n).portLanes port, ((u.launchOn t c n).lane m).hops = []) :
    s.launch port = u.launchOn t c n := by
  unfold State.launch
  simp only [State.takeResend_none hr, hl, List.findSome?_cons, find_waiting hf hs, ht, hns, hpick]
  exact State.goOn_noHops hh
end

/-! ### What launch does with it -/

/-- Charging a copy changes the tokens of shapers alone (07 R196). -/
theorem State.charge_spec (s : State) (c : Copy) : ∃ tok, s.charge c = { s with q := { s.q with tok := tok } } := by
  unfold State.charge State.setTokens
  dsimp only
  split <;> split <;> exact ⟨_, rfl⟩

/-- A copy that launch hands over is charged, and its bytes are counted. -/
theorem State.charge_counted (s : State) (c : Copy) (i j : Nat) : ∃ tok cnt,
    ((s.charge c).progEvent 0x09 i (some c.part) c.flen).progEvent 0x0D j (some c.part) c.flen
      = { s with q := { s.q with tok := tok }, cnt := cnt } := by
  obtain ⟨tok, h⟩ := s.charge_spec c
  rw [h]
  exact ⟨tok, _, State.onlyCnt_trans (State.onlyCnt_progEvent _ _ _ _ _) (State.onlyCnt_progEvent _ _ _ _ _)⟩

/-- The state in which a copy has left the list of its port. -/
def State.unlisted (s : State) (c : Copy) : State :=
  { s with q := { s.q with lists := SMap.upd [] s.q.lists c.port (·.filter (· ≠ c.cid)) } }

/-- A copy whose programs at shape and launch are bypassed, and whose packet is sound, is taken off the list, charged,
counted and handed over. -/
theorem State.launchOn_bypass {s : State} {t : Stream} {c : Copy} (n : Nat) (hd : t.dropped = false)
    (h6 : s.dispEntry t.epoch 6 t.scls < 2 ^ 14) (h7 : s.dispEntry t.epoch 7 t.scls < 2 ^ 14) (hp : t.poison = false) :
    ∃ v : State, s.launchOn t c n = v.handTo n { c with frame := copyFrame t c } ∧ v = { s with q := v.q, cnt := v.cnt }
      ∧ v.q.copies = s.q.copies ∧ v.q.lists = (s.unlisted c).q.lists := by
  have hshape : State.egressProgram
      { s with q := { s.q with lists := SMap.upd [] s.q.lists c.port (·.filter (· ≠ c.cid)) } } 6 c t
        = (s.unlisted c, t) := State.runStation_bypass h6
  have hlaunch : (s.unlisted c).egressProgram 7 c t = (s.unlisted c, t) := State.runStation_bypass h7
  obtain ⟨tok, cnt, hcount⟩ := (s.unlisted c).charge_counted c (8 * c.port + c.cls) (1024 * c.port + 128 * c.cls + c.subq)
  have hkeep : ¬ t.dropped = true := by simp [hd]
  have hsound : ¬ (t.poison && !(s.unlisted c).carry t.part) = true := by simp [hp]
  unfold State.launchOn
  simp only [hshape, hlaunch, hkeep, hsound, hcount]
  exact ⟨_, rfl, rfl, rfl, rfl⟩

/-- A copy handed over joins the lane's FIFO, which begins it where it sends nothing (06 R148). -/
theorem State.handTo_spec (v : State) (n : Nat) (c : Copy) :
    v.handTo n c = { v with q := (v.handTo n c).q, lnk := (v.handTo n c).lnk }
      ∧ (v.handTo n c).q = (v.putCopy { c with sending := some n }).q
      ∧ ((v.handTo n c).lane n) = { v.lane n with
          queue := (v.lane n).queue ++ [c.cid], now := if (v.lane n).now = .idle then .copy else (v.lane n).now }
      ∧ ∀ m, m ≠ n → (v.handTo n c).lane m = v.lane m := by
  refine ⟨rfl, rfl, ?_, fun m hm => ?_⟩
  · simp only [State.handTo, State.begin, State.lane_setLane, if_true]
    rfl
  · simp only [State.handTo, State.begin, State.lane_setLane, hm, if_false]
    rfl

/-- What launch leaves of a sound copy whose programs are bypassed: it is on its lane's FIFO and off its port's list. -/
theorem State.launchOn_spec {s : State} {t : Stream} {c : Copy} (n : Nat) (hd : t.dropped = false)
    (h6 : s.dispEntry t.epoch 6 t.scls < 2 ^ 14) (h7 : s.dispEntry t.epoch 7 t.scls < 2 ^ 14) (hp : t.poison = false)
    {u : State} (hu : u = s.launchOn t c n) :
    u = { s with q := u.q, cnt := u.cnt, lnk := u.lnk }
      ∧ u.q.copies = (s.putCopy { c with sending := some n, frame := copyFrame t c }).q.copies
      ∧ u.q.lists = (s.unlisted c).q.lists
      ∧ u.lane n = { s.lane n with
          queue := (s.lane n).queue ++ [c.cid], now := if (s.lane n).now = .idle then .copy else (s.lane n).now }
      ∧ ∀ m, m ≠ n → u.lane m = s.lane m := by
  obtain ⟨v, hgoes, hv, hcopies, hlists⟩ := State.launchOn_bypass (c := c) n hd h6 h7 hp
  obtain ⟨hframe, hq, hn, hm⟩ := v.handTo_spec n { c with frame := copyFrame t c }
  have hlane : ∀ m, v.lane m = s.lane m := fun m => by rw [hv]; rfl
  rw [← hgoes, ← hu] at hframe hq hn hm
  refine ⟨?_, ?_, ?_, ?_, fun m hne => (hm m hne).trans (hlane m)⟩
  · rw [hframe, hv]
  · rw [hq, State.putCopy, hcopies]; rfl
  · rw [hq]; exact hlists
  · rw [hn, hlane]

end Sys2Proof.Machine

/-! ## The end of a frame (06 R148, R152, R157; 07 R180) -/

namespace Sys2Proof.Machine

/-! ### A lane after a numbered frame -/

/-- A lane whose frame has been sent whole: it is numbered and held, and of classes 5 to 7 it counts in S (06 R151, R152;
07 R188). -/
def Lane.sent (l : Lane) (f : List Byte) (beat cls tiles : Nat) : Lane :=
  if 5 ≤ cls then (l.hold f beat).addS cls tiles else l.hold f beat

theorem Lane.addS_eq (l : Lane) (c n : Nat) : ∃ a b d, l.addS c n = { l with s5 := a, s6 := b, s7 := d } := by
  unfold Lane.addS
  split
  · exact ⟨_, _, _, rfl⟩
  · split <;> exact ⟨_, _, _, rfl⟩

theorem Lane.sent_eq (l : Lane) (f : List Byte) (beat cls tiles : Nat) :
    ∃ a b d, l.sent f beat cls tiles = { l.hold f beat with s5 := a, s6 := b, s7 := d } := by
  unfold Lane.sent
  split
  · exact Lane.addS_eq _ _ _
  · exact ⟨_, _, _, rfl⟩

section
variable (l : Lane) (f : List Byte) (beat cls tiles : Nat)

@[simp] theorem Lane.sent_ahead : (l.sent f beat cls tiles).ahead = l.ahead := by
  obtain ⟨_, _, _, h⟩ := l.sent_eq f beat cls tiles
  rw [h]; rfl

@[simp] theorem Lane.sent_hops : (l.sent f beat cls tiles).hops = l.hops := by
  obtain ⟨_, _, _, h⟩ := l.sent_eq f beat cls tiles
  rw [h]; rfl

@[simp] theorem Lane.sent_asked : (l.sent f beat cls tiles).asked = l.asked := by
  obtain ⟨_, _, _, h⟩ := l.sent_eq f beat cls tiles
  rw [h]; rfl

@[simp] theorem Lane.sent_txNum : (l.sent f beat cls tiles).txNum = (l.txNum + 1) % 2 ^ 32 := by
  obtain ⟨_, _, _, h⟩ := l.sent_eq f beat cls tiles
  rw [h]; rfl

/-- The frame sent is the last that the replay buffer holds. -/
@[simp] theorem Lane.sent_replay_getLast : (l.sent f beat cls tiles).replay.getLast? = some ⟨l.txNum, f, 0, beat⟩ := by
  obtain ⟨_, _, _, h⟩ := l.sent_eq f beat cls tiles
  rw [h]
  exact List.getLast?_concat
end

/-! ### The lane goes on -/

theorem State.flushHops_nil {s : State} {n : Nat} (h : (s.lane n).hops = []) :
    s.flushHops n = s.setLane n fun l => { l with hops := [] } := by
  unfold State.flushHops
  rw [h]
  rfl

/-- A lane goes on by itself: free values are drawn, and of the lane only what it now sends changes. -/
def State.onlyNow (n : Nat) (s u : State) : Prop :=
  u = { s with free := u.free, lnk := u.lnk } ∧ u.lane n = { s.lane n with now := (u.lane n).now }

theorem State.onlyNow_trans {n : Nat} {s t u : State} (h : s.onlyNow n t) (g : t.onlyNow n u) : s.onlyNow n u := by
  obtain ⟨hframe, hlane⟩ := h
  obtain ⟨gframe, glane⟩ := g
  refine ⟨?_, ?_⟩
  · rw [gframe, hframe]
  · rw [glane, hlane]

theorem State.onlyNow_begin (s : State) (n : Nat) (k : Sending) : s.onlyNow n (s.begin n k) := by
  refine ⟨rfl, ?_⟩
  simp only [State.begin, State.lane_setLane, if_true]

theorem State.onlyNow_mayStart (s : State) (n : Nat) : s.onlyNow n (s.mayStart n).2 := by
  have h := (s.mayStart_spec n).1
  have hlane : (s.mayStart n).2.lane n = s.lane n := by rw [h]; rfl
  have hlnk : (s.mayStart n).2.lnk = s.lnk := by rw [h]
  refine ⟨?_, by rw [hlane]⟩
  rw [hlnk]
  exact h

/-- A lane on which no hop-local frame and no replay waits goes on with its own frames, or stays as it is. -/
theorem State.onlyNow_startNext {s : State} {n : Nat} (hh : (s.lane n).hops = []) (ha : (s.lane n).asked = none) :
    s.onlyNow n (s.startNext n) := by
  have hlane : (s.setLane n fun l => { l with hops := [] }).lane n = s.lane n := by
    simp only [State.lane_setLane, if_true, ← hh]
  have hclear : s.onlyNow n (s.setLane n fun l => { l with hops := [] }) := ⟨rfl, by rw [hlane]⟩
  unfold State.startNext
  split
  · exact ⟨rfl, rfl⟩
  · simp only [State.flushHops_nil hh, hlane, ha]
    split
    · exact hclear
    · split
      · exact State.onlyNow_trans hclear (State.onlyNow_trans (State.onlyNow_mayStart _ _) (State.onlyNow_begin _ _ _))
      · exact State.onlyNow_trans hclear (State.onlyNow_mayStart _ _)

/-! ### A frame handed over -/

theorem State.aheadSent_spec (s : State) (n : Nat) (f : List Byte) {u : State} (hu : u = s.aheadSent n f) :
    u = { s with lnk := u.lnk, cnt := u.cnt, out := s.out ++ [.frame n f] }
      ∧ u.lane n = ({ s.lane n with now := .idle, ahead := (s.lane n).ahead.drop 1 } : Lane).sent f s.beat.bc
          (Hdr.ofBytes f).cls (tilesOf f.length) := by
  have hcount := fun v : State => State.onlyCnt_laneSent v n (Hdr.ofBytes f).part f.length
  subst hu
  unfold State.aheadSent
  dsimp only
  rw [hcount]
  refine ⟨rfl, ?_⟩
  simp [State.lane, State.emit, State.setLane, Lane.sent]

theorem State.transmitEnd_ahead {s : State} {n : Nat} {f : Nat × List Byte} {fs : List (Nat × List Byte)}
    (hnow : (s.lane n).now = .ahead) (ha : (s.lane n).ahead = f :: fs) :
    s.transmitEnd n = (s.aheadSent n f.2).startNext n := by
  unfold State.transmitEnd
  rw [hnow, ha]

/-- A copy is being sent only on a lane that sends one. -/
theorem State.sendingOn_none {s : State} {n : Nat} (h : (s.lane n).now ≠ .copy) : s.sendingOn n = none := if_neg h

theorem State.now_of_sendingOn {s : State} {n : Nat} {c : Copy} (h : s.sendingOn n = some c) :
    (s.lane n).now = .copy := by
  refine Decidable.byContradiction fun hne => ?_
  rw [State.sendingOn_none hne] at h
  cases h

theorem State.transmitEnd_copy {s : State} {n : Nat} {c : Copy} (h : s.sendingOn n = some c) :
    s.transmitEnd n = (s.copySent n c).startNext n := by
  unfold State.transmitEnd
  rw [State.now_of_sendingOn h, h]

/-- No timestamp is taken of a lane that sends no copy. -/
theorem State.sendEnd_none {s : State} {n : Nat} (h : s.sendingOn n = none) : s.sendEnd n = s.transmitEnd n := by
  unfold State.sendEnd
  rw [h]

/-- No timestamp is taken of a copy that asks for none (16 R471). -/
theorem State.sendEnd_copy {s : State} {n : Nat} {c : Copy} {t : Stream} (h : s.sendingOn n = some c)
    (ht : s.stream c.sid = some t) (hts : t.tsReq = false) : s.sendEnd n = s.transmitEnd n := by
  unfold State.sendEnd
  simp only [h, ht, hts, Bool.not_false, if_true]

/-! ### The end of a copy (06 R160; 07 R180, R186) -/

/-- The state in which a copy has left the queues. -/
def State.unqueued (s : State) (c : Copy) : State :=
  { s with q := { s.q with copies := dropFirst (fun x => x.cid = c.cid) s.q.copies } }.occAdd (8 * c.port + c.cls) (· - c.tiles)

/-- The end of a copy whose packet's owner record is in use and has references left releases one, the last one with the
packet. -/
theorem State.endCopy_referenced {s : State} {c : Copy} {t : Stream} (hb : bit (s.owner c.tile) 31 = true)
    (hn : s.refs c.tile ≠ 0) (ht : s.stream c.sid = some t) :
    s.endCopy c = if s.refs c.tile = 1 then ((s.unqueued c).setRefs c.tile (s.refs c.tile - 1)).freePacket t
      else (s.unqueued c).setRefs c.tile (s.refs c.tile - 1) := by
  have howner : (s.unqueued c).owner c.tile = s.owner c.tile := rfl
  have hrefs : (s.unqueued c).refs c.tile = s.refs c.tile := rfl
  have hstream : ∀ k, ((s.unqueued c).setRefs c.tile k).stream c.sid = some t := fun _ => ht
  have hfold : State.occAdd { s with q := { s.q with copies := dropFirst (fun x => x.cid = c.cid) s.q.copies } }
      (8 * c.port + c.cls) (· - c.tiles) = s.unqueued c := rfl
  unfold State.endCopy
  simp only [hfold, howner, hrefs, hstream, hb, hn, Bool.not_true, Bool.false_eq_true, if_false]

/-- The references of a packet read as they were set: six bits (07 R179). -/
theorem State.refs_setRefs (s : State) (key : Nat) {n : Nat} (hn : n < 64) : (s.setRefs key n).refs key = n := by
  have hown : (s.setRefs key n).owner key = setBits (s.owner key) 28 23 n := SMap.get_set_same _ _ _ _
  rw [State.refs, hown, bits_setBits_same _ _ (by decide)]
  exact Nat.mod_eq_of_lt hn

theorem State.onlyBuf_giveTile (s : State) (die p t : Nat) : s.onlyBuf (s.giveTile die p t) := by
  unfold State.giveTile
  dsimp only
  split <;> rfl

theorem State.onlyBuf_freeStreamTiles (s : State) (t : Stream) : s.onlyBuf (s.freeStreamTiles t) := by
  unfold State.freeStreamTiles State.giveTiles
  split
  · exact List.foldlRecOn (motive := fun (u : State) => s.onlyBuf u) _ _ rfl
      fun u hu k _ => State.onlyBuf_trans hu (u.onlyBuf_giveTile _ _ _)
  · rfl

/-- The last reference of a packet whose credit has been released: its stream ends, and its tiles go back. -/
theorem State.freePacket_spec (s : State) {t : Stream} (hc : t.credit = false) :
    s.freePacket t = { s with net := (s.freePacket t).net, buf := (s.freePacket t).buf }
      ∧ (s.freePacket t).net.streams = (s.dropStream t.id).net.streams := by
  have hadd : (s.dropStream t.id).addD t.bucket = { s with net := ((s.dropStream t.id).addD t.bucket).net }
      ∧ ((s.dropStream t.id).addD t.bucket).net.streams = (s.dropStream t.id).net.streams := by
    cases t.bucket <;> exact ⟨rfl, rfl⟩
  obtain ⟨hframe, hstreams⟩ := hadd
  have hrel : ((s.dropStream t.id).addD t.bucket).releaseCredit t = (s.dropStream t.id).addD t.bucket := by
    simp [State.releaseCredit, hc]
  have hfree := ((s.dropStream t.id).addD t.bucket).onlyBuf_freeStreamTiles t
  unfold State.freePacket
  rw [hrel, hfree]
  refine ⟨?_, hstreams⟩
  rw [hframe]

/-- The state in which the frame of a copy of an Asune port has gone out, is held and counted, and the copy has not ended
yet. -/
def State.copyOut (s : State) (n : Nat) (c : Copy) : State :=
  ((s.setLane n fun l => ({ l with now := .idle, queue := l.queue.drop 1 } : Lane).sent c.frame s.beat.bc c.cls c.tiles).emit
    (.frame n c.frame)).countTx n c.part c.flen

theorem State.copyOut_spec (s : State) (n : Nat) (c : Copy) {v : State} (hv : v = s.copyOut n c) :
    v = { s with lnk := v.lnk, cnt := v.cnt, out := s.out ++ [.frame n c.frame] }
      ∧ v.lane n = ({ s.lane n with now := .idle, queue := (s.lane n).queue.drop 1 } : Lane).sent c.frame s.beat.bc c.cls
          c.tiles := by
  have hcount : ∀ w : State, w.onlyCnt (w.countTx n c.part c.flen) := fun w =>
    State.onlyCnt_trans (t := (w.partCount c.part 2).count (cntPart c.part 3) c.flen) rfl (State.onlyCnt_laneSent _ _ _ _)
  subst hv
  unfold State.copyOut
  rw [hcount]
  refine ⟨rfl, ?_⟩
  simp [State.lane, State.emit, State.setLane]

/-- Where no send descriptor asks for an item, the copy ends once its frame has gone out. -/
theorem State.copySent_eq {s : State} {n : Nat} {c : Copy} {t : Stream} (he : s.portEth c.port = false)
    (ht : s.stream c.sid = some t) (hd : t.desc = none) : s.copySent n c = (s.copyOut n c).endCopy c := by
  have hfold : State.countTx (State.emit (s.setLane n fun l => if 5 ≤ c.cls then
      (({ l with now := .idle, queue := l.queue.drop 1 } : Lane).hold c.frame s.beat.bc).addS c.cls c.tiles
      else ({ l with now := .idle, queue := l.queue.drop 1 } : Lane).hold c.frame s.beat.bc) (.frame n c.frame))
      n c.part c.flen = s.copyOut n c := rfl
  have hdone : ∀ w : State, w.sendDone t 0x00 = w := fun w => by simp [State.sendDone, hd]
  have hnet : (s.copyOut n c).net = s.net := by rw [(s.copyOut_spec n c rfl).1]
  have hstream : (s.copyOut n c).stream c.sid = some t := by rw [State.stream, hnet]; exact ht
  unfold State.copySent
  simp only [he, Bool.false_eq_true, if_false, hfold, hstream, hdone, ite_self]

/-- The state in which the frame of a copy has gone out, and its packet has one reference fewer. -/
def State.copyGone (s : State) (n : Nat) (c : Copy) : State :=
  ((s.copyOut n c).unqueued c).setRefs c.tile (s.refs c.tile - 1)

theorem State.refs_lt (s : State) (key : Nat) : s.refs key < 64 := Nat.mod_lt _ (by decide)

theorem State.copyGone_spec (s : State) (n : Nat) (c : Copy) {v : State} (hv : v = s.copyGone n c) :
    v = { s with lnk := v.lnk, cnt := v.cnt, q := v.q, buf := v.buf, out := s.out ++ [.frame n c.frame] }
      ∧ v.lane n = ({ s.lane n with now := .idle, queue := (s.lane n).queue.drop 1 } : Lane).sent c.frame s.beat.bc c.cls
          c.tiles
      ∧ v.q.copies = dropFirst (fun x => x.cid = c.cid) s.q.copies ∧ v.refs c.tile = s.refs c.tile - 1 := by
  obtain ⟨w, hw⟩ : ∃ w, w = s.copyOut n c := ⟨_, rfl⟩
  obtain ⟨hframe, hlane⟩ := s.copyOut_spec n c hw
  have hlt := s.refs_lt c.tile
  rw [State.copyGone, ← hw] at hv
  have hrefs : v.refs c.tile = s.refs c.tile - 1 := by rw [hv]; exact State.refs_setRefs _ _ (by omega)
  have hcopies : v.q.copies = dropFirst (fun x => x.cid = c.cid) w.q.copies := by rw [hv]; rfl
  have hgone : v = { w with q := v.q, buf := v.buf } := by rw [hv]; rfl
  have hsame : v.lane n = w.lane n := by rw [hgone]; rfl
  exact ⟨by rw [hgone, hframe], hsame.trans hlane, by rw [hcopies, hframe], hrefs⟩

/-- A lane sends a copy of an Asune port whose packet asks for no timestamp and names no send descriptor, and whose
references stand in its owner record. -/
structure SendsCopy (s : State) (n : Nat) (c : Copy) (t : Stream) : Prop where
  sending : s.sendingOn n = some c
  asune : s.portEth c.port = false
  stream : s.stream c.sid = some t
  desc : t.desc = none
  tsReq : t.tsReq = false
  inUse : bit (s.owner c.tile) 31 = true

/-- The frame goes out and a reference is released, the last one with the packet; then the lane goes on. -/
theorem State.sendEnd_referenced {s : State} {n : Nat} {c : Copy} {t : Stream} (h : SendsCopy s n c t)
    (hrefs : s.refs c.tile ≠ 0) :
    s.sendEnd n = (if s.refs c.tile = 1 then (s.copyGone n c).freePacket t else s.copyGone n c).startNext n := by
  obtain ⟨w, hw⟩ : ∃ w, w = s.copyOut n c := ⟨_, rfl⟩
  have hframe := (s.copyOut_spec n c hw).1
  have hbuf : w.buf = s.buf := by rw [hframe]
  have hnet : w.net = s.net := by rw [hframe]
  have hsame : w.refs c.tile = s.refs c.tile := by rw [State.refs, State.owner, hbuf]; rfl
  have hb : bit (w.owner c.tile) 31 = true := by rw [State.owner, hbuf]; exact h.inUse
  have ht : w.stream c.sid = some t := by rw [State.stream, hnet]; exact h.stream
  rw [State.sendEnd_copy h.sending h.stream h.tsReq, State.transmitEnd_copy h.sending,
    State.copySent_eq h.asune h.stream h.desc, ← hw, State.endCopy_referenced hb (hsame ▸ hrefs) ht, hsame, State.copyGone,
    ← hw]

end Sys2Proof.Machine

/-! ## Placement, launch and the end of a frame, as commands (01 R19; 06 R147 to R157; 07 R180 to R194) -/

namespace Sys2Proof.Machine

/-! ### RESULT_PLACEMENT -/

theorem exec_resultPlacement_none {s : State} {die : Nat} (hl : s.live = true) (hd : die < 2)
    (hn : s.net.ret.find? (fun r => dieOfPipe r.pipe = die) = none) :
    exec (.resultPlacement die) s = .next s.hostGoes := by
  have hplace : s.place die = s := by
    unfold State.place
    rw [hn]
  exact run_live_eq (i := .resultPlacement die) (decide_eq_true hd) hl (congrArg State.hostGoes hplace) s.hostGoes_pending

/-- Where no BAR2 access waits, before or after it, the command is the placement. -/
theorem exec_resultPlacement {s u : State} {die : Nat} (hl : s.live = true) (hd : die < 2) (hu : s.place die = u)
    (hh : u.mem.hostAcc = []) (hp : u.pending = s.pending) : exec (.resultPlacement die) s = .next u :=
  run_live_eq (i := .resultPlacement die) (decide_eq_true hd) hl
    ((congrArg State.hostGoes hu).trans (State.hostGoes_none hh)) hp

theorem exec_resultPlacement_placed {s v : State} {die : Nat} {r : Ret} {a : Alloc} (hl : s.live = true) (hd : die < 2)
    (hh : s.mem.hostAcc = []) (hr : PortResult s die r)
    (ha : s.allocTiles r.pipe (tilesOf (Nat.max 256 r.bytes.length)) 0 r.cls false (dieOfLane r.target) true = some (a, v)) :
    ∃ u x, exec (.resultPlacement die) s = .next u ∧ u = { v with net := u.net }
      ∧ u.net.ret = dropFirst (fun r => dieOfPipe r.pipe = die) s.net.ret ∧ u.net.streams = s.net.streams ++ [x]
      ∧ x.stage = .pend ∧ x.scls = 255 ∧ x.part = 0 ∧ x.cls = r.cls ∧ x.port = r.target ∧ x.subq = r.subq ∧ x.desc = r.desc
      ∧ x.id = s.net.nextId ∧ x.alloc = some a ∧ a.total = x.tiles := by
  obtain ⟨htotal, hbuf⟩ := State.allocTiles_spec ha
  have hplace := State.place_portResult hr
  rw [ha] at hplace
  refine ⟨_, { s.portResult r with stage := .pend, alloc := some a }, exec_resultPlacement hl hd hplace ?_ ?_, rfl, rfl, rfl,
    rfl, rfl, hr.part, rfl, State.portResult_port (s := s) hr.target hr.subq, State.portResult_subq (s := s) hr.subq, rfl,
    rfl, rfl, htotal.trans (State.portResult_tiles (s := s) hr.asune).symm⟩
  · change v.mem.hostAcc = []
    rw [hbuf]; exact hh
  · change v.pending = s.pending
    rw [hbuf]

theorem exec_resultPlacement_held {s : State} {die : Nat} {r : Ret} (hl : s.live = true) (hd : die < 2)
    (hh : s.mem.hostAcc = []) (hr : PortResult s die r)
    (ha : s.allocTiles r.pipe (tilesOf (Nat.max 256 r.bytes.length)) 0 r.cls false (dieOfLane r.target) true = none) :
    ∃ u, exec (.resultPlacement die) s = .next u ∧ u = { s with net := { s.net with ret := u.net.ret } }
      ∧ u.net.ret = updFirst (fun r => dieOfPipe r.pipe = die) (fun r => { r with held := true }) s.net.ret := by
  have hplace := State.place_portResult hr
  rw [ha] at hplace
  exact ⟨_, exec_resultPlacement hl hd hplace hh rfl, rfl, rfl⟩

/-! ### LAUNCH -/

section
variable {s : State} {port : Nat} (hl : s.live = true) (hp : port < 1024)
  (hr : SMap.get [] s.lnk.resend port = []) (hh : ∀ n ∈ s.portLanes port, (s.lane n).hops = [])
include hl hp hr hh

theorem exec_launch_empty (hn : (s.q.copies.map (·.cid)).Nodup) (hlist : SMap.get [] s.q.lists port = []) :
    exec (.launch port) s = .next s := by
  have hlaunch := State.launch_empty hr hh hlist
  refine run_live_eq (i := .launch port) (decide_eq_true hp) hl ?_ rfl
  rw [State.launchTraced_sameCopies hn (by rw [hlaunch]), hlaunch]

variable {c : Copy} {t : Stream} {rest ns : List Nat} {s1 s2 : State} {n? : Option Nat}
  (hlist : SMap.get [] s.q.lists port = c.cid :: rest) (hf : s.q.copies.find? (fun x => x.cid = c.cid) = some c)
  (hs : c.sending = none) (ht : s.stream c.sid = some t) (hns : s.startable (s.lanesFor t c) = (ns, s1))
  (hpick : State.fewest s1 ns = (n?, s2))
include hlist hf hs ht hns hpick

theorem exec_launch_unpicked (hn : (s.q.copies.map (·.cid)).Nodup) (hnone : n? = none) :
    exec (.launch port) s = .next { s with free := s2.free } := by
  subst hnone
  have hfree : s2 = { s with free := s2.free } := (State.picked_spec hns hpick).1
  have hlaunch : s.launch port = s2 := by
    refine State.launch_unpicked hr hlist hf hs ht hns hpick ?_
    rw [hfree]; exact hh
  rw [← hfree]
  refine run_live_eq (i := .launch port) (decide_eq_true hp) hl ?_ (by rw [hfree])
  rw [State.launchTraced_sameCopies hn (by rw [hlaunch, hfree]), hlaunch]

theorem exec_launch_picked (hport : c.port = port) {n : Nat} (hsome : n? = some n) (hd : t.dropped = false)
    (h6 : s.dispEntry t.epoch 6 t.scls < 2 ^ 14) (h7 : s.dispEntry t.epoch 7 t.scls < 2 ^ 14) (hsound : t.poison = false) :
    ∃ u, exec (.launch port) s = .next u ∧ n ∈ s.lanesFor t c ∧ s.txBypassed n = false
      ∧ u.q.copies = (s.putCopy { c with sending := some n, frame := copyFrame t c }).q.copies
      ∧ SMap.get [] u.q.lists port = rest.filter (· ≠ c.cid)
      ∧ u.lane n = { s.lane n with queue := (s.lane n).queue ++ [c.cid], now := (u.lane n).now }
      ∧ (u.lane n).now = (if (s.lane n).now = .idle then .copy else (s.lane n).now)
      ∧ (∀ m, m ≠ n → u.lane m = s.lane m) ∧ u.net = s.net ∧ u.mem = s.mem := by
  subst hsome
  obtain ⟨hfree, hmem⟩ := State.picked_spec hns hpick
  unfold State.onlyFree at hfree
  obtain ⟨hin, hbyp⟩ := hmem n rfl
  have h6' : s2.dispEntry t.epoch 6 t.scls < 2 ^ 14 := by rw [hfree]; exact h6
  have h7' : s2.dispEntry t.epoch 7 t.scls < 2 ^ 14 := by rw [hfree]; exact h7
  have hlane2 : ∀ m, s2.lane m = s.lane m := fun m => by rw [hfree]; rfl
  obtain ⟨v, hv⟩ : ∃ v, v = s2.launchOn t c n := ⟨_, rfl⟩
  obtain ⟨hframe, hcopies, hlists, hlane, hother⟩ := State.launchOn_spec n hd h6' h7' hsound hv
  have hhops : ∀ m ∈ v.portLanes port, (v.lane m).hops = [] := by
    intro m hm
    have hm' : m ∈ s.portLanes port := by rw [hframe, hfree] at hm; exact hm
    by_cases hmn : m = n
    · rw [hmn, hlane, hlane2]
      exact hh n (hmn ▸ hm')
    · rw [hother m hmn, hlane2]
      exact hh m hm'
  have hlaunch : s.launch port = v := by
    rw [hv] at hhops ⊢
    exact State.launch_picked hr hlist hf hs ht hns hpick hhops
  obtain ⟨u, hu⟩ : ∃ u, u = s.launchTraced port := ⟨_, rfl⟩
  have htrace := s.onlyTrace_launchTraced port
  rw [hlaunch, ← hu] at htrace
  unfold State.onlyTrace at htrace
  have huq : u.q = v.q := by rw [htrace]
  have hulane : ∀ m, u.lane m = v.lane m := fun m => by rw [htrace]; rfl
  refine ⟨u, run_live_eq (i := .launch port) (decide_eq_true hp) hl hu.symm ?_, hin, hbyp, ?_, ?_, ?_, ?_,
    fun m hm => ?_, ?_, ?_⟩
  · rw [htrace, hframe, hfree]
  · rw [huq, hcopies, hfree]; rfl
  · rw [huq, hlists, hfree, ← hport]
    rw [← hport] at hlist
    refine (SMap.get_upd_same _ _ _ _).trans ?_
    rw [hlist, List.filter_cons_of_neg (by simp)]
  · rw [hulane, hlane, hlane2]
  · rw [hulane, hlane, hlane2]
  · rw [hulane, hother m hm, hlane2]
  · rw [htrace, hframe, hfree]
  · rw [htrace, hframe, hfree]
end

/-! ### FRAME_TRANSMIT_END -/

section
variable {s : State} {lane : Nat} (hl : s.live = true) (hn : lane < 1024)
include hl hn

theorem exec_frameTransmitEnd_idle (hidle : (s.lane lane).now = .idle) : exec (.frameTransmitEnd lane) s = .next s := by
  have hnone : s.sendingOn lane = none := State.sendingOn_none (by simp [hidle])
  have hend : s.sendEnd lane = s := by
    rw [State.sendEnd_none hnone, State.transmitEnd, hidle]
  exact run_live_eq (i := .frameTransmitEnd lane) (decide_eq_true hn) hl hend rfl

variable (hh : (s.lane lane).hops = []) (ha : (s.lane lane).asked = none)
include hh ha

theorem exec_frameTransmitEnd_ahead {f : Nat × List Byte} {fs : List (Nat × List Byte)}
    (hnow : (s.lane lane).now = .ahead) (hf : (s.lane lane).ahead = f :: fs) :
    ∃ u, exec (.frameTransmitEnd lane) s = .next u ∧ u.out = s.out ++ [.frame lane f.2] ∧ (u.lane lane).ahead = fs
      ∧ (u.lane lane).txNum = ((s.lane lane).txNum + 1) % 2 ^ 32
      ∧ (u.lane lane).replay.getLast? = some ⟨(s.lane lane).txNum, f.2, 0, s.beat.bc⟩ ∧ u.q = s.q ∧ u.net = s.net := by
  obtain ⟨v, hv⟩ : ∃ v, v = s.aheadSent lane f.2 := ⟨_, rfl⟩
  obtain ⟨u, hu⟩ : ∃ u, u = v.startNext lane := ⟨_, rfl⟩
  have hend : s.sendEnd lane = u := by
    rw [State.sendEnd_none (State.sendingOn_none (by simp [hnow])), State.transmitEnd_ahead hnow hf, hu, hv]
  obtain ⟨hvframe, hvlane⟩ := s.aheadSent_spec lane f.2 hv
  obtain ⟨huframe, hulane⟩ := State.onlyNow_startNext (s := v) (n := lane) (by rw [hvlane]; simp [hh])
    (by rw [hvlane]; simp [ha])
  rw [← hu] at huframe hulane
  refine ⟨u, run_live_eq (i := .frameTransmitEnd lane) (decide_eq_true hn) hl hend ?_, ?_, ?_, ?_, ?_, ?_, ?_⟩
  · rw [huframe, hvframe]
  · rw [huframe, hvframe]
  · rw [hulane, hvlane]; simp [hf]
  · rw [hulane, hvlane]; simp
  · rw [hulane, hvlane]; simp
  · rw [huframe, hvframe]
  · rw [huframe, hvframe]

variable {c : Copy} {t : Stream} (hc : SendsCopy s lane c t)
include hc

theorem exec_frameTransmitEnd_lastCopy (hcredit : t.credit = false) (hrefs : s.refs c.tile = 1) :
    ∃ u, exec (.frameTransmitEnd lane) s = .next u ∧ u.out = s.out ++ [.frame lane c.frame]
      ∧ (u.lane lane).replay.getLast? = some ⟨(s.lane lane).txNum, c.frame, 0, s.beat.bc⟩
      ∧ u.q.copies = dropFirst (fun x => x.cid = c.cid) s.q.copies
      ∧ u.net.streams = (s.dropStream t.id).net.streams ∧ u.mem = s.mem ∧ u.regs = s.regs := by
  obtain ⟨v, hv⟩ : ∃ v, v = s.copyGone lane c := ⟨_, rfl⟩
  obtain ⟨hvframe, hvlane, hvcopies, -⟩ := s.copyGone_spec lane c hv
  obtain ⟨hwframe, hwstreams⟩ := v.freePacket_spec hcredit
  obtain ⟨w, hw⟩ : ∃ w, w = v.freePacket t := ⟨_, rfl⟩
  rw [← hw] at hwframe hwstreams
  have hwlane : w.lane lane = v.lane lane := by rw [hwframe]; rfl
  obtain ⟨huframe, hulane⟩ := State.onlyNow_startNext (s := w) (n := lane) (by rw [hwlane, hvlane]; simp [hh])
    (by rw [hwlane, hvlane]; simp [ha])
  have hend : s.sendEnd lane = w.startNext lane := by
    rw [State.sendEnd_referenced hc (by omega), if_pos hrefs, hw, hv]
  refine ⟨_, run_live_eq (i := .frameTransmitEnd lane) (decide_eq_true hn) hl hend ?_, ?_, ?_, ?_, ?_, ?_, ?_⟩
  · rw [huframe, hwframe, hvframe]
  · rw [huframe, hwframe, hvframe]
  · rw [hulane, hwlane, hvlane]; simp
  · rw [huframe, hwframe]; exact hvcopies
  · rw [huframe]
    change w.net.streams = _
    rw [hwstreams, hvframe]; rfl
  · rw [huframe, hwframe, hvframe]
  · rw [huframe, hwframe, hvframe]

theorem exec_frameTransmitEnd_earlierCopy (hrefs : 1 < s.refs c.tile) :
    ∃ u, exec (.frameTransmitEnd lane) s = .next u ∧ u.out = s.out ++ [.frame lane c.frame]
      ∧ u.q.copies = dropFirst (fun x => x.cid = c.cid) s.q.copies
      ∧ u.refs c.tile = s.refs c.tile - 1 ∧ u.net = s.net ∧ u.mem = s.mem ∧ u.regs = s.regs := by
  obtain ⟨v, hv⟩ : ∃ v, v = s.copyGone lane c := ⟨_, rfl⟩
  obtain ⟨hvframe, hvlane, hvcopies, hvrefs⟩ := s.copyGone_spec lane c hv
  obtain ⟨huframe, -⟩ := State.onlyNow_startNext (s := v) (n := lane) (by rw [hvlane]; simp [hh])
    (by rw [hvlane]; simp [ha])
  have hend : s.sendEnd lane = v.startNext lane := by
    rw [State.sendEnd_referenced hc (by omega), if_neg (by omega), hv]
  refine ⟨_, run_live_eq (i := .frameTransmitEnd lane) (decide_eq_true hn) hl hend ?_, ?_, ?_, ?_, ?_, ?_, ?_⟩
  · rw [huframe, hvframe]
  · rw [huframe, hvframe]
  · rw [huframe]; exact hvcopies
  · rw [huframe]; exact hvrefs
  · rw [huframe, hvframe]
  · rw [huframe, hvframe]
  · rw [huframe, hvframe]
end

/-- Settles O47: the placement, the copy that launch picks and the end of a frame, each by the lemma of its command. -/
theorem launchAndTheEndOfAFrame : Obligations.LaunchAndTheEndOfAFrame := by
  refine fun s hl => ⟨fun die hd hn => exec_resultPlacement_none hl hd hn, ?placed, ?launched,
    fun lane hn hidle => exec_frameTransmitEnd_idle hl hn hidle, ?sent⟩
  case placed =>
    intro die r hd hh hf hk ht hq he hp heth hc
    have hr : PortResult s die r := ⟨hf, hk, ht, hq, he, hp, heth, hc⟩
    exact ⟨fun a v ha => exec_resultPlacement_placed hl hd hh hr ha, exec_resultPlacement_held hl hd hh hr⟩
  case launched =>
    intro port hp hr hh hn
    refine ⟨exec_launch_empty hl hp hr hh hn, fun c t rest ns s1 s2 n? hlist hf hs hport ht hns hpick => ⟨?_, ?_⟩⟩
    · exact exec_launch_unpicked hl hp hr hh hlist hf hs ht hns hpick hn
    · intro n hsome hd h6 h7 hsound
      exact exec_launch_picked hl hp hr hh hlist hf hs ht hns hpick hport hsome hd h6 h7 hsound
  case sent =>
    intro lane hn hh ha
    refine ⟨fun f fs hnow hf => exec_frameTransmitEnd_ahead hl hn hh ha hnow hf, ?_⟩
    intro c t hsend he ht hd hcredit hts hb
    have hc : SendsCopy s lane c t := ⟨hsend, he, ht, hd, hts, hb⟩
    exact ⟨exec_frameTransmitEnd_lastCopy hl hn hh ha hc hcredit, exec_frameTransmitEnd_earlierCopy hl hn hh ha hc⟩

end Sys2Proof.Machine

/-! ## The queue of commands (02 R30) -/

namespace Sys2Proof.Machine

/-- Settles O1: the two cases of the queue. -/
theorem stepRunsFrontCommand : Obligations.StepRunsFrontCommand :=
  ⟨fun _ _ _ => step_cons rfl, fun _ => step_nil⟩

end Sys2Proof.Machine

/-! ## Changes of the registers in effect alone (00 R3) -/

namespace Sys2Proof.Machine

/-- Nothing but the values of registers in effect differs. -/
def State.onlyEff (s t : State) : Prop := t = { s with regs := { s.regs with eff := t.regs.eff } }

theorem State.onlyEff_refl (s : State) : s.onlyEff s := rfl

theorem State.onlyEff_trans {s t u : State} (h : s.onlyEff t) (g : t.onlyEff u) : s.onlyEff u := by
  unfold onlyEff at *
  rw [g, h]

theorem State.onlyEff_ite {s t u : State} {c : Prop} [Decidable c] (ht : s.onlyEff t) (hu : s.onlyEff u) :
    s.onlyEff (if c then t else u) := by
  split <;> assumption

theorem State.onlyEff_setReg (s : State) (k : RegKind) (i : Nat) (v : Word) : s.onlyEff (s.setReg k i v) := rfl

theorem State.onlyEff_bump (s : State) (k : RegKind) (i hi lo n : Nat) : s.onlyEff (s.bump k i hi lo n) := rfl

/-- A bit outside a field that is written reads as before. -/
theorem State.flag_setFld_other (s : State) (k : RegKind) (i v : Nat) {hi lo n : Nat} (h : hi < n ∨ n < lo) :
    (s.setFld k i hi lo v).flag k i n = s.flag k i n := by
  have hout : ¬ (lo ≤ n ∧ n < hi + 1 ∧ n < 64) := by omega
  simp only [State.flag, State.setFld, State.reg_setReg, bit_setBits, if_neg hout]

end Sys2Proof.Machine

/-! ## Writes at a boundary (00 R3, R8; 02 R32) -/

namespace Sys2Proof.Machine

/-- The boundary takes the writes that are not late, oldest first, and keeps the others for the next boundary. -/
theorem State.writesDue_of_filter {s : State} {due wait : List PendWrite}
    (hdue : s.regs.pend.filter (fun p => !p.late) = due) (hwait : s.regs.pend.filter (·.late) = wait) :
    s.writesDue = due.foldl (fun (t : State) p => t.applyWrite p.kind p.idx p.val)
      { s with regs := { s.regs with pend := wait.map fun p => { p with late := false } } } := by
  subst hdue hwait
  rfl

theorem filter_late {l : List PendWrite} (h : ∀ q ∈ l, q.late = true) :
    l.filter (·.late) = l ∧ l.filter (fun p => !p.late) = [] :=
  ⟨List.filter_eq_self.2 h, List.filter_eq_nil_iff.2 fun q hq => by simp [h q hq]⟩

theorem filter_notLate {l : List PendWrite} (h : ∀ q ∈ l, q.late = false) :
    l.filter (·.late) = [] ∧ l.filter (fun p => !p.late) = l :=
  ⟨List.filter_eq_nil_iff.2 fun q hq => by simp [h q hq], List.filter_eq_self.2 fun q hq => by simp [h q hq]⟩

/-- Where every write is late, the boundary makes them due at the next and applies none. -/
theorem State.writesDue_late {s : State} (h : ∀ q ∈ s.regs.pend, q.late = true) :
    s.writesDue =
      { s with regs := { s.regs with pend := s.regs.pend.map fun (q : PendWrite) => { q with late := false } } } := by
  obtain ⟨hwait, hdue⟩ := filter_late h
  exact State.writesDue_of_filter hdue hwait

/-- One write in time before late ones: it alone takes effect. -/
theorem State.writesDue_cons {s : State} {p : PendWrite} {l : List PendWrite} (hpend : s.regs.pend = p :: l)
    (hp : p.late = false) (hl : ∀ q ∈ l, q.late = true) :
    s.writesDue =
      ({ s with regs := { s.regs with pend := l.map fun (q : PendWrite) => { q with late := false } } } : State).applyWrite
        p.kind p.idx p.val := by
  obtain ⟨hwait, hdue⟩ := filter_late hl
  exact State.writesDue_of_filter (due := [p]) (wait := l) (by simp [hpend, hp, hdue]) (by simp [hpend, hp, hwait])

/-- Of writes that are all in time, the newest takes effect after the others. -/
theorem State.writesDue_concat {s : State} {p : PendWrite} {l : List PendWrite} (hpend : s.regs.pend = l ++ [p])
    (hl : ∀ q ∈ l, q.late = false) (hp : p.late = false) :
    s.writesDue = ({ s with regs := { s.regs with pend := l } } : State).writesDue.applyWrite p.kind p.idx p.val := by
  obtain ⟨hwait, hdue⟩ := filter_notLate hl
  rw [State.writesDue_of_filter (s := s) (due := l ++ [p]) (wait := []) (by simp [hpend, hp, hdue])
      (by simp [hpend, hp, hwait]),
    State.writesDue_of_filter (s := { s with regs := { s.regs with pend := l } }) hdue hwait,
    List.foldl_append]
  rfl

theorem State.reg_putRw (s : State) (k : RegKind) (i : Nat) (v : Word) :
    (s.putRw k i v).reg k i = (s.reg k i &&& ~~~ k.rwMask) ||| (v &&& k.rwMask) :=
  s.reg_setReg k i _

theorem State.reg_putRw_other (s : State) (k : RegKind) (i : Nat) (v : Word) (j : RegKind) (m : Nat)
    (h : j.off m / 8 ≠ k.off i / 8) : (s.putRw k i v).reg j m = s.reg j m :=
  s.reg_setReg_other k i _ j m h

/-- The kinds that O22 names: nothing follows from their writes but the value of their RW fields. -/
def ruleFreeKinds : List RegKind :=
  [.devSelf, .stnPortEth, .stnPartCfg, .strItemCfg, .strAgeCfg, .bufPc, .bufPartMin, .bufClsMin, .fmemWin, .fmemPart,
    .collCfg, .intPart, .hostMgmtCfg, .pwrThermCfg]

theorem State.applyWrite_ruleFree {k : RegKind} (hk : k ∈ ruleFreeKinds) (s : State) (i : Nat) (v : Word) :
    s.applyWrite k i v = s.putRw k i v := by
  simp only [ruleFreeKinds, List.mem_cons, List.not_mem_nil, or_false] at hk
  rcases hk with rfl | rfl | rfl | rfl | rfl | rfl | rfl | rfl | rfl | rfl | rfl | rfl | rfl | rfl <;> rfl

/-- Settles O22: the boundary's step is a fold over the writes in time, and a write of a kind with no rule of its own
is `putRw`. -/
theorem waitingWritesTakeEffectInOrder : Obligations.WaitingWritesTakeEffectInOrder := by
  refine ⟨fun s p l hpend hp hl => State.writesDue_cons hpend hp hl,
    fun s l p hpend hl hp => State.writesDue_concat hpend hl hp, fun s h => State.writesDue_late h,
    fun s k n v hk => ?_⟩
  rw [State.applyWrite_ruleFree hk]
  exact ⟨s.reg_putRw k n v, fun j m h => s.reg_putRw_other k n v j m h, s.onlyEff_setReg k n _⟩

end Sys2Proof.Machine

/-! ## The boundary of a beat (02 R30, R33 to R40) -/

namespace Sys2Proof.Machine

theorem State.boundary_stopped {s : State} (h : s.beat.running = false) : s.boundary = s := by
  simp [State.boundary, h]

/-- The beat in progress ends: beside the counts of BEAT_ADJ_CNT, only time and the beat generator change. -/
theorem State.endBeat_spec (s : State) : ∃ (u : State) (t : TimeState) (tied : Bool) (n : Nat), s.onlyEff u
    ∧ s.endBeat = { u with
        time := { t with cyc := 0, stepped := false, captures := 0 },
        beat := { u.beat with bc := u.beat.bc + 1, tied := tied, reload := false, length := n, realign := false,
                              now := if tied then t.ns / 256 % 2 ^ 32 else (u.beat.now + 1) % 2 ^ 32 } } := by
  refine ⟨_, _, _, _, ?counts, rfl⟩
  exact State.onlyEff_trans (State.onlyEff_ite (s.onlyEff_bump _ _ _ _ _) s.onlyEff_refl)
    (State.onlyEff_ite (State.onlyEff_bump _ _ _ _ _ _) (State.onlyEff_ite (State.onlyEff_bump _ _ _ _ _ _)
      (State.onlyEff_ite (State.onlyEff_bump _ _ _ _ _ _) (State.onlyEff_refl _))))

/-- The next beat has its number, and nothing outside time, the beat generator and the counts changes (02 R30, R33). -/
theorem State.endBeat_next (s : State) :
    s.endBeat.beat.bc = s.beat.bc + 1 ∧ s.endBeat.time.cyc = 0 ∧ s.endBeat.regs.pend = s.regs.pend
      ∧ s.endBeat.beat.now = (if s.endBeat.beat.tied then s.endBeat.time.ns / 256 % 2 ^ 32
          else (s.beat.now + 1) % 2 ^ 32) ∧ s.endBeat.mem = s.mem ∧ s.endBeat.out = s.out := by
  obtain ⟨u, t, tied, n, hu, hend⟩ := s.endBeat_spec
  rw [hend, hu]
  exact ⟨rfl, rfl, rfl, rfl, rfl, rfl⟩

/-- Settles O25: the boundary's meaning is the chain of its steps. -/
theorem beatBoundaryInItsOrder : Obligations.BeatBoundaryInItsOrder := by
  refine fun s hl => ⟨fun hstop => ?stopped, fun hrun => ?running, State.endBeat_next⟩
  case stopped => exact run_live_eq (i := .beatBoundary) rfl hl (State.boundary_stopped hstop) rfl
  case running =>
    intro m a e u r hm ha he hu hr
    have hbeat : ¬ (!s.beat.running) = true := by simp [hrun]
    have hsteps : s.boundary = r.sleep := by
      rw [hr, hu, he, ha, hm]
      exact if_neg hbeat
    rw [← hsteps]
    exact run_live (i := .beatBoundary) rfl hl

end Sys2Proof.Machine

/-! ## The beat image and the crossings (02 R34, R35, R45) -/

namespace Sys2Proof.Machine

theorem State.imageCheck_within {s : State} {d : Int} (h : d.natAbs ≤ 1000) : s.imageCheck d = s := by
  simp [State.imageCheck, h]

/-- A difference of more than 1 ns (02 R34). -/
theorem State.imageCheck_beyond {s : State} {d : Int} (h : 1000 < d.natAbs) :
    s.imageCheck d = ((({ s with
        time := { s.time with img := (((s.time.img : Int) + psUnits d) % (unitsSpan : Int)).toNat },
        beat := { s.beat with reload := true, realign := true } } : State).setFlag .beatStatus 0 8 true).raise .beatImage
      [s.beat.now, d.natAbs]) := by
  simp [State.imageCheck, Nat.not_le.2 h]

/-- Settles O28: the two outcomes of the image check. -/
theorem beatImageCheck : Obligations.BeatImageCheck := by
  refine fun s hl => ⟨fun d h => ?within, fun d h => ?beyond⟩
  case within => exact run_live_eq (i := .beatImageCheck d) rfl hl (State.imageCheck_within h) rfl
  case beyond =>
    refine ⟨_, run_live_eq (i := .beatImageCheck d) rfl hl (State.imageCheck_beyond h) rfl, rfl, ?flag, ?frame, rfl, rfl,
      rfl⟩
    case flag => exact State.flag_setFlag _ .beatStatus 0 true (by decide)
    case frame => exact fun j m hj => State.reg_setFlag_other _ .beatStatus 0 8 true j m hj

/-- BEAT_STATUS has xdom_fault set and names the domain and the unit (02 R45). -/
def State.markCrossing (s : State) (dom unit : Nat) : State :=
  ((s.setFlag .beatStatus 0 9 true).setFld .beatStatus 0 15 12 dom).setFld .beatStatus 0 23 16 unit

theorem State.crossingFault_eq (s : State) (dom unit : Nat) (read : Bool) :
    s.crossingFault dom unit read = { s.markCrossing dom unit with
      out := s.out ++ (.event .crossing [dom, unit] :: if read then [.cplRegs [BitVec.allOnes 64]] else []) } := by
  cases read
  · rfl
  · simp only [State.crossingFault, State.raise, State.emit, State.markCrossing, if_true, List.append_assoc]
    rfl

theorem State.onlyEff_markCrossing (s : State) (dom unit : Nat) : s.onlyEff (s.markCrossing dom unit) := rfl

theorem State.flag_markCrossing (s : State) (dom unit : Nat) :
    (s.markCrossing dom unit).flag .beatStatus 0 9 = true := by
  rw [State.markCrossing, State.flag_setFld_other _ _ _ _ (by decide), State.flag_setFld_other _ _ _ _ (by decide),
    State.flag_setFlag _ _ _ _ (by decide)]

theorem State.dom_markCrossing (s : State) (unit : Nat) {dom : Nat} (h : dom < 16) :
    (s.markCrossing dom unit).fld .beatStatus 0 15 12 = dom := by
  rw [State.markCrossing, State.fld_setFld_other _ _ _ _ (by decide), State.fld_setFld _ _ _ _ _ (by decide)]
  exact Nat.mod_eq_of_lt h

theorem State.unit_markCrossing (s : State) (dom : Nat) {unit : Nat} (h : unit < 256) :
    (s.markCrossing dom unit).fld .beatStatus 0 23 16 = unit := by
  rw [State.markCrossing, State.fld_setFld _ _ _ _ _ (by decide)]
  exact Nat.mod_eq_of_lt h

theorem State.reg_markCrossing_other (s : State) (dom unit : Nat) {j : RegKind} {m : Nat}
    (h : j.off m / 8 ≠ RegKind.beatStatus.off 0 / 8) : (s.markCrossing dom unit).reg j m = s.reg j m := by
  rw [State.markCrossing, State.reg_setFld_other _ _ _ _ _ _ _ _ h, State.reg_setFld_other _ _ _ _ _ _ _ _ h,
    State.reg_setFlag_other _ _ _ _ _ _ _ h]

/-- The units of R45, as O29 and as the command's form spell them. -/
theorem crossingUnit_iff (d u : Nat) :
    (u < if d = 3 then 8 else if d = 4 then 16 else 1) ↔ if d = 3 then u < 8 else if d = 4 then u < 16 else u = 0 := by
  by_cases h3 : d = 3
  · simp only [if_pos h3]
  · by_cases h4 : d = 4
    · simp only [if_neg h3, if_pos h4]
    · simp only [if_neg h3, if_neg h4, Nat.lt_one_iff]

/-- The crossings and units of R45 are those of the command. -/
theorem crossingTimeout_wellFormed {d u : Nat} (hd : d < 5)
    (hu : u < (if d = 3 then 8 else if d = 4 then 16 else 1)) (read : Bool) :
    (Instr.crossingTimeout d u read).wellFormed = true :=
  decide_eq_true ⟨hd, (crossingUnit_iff d u).1 hu⟩

/-- A unit of R45 fits its field of BEAT_STATUS. -/
theorem crossingUnit_lt {d u : Nat} (hu : u < (if d = 3 then 8 else if d = 4 then 16 else 1)) : u < 256 := by
  refine Nat.lt_of_lt_of_le hu ?_
  split
  · decide
  · split <;> decide

/-- Settles O29: the fault marks BEAT_STATUS and puts out the event, with the answer of a read after it. -/
theorem crossingFault : Obligations.CrossingFault := by
  intro s hl d u read hd hu
  exact ⟨_, run_live_eq (crossingTimeout_wellFormed hd hu read) hl (s.crossingFault_eq d u read) rfl,
    s.flag_markCrossing d u, s.dom_markCrossing u (by omega), s.unit_markCrossing d (crossingUnit_lt hu),
    fun j m hj => s.reg_markCrossing_other d u hj, rfl, rfl⟩

end Sys2Proof.Machine

/-! ## Program banks and epochs (04 R97, R99) -/

namespace Sys2Proof.Machine

theorem StnState.bank_setBank (t : StnState) (e : Bool) (f : Bank → Bank) : (t.setBank e f).bank e = f (t.bank e) := by
  cases e <;> rfl

theorem StnState.bank_setBank_other (t : StnState) (e : Bool) (f : Bank → Bank) :
    (t.setBank e f).bank (!e) = t.bank (!e) := by
  cases e <;> rfl

theorem StnState.st_setBank (t : StnState) (e d : Bool) (f : Bank → Bank) : (t.setBank e f).st d = t.st d := by
  cases e <;> cases d <;> rfl

theorem StnState.st_setSt (t : StnState) (e : Bool) (x : EpochSt) : (t.setSt e x).st e = x := by
  cases e <;> rfl

theorem StnState.st_setSt_other (t : StnState) (e : Bool) (x : EpochSt) : (t.setSt e x).st (!e) = t.st (!e) := by
  cases e <;> rfl

theorem StnState.quiet_setQuiet (t : StnState) (e : Bool) (n : Nat) : (t.setQuiet e n).quiet e = n := by
  cases e <;> rfl

theorem StnState.st_setQuiet (t : StnState) (e d : Bool) (n : Nat) : (t.setQuiet e n).st d = t.st d := by
  cases e <;> cases d <;> rfl

end Sys2Proof.Machine

/-! ## Loads of program sets (04 R104 to R109) -/

namespace Sys2Proof.Machine

/-- The measurement of a bank is eight registers. -/
theorem State.onlyEff_setMeas (s : State) (e d : Nat) : s.onlyEff (s.setMeas e d) :=
  List.foldlRecOn (motive := fun (t : State) => s.onlyEff t) _ _ s.onlyEff_refl
    fun _ ht k _ => State.onlyEff_trans ht (State.onlyEff_setReg _ .stnMeas (8 * e + k) _)

/-- A measurement and an event change the registers and the outputs alone. -/
theorem State.raise_setMeas (s : State) (e d : Nat) (k : EventKind) (l : List Nat) :
    (s.setMeas e d).raise k l =
      { s with regs := ((s.setMeas e d).raise k l).regs, out := s.out ++ [.event k l] } := by
  have hmeas := s.onlyEff_setMeas e d
  rw [hmeas]
  rfl

/-! ### A load that is refused -/

/-- The stations after a refusal: the bank of the load's epoch is not loaded, and the status names the refusal. -/
def StnState.refused (t : StnState) (r : Refuse) (version : Nat) : StnState :=
  { t.setBank (t.loadEpoch = 1) fun b => { b with loaded := false, retained := false } with
    loadState := 3, loadCode := r.code, loadStation := r.station, loadAddr := r.addr, loadPath := r.path,
    loadVersion := version }

theorem StnState.loaded_refused (t : StnState) (r : Refuse) (version : Nat) :
    ((t.refused r version).bank (t.loadEpoch = 1)).loaded = false :=
  congrArg Bank.loaded (t.bank_setBank (t.loadEpoch = 1) _)

theorem StnState.bank_refused_other (t : StnState) (r : Refuse) (version : Nat) :
    (t.refused r version).bank (t.loadEpoch ≠ 1) = t.bank (t.loadEpoch ≠ 1) := by
  rw [decide_not]
  exact t.bank_setBank_other (t.loadEpoch = 1) _

theorem StnState.st_refused (t : StnState) (r : Refuse) (version : Nat) (d : Bool) :
    (t.refused r version).st d = t.st d :=
  t.st_setBank _ d _

/-- Beside the stations, a refusal changes the measurement, and it raises its event (04 R106). -/
theorem State.loadRefused_eq (s : State) (r : Refuse) (version : Nat) :
    s.loadRefused r version = { s with
      stn := s.stn.refused r version, regs := (s.loadRefused r version).regs,
      out := s.out ++ [.event .load [s.stn.loadEpoch, r.code, r.station, r.addr, r.path]] } := by
  rw [State.loadRefused]
  exact State.raise_setMeas { s with stn := s.stn.refused r version } s.stn.loadEpoch 0 .load _

theorem State.loadRefused_pending (s : State) (r : Refuse) (version : Nat) :
    (s.loadRefused r version).pending = s.pending := by
  rw [s.loadRefused_eq]

/-! ### A load that succeeds -/

/-- The stations after a load: the image's programs stand in the bank of the load's epoch, with no damage. -/
def StnState.loadedWith (t : StnState) (b : Bank) (version : Nat) : StnState :=
  { t.setBank (t.loadEpoch = 1) fun _ => b with
    loadState := 2, loadVersion := version,
    damage := (t.setBank (t.loadEpoch = 1) fun _ => b).damage.filter fun d => d.bank ≠ t.loadEpoch }

theorem StnState.bank_loadedWith (t : StnState) (b : Bank) (version : Nat) :
    (t.loadedWith b version).bank (t.loadEpoch = 1) = b :=
  t.bank_setBank (t.loadEpoch = 1) _

theorem StnState.bank_loadedWith_other (t : StnState) (b : Bank) (version : Nat) :
    (t.loadedWith b version).bank (t.loadEpoch ≠ 1) = t.bank (t.loadEpoch ≠ 1) := by
  rw [decide_not]
  exact t.bank_setBank_other (t.loadEpoch = 1) _

theorem StnState.st_loadedWith (t : StnState) (b : Bank) (version : Nat) (d : Bool) :
    (t.loadedWith b version).st d = t.st d :=
  t.st_setBank _ d _

theorem State.loadImage_error {img : List Read} {r : Refuse} (h : checkImage img = .error r) (s : State) :
    s.loadImage img = s.loadRefused r (bits ((img.getD 0 none).getD 0) 15 0) := by
  rw [State.loadImage, h]

/-- Beside the stations, a load changes the measurement, and it raises its event (04 R106, R109). -/
theorem State.loadImage_ok {img : List Read} {b : Bank} (h : checkImage img = .ok b) (s : State) :
    s.loadImage img = { s with
      stn := s.stn.loadedWith { b with retained := s.ddrReady } (bits ((img.getD 0 none).getD 0) 15 0),
      regs := (s.loadImage img).regs, out := s.out ++ [.event .load [s.stn.loadEpoch, 0]] } := by
  rw [State.loadImage, h]
  exact State.raise_setMeas
    { s with stn := s.stn.loadedWith { b with retained := s.ddrReady } (bits ((img.getD 0 none).getD 0) 15 0) }
    s.stn.loadEpoch _ .load [s.stn.loadEpoch, 0]

/-- A header that cannot be read is refused before anything else is looked at (04 R104, code 0x0A). -/
theorem checkImage_unreadable {img : List Read} (h : none ∈ img.take 16) :
    checkImage img = .error { code := 0x0A } := by
  have hany : (img.take 16).any (·.isNone) = true := List.any_eq_true.2 ⟨none, h, rfl⟩
  rw [checkImage]
  simp only [hany, if_true]
  rfl

/-! ### The start of a load -/

/-- The stations while a load of an epoch is BUSY: the status of the last load is cleared (04 R109). -/
def StnState.loadBegun (t : StnState) (e : Nat) : StnState :=
  { t with loadState := 1, loadEpoch := e, loadCode := 0, loadStation := 0, loadAddr := 0, loadPath := 0,
           loadVersion := 0 }

theorem State.loadStart_closed {s : State} {e : Nat} (hbusy : s.stn.loadState ≠ 1) (hst : s.stn.st (e = 1) = .closed) :
    s.loadStart e = { s with stn := s.stn.loadBegun e } := by
  rw [State.loadStart, if_neg hbusy]
  exact if_pos hst

theorem State.loadStart_refused {s : State} {e : Nat} (hbusy : s.stn.loadState ≠ 1)
    (hst : s.stn.st (e = 1) ≠ .closed) :
    s.loadStart e = ({ s with stn := s.stn.loadBegun e } : State).loadRefused { code := 2 } 0 := by
  rw [State.loadStart, if_neg hbusy]
  exact if_neg hst

/-! ### LOAD_GO and LOAD_DONE -/

theorem execLoadGo_busy {s : State} (hl : s.live = true) {e : Nat} (he : e < 2) (hbusy : s.stn.loadState = 1) :
    exec (.loadGo e) s = .next s :=
  run_live_eq (i := .loadGo e) (decide_eq_true he) hl (if_pos hbusy) rfl

/-- Where no load is BUSY, LOAD_GO keeps its epoch in STN_LOAD_CTRL and starts the load. -/
theorem execLoadGo_start {s t : State} (hl : s.live = true) {e : Nat} (he : e < 2) (hbusy : s.stn.loadState ≠ 1)
    (ht : (s.setFld .stnLoadCtrl 0 8 8 e).loadStart e = t) (hp : t.pending = s.pending) :
    exec (.loadGo e) s = .next t :=
  run_live_eq (i := .loadGo e) (decide_eq_true he) hl ((if_neg hbusy).trans ht) hp

theorem execLoadDone_idle {s : State} (hl : s.live = true) (image : List Read) (hbusy : s.stn.loadState ≠ 1) :
    exec (.loadDone image) s = .next s :=
  run_live_eq (i := .loadDone image) rfl hl (if_pos hbusy) rfl

/-- The image of a load from the host is what host memory answers. -/
theorem State.loadDone_host {s : State} (hbusy : s.stn.loadState = 1) (hsrc : s.flag .stnLoadSrc 0 63 = false)
    (image : List Read) : s.loadDone image = s.loadImage image := by
  rw [State.loadDone, if_neg (not_not_intro hbusy), hsrc]
  rfl

theorem execLoadDone_error {s : State} (hl : s.live = true) (hbusy : s.stn.loadState = 1)
    (hsrc : s.flag .stnLoadSrc 0 63 = false) {img : List Read} {r : Refuse} (h : checkImage img = .error r) :
    exec (.loadDone img) s = .next (s.loadRefused r (bits ((img.getD 0 none).getD 0) 15 0)) :=
  run_live_eq (i := .loadDone img) rfl hl ((State.loadDone_host hbusy hsrc img).trans (State.loadImage_error h s))
    (s.loadRefused_pending r _)

theorem execLoadDone_ok {s : State} (hl : s.live = true) (hbusy : s.stn.loadState = 1)
    (hsrc : s.flag .stnLoadSrc 0 63 = false) {img : List Read} {b : Bank} (h : checkImage img = .ok b) :
    exec (.loadDone img) s = .next (s.loadImage img) :=
  run_live_eq (i := .loadDone img) rfl hl (State.loadDone_host hbusy hsrc img) (by rw [State.loadImage_ok h])

end Sys2Proof.Machine

/-! ## The drain of an epoch (04 R99, R100) -/

namespace Sys2Proof.Machine

theorem State.drainBeats_pos (s : State) : 0 < s.drainBeats :=
  Nat.lt_of_lt_of_le (by decide) (Nat.le_max_left 16 _)

/-- The quiet beat that completes drain_beats closes the epoch. -/
theorem State.drainStep_last {s : State} {e : Bool} (hst : s.stn.st e = .closing)
    (hn : s.drainBeats ≤ Nat.min 0xFFFF (s.stn.quiet e + 1)) :
    s.drainStep e true =
      { s with stn := (s.stn.setQuiet e (Nat.min 0xFFFF (s.stn.quiet e + 1))).setSt e .closed } := by
  simp only [State.drainStep, hst, ne_eq, not_true, if_false, if_true, if_pos hn]

/-- A beat that is not quiet starts the count anew. -/
theorem State.drainStep_notQuiet {s : State} {e : Bool} (hst : s.stn.st e = .closing) :
    s.drainStep e false = { s with stn := s.stn.setQuiet e 0 } := by
  have hn : ¬ s.drainBeats ≤ 0 := Nat.not_le.2 s.drainBeats_pos
  simp [State.drainStep, hst, hn]

theorem State.drainDue_last {s : State} {e : Bool} (hst : s.stn.st e = .closing) (hq : s.quietNow e = true)
    (hn : s.drainBeats ≤ Nat.min 0xFFFF (s.stn.quiet e + 1)) : s.drainDue e = true := by
  simp [State.drainDue, hst, hq, State.drainStep_last hst hn, StnState.st_setSt]

theorem State.drainDue_notQuiet {s : State} {e : Bool} (hst : s.stn.st e = .closing) (hq : s.quietNow e = false) :
    s.drainDue e = false := by
  simp [State.drainDue, hst, hq, State.drainStep_notQuiet hst, StnState.st_setQuiet]

theorem State.drainDue_open {s : State} {e : Bool} (hst : s.stn.st e = .open_) : s.drainDue e = false := by
  simp [State.drainDue, hst]

theorem execEpochDrainComplete_eq {s : State} (hl : s.live = true) {e : Nat} (he : e < 2) {due : Bool}
    (hdue : s.drainDue (e = 1) = due) :
    exec (.epochDrainComplete e) s = .next (s.call (.epochDrainComplete e) due) := by
  subst hdue
  exact run_live_eq (i := .epochDrainComplete e) (decide_eq_true he) hl rfl (by rw [State.call_spec])

theorem execEpochDrainComplete_early {s : State} (hl : s.live = true) {e : Nat} (he : e < 2)
    (hdue : s.drainDue (e = 1) = false) : exec (.epochDrainComplete e) s = .next s := by
  rw [execEpochDrainComplete_eq hl he hdue, State.call_early]

end Sys2Proof.Machine

/-! ## Loads and the close of an epoch, as commands (04 R98 to R109) -/

namespace Sys2Proof.Machine

/-- Settles O37: a refusal and a load change the stations and the measurement alone, and a drain step of a CLOSING
epoch changes its quiet count and state alone. -/
theorem loadsOfProgramSets : Obligations.LoadsOfProgramSets := by
  refine fun s hl => ⟨fun e he hbusy => execLoadGo_busy hl he hbusy, fun e he hbusy hst => ?start,
    fun e he hbusy hst => ?notClosed, fun image hbusy => execLoadDone_idle hl image hbusy,
    fun hbusy hsrc _ => ⟨fun img hnone => ?unreadable, fun img r herr => ?refused, fun img b hok => ?loaded⟩,
    fun e he hst => ⟨fun hq hn => ?drained, fun hq => ?notQuiet⟩,
    fun e he hst => execEpochDrainComplete_early hl he (State.drainDue_open hst)⟩
  case start =>
    refine ⟨_, execLoadGo_start hl he hbusy (State.loadStart_closed hbusy hst) rfl, ?epoch, rfl, rfl⟩
    case epoch => exact (s.fld_setFld .stnLoadCtrl 0 8 e (by decide)).trans (Nat.mod_eq_of_lt he)
  case notClosed =>
    refine ⟨_, execLoadGo_start hl he hbusy (State.loadStart_refused hbusy hst) (State.loadRefused_pending _ _ _), ?_⟩
    rw [State.loadRefused_eq]
    exact ⟨rfl, rfl, StnState.loaded_refused _ _ _, StnState.bank_refused_other _ _ _,
      StnState.st_refused _ _ _ false, StnState.st_refused _ _ _ true, rfl⟩
  case unreadable =>
    refine ⟨_, execLoadDone_error hl hbusy hsrc (checkImage_unreadable hnone), ?_⟩
    rw [State.loadRefused_eq]
    exact ⟨rfl, rfl, StnState.loaded_refused _ _ _, rfl⟩
  case refused =>
    refine ⟨_, execLoadDone_error hl hbusy hsrc herr, ?_⟩
    rw [State.loadRefused_eq]
    exact ⟨rfl, rfl, rfl, rfl, rfl, rfl, StnState.loaded_refused _ _ _, StnState.bank_refused_other _ _ _, rfl⟩
  case loaded =>
    refine ⟨_, execLoadDone_ok hl hbusy hsrc hok, ?_⟩
    rw [State.loadImage_ok hok]
    exact ⟨rfl, rfl, StnState.bank_loadedWith _ _ _, StnState.bank_loadedWith_other _ _ _,
      StnState.st_loadedWith _ _ _ false, StnState.st_loadedWith _ _ _ true, rfl⟩
  case drained =>
    refine ⟨execEpochDrainComplete_eq hl he (State.drainDue_last hst hq hn), ?_⟩
    rw [State.drainStep_last hst hn, decide_not]
    exact ⟨StnState.st_setSt _ _ _, (StnState.st_setSt_other _ _ _).trans (StnState.st_setQuiet _ _ _ _), rfl⟩
  case notQuiet =>
    refine ⟨execEpochDrainComplete_early hl he (State.drainDue_notQuiet hst hq), ?_⟩
    rw [State.drainStep_notQuiet hst]
    exact ⟨(StnState.st_setQuiet _ _ _ _).trans hst, StnState.quiet_setQuiet _ _ _⟩

end Sys2Proof.Machine

/-! ## Termite (05 R130, R131) -/

namespace Sys2Proof.Machine

theorem emAt_emPut_same (m : SMap Slot) (i : Nat) {x : Slot} (h : x.vmask ≠ 0) : emAt (emPut m i x) i = x := by
  rw [emPut, if_neg h, emAt, SMap.get_set_same]

theorem emAt_emPut_other (m : SMap Slot) {i j : Nat} (x : Slot) (h : j ≠ i) : emAt (emPut m i x) j = emAt m j :=
  SMap.get_set_other _ _ _ h

/-- The tables after termite has looked at its slot, before the sweep goes on. -/
def TblState.visited (t : TblState) : TblState :=
  let x := emAt t.em t.sweepSlot
  if x.vmask = 0 || bit x.data 27 || x.suspect ≠ 0 then t
  else if x.hit ≠ 0 then { t with em := emPut t.em t.sweepSlot { x with hit := 0, idle := false } }
  else if !x.idle then { t with em := emPut t.em t.sweepSlot { x with idle := true } }
  else { t with removals := t.removals ++ [(t.sweepSlot, x.key)] }

theorem State.termiteVisit_stopped {s : State} (h : s.fld .strAgeCfg 0 11 0 = 0) : s.termiteVisit = s := by
  simp [State.termiteVisit, State.agePeriod, h]

/-- A visit of any slot but the last of the sweep. -/
theorem State.termiteVisit_eq {s : State} (hp : s.fld .strAgeCfg 0 11 0 ≠ 0) (hlast : s.tbl.sweepSlot + 1 < emTotal) :
    s.termiteVisit = { s with tbl := { s.tbl.visited with sweepSlot := s.tbl.sweepSlot + 1 } } := by
  have hperiod : s.agePeriod ≠ 0 := 
    Nat.ne_of_gt (Nat.lt_min.2 ⟨Nat.succ_pos _, Nat.pos_of_ne_zero hp⟩)
  simp only [State.termiteVisit, TblState.visited, if_neg hperiod, if_neg (Nat.ne_of_lt hlast)]
  split
  · rfl
  · split
    · rfl
    · split <;> rfl

section
variable {t : TblState} {x : Slot} (hx : emAt t.em t.sweepSlot = x)
include hx

theorem TblState.visited_passed (h : x.vmask = 0 ∨ bit x.data 27 = true ∨ x.suspect ≠ 0) : t.visited = t := by
  subst hx
  rcases h with h | h | h <;> simp [TblState.visited, h]

variable (hv : x.vmask ≠ 0) (hs : bit x.data 27 = false) (hd : x.suspect = 0)
include hv hs hd

theorem TblState.visited_hit (hh : x.hit ≠ 0) :
    t.visited = { t with em := emPut t.em t.sweepSlot { x with hit := 0, idle := false } } := by
  subst hx
  simp [TblState.visited, hv, hs, hd, hh]

theorem TblState.visited_unhit (hh : x.hit = 0) (hi : x.idle = false) :
    t.visited = { t with em := emPut t.em t.sweepSlot { x with idle := true } } := by
  subst hx
  simp [TblState.visited, hv, hs, hd, hh, hi]

theorem TblState.visited_idle (hh : x.hit = 0) (hi : x.idle = true) :
    t.visited = { t with removals := t.removals ++ [(t.sweepSlot, x.key)] } := by
  subst hx
  simp [TblState.visited, hv, hs, hd, hh, hi]

end

/-- A look at a slot changes that slot and the removals alone. -/
theorem TblState.visited_frame (t : TblState) :
    t.visited = { t with em := t.visited.em, removals := t.visited.removals }
      ∧ ∀ j, j ≠ t.sweepSlot → emAt t.visited.em j = emAt t.em j := by
  unfold TblState.visited
  dsimp only
  split
  · exact ⟨rfl, fun _ _ => rfl⟩
  · split
    · exact ⟨rfl, fun _ hj => emAt_emPut_other _ _ hj⟩
    · split
      · exact ⟨rfl, fun _ hj => emAt_emPut_other _ _ hj⟩
      · exact ⟨rfl, fun _ _ => rfl⟩

theorem execTermiteVisit_paused {s : State} (hl : s.live = true)
    (h : s.boot.running = false ∨ s.fld .strAgeCfg 0 11 0 = 0) : exec .termiteVisit s = .next s := by
  refine run_live_eq (i := .termiteVisit) rfl hl ?_ rfl
  rcases h with h | h
  · simp [h]
  · simp [State.termiteVisit_stopped h]

theorem execTermiteVisit_eq {s : State} (hl : s.live = true) (hr : s.boot.running = true)
    (hp : s.fld .strAgeCfg 0 11 0 ≠ 0) (hlast : s.tbl.sweepSlot + 1 < emTotal) :
    exec .termiteVisit s = .next { s with tbl := { s.tbl.visited with sweepSlot := s.tbl.sweepSlot + 1 } } :=
  run_live_eq (i := .termiteVisit) rfl hl ((if_pos hr).trans (State.termiteVisit_eq hp hlast)) rfl

end Sys2Proof.Machine

/-! ## The compare engine's positions (05 R138 to R140) -/

namespace Sys2Proof.Machine

theorem rangeFrom_succ_self (p : Nat) : rangeFrom p (p + 1) = [p] := by simp [rangeFrom]

theorem State.cmpRate_one {s : State} (h : s.fld .strCmpCtrl 0 12 8 ≤ 1) : s.cmpRate = 1 := by
  rw [State.cmpRate, show Nat.max 1 (s.fld .strCmpCtrl 0 12 8) = 1 from Nat.max_eq_left h]
  rfl

theorem State.cmpStep_waits {s : State} {t : Nat}
    (h : s.flag .strCmpCtrl 0 t = false ∨ s.ddrReady = false ∨ s.boot.running = false) : s.cmpStep t = s := by
  rcases h with h | h | h <;> simp [State.cmpStep, h]

/-- Table t's pass stands at a position of a copy. -/
def State.passTo (s : State) (t pos die : Nat) : State :=
  { s with tbl := { s.tbl with cmpPos := SMap.set 0 s.tbl.cmpPos t pos, cmpDie := SMap.set 0 s.tbl.cmpDie t die } }

theorem State.passTo_pos (s : State) (t pos die : Nat) : SMap.get 0 (s.passTo t pos die).tbl.cmpPos t = pos :=
  SMap.get_set_same 0 _ _ _

theorem State.passTo_die (s : State) (t pos die : Nat) : SMap.get 0 (s.passTo t pos die).tbl.cmpDie t = die :=
  SMap.get_set_same 0 _ _ _

/-- Where one record is compared in a beat and the pass has not reached its end. -/
theorem State.cmpStep_midPass {s : State} {t p : Nat} (hen : s.flag .strCmpCtrl 0 t = true) (hd : s.ddrReady = true)
    (hr : s.boot.running = true) (hrate : s.cmpRate = 1) (hp : SMap.get 0 s.tbl.cmpPos t = p) (hmid : p + 1 < s.cmpLen t) :
    s.cmpStep t = (s.cmpAt t (SMap.get 0 s.tbl.cmpDie t) p).passTo t (p + 1) (SMap.get 0 s.tbl.cmpDie t) := by
  have hstop : Nat.min (s.cmpLen t) (p + 1) = p + 1 := Nat.min_eq_right (Nat.le_of_lt hmid)
  have hnotDone : ¬ s.cmpLen t ≤ p + 1 := by omega
  simp [State.cmpStep, State.passTo, hen, hd, hr, hrate, hp, hstop, hnotDone, rangeFrom_succ_self]

theorem State.mismatch_spec (s : State) (t vmask die kind : Nat) (key data : Word) {u : State}
    (hu : u = s.mismatch t vmask die kind key data) :
    u = { s with regs := u.regs, host := u.host }
      ∧ u.fld .strTblCnt1 0 47 32 = Nat.min 65535 (s.fld .strTblCnt1 0 47 32 + 1)
      ∧ u.host.outbox.length = s.host.outbox.length + 1 := by
  subst hu
  refine ⟨rfl, ?_, by simp [State.mismatch, State.tableItem]⟩
  exact s.fld_bump .strTblCnt1 0 32 1 (by decide)

section
variable {s : State} {die p : Nat} {w x : Word} (hp : p < 32768)
  (hw : memWord s.mem.spine (s.cmpBase 2 + 8 * p) = w) (hx : SMap.get 0 s.tbl.mc p = x) (hpend : bit w 45 = false)
  (hwv : bit w 63 = true) (hxv : bit x 63 = true) (hgood : s.tbl.mcBad.contains (p, die) = false)
include hp hw hx hpend hwv hxv hgood

theorem State.cmpGroup_same (heq : setBits w 45 16 0 = setBits x 45 16 0) : s.cmpGroup die p = s := by
  subst hw hx
  have hgo : ¬ 32768 ≤ p := by omega
  simp only [State.cmpGroup, hpend, hgood, hwv, hxv, hgo, heq, decide_false, Bool.or_self, Bool.not_true,
    Bool.false_eq_true, if_false, if_true]

/-- A valid entry that differs is marked on its die, and is a mismatch of kind 1. -/
theorem State.cmpGroup_differs (hne : setBits w 45 16 0 ≠ setBits x 45 16 0) : s.cmpGroup die p
    = State.mismatch { s with tbl := { s.tbl with mcBad := s.tbl.mcBad ++ [(p, die)] } } 2 (if p < 16384 then 1 else 2)
        die 1 (at_ 0 (p % 16384)) x := by
  subst hw hx
  have hgo : ¬ 32768 ≤ p := by omega
  simp only [State.cmpGroup, hpend, hgood, hwv, hxv, hgo, hne, decide_false, Bool.or_self, Bool.not_true,
    Bool.false_eq_true, if_false]

/-- The position of a valid group entry that is not yet suspect: the two cases of its comparison. -/
theorem State.cmpGroup_spec {u : State} (hu : u = s.cmpGroup die p) :
    u = { s with regs := u.regs, host := u.host, tbl := { s.tbl with mcBad := u.tbl.mcBad } }
      ∧ (setBits w 45 16 0 = setBits x 45 16 0 → u = s)
      ∧ (setBits w 45 16 0 ≠ setBits x 45 16 0 → u.tbl.mcBad = s.tbl.mcBad ++ [(p, die)]
          ∧ u.fld .strTblCnt1 0 47 32 = Nat.min 65535 (s.fld .strTblCnt1 0 47 32 + 1)
          ∧ u.host.outbox.length = s.host.outbox.length + 1) := by
  by_cases heq : setBits w 45 16 0 = setBits x 45 16 0
  · have hsame : u = s := hu.trans (State.cmpGroup_same hp hw hx hpend hwv hxv hgood heq)
    exact ⟨by rw [hsame], fun _ => hsame, fun hne => absurd heq hne⟩
  · obtain ⟨hframe, hcount, hitem⟩ :=
      State.mismatch_spec _ _ _ _ _ _ _ (hu.trans (State.cmpGroup_differs hp hw hx hpend hwv hxv hgood heq))
    have hbad : u.tbl.mcBad = s.tbl.mcBad ++ [(p, die)] := by rw [hframe]
    exact ⟨by rw [hbad]; exact hframe, fun h => absurd h heq, fun _ => ⟨hbad, hcount, hitem⟩⟩

end

theorem execCompareEngineStep_waits {s : State} (hl : s.live = true) {t : Nat} (ht : t < 3)
    (h : s.flag .strCmpCtrl 0 t = false ∨ s.ddrReady = false ∨ s.boot.running = false) :
    exec (.compareEngineStep t) s = .next s :=
  run_live_eq (i := .compareEngineStep t) (decide_eq_true ht) hl (State.cmpStep_waits h) rfl

/-- A beat of the engine at a group entry, short of the end of the pass. -/
theorem execCompareEngineStep_group {s u : State} (hl : s.live = true) (hen : s.flag .strCmpCtrl 0 2 = true)
    (hd : s.ddrReady = true) (hr : s.boot.running = true) (hrate : s.fld .strCmpCtrl 0 12 8 ≤ 1) {p : Nat}
    (hp : SMap.get 0 s.tbl.cmpPos 2 = p) (hmid : p + 1 < 32768) (hu : s.cmpGroup (SMap.get 0 s.tbl.cmpDie 2) p = u)
    (hq : u.pending = s.pending) :
    exec (.compareEngineStep 2) s = .next (u.passTo 2 (p + 1) (SMap.get 0 s.tbl.cmpDie 2)) := by
  subst hu
  exact run_live_eq (i := .compareEngineStep 2) rfl hl
    (State.cmpStep_midPass hen hd hr (State.cmpRate_one hrate) hp hmid) hq

end Sys2Proof.Machine

/-! ## The enables of the compare engine (05 R141) -/

namespace Sys2Proof.Machine

/-- A field within the RW fields of a register takes the value put. -/
theorem State.fld_putRw (s : State) (k : RegKind) (i : Nat) (v : Word) {hi lo : Nat}
    (h : ∀ j < hi + 1 - lo, k.rwMask.getLsbD (lo + j) = true) : (s.putRw k i v).fld k i hi lo = bits v hi lo := by
  apply Nat.eq_of_testBit_eq
  intro j
  rw [State.fld, State.reg_putRw, testBit_bits, testBit_bits]
  by_cases hj : j < hi + 1 - lo
  · simp [h j hj]
  · simp [hj]

/-- A pass of the compare engine goes on while its table is enabled, and is forgotten otherwise. -/
def State.keepPass (s : State) (t : Nat) : State :=
  if s.flag .strCmpCtrl 0 t then s
  else { s with tbl := { s.tbl with cmpPos := SMap.erase s.tbl.cmpPos t, cmpDie := SMap.erase s.tbl.cmpDie t } }

theorem State.applyCmpCtrl_eq (s : State) (v : Word) :
    s.applyCmpCtrl v = [0, 1, 2].foldl State.keepPass (s.putRw .strCmpCtrl 0 v) := rfl

/-- Nothing but the positions and copies of the compare engine's passes differs. -/
def State.onlyPasses (s t : State) : Prop :=
  t = { s with tbl := { s.tbl with cmpPos := t.tbl.cmpPos, cmpDie := t.tbl.cmpDie } }

theorem State.onlyPasses_keepPass (s : State) (t : Nat) : s.onlyPasses (s.keepPass t) := by
  unfold State.keepPass
  split <;> rfl

theorem State.onlyPasses_foldl (s : State) (l : List Nat) : s.onlyPasses (l.foldl State.keepPass s) := by
  induction l generalizing s with
  | nil => rfl
  | cons t l ih =>
    have hstep := s.onlyPasses_keepPass t
    have hrest := ih (s.keepPass t)
    unfold State.onlyPasses at hstep hrest ⊢
    rw [List.foldl_cons, hrest, hstep]

theorem State.flag_keepPass (s : State) (t : Nat) (k : RegKind) (i n : Nat) :
    (s.keepPass t).flag k i n = s.flag k i n := by
  rw [s.onlyPasses_keepPass t]
  rfl

/-- A table that is enabled keeps its pass. -/
theorem State.keepPass_enabled {s : State} {j : Nat} (h : s.flag .strCmpCtrl 0 j = true) (t : Nat) :
    SMap.get 0 (s.keepPass t).tbl.cmpPos j = SMap.get 0 s.tbl.cmpPos j := by
  unfold State.keepPass
  split
  next => rfl
  next hoff =>
    have hne : j ≠ t := by rintro rfl; exact hoff h
    exact (SMap.get_erase _ _ _ _).trans (if_neg hne)

theorem State.keepPasses_enabled {s : State} {j : Nat} (h : s.flag .strCmpCtrl 0 j = true) (l : List Nat) :
    SMap.get 0 (l.foldl State.keepPass s).tbl.cmpPos j = SMap.get 0 s.tbl.cmpPos j := by
  induction l generalizing s with
  | nil => rfl
  | cons t l ih => exact (ih ((s.flag_keepPass t _ _ _).trans h)).trans (State.keepPass_enabled h t)

/-- Table j's pass stands at its beginning. -/
def State.passAtStart (s : State) (j : Nat) : Prop := SMap.get 0 s.tbl.cmpPos j = 0 ∧ SMap.get 0 s.tbl.cmpDie j = 0

theorem State.passAtStart_keepPass {s : State} {j t : Nat} (h : s.passAtStart j ∨ j = t ∧ s.flag .strCmpCtrl 0 j = false) :
    (s.keepPass t).passAtStart j := by
  unfold State.keepPass
  split
  next hon =>
    rcases h with h | ⟨rfl, hoff⟩
    · exact h
    · rw [hon] at hoff; cases hoff
  next =>
    simp only [State.passAtStart, SMap.get_erase] at h ⊢
    by_cases hj : j = t
    · simp [hj]
    · simpa [hj] using h

theorem State.keepPasses_disabled {s : State} {j : Nat} (hoff : s.flag .strCmpCtrl 0 j = false) {l : List Nat}
    (h : s.passAtStart j ∨ j ∈ l) : (l.foldl State.keepPass s).passAtStart j := by
  induction l generalizing s with
  | nil => exact h.resolve_right (List.not_mem_nil)
  | cons t l ih =>
    refine ih ((s.flag_keepPass t _ _ _).trans hoff) ?_
    rw [List.mem_cons, ← or_assoc] at h
    exact h.imp_left fun h => State.passAtStart_keepPass (h.imp_right fun hj => ⟨hj, hoff⟩)

/-- A value put into STR_CMP_CTRL: beside the RW fields, only the passes change, and each by its enable. -/
theorem State.applyCmpCtrl_spec (s : State) (v : Word) {u : State} (hu : u = s.applyCmpCtrl v) :
    (s.putRw .strCmpCtrl 0 v).onlyPasses u ∧ (∀ j, j < 3 → u.flag .strCmpCtrl 0 j = false → u.passAtStart j)
      ∧ ∀ j, u.flag .strCmpCtrl 0 j = true → SMap.get 0 u.tbl.cmpPos j = SMap.get 0 s.tbl.cmpPos j := by
  rw [State.applyCmpCtrl_eq] at hu
  have honly : (s.putRw .strCmpCtrl 0 v).onlyPasses u := hu ▸ State.onlyPasses_foldl _ _
  have hflag : ∀ j, (s.putRw .strCmpCtrl 0 v).flag .strCmpCtrl 0 j = u.flag .strCmpCtrl 0 j := fun j => by
    rw [honly]; rfl
  refine ⟨honly, fun j hj hoff => ?_, fun j hon => ?_⟩
  · have hmem : j ∈ [0, 1, 2] := by simp only [List.mem_cons, List.not_mem_nil, or_false]; omega
    exact hu ▸ State.keepPasses_disabled ((hflag j).trans hoff) (.inr hmem)
  · exact hu ▸ State.keepPasses_enabled ((hflag j).trans hon) _

/-- STR_CMP_CTRL with the enables that are both set and written. -/
def State.cmpCtrlCleared (s : State) (v : Word) : Word :=
  setBits (s.reg .strCmpCtrl 0) 2 0 (s.fld .strCmpCtrl 0 2 0 &&& bits v 2 0)

theorem State.writeReg_strCmpCtrl (s : State) (hw : Word) (late : Bool) (v : Word) :
    s.writeReg hw late .strCmpCtrl 0 v = (s.applyCmpCtrl (s.cmpCtrlCleared v)).queueWrite .strCmpCtrl 0 v late := by
  have hx : s.offCrossing .strCmpCtrl 0 = none := by
    simp [State.offCrossing, engineOf_eq_none (k := .strCmpCtrl) (by decide), coreDomain]
  rw [State.writeReg_reached hx rfl]
  rfl

theorem execCmpCtrlWrite_eq {s : State} (hl : s.live = true) {rate en : Nat} (hrate : rate < 32) (hen : en < 8)
    (late : Bool) : exec (.cmpCtrlWrite rate en late) s
      = .next ((s.applyCmpCtrl (s.cmpCtrlCleared (at_ 8 rate ||| at_ 0 en))).queueWrite .strCmpCtrl 0
          (at_ 8 rate ||| at_ 0 en) late) := by
  refine run_live_eq (i := .cmpCtrlWrite rate en late) (decide_eq_true ⟨hrate, hen⟩) hl (s.writeReg_strCmpCtrl _ _ _) ?_
  rw [State.queueWrite_pending, State.applyCmpCtrl_eq, State.onlyPasses_foldl]
  rfl

theorem bits_cmpCtrl_en (rate : Nat) {en : Nat} (h : en < 8) : bits (at_ 8 rate ||| at_ 0 en) 2 0 = en := by
  rw [bits_or, bits_at_above (by decide), bits_at_same (by decide) h, Nat.zero_or]

theorem State.bits_cmpCtrlCleared_en (s : State) {v : Word} {en : Nat} (h : bits v 2 0 = en) :
    bits (s.cmpCtrlCleared v) 2 0 = s.fld .strCmpCtrl 0 2 0 &&& en := by
  subst h
  rw [State.cmpCtrlCleared, bits_setBits_same _ _ (by decide)]
  exact Nat.mod_eq_of_lt (Nat.lt_of_le_of_lt Nat.and_le_right (Nat.mod_lt _ (by decide)))

theorem State.bits_cmpCtrlCleared_rate (s : State) (v : Word) :
    bits (s.cmpCtrlCleared v) 12 8 = s.fld .strCmpCtrl 0 12 8 :=
  bits_setBits_other _ _ (by decide)

/-- Settles O39: termite's visit is `TblState.visited`, a position of a pass is `cmpGroup`, and a write of STR_CMP_CTRL
puts the cleared enables and keeps the passes of the tables that stay enabled. -/
theorem tableKeepers : Obligations.TableKeepers := by
  refine fun s hl => ⟨execTermiteVisit_paused hl, ?visit, fun t ht h => execCompareEngineStep_waits hl ht h, ?compare,
    ?write⟩
  case visit =>
    intro hr hp hlast
    obtain ⟨hframe, hother⟩ := s.tbl.visited_frame
    refine ⟨_, execTermiteVisit_eq hl hr hp hlast, rfl, ?_, hother, fun x hx => ⟨fun hpass => ?_, fun hv hs hd =>
      ⟨fun hh => ?_, fun hh hi => ?_, fun hh hi => ?_⟩⟩⟩
    · rw [hframe]
    · rw [TblState.visited_passed hx hpass]
      exact ⟨hx, rfl⟩
    · rw [TblState.visited_hit hx hv hs hd hh]
      exact ⟨emAt_emPut_same _ _ hv, rfl⟩
    · rw [TblState.visited_unhit hx hv hs hd hh hi]
      exact ⟨emAt_emPut_same _ _ hv, rfl⟩
    · rw [TblState.visited_idle hx hv hs hd hh hi]
      exact ⟨hx, rfl⟩
  case compare =>
    intro p w x hen hd hr hrate hp hmid hw hx hpend hwv hxv hgood
    obtain ⟨u, hu⟩ : ∃ u, u = s.cmpGroup (SMap.get 0 s.tbl.cmpDie 2) p := ⟨_, rfl⟩
    obtain ⟨hframe, hsame, hdiff⟩ := State.cmpGroup_spec (by omega) hw hx hpend hwv hxv hgood hu
    refine ⟨_, execCompareEngineStep_group hl hen hd hr hrate hp hmid hu.symm (by rw [hframe]),
      u.passTo_pos 2 _ _, u.passTo_die 2 _ _, congrArg (·.tbl.mc) hframe, congrArg (·.mem) hframe, fun heq => ?_, hdiff⟩
    rw [hsame heq]
    exact ⟨rfl, rfl, rfl⟩
  case write =>
    intro rate en late hrate hen
    obtain ⟨v, hv⟩ : ∃ v, v = s.cmpCtrlCleared (at_ 8 rate ||| at_ 0 en) := ⟨_, rfl⟩
    obtain ⟨u, hu⟩ : ∃ u, u = s.applyCmpCtrl v := ⟨_, rfl⟩
    obtain ⟨honly, hoff, hon⟩ := s.applyCmpCtrl_spec v hu
    have hfld : ∀ hi lo, u.fld .strCmpCtrl 0 hi lo = (s.putRw .strCmpCtrl 0 v).fld .strCmpCtrl 0 hi lo := fun hi lo => by
      rw [honly]; rfl
    refine ⟨u.queueWrite .strCmpCtrl 0 (at_ 8 rate ||| at_ 0 en) late, ?answer, ?queued, ?enables, ?rate, hoff,
      fun j _ => hon j, congrArg (·.tbl.em) honly, congrArg (·.tbl.lpm) honly, congrArg (·.tbl.mc) honly,
      congrArg (·.mem) honly⟩
    case answer =>
      rw [hu, hv]
      exact execCmpCtrlWrite_eq hl hrate hen late
    case queued =>
      rw [State.queueWrite_pend, honly]
      rfl
    case enables =>
      refine (hfld 2 0).trans ((s.fld_putRw _ _ _ (by decide)).trans ?_)
      rw [hv, s.bits_cmpCtrlCleared_en (bits_cmpCtrl_en rate hen)]
    case rate =>
      refine (hfld 12 8).trans ((s.fld_putRw _ _ _ (by decide)).trans ?_)
      rw [hv, s.bits_cmpCtrlCleared_rate]

end Sys2Proof.Machine

/-! ## Digests that wait too long (15 R451, R462) -/

namespace Sys2Proof.Machine

/-- The registers STN_MIR repeat after one for each of the 2^18 node numbers: number 262,144 names that of node 0. -/
theorem State.fld_stnMir_wraps (s : State) (hi lo : Nat) : s.fld .stnMir 262144 hi lo = s.fld .stnMir 0 hi lo := by
  have hoff : RegKind.stnMir.off 262144 = RegKind.stnMir.off 0 := by decide
  rw [State.fld, State.fld, State.reg, State.reg, hoff]

/-- A live part at boundary 65,535 whose store holds one digest, taken of primary node 0 at boundary 0. -/
def digestOfNode0 : State :=
  { pins := { perstLow := false }
    beat := { bc := 65535 }
    part := { digests := [{ prim := 0, key := [], digest := 0, fromShadow := false, since := 0 }] } }

/-- Its digest has waited as long as the longest mir_window, and is counted as lost on node 0 (15 R451). -/
theorem digestOfNode0_counted : digestOfNode0.digestTimeouts.fld .stnMir 0 27 12 = 1 := by
  have hdrop : digestOfNode0.digestTimeouts
      = ({ digestOfNode0 with part := { digestOfNode0.part with digests := [] } } : State).bump .stnMir 0 27 12 1 := by
    decide
  rw [hdrop, State.fld_bump _ _ _ _ _ (by decide)]
  decide

/-- Refutes O46: its clause on the lost digests ranges over every number p, and STN_MIR 262,144 is the register of node
0. There a digest of node 0 counts as lost, while no digest in the store names node 262,144. -/
theorem not_pennantsAndMirrors : ¬ Obligations.PennantsAndMirrors := by
  intro h
  have hlive : digestOfNode0.live = true := by decide
  obtain ⟨-, -, -, -, -, -, hdigests, -⟩ := h digestOfNode0 hlive
  obtain ⟨-, hcount, -⟩ := hdigests _ rfl
  have hlost := hcount 262144
  rw [State.fld_stnMir_wraps, State.fld_stnMir_wraps, digestOfNode0_counted] at hlost
  exact absurd hlost (by decide)

end Sys2Proof.Machine

/-! ## What goes out on a lane (03 R627; 06 R152, R155) -/

namespace Sys2Proof.Machine

/-! ### The codewords counted on a lane (17 R490, R497) -/

/-- The uncorrectable codewords that a lane has counted (17 R490). -/
def State.codewords (s : State) (n : Nat) : Nat := SMap.get 0 s.cnt.live (cntLane n 5)

theorem State.codewords_count_other (s : State) (n k : Nat) {key : Nat} (h : cntLane n 5 ≠ key) :
    (s.count key k).codewords n = s.codewords n :=
  (SMap.get_upd 0 s.cnt.live key (cntLane n 5) fun v => (v + k) % 2 ^ 64).trans (if_neg h)

theorem State.codewords_laneCount (s : State) (n : Nat) :
    (s.laneCount n 5).codewords n = (s.codewords n + 1) % 2 ^ 64 :=
  SMap.get_upd_same 0 s.cnt.live (cntLane n 5) fun v => (v + 1) % 2 ^ 64

/-- The part has 8,192 programmable counters (17 R499). -/
theorem State.progCfgs_lt {s : State} {e : Nat × Word} (h : e ∈ s.progCfgs) : e.1 < 8192 := by
  obtain ⟨x, hx, rfl⟩ := List.mem_map.1 h
  have hrange := (List.mem_filter.1 hx).2
  simp only [Bool.and_eq_true, decide_eq_true_eq] at hrange
  dsimp only
  omega

/-- The programmable counters are none of the lanes'. -/
theorem State.codewords_progEvent (s : State) (n src idx : Nat) (p : Option Nat) (k : Nat) :
    (s.progEvent src idx p k).codewords n = s.codewords n := by
  refine List.foldlRecOn (motive := fun (u : State) => u.codewords n = s.codewords n) _ _ rfl fun u hu i hi => ?_
  obtain ⟨e, he, rfl⟩ := List.mem_map.1 hi
  have hlt := State.progCfgs_lt (List.mem_filter.1 he).1
  have hne : cntLane n 5 ≠ cntProg e.1 := by unfold cntLane cntProg; omega
  exact (u.codewords_count_other n k hne).trans hu

theorem State.codewords_laneSent (s : State) (n m p f : Nat) : (s.laneSent m p f).codewords n = s.codewords n := by
  have h2 : cntLane n 5 ≠ cntLane m 2 := by unfold cntLane; omega
  have h3 : cntLane n 5 ≠ cntLane m 3 := by unfold cntLane; omega
  unfold State.laneSent
  rw [State.codewords_progEvent, State.codewords_progEvent, State.codewords_count_other _ _ _ h3,
    State.codewords_count_other _ _ _ h2]

/-! ### Frames put out on a lane -/

/-- A lane puts out `o`: its lane time passes and its replay buffer ages, and frames are counted; its codewords are not. -/
structure State.Puts (n : Nat) (o : List OutEv) (s t : State) : Prop where
  frame : t = { s with lnk := t.lnk, cnt := t.cnt, out := s.out ++ o }
  lane : t.lane n = { s.lane n with used := (t.lane n).used, replay := (t.lane n).replay }
  other : ∀ m, m ≠ n → t.lane m = s.lane m
  codewords : t.codewords n = s.codewords n

theorem State.Puts.refl (n : Nat) (s : State) : State.Puts n [] s s := ⟨by simp, rfl, fun _ _ => rfl, rfl⟩

theorem State.Puts.trans {n : Nat} {o q : List OutEv} {s t u : State} (h : State.Puts n o s t) (g : State.Puts n q t u) :
    State.Puts n (o ++ q) s u := by
  refine ⟨?_, ?_, fun m hm => (g.other m hm).trans (h.other m hm), g.codewords.trans h.codewords⟩
  · rw [g.frame, h.frame]
    simp only [List.append_assoc]
  · rw [g.lane, h.lane]

/-- A walk that puts out one frame at each step. -/
theorem State.puts_foldl {α : Type} {n : Nat} {f : State → α → State} {e : α → OutEv}
    (h : ∀ s a, State.Puts n [e a] s (f s a)) (l : List α) (s : State) : State.Puts n (l.map e) s (l.foldl f s) := by
  induction l generalizing s with
  | nil => exact State.Puts.refl n s
  | cons a l ih => exact (h s a).trans (ih (f s a))

/-- A lane that sends a frame: its lane time and its replay buffer change, the frame counts and is put out. -/
theorem State.puts_sent (s : State) (n p k : Nat) (e : OutEv) {f : Lane → Lane}
    (hf : ∀ l, f l = { l with used := (f l).used, replay := (f l).replay }) :
    State.Puts n [e] s (((s.setLane n f).laneSent n p k).emit e) := by
  obtain ⟨v, hv⟩ : ∃ v, v = (s.setLane n f).laneSent n p k := ⟨_, rfl⟩
  have hcnt : (s.setLane n f).onlyCnt v := hv ▸ State.onlyCnt_laneSent (s.setLane n f) n p k
  have hwords : v.codewords n = s.codewords n := by rw [hv, State.codewords_laneSent]; rfl
  have hlane : ∀ m, v.lane m = if m = n then f (s.lane n) else s.lane m := fun m => by
    rw [hcnt]; exact State.lane_setLane s n m f
  have hn : v.lane n = f (s.lane n) := (hlane n).trans (if_pos rfl)
  rw [← hv]
  refine ⟨?_, ?_, fun m hm => (hlane m).trans (if_neg hm), hwords⟩
  · rw [hcnt]; rfl
  · exact hn.trans ((hf _).trans (by rw [← hn]; rfl))

/-- A hop-local frame on a lane. -/
def hopOut (n op : Nat) (pay : List Byte) : OutEv := .hop n (fitBytes 256 (Hdr.bytes { op := op, len := pay.length } ++ pay))

theorem State.puts_emitHop (s : State) (n op : Nat) (pay : List Byte) :
    State.Puts n [hopOut n op pay] s (s.emitHop n op pay) :=
  s.puts_sent n 0 256 _ fun _ => rfl

/-- A held frame goes out again (06 R155). -/
def State.resend (n : Nat) (s : State) (h : Held) : State :=
  ((s.setLane n fun l => l.again h s.beat.bc).laneSent n (Hdr.ofBytes h.bytes).part h.bytes.length).emit (.frame n h.bytes)

theorem State.puts_resend (n : Nat) (s : State) (h : Held) : State.Puts n [.frame n h.bytes] s (s.resend n h) :=
  s.puts_sent n _ _ _ fun _ => rfl

/-! ### A replay (06 R155) -/

/-- The held frames that a replay sends: from the one asked for, or from the oldest. -/
def Lane.sentAgain (l : Lane) (frame : Nat) : List Held :=
  let after := l.replay.dropWhile fun h => h.num ≠ frame % 2 ^ 32
  if after = [] && frame % 2 ^ 32 ≠ l.txNum then l.replay else after

/-- The frame that a replay's start names. -/
def Lane.startsAt (l : Lane) (frame : Nat) : Nat :=
  match l.sentAgain frame with
  | h :: _ => h.num
  | [] => l.txNum

/-- What is dropped before a frame that is held ends at that frame. -/
theorem dropWhile_held {l : List Held} {frame : Nat} (hh : ∃ h ∈ l, h.num = frame) :
    ∃ x xs, l.dropWhile (fun h => h.num ≠ frame) = x :: xs ∧ x.num = frame := by
  induction l with
  | nil =>
    obtain ⟨h, hmem, -⟩ := hh
    cases hmem
  | cons y l ih =>
    by_cases hy : y.num = frame
    · have hstop : decide (y.num ≠ frame) = false := decide_eq_false fun hne => hne hy
      exact ⟨y, l, by rw [List.dropWhile_cons_of_neg (by rw [hstop]; exact Bool.false_ne_true)], hy⟩
    · have hgo : decide (y.num ≠ frame) = true := decide_eq_true hy
      obtain ⟨h, hmem, hnum⟩ := hh
      have hrest : h ∈ l := (List.mem_cons.1 hmem).resolve_left fun heq => hy (heq ▸ hnum)
      obtain ⟨x, xs, hdrop, hx⟩ := ih ⟨h, hrest, hnum⟩
      exact ⟨x, xs, (List.dropWhile_cons_of_pos (p := fun h : Held => decide (h.num ≠ frame)) hgo).trans hdrop, hx⟩

/-- A frame that is held is the first of its replay. -/
theorem Lane.sentAgain_held {l : Lane} {frame : Nat} (hf : frame < 2 ^ 32) (hh : ∃ h ∈ l.replay, h.num = frame) :
    l.sentAgain frame = l.replay.dropWhile (fun h => h.num ≠ frame) ∧ l.startsAt frame = frame := by
  have hmod : frame % 2 ^ 32 = frame := Nat.mod_eq_of_lt hf
  obtain ⟨x, xs, hdrop, hx⟩ := dropWhile_held hh
  have hsent : l.sentAgain frame = l.replay.dropWhile (fun h => h.num ≠ frame) := by
    simp only [Lane.sentAgain, hmod, hdrop, reduceCtorEq, decide_false, Bool.false_and, Bool.false_eq_true, if_false]
  refine ⟨hsent, ?_⟩
  simp only [Lane.startsAt, hsent, hdrop, hx]

/-- The state in which a lane has begun a replay. -/
def State.replayBegun (s : State) (n frame : Nat) : State :=
  s.setLane n fun l => { l with
    asked := none, left := l.left + (((s.lane n).sentAgain frame).map fun h => laneBytes h.bytes.length).sum }

/-- A replay: its start and its frames go out, and the frames that are not held any more count as lost (06 R155). -/
theorem State.replayFrom_spec (s : State) (n frame : Nat) :
    ∃ v, State.Puts n (hopOut n opLinkReplay (replayPay 2 0 0 ((s.lane n).startsAt frame))
          :: ((s.lane n).sentAgain frame).map fun h => .frame n h.bytes) (s.replayBegun n frame) v
      ∧ s.replayFrom n frame
        = v.bump .stnLaneRpl n 19 8 (sdiff 32 ((s.lane n).startsAt frame) (frame % 2 ^ 32)).toNat := by
  refine ⟨_, (State.puts_emitHop _ n _ _).trans (State.puts_foldl (State.puts_resend n) _ _), ?_⟩
  rfl

end Sys2Proof.Machine

/-! ## What a lane's sending leaves of its receiver (06 R148, R153, R155) -/

namespace Sys2Proof.Machine

/-- What a lane's receiver keeps of its request (06 R153 to R156). -/
def Lane.receiver (l : Lane) : Lane :=
  { req := l.req, attempts := l.attempts, firstAt := l.firstAt, lastAt := l.lastAt, rxPos := l.rxPos }

/-- Lane `n` sends: its receiver and the counts of its codewords and requests stay, and what is put out comes behind what
was put out before. -/
structure State.Sends (n : Nat) (s t : State) : Prop where
  receiver : (t.lane n).receiver = (s.lane n).receiver
  codewords : t.codewords n = s.codewords n
  requests : t.fld .stnLaneRpl n 63 48 = s.fld .stnLaneRpl n 63 48
  out : s.out <+: t.out
  net : t.net = s.net
  mem : t.mem = s.mem

theorem State.Sends.refl (n : Nat) (s : State) : State.Sends n s s := ⟨rfl, rfl, rfl, List.prefix_rfl, rfl, rfl⟩

theorem State.Sends.trans {n : Nat} {s t u : State} (h : State.Sends n s t) (g : State.Sends n t u) : State.Sends n s u :=
  ⟨g.receiver.trans h.receiver, g.codewords.trans h.codewords, g.requests.trans h.requests, h.out.trans g.out,
    g.net.trans h.net, g.mem.trans h.mem⟩

theorem State.Puts.sends {n : Nat} {o : List OutEv} {s t : State} (h : State.Puts n o s t) : State.Sends n s t := by
  obtain ⟨hframe, hlane, -, hwords⟩ := h
  refine ⟨?_, hwords, ?_, ?_, ?_, ?_⟩
  · rw [hlane]; rfl
  · rw [hframe]; rfl
  · rw [hframe]; exact List.prefix_append _ _
  · rw [hframe]
  · rw [hframe]

theorem State.sends_setLane (s : State) (n : Nat) {f : Lane → Lane} (hf : ∀ l, (f l).receiver = l.receiver) :
    State.Sends n s (s.setLane n f) := by
  refine ⟨?_, rfl, rfl, List.prefix_rfl, rfl, rfl⟩
  rw [State.lane_setLane, if_pos rfl]
  exact hf _

theorem State.sends_emit (s : State) (n : Nat) (e : OutEv) : State.Sends n s (s.emit e) :=
  ⟨rfl, rfl, rfl, List.prefix_append _ _, rfl, rfl⟩

theorem State.sends_onlyFree {s t : State} (n : Nat) (h : s.onlyFree t) : State.Sends n s t := by
  rw [h]; exact ⟨rfl, rfl, rfl, List.prefix_rfl, rfl, rfl⟩

/-- A count of lost frames leaves that of the requests. -/
theorem State.sends_bump_lost (s : State) (n k : Nat) : State.Sends n s (s.bump .stnLaneRpl n 19 8 k) :=
  ⟨rfl, rfl, s.fld_bump_other .stnLaneRpl n k (.inl (by decide)), List.prefix_rfl, rfl, rfl⟩

theorem State.sends_flushHops (s : State) (n : Nat) : State.Sends n s (s.flushHops n) :=
  (s.sends_setLane n (by intro _; rfl)).trans (State.puts_foldl (fun s (h : Hop) => s.puts_emitHop n h.op h.pay) _ _).sends

theorem State.sends_replayFrom (s : State) (n frame : Nat) : State.Sends n s (s.replayFrom n frame) := by
  obtain ⟨v, hputs, heq⟩ := s.replayFrom_spec n frame
  rw [heq]
  exact (s.sends_setLane n (by intro _; rfl)).trans (hputs.sends.trans (v.sends_bump_lost n _))

/-- A lane that sends nothing and is not stopped begins the first frame that waits on it (06 R148, R157). -/
def State.beginWaiting (s : State) (n : Nat) : State :=
  if (s.lane n).stopped || ((s.lane n).ahead = [] && (s.lane n).queue = []) then s
  else if (s.mayStart n).1 then (s.mayStart n).2.begin n (if (s.lane n).ahead = [] then .copy else .ahead)
  else (s.mayStart n).2

theorem State.startNext_eq (s : State) (n : Nat) :
    s.startNext n = if (s.lane n).now ≠ .idle || s.txBypassed n || !s.laneUp n then s
      else (match ((s.flushHops n).lane n).asked with
        | some f => (s.flushHops n).replayFrom n f
        | none => s.flushHops n).beginWaiting n := rfl

/-- A lane that begins a frame draws at most a free value, and no other lane changes. -/
theorem State.beginWaiting_spec (s : State) (n : Nat) :
    s.onlyNow n (s.beginWaiting n) ∧ ∀ m, m ≠ n → (s.beginWaiting n).lane m = s.lane m := by
  have hdraw := s.onlyNow_mayStart n
  have hlane : ∀ m, (s.mayStart n).2.lane m = s.lane m := fun m => by rw [(s.mayStart_spec n).1]; rfl
  unfold State.beginWaiting
  split
  · exact ⟨⟨rfl, rfl⟩, fun _ _ => rfl⟩
  · split
    · refine ⟨State.onlyNow_trans hdraw (State.onlyNow_begin _ n _), fun m hm => ?_⟩
      rw [State.begin, State.lane_setLane, if_neg hm, hlane]
    · exact ⟨hdraw, fun m _ => hlane m⟩

theorem State.onlyNow.sends {n : Nat} {s t : State} (h : s.onlyNow n t) : State.Sends n s t := by
  obtain ⟨hframe, hlane⟩ := h
  have hout : t.out = s.out := congrArg (·.out) hframe
  exact ⟨by rw [hlane]; rfl, congrArg (·.codewords n) hframe, congrArg (·.fld .stnLaneRpl n 63 48) hframe,
    hout ▸ List.prefix_rfl, congrArg (·.net) hframe, congrArg (·.mem) hframe⟩

theorem State.sends_startNext (s : State) (n : Nat) : State.Sends n s (s.startNext n) := by
  rw [State.startNext_eq]
  split
  · exact State.Sends.refl n s
  · refine (s.sends_flushHops n).trans ?_
    generalize s.flushHops n = v
    split
    · exact (v.sends_replayFrom n _).trans (State.beginWaiting_spec _ n).1.sends
    · exact (v.beginWaiting_spec n).1.sends

/-! ### A frame in progress is cut (06 R153) -/

theorem State.sends_cutFrame (s : State) (n : Nat) : State.Sends n s (s.cutFrame n) := by
  have hcut : State.Sends n s ((s.setLane n fun l => { l with now := .idle }).emit (.cut n)) :=
    (s.sends_setLane n (by intro _; rfl)).trans (State.sends_emit _ n _)
  unfold State.cutFrame
  split
  · exact State.Sends.refl n s
  · exact hcut
  · dsimp only
    split
    · next cid _ _ =>
      generalize (s.setLane n fun l => { l with now := .idle }).emit (.cut n) = v at *
      have hleft := v.sends_setLane n (f := fun l => { l with queue := l.queue.filter (· ≠ cid) }) fun _ => rfl
      exact hcut.trans ⟨hleft.receiver, rfl, rfl, List.prefix_rfl, rfl, rfl⟩
    · exact hcut

theorem State.cut_mem_cutFrame {s : State} {n : Nat} (h : (s.lane n).now ≠ .idle) : .cut n ∈ (s.cutFrame n).out := by
  have hlast : .cut n ∈ ((s.setLane n fun l => { l with now := .idle }).emit (.cut n)).out := by simp
  unfold State.cutFrame
  split
  · contradiction
  · exact hlast
  · dsimp only
    split <;> exact hlast

/-! ### A request is sent (06 R153, R156) -/

/-- The state in which a request's attempt is noted and counted. -/
def State.requested (s : State) (n a : Nat) : State :=
  (s.setLane n fun l => { l with
    req := some (l.req.getD l.rxNum), attempts := a, lastAt := s.beat.bc,
    firstAt := if a = 1 then s.beat.bc else l.firstAt }).bump .stnLaneRpl n 63 48 1

theorem State.lane_requested (s : State) (n a : Nat) :
    (s.requested n a).lane n = { s.lane n with
      req := some ((s.lane n).req.getD (s.lane n).rxNum), attempts := a, lastAt := s.beat.bc,
      firstAt := if a = 1 then s.beat.bc else (s.lane n).firstAt } :=
  (State.lane_setLane _ _ _ _).trans (if_pos rfl)

theorem State.fld_requested (s : State) (n a : Nat) :
    (s.requested n a).fld .stnLaneRpl n 63 48 = Nat.min 65535 (s.fld .stnLaneRpl n 63 48 + 1) :=
  State.fld_bump _ .stnLaneRpl n 48 1 (by decide)

theorem State.codewords_requested (s : State) (n a : Nat) : (s.requested n a).codewords n = s.codewords n := rfl

theorem State.net_requested (s : State) (n a : Nat) : (s.requested n a).net = s.net := rfl

theorem State.mem_requested (s : State) (n a : Nat) : (s.requested n a).mem = s.mem := rfl

/-- A direction that is not bypassed ends its frame in progress, puts the request out, and goes on. -/
theorem State.requestReplay_spec {s : State} {n a : Nat} (hb : s.txBypassed n = false) {t : State}
    (ht : t = s.requestReplay n a) :
    State.Sends n (s.requested n a) t
      ∧ hopOut n opLinkReplay (replayPay 1 0 a ((s.lane n).req.getD (s.lane n).rxNum)) ∈ t.out
      ∧ ((s.lane n).now ≠ .idle → .cut n ∈ t.out) := by
  obtain ⟨pay, hpay⟩ : ∃ pay, pay = replayPay 1 0 a ((s.lane n).req.getD (s.lane n).rxNum) := ⟨_, rfl⟩
  have hnoted : ((s.requested n a).lane n).req = some ((s.lane n).req.getD (s.lane n).rxNum) := by
    rw [s.lane_requested]
  have heq : s.requestReplay n a = (((s.requested n a).cutFrame n).emitHop n opLinkReplay pay).startNext n := by
    have hbyp : (s.requested n a).txBypassed n = false := hb
    have hunfold : s.requestReplay n a = if (s.requested n a).txBypassed n
        then (s.requested n a).sendHop n opLinkReplay (replayPay 1 0 a (((s.requested n a).lane n).req.getD 0))
        else (((s.requested n a).cutFrame n).emitHop n opLinkReplay
          (replayPay 1 0 a (((s.requested n a).lane n).req.getD 0))).startNext n := rfl
    simp only [hunfold, hbyp, hnoted, hpay, Option.getD_some, Bool.false_eq_true, if_false]
  rw [ht, ← hpay, heq]
  have hcut := (s.requested n a).sends_cutFrame n
  have hput := ((s.requested n a).cutFrame n).puts_emitHop n opLinkReplay pay
  have hnext := State.sends_startNext (((s.requested n a).cutFrame n).emitHop n opLinkReplay pay) n
  refine ⟨hcut.trans (hput.sends.trans hnext), hnext.out.subset ?_, fun hnow =>
    (hput.sends.trans hnext).out.subset (State.cut_mem_cutFrame ?_)⟩
  · rw [hput.frame]; simp
  · rw [s.lane_requested]; exact hnow

end Sys2Proof.Machine

/-! ## An uncorrectable codeword (06 R153, R156) -/

namespace Sys2Proof.Machine

/-- The state in which a codeword is counted on its lane, and the frames that it touches are noted. -/
def State.touched (s : State) (n pos high : Nat) : State :=
  (s.laneCount n 5).setLane n fun l => { l with rxPos := pos, rxHigh := high }

theorem State.lane_touched (s : State) (n pos high : Nat) :
    (s.touched n pos high).lane n = { s.lane n with rxPos := pos, rxHigh := high } :=
  (State.lane_setLane _ _ _ _).trans (if_pos rfl)

theorem State.codewords_touched (s : State) (n pos high : Nat) :
    (s.touched n pos high).codewords n = (s.codewords n + 1) % 2 ^ 64 := s.codewords_laneCount n

section
variable {s : State} {n : Nat} (ha : s.asuneLane n = true) (hi : s.rxIgnored n = false) (hd : (s.lane n).down = false)

theorem State.codeword_ignored (h : s.asuneLane n = false ∨ s.rxIgnored n = true) (k : Nat) : s.codeword n k = s := by
  unfold State.codeword
  rcases h with h | h <;> simp [h]

include ha hi hd

/-- The first codeword asks for a replay of the first frame that it discards. -/
theorem State.codeword_first (hr : (s.lane n).req = none) (h0 : (s.lane n).attempts = 0) (k : Nat) :
    s.codeword n k
      = (s.touched n (((s.lane n).rxNum + k) % 2 ^ 32) (((s.lane n).rxNum + k) % 2 ^ 32)).requestReplay n 1 := by
  have hlane : (s.laneCount n 5).lane n = s.lane n := rfl
  unfold State.codeword State.damaged
  simp only [ha, hi, hlane, hr, hd, h0, Bool.not_true, Bool.or_self, Bool.false_eq_true, if_false, Option.isSome_none,
    if_true]
  rfl

/-- While a request stands, the frames touched are among those that it discards. -/
theorem State.codeword_standing (hr : (s.lane n).req.isSome = true) (k : Nat) :
    ∃ high, s.codeword n k = s.touched n (((s.lane n).rxPos + k) % 2 ^ 32) high := by
  have hlane : (s.laneCount n 5).lane n = s.lane n := rfl
  unfold State.codeword State.damaged
  simp only [ha, hi, hlane, hr, hd, Bool.not_true, Bool.or_false, Bool.or_true, Bool.false_eq_true, if_false, if_true]
  exact ⟨_, rfl⟩
end

/-! ## A lane is declared down (06 R156; 08 R230) -/

/-- A state in which a lane has moved: its optical state, a free value and a posted item. -/
def State.onlyMoves (s t : State) : Prop := t = { s with opt := t.opt, free := t.free, host := t.host }

theorem State.onlyMoves_trans {s t u : State} (h : s.onlyMoves t) (g : t.onlyMoves u) : s.onlyMoves u := by
  unfold State.onlyMoves at *
  rw [g, h]

theorem State.onlyMoves_setOpt (s : State) (n : Nat) (f : OptLane → OptLane) : s.onlyMoves (s.setOpt n f) := rfl

theorem State.onlyMoves_laneItem (s : State) (n : Nat) (old : LaneSt) : s.onlyMoves (s.laneItem n old) := by
  unfold State.laneItem State.laneItemOf State.itemWord State.leItem State.onlyMoves
  dsimp only
  rcases s.heats_spec n with h | h <;> rw [h] <;> rfl

theorem State.onlyMoves_moveLane (s : State) (n : Nat) (st : LaneSt) (c : Option Nat) : s.onlyMoves (s.moveLane n st c) := by
  unfold State.moveLane
  dsimp only
  split
  · exact State.onlyMoves_trans (s.onlyMoves_setOpt n _) (State.onlyMoves_laneItem _ n _)
  · exact s.onlyMoves_setOpt n _

/-- No count of an engine's lane stands in the register of a lane's replays. -/
theorem State.reg_stnLaneRpl_bump_leLaneCnt (s : State) (hi lo k : Nat) {n : Nat} (hn : n < 1024) :
    (s.bump .leLaneCnt n hi lo k).reg .stnLaneRpl n = s.reg .stnLaneRpl n := by
  refine s.reg_bump_other .leLaneCnt n hi lo k .stnLaneRpl n ?_
  simp only [RegKind.off, RegKind.row]
  omega

/-- A lane that goes to FAILED is counted (08 R233). -/
theorem State.laneFailed_eq (s : State) (n c : Nat) :
    ∃ v, s.onlyMoves v ∧ s.laneFailed n c = v.bump .leLaneCnt n 7 0 1 :=
  ⟨_, State.onlyMoves_trans (s.onlyMoves_setOpt n _) (State.onlyMoves_moveLane _ n .failed (some c)), rfl⟩

/-- A lane that goes to training, or to FAILED: of the registers only the count of its failures changes. -/
theorem State.laneToTrain_spec (s : State) (n : Nat) {c : Nat} (hc : c ≠ 11) {t : State} (ht : t = s.laneToTrain n c) :
    t = { s with opt := t.opt, free := t.free, host := t.host, regs := t.regs }
      ∧ (n < 1024 → t.reg .stnLaneRpl n = s.reg .stnLaneRpl n) := by
  have hmoves : ∀ v, s.onlyMoves v → v = { s with opt := v.opt, free := v.free, host := v.host, regs := v.regs }
      ∧ v.reg .stnLaneRpl n = s.reg .stnLaneRpl n := fun v hv => by rw [hv]; exact ⟨rfl, rfl⟩
  have htrain : ∀ f, s.onlyMoves ((s.setOpt n f).moveLane n .train (some c)) := fun f =>
    State.onlyMoves_trans (s.onlyMoves_setOpt n f) (State.onlyMoves_moveLane _ n .train (some c))
  subst ht
  unfold State.laneToTrain
  simp only [hc, decide_false, Bool.and_false, Bool.false_eq_true, if_false]
  split
  · exact ⟨rfl, fun _ => rfl⟩
  · split
    · obtain ⟨v, hv, heq⟩ := State.laneFailed_eq ((s.setOpt n _).moveLane n .train (some c)) n 7
      obtain ⟨hframe, hreg⟩ := hmoves v (State.onlyMoves_trans (htrain _) hv)
      rw [heq]
      refine ⟨?_, fun hn => (v.reg_stnLaneRpl_bump_leLaneCnt 7 0 1 hn).trans hreg⟩
      rw [hframe]
      rfl
    · exact ⟨(hmoves _ (htrain _)).1, fun _ => (hmoves _ (htrain _)).2⟩

/-- A lane that is declared down sends no new frames; it is counted, and reported (06 R156). -/
theorem State.declareDown_spec {s : State} {n : Nat} (hd : (s.lane n).down = false) {t : State} (ht : t = s.declareDown n) :
    t.lane n = { s.lane n with down := true, stopped := true } ∧ (∀ m, m ≠ n → t.lane m = s.lane m)
      ∧ t.out = s.out ++ [.event .laneDown [n]] ∧ t.net = s.net ∧ t.q = s.q ∧ t.pending = s.pending
      ∧ (n < 1024 → t.fld .stnLaneRpl n 7 0 = Nat.min 255 (s.fld .stnLaneRpl n 7 0 + 1)) := by
  obtain ⟨v, hv⟩ : ∃ v, v = (s.setLane n fun l => { l with down := true, stopped := true }).bump .stnLaneRpl n 7 0 1 :=
    ⟨_, rfl⟩
  obtain ⟨w, hw⟩ : ∃ w, w = v.laneToTrain n 7 := ⟨_, rfl⟩
  have heq : t = w.raise .laneDown [n] := by
    unfold State.declareDown at ht
    rw [ht, if_neg (by simp [hd]), hw, hv]
  obtain ⟨hframe, hreg⟩ := v.laneToTrain_spec n (by decide) hw
  have hlane : ∀ m, t.lane m = if m = n then { s.lane n with down := true, stopped := true } else s.lane m := fun m => by
    rw [heq, hframe, hv]
    exact State.lane_setLane s n m _
  refine ⟨(hlane n).trans (if_pos rfl), fun m hm => (hlane m).trans (if_neg hm), ?_, ?_, ?_, ?_, fun hn => ?_⟩
  · rw [heq, hframe, hv]; rfl
  · rw [heq, hframe, hv]; rfl
  · rw [heq, hframe, hv]; rfl
  · rw [heq, hframe, hv]; rfl
  · have hfld : t.fld .stnLaneRpl n 7 0 = v.fld .stnLaneRpl n 7 0 := by
      rw [heq]; exact congrArg (bits · 7 0) (hreg hn)
    rw [hfld, hv]
    exact State.fld_bump _ _ _ _ _ (by decide)

/-- A request with attempts and beats left makes one more attempt. -/
theorem State.nextAttempt_requests {s : State} {n : Nat} (ha : (s.lane n).attempts < 4)
    (hb : s.beat.bc < (s.lane n).firstAt + 8) : s.nextAttempt n = s.requestReplay n ((s.lane n).attempts + 1) := by
  unfold State.nextAttempt
  simp only [Nat.not_le.2 ha, Nat.not_le.2 hb, decide_false, Bool.or_self, Bool.false_eq_true, if_false]

theorem State.nextAttempt_down {s : State} {n : Nat} (ha : (s.lane n).attempts = 4) : s.nextAttempt n = s.declareDown n := by
  unfold State.nextAttempt
  simp only [ha, Nat.le_refl, decide_true, Bool.true_or, if_true]

section
variable {s : State} {n : Nat}

/-- No replay runs on a lane that is down, or has made no attempt. -/
theorem State.retryTimeout_idle (h : (s.lane n).down = true ∨ (s.lane n).attempts = 0) : s.retryTimeout n = s := by
  unfold State.retryTimeout
  rcases h with h | h <;> simp [h]

variable (hd : (s.lane n).down = false) (h0 : (s.lane n).attempts ≠ 0)
include hd h0

/-- A request that has waited 2 beats makes its next attempt. -/
theorem State.retryTimeout_request (hr : (s.lane n).req.isSome = true) (h2 : (s.lane n).lastAt + 2 ≤ s.beat.bc) :
    s.retryTimeout n = s.nextAttempt n := by
  unfold State.retryTimeout
  simp [hd, h0, hr, h2]

/-- A replay that has not come clean for 8 beats takes the lane down. -/
theorem State.retryTimeout_unclean (hr : (s.lane n).req = none) (h8 : (s.lane n).firstAt + 8 ≤ s.beat.bc) :
    s.retryTimeout n = s.declareDown n := by
  unfold State.retryTimeout
  simp [hd, h0, hr, h8]
end

end Sys2Proof.Machine

/-! ## A replay request and a start that arrive (06 R155) -/

namespace Sys2Proof.Machine

theorem State.laneUp_of_asuneLane {s : State} {n : Nat} (h : s.asuneLane n = true) : s.laneUp n = true :=
  (Bool.and_eq_true_iff.1 h).1

/-- The state in which a replay is counted and waits for its lane. -/
def State.replayNoted (s : State) (n frame : Nat) : State :=
  ((s.bump .stnLaneRpl n 47 32 1).setLane n fun l => { l with asked := some frame }).c7Break n

theorem State.lane_replayNoted (s : State) (n frame m : Nat) :
    (s.replayNoted n frame).lane m = if m = n then { s.lane n with asked := some frame } else s.lane m :=
  State.lane_setLane (s.bump .stnLaneRpl n 47 32 1) n m _

theorem State.fld_replayNoted (s : State) (n frame : Nat) :
    (s.replayNoted n frame).fld .stnLaneRpl n 47 32 = Nat.min 65535 (s.fld .stnLaneRpl n 47 32 + 1) :=
  s.fld_bump .stnLaneRpl n 32 1 (hi := 47) (by decide)

theorem State.fld_replayNoted_lost (s : State) (n frame : Nat) :
    (s.replayNoted n frame).fld .stnLaneRpl n 19 8 = s.fld .stnLaneRpl n 19 8 :=
  s.fld_bump_other .stnLaneRpl n 1 (.inr (by decide))

section
variable {s : State} {n : Nat} (frame : Nat)

theorem State.replayRequested_other (ha : s.asuneLane n = false) : s.replayRequested n frame = s := by
  simp [State.replayRequested, ha]

theorem State.replayRequested_eq (ha : s.asuneLane n = true) :
    s.replayRequested n frame = (s.replayNoted n frame).startNext n := by
  simp only [State.replayRequested, ha, Bool.not_true, Bool.false_eq_true, if_false]
  rfl

/-- While a frame is in progress, or the direction is bypassed, the replay waits. -/
theorem State.replayRequested_waits (ha : s.asuneLane n = true) (hw : (s.lane n).now ≠ .idle ∨ s.txBypassed n = true) :
    s.replayRequested n frame = s.replayNoted n frame := by
  have hbyp : (s.replayNoted n frame).txBypassed n = s.txBypassed n := rfl
  rw [State.replayRequested_eq frame ha, State.startNext_eq]
  refine if_pos ?_
  rw [State.lane_replayNoted, if_pos rfl, hbyp]
  rcases hw with h | h <;> simp [h]
end

end Sys2Proof.Machine

/-! ## A replay that starts at once, and a hand-over (06 R155, R157) -/

namespace Sys2Proof.Machine

theorem length_beBytes (n v : Nat) : (beBytes n v).length = n := by
  simp [beBytes]

/-- A LINK_REPLAY frame carries 16 bytes (06 R154). -/
theorem hopOut_replayPay (n kind pos attempt frame : Nat) :
    hopOut n opLinkReplay (replayPay kind pos attempt frame)
      = .hop n (fitBytes 256 (Hdr.bytes { op := opLinkReplay, len := 16 } ++ replayPay kind pos attempt frame)) := by
  have hlen : (replayPay kind pos attempt frame).length = 16 := by simp [replayPay, wordBytes, length_beBytes]
  rw [hopOut, hlen]

theorem sdiff_mod_self (n a : Nat) : sdiff n a (a % 2 ^ n) = 0 := by
  simp [sdiff, toSigned]

theorem State.fld_lt (s : State) (k : RegKind) (i hi lo : Nat) : s.fld k i hi lo < 2 ^ (hi + 1 - lo) :=
  Nat.mod_lt _ (Nat.two_pow_pos _)

section
variable {s : State} {n frame : Nat} (ha : s.asuneLane n = true) (hnow : (s.lane n).now = .idle)
  (hb : s.txBypassed n = false) (hh : (s.lane n).hops = [])
include ha hnow hb hh

/-- On a lane that sends nothing, on which no hop-local frame waits, the replay goes out at once. -/
theorem State.replayRequested_goes : s.replayRequested n frame
    = (((s.replayNoted n frame).setLane n fun l => { l with hops := [] }).replayFrom n frame).beginWaiting n := by
  have hlane : (s.replayNoted n frame).lane n = { s.lane n with asked := some frame } :=
    (s.lane_replayNoted n frame n).trans (if_pos rfl)
  have hgo : ¬ (((s.replayNoted n frame).lane n).now ≠ .idle || (s.replayNoted n frame).txBypassed n
      || !(s.replayNoted n frame).laneUp n) = true := by
    have hbyp : (s.replayNoted n frame).txBypassed n = false := hb
    have hup : s.laneUp n = true := State.laneUp_of_asuneLane ha
    have hup' : (s.replayNoted n frame).laneUp n = true := hup
    simp [hlane, hnow, hbyp, hup']
  have hflush : (s.replayNoted n frame).flushHops n = (s.replayNoted n frame).setLane n fun l => { l with hops := [] } :=
    State.flushHops_nil (by rw [hlane]; exact hh)
  have hasked : (((s.replayNoted n frame).setLane n fun l => { l with hops := [] }).lane n).asked = some frame := by
    rw [State.lane_setLane, if_pos rfl, hlane]
  rw [State.replayRequested_eq frame ha, State.startNext_eq, if_neg hgo, hflush, hasked]

/-- A request for a held frame is answered with a start that names it, and with the held frames from it on. -/
theorem State.replayRequested_held (hf : frame < 2 ^ 32) (hheld : ∃ h ∈ (s.lane n).replay, h.num = frame) {t : State}
    (ht : t = s.replayRequested n frame) :
    t.out = s.out ++ hopOut n opLinkReplay (replayPay 2 0 0 frame)
        :: ((s.lane n).replay.dropWhile (fun h => h.num ≠ frame)).map (fun h => .frame n h.bytes)
      ∧ t.fld .stnLaneRpl n 47 32 = Nat.min 65535 (s.fld .stnLaneRpl n 47 32 + 1)
      ∧ t.fld .stnLaneRpl n 19 8 = s.fld .stnLaneRpl n 19 8
      ∧ (t.lane n).txNum = (s.lane n).txNum ∧ (t.lane n).asked = none ∧ (∀ m, m ≠ n → t.lane m = s.lane m)
      ∧ t.q = s.q ∧ t.net = s.net := by
  obtain ⟨w, hw⟩ : ∃ w, w = (s.replayNoted n frame).setLane n fun l => { l with hops := [] } := ⟨_, rfl⟩
  have hgoes : s.replayRequested n frame = (w.replayFrom n frame).beginWaiting n := by
    rw [hw, State.replayRequested_goes ha hnow hb hh]
  have hlane : ∀ m, w.lane m = if m = n then { s.lane n with asked := some frame, hops := [] } else s.lane m := fun m => by
    rw [hw, State.lane_setLane, State.lane_replayNoted, State.lane_replayNoted, if_pos rfl]
    split <;> rfl
  have hwn : w.lane n = { s.lane n with asked := some frame, hops := [] } := (hlane n).trans (if_pos rfl)
  obtain ⟨hsent, hstart⟩ := Lane.sentAgain_held (l := w.lane n) hf (by rw [hwn]; exact hheld)
  obtain ⟨v, hputs, hreplay⟩ := w.replayFrom_spec n frame
  obtain ⟨hframe, hvn, hvm, -⟩ := hputs
  rw [hsent, hstart, hwn] at hframe
  rw [hstart, sdiff_mod_self] at hreplay
  obtain ⟨⟨honly, hnowOnly⟩, hother⟩ := (w.replayFrom n frame).beginWaiting_spec n
  rw [← hgoes, ← ht, hreplay] at honly hnowOnly hother
  have hbegun : ∀ m, (w.replayBegun n frame).lane m = if m = n then { w.lane n with
      asked := none
      left := (w.lane n).left + (((w.lane n).sentAgain frame).map fun h => laneBytes h.bytes.length).sum } else w.lane m :=
    fun m => State.lane_setLane _ _ _ _
  have hlast : t.lane n = { v.lane n with now := (t.lane n).now } := hnowOnly
  have hregs : v.regs = (s.replayNoted n frame).regs := by rw [hframe, State.replayBegun, hw]; rfl
  have hfld : ∀ hi lo, v.fld .stnLaneRpl n hi lo = (s.replayNoted n frame).fld .stnLaneRpl n hi lo := fun hi lo => by
    rw [State.fld, State.reg, hregs]; rfl
  refine ⟨?out, ?requests, ?lost, ?txNum, ?asked, ?others, ?q, ?net⟩
  case out => rw [honly, State.bump_out, hframe, hw]; rfl
  case requests =>
    have hbump := v.fld_bump_other .stnLaneRpl n 0 (hi := 19) (lo := 8) (hi' := 47) (lo' := 32) (.inl (by decide))
    rw [← s.fld_replayNoted n frame, ← hfld, ← hbump, honly]
    rfl
  case lost =>
    have hbump := v.fld_bump .stnLaneRpl n 8 0 (hi := 19) (by decide)
    have hlt := s.fld_lt .stnLaneRpl n 19 8
    rw [hfld, s.fld_replayNoted_lost, Nat.add_zero] at hbump
    rw [honly]
    exact hbump.trans (Nat.min_eq_right (by omega))
  case txNum =>
    rw [hlast, hvn, hbegun, if_pos rfl, hwn]
  case asked =>
    rw [hlast, hvn, hbegun, if_pos rfl]
  case others =>
    intro m hm
    calc t.lane m = v.lane m := hother m hm
      _ = w.lane m := (hvm m hm).trans ((hbegun m).trans (if_neg hm))
      _ = s.lane m := (hlane m).trans (if_neg hm)
  case q => rw [honly, State.bump_q, hframe, State.replayBegun, hw]; rfl
  case net => rw [honly, State.bump_net, hframe, State.replayBegun, hw]; rfl
end

/-! ### A start that arrives -/

theorem State.startReceived_none {s : State} {n : Nat} (h : (s.lane n).req = none) (frame : Nat) :
    s.startReceived n frame = s := by
  unfold State.startReceived
  simp only [h]

/-- A start ends the request: frames are accepted from the one named, and those between the two are lost. -/
theorem State.startReceived_some {s : State} {n frame f : Nat} (hf : frame < 2 ^ 32) (h : (s.lane n).req = some f) :
    s.startReceived n frame = (s.setLane n fun l => { l with req := none, rxNum := frame }.settle).bump .stnLaneRpl n 19 8
      (sdiff 32 frame f).toNat := by
  unfold State.startReceived
  simp only [h, Nat.mod_eq_of_lt hf]

/-! ### Frames handed over that find no lane (06 R157) -/

/-- One frame of those handed over on a port: a lane takes it, or it waits. -/
def State.resendOne (p : Nat) (x : State × List (Nat × List Byte)) (f : Nat × List Byte) :
    State × List (Nat × List Byte) :=
  if x.2.any fun g => (Hdr.ofBytes g.2).cls = (Hdr.ofBytes f.2).cls then (x.1, x.2 ++ [f])
  else
    let (ns, s) := x.1.startable (x.1.eligible p (Hdr.ofBytes f.2).cls (tilesOf f.2.length))
    match s.fewest ns with
    | (some n, s) => ((s.setLane n fun l => { l with ahead := l.ahead ++ [f] }).begin n .ahead, x.2)
    | (none, s) => (s, x.2 ++ [f])

/-- The state in which the frames handed over on a port have gone as far as its lanes take them. -/
def State.resendAll (s : State) (p : Nat) : State :=
  let x := (SMap.get [] s.lnk.resend p).foldl (State.resendOne p) (s, [])
  { x.1 with lnk := { x.1.lnk with resend := SMap.set [] x.1.lnk.resend p x.2 } }

theorem State.takeResend_some {s : State} {p : Nat} (h : SMap.get [] s.lnk.resend p ≠ []) :
    s.takeResend p = s.resendAll p := by
  unfold State.takeResend
  split
  · contradiction
  · rfl

section
variable {s : State} {p : Nat} (hg : s.goodLanes p = [])
include hg

theorem State.resendOne_noLane (stay : List (Nat × List Byte)) (f : Nat × List Byte) :
    State.resendOne p (s, stay) f = (s, stay ++ [f]) := by
  have hnone : ∀ c k, s.eligible p c k = [] := fun c k => by rw [State.eligible, hg]; rfl
  have hstart : s.startable [] = ([], s) := rfl
  have hpick : s.fewest [] = (none, s) := rfl
  unfold State.resendOne
  simp only [hnone, hstart, hpick, ite_self]

theorem State.foldl_resendOne_noLane (fs stay : List (Nat × List Byte)) :
    fs.foldl (State.resendOne p) (s, stay) = (s, stay ++ fs) := by
  induction fs generalizing stay with
  | nil => simp
  | cons f fs ih => rw [List.foldl_cons, State.resendOne_noLane hg, ih, List.append_assoc]; rfl

/-- Where no lane of the port is good, the frames handed over wait. -/
theorem State.takeResend_noLane : ∃ r, s.takeResend p = { s with lnk := { s.lnk with resend := r } }
    ∧ SMap.get [] r p = SMap.get [] s.lnk.resend p := by
  by_cases h : SMap.get [] s.lnk.resend p = []
  · exact ⟨s.lnk.resend, State.takeResend_none h, rfl⟩
  · rw [State.takeResend_some h, State.resendAll, State.foldl_resendOne_noLane hg]
    exact ⟨_, rfl, SMap.get_set_same _ _ _ _⟩
end

/-! ### A hand-over that arrives -/

/-- The held frames after the last one that the neighbour accepted, each with the lane it comes from. -/
def Lane.unaccepted (l : Lane) (n frame : Nat) : List (Nat × List Byte) :=
  (l.replay.filter fun h => decide (0 < sdiff 32 h.num frame)).map fun h => (n, h.bytes)

/-- A lane whose frames have been handed over to its port. -/
def Lane.handedOver (l : Lane) : Lane := { l with awaitHand := false, handed := none, replay := [] }

/-- The state in which a lane's frames have been handed over to its port. -/
def State.handed (s : State) (p n frame lost : Nat) : State :=
  let v := (s.setLane n Lane.handedOver).bump .stnLaneRpl n 19 8 lost
  { v with lnk := { v.lnk with resend := SMap.upd [] v.lnk.resend p (· ++ (s.lane n).unaccepted n frame) } }

theorem State.handRest_eq (s : State) (p n frame : Nat) :
    ∃ lost, s.handRest p n frame = (s.handed p n frame lost).takeResend p := ⟨_, rfl⟩

theorem State.lane_handed (s : State) (p n frame lost m : Nat) :
    (s.handed p n frame lost).lane m
      = if m = n then (s.lane n).handedOver else s.lane m :=
  State.lane_setLane s n m Lane.handedOver

theorem State.resend_handed {s : State} {p : Nat} (hr : SMap.get [] s.lnk.resend p = []) (n frame lost : Nat) :
    SMap.get [] (s.handed p n frame lost).lnk.resend p = (s.lane n).unaccepted n frame := by
  have hupd := SMap.get_upd_same [] s.lnk.resend p (· ++ (s.lane n).unaccepted n frame)
  rw [hr, List.nil_append] at hupd
  exact hupd

/-- A hand-over leaves the lanes of a port and what they may carry. -/
theorem State.goodLanes_handed (s : State) (p n frame lost : Nat) :
    (s.handed p n frame lost).goodLanes p = s.goodLanes p := by
  have hport : (s.handed p n frame lost).reg .stnPort p = s.reg .stnPort p := by
    refine State.reg_bump_other (s.setLane n _) .stnLaneRpl n 19 8 lost .stnPort p ?_
    simp only [RegKind.off, RegKind.row]
    omega
  have hlanes : (s.handed p n frame lost).portLanes p = s.portLanes p := by
    rw [State.portLanes, State.portLanes, State.portWidth, State.portWidth, State.fld, State.fld, hport]
  have hstop : ∀ m, ((s.handed p n frame lost).lane m).stopped = (s.lane m).stopped := fun m => by
    rw [State.lane_handed]
    split
    · next h => rw [h]; rfl
    · rfl
  rw [State.goodLanes, State.goodLanes, hlanes]
  refine List.filter_congr fun m _ => ?_
  rw [hstop]
  rfl

/-- Where no lane of the port is good, the frames that the neighbour did not accept wait, and nothing goes out. -/
theorem State.handRest_noLane {s : State} {p n frame : Nat} (hr : SMap.get [] s.lnk.resend p = [])
    (hg : s.goodLanes p = []) {t : State} (ht : t = s.handRest p n frame) :
    t.lane n = (s.lane n).handedOver
      ∧ (∀ m, m ≠ n → t.lane m = s.lane m) ∧ SMap.get [] t.lnk.resend p = (s.lane n).unaccepted n frame
      ∧ t = { s with lnk := t.lnk, regs := t.regs } := by
  obtain ⟨lost, heq⟩ := s.handRest_eq p n frame
  obtain ⟨w, hw⟩ : ∃ w, w = s.handed p n frame lost := ⟨_, rfl⟩
  have hgood : w.goodLanes p = [] := by rw [hw, s.goodLanes_handed, hg]
  have hframe : w = { s with lnk := w.lnk, regs := w.regs } := by rw [hw]; rfl
  obtain ⟨r, htake, hget⟩ := State.takeResend_noLane hgood
  rw [heq, ← hw, htake] at ht
  have hlane : ∀ m, t.lane m = (s.handed p n frame lost).lane m := fun m => by rw [ht, ← hw]; rfl
  refine ⟨?_, fun m hm => ?_, ?_, ?_⟩
  · rw [hlane, State.lane_handed, if_pos rfl]
  · rw [hlane, State.lane_handed, if_neg hm]
  · rw [ht]
    exact hget.trans (by rw [hw, State.resend_handed hr])
  · rw [ht, hframe]

section
variable {s : State} {n pos p : Nat} (frame : Nat) (hp : s.portOf n = some p) (ha : s.asuneLane n = true)
  (hw : pos < s.portWidth p)
include hp ha hw

theorem State.handReceived_eq : s.handReceived n pos frame
    = if (s.lane (p + pos)).awaitHand then (s.c7Break n).handRest p (p + pos) frame
      else if s.laneUp (p + pos) then
        ((s.c7Break n).declareDown (p + pos)).setLane (p + pos) fun l => { l with handed := some frame }
      else s := by
  unfold State.handReceived
  simp only [hp, ha, hw, decide_true, Bool.and_self, Bool.not_true, Bool.false_eq_true, if_false]
end

end Sys2Proof.Machine

/-! ## Replay and hand-over, as commands (06 R151 to R157; 09 R260) -/

namespace Sys2Proof.Machine

/-- On a live part a well-formed command answers the state of its meaning, with the queue as it was. -/
theorem run_live_state {i : Instr} {s u : State} {f : State → State} (h : i.wellFormed = true) (hl : s.live = true)
    (hu : u = f s) : run i s f = .next { u with pending := s.pending } := by
  rw [run_live h hl, State.act, hu]

section
variable {s : State} {n : Nat} (hl : s.live = true) (hn : n < 1024)
include hl hn

theorem exec_uncorrectableCodeword_first {k : Nat} (ha : s.asuneLane n = true) (hi : s.rxIgnored n = false)
    (hd : (s.lane n).down = false) (hr : (s.lane n).req = none) (h0 : (s.lane n).attempts = 0)
    (hb : s.txBypassed n = false) :
    ∃ t, exec (.uncorrectableCodeword ⟨n, k⟩) s = .next t
      ∧ (t.lane n).receiver = { req := some (s.lane n).rxNum, attempts := 1, firstAt := s.beat.bc, lastAt := s.beat.bc,
                                rxPos := ((s.lane n).rxNum + k) % 2 ^ 32 }
      ∧ t.fld .stnLaneRpl n 63 48 = Nat.min 65535 (s.fld .stnLaneRpl n 63 48 + 1)
      ∧ t.codewords n = (s.codewords n + 1) % 2 ^ 64
      ∧ hopOut n opLinkReplay (replayPay 1 0 1 (s.lane n).rxNum) ∈ t.out
      ∧ ((s.lane n).now ≠ .idle → .cut n ∈ t.out) ∧ t.net = s.net ∧ t.mem = s.mem := by
  obtain ⟨pos, hpos⟩ : ∃ pos, pos = ((s.lane n).rxNum + k) % 2 ^ 32 := ⟨_, rfl⟩
  obtain ⟨v, hv⟩ : ∃ v, v = s.touched n pos pos := ⟨_, rfl⟩
  obtain ⟨u, hu⟩ : ∃ u, u = s.codeword n k := ⟨_, rfl⟩
  have hask : u = v.requestReplay n 1 := by rw [hu, State.codeword_first ha hi hd hr h0, hv, hpos]
  obtain ⟨hsends, hhop, hcut⟩ := State.requestReplay_spec (a := 1) (by rw [hv]; exact hb) hask
  have hlane : v.lane n = { s.lane n with rxPos := pos, rxHigh := pos } := by rw [hv, s.lane_touched]
  rw [hlane] at hhop hcut
  rw [hr] at hhop
  refine ⟨_, run_live_state (i := .uncorrectableCodeword ⟨n, k⟩) (decide_eq_true hn) hl hu, hsends.receiver.trans ?_,
    hsends.requests.trans ?_, hsends.codewords.trans ?_, hhop, hcut, hsends.net.trans ?_, hsends.mem.trans ?_⟩
  · have hbeat : v.beat = s.beat := by rw [hv]; rfl
    rw [State.lane_requested, hlane, hr, hbeat, if_pos rfl, ← hpos]
    rfl
  · rw [v.fld_requested, hv]; rfl
  · rw [v.codewords_requested, hv, s.codewords_touched]
  · rw [v.net_requested, hv]; rfl
  · rw [v.mem_requested, hv]; rfl

theorem exec_uncorrectableCodeword_standing {k : Nat} (ha : s.asuneLane n = true) (hi : s.rxIgnored n = false)
    (hd : (s.lane n).down = false) (hr : (s.lane n).req.isSome = true) :
    ∃ t, exec (.uncorrectableCodeword ⟨n, k⟩) s = .next t ∧ (t.lane n).rxPos = ((s.lane n).rxPos + k) % 2 ^ 32
      ∧ (t.lane n).req = (s.lane n).req ∧ (t.lane n).attempts = (s.lane n).attempts
      ∧ t.codewords n = (s.codewords n + 1) % 2 ^ 64 ∧ t = { s with lnk := t.lnk, cnt := t.cnt } := by
  obtain ⟨high, hcode⟩ := State.codeword_standing ha hi hd hr k
  refine ⟨_, run_live_eq (i := .uncorrectableCodeword ⟨n, k⟩) (decide_eq_true hn) hl hcode rfl, ?_, ?_, ?_,
    s.codewords_touched n _ _, rfl⟩
  all_goals rw [s.lane_touched]

theorem exec_uncorrectableCodeword_ignored {k : Nat} (h : s.asuneLane n = false ∨ s.rxIgnored n = true) :
    exec (.uncorrectableCodeword ⟨n, k⟩) s = .next s :=
  run_live_eq (i := .uncorrectableCodeword ⟨n, k⟩) (decide_eq_true hn) hl (State.codeword_ignored h k) rfl

section
variable {frame attempt : Nat} (hf : frame < 2 ^ 32) (hatt : attempt < 65536)
include hf hatt

theorem exec_replayRequestReceived_held (ha : s.asuneLane n = true) (hnow : (s.lane n).now = .idle)
    (hb : s.txBypassed n = false) (hh : (s.lane n).hops = []) (hheld : ∃ h ∈ (s.lane n).replay, h.num = frame) :
    ∃ t, exec (.replayRequestReceived n frame attempt) s = .next t
      ∧ t.out = s.out ++ [hopOut n opLinkReplay (replayPay 2 0 0 frame)]
          ++ ((s.lane n).replay.dropWhile (fun h => h.num ≠ frame)).map (fun h => OutEv.frame n h.bytes)
      ∧ t.fld .stnLaneRpl n 47 32 = Nat.min 65535 (s.fld .stnLaneRpl n 47 32 + 1)
      ∧ t.fld .stnLaneRpl n 19 8 = s.fld .stnLaneRpl n 19 8
      ∧ (t.lane n).txNum = (s.lane n).txNum ∧ (t.lane n).asked = none ∧ (∀ m, m ≠ n → t.lane m = s.lane m)
      ∧ t.q = s.q ∧ t.net = s.net := by
  obtain ⟨u, hu⟩ : ∃ u, u = s.replayRequested n frame := ⟨_, rfl⟩
  obtain ⟨hout, hrest⟩ := State.replayRequested_held ha hnow hb hh hf hheld hu
  rw [List.append_assoc, List.singleton_append]
  exact ⟨_, run_live_state (i := .replayRequestReceived n frame attempt) (decide_eq_true ⟨hn, hf, hatt⟩) hl hu, hout, hrest⟩

theorem exec_replayRequestReceived_waits (ha : s.asuneLane n = true)
    (hw : (s.lane n).now ≠ .idle ∨ s.txBypassed n = true) :
    ∃ t, exec (.replayRequestReceived n frame attempt) s = .next t ∧ t.lane n = { s.lane n with asked := some frame }
      ∧ t.fld .stnLaneRpl n 47 32 = Nat.min 65535 (s.fld .stnLaneRpl n 47 32 + 1)
      ∧ (∀ m, m ≠ n → t.lane m = s.lane m) ∧ t.out = s.out ∧ t.q = s.q ∧ t.net = s.net :=
  ⟨_, run_live_eq (i := .replayRequestReceived n frame attempt) (decide_eq_true ⟨hn, hf, hatt⟩) hl
      (State.replayRequested_waits frame ha hw) rfl,
    (s.lane_replayNoted n frame n).trans (if_pos rfl), s.fld_replayNoted n frame,
    fun m hm => (s.lane_replayNoted n frame m).trans (if_neg hm), rfl, rfl, rfl⟩

theorem exec_replayRequestReceived_other (ha : s.asuneLane n = false) :
    exec (.replayRequestReceived n frame attempt) s = .next s :=
  run_live_eq (i := .replayRequestReceived n frame attempt) (decide_eq_true ⟨hn, hf, hatt⟩) hl
    (State.replayRequested_other frame ha) rfl

omit hatt

theorem exec_replayStartReceived_some {f : Nat} (hr : (s.lane n).req = some f) :
    ∃ t, exec (.replayStartReceived n frame) s = .next t
      ∧ t.lane n = { s.lane n with req := none, rxNum := frame }.settle
      ∧ t.fld .stnLaneRpl n 19 8 = Nat.min 4095 (s.fld .stnLaneRpl n 19 8 + (sdiff 32 frame f).toNat)
      ∧ (∀ m, m ≠ n → t.lane m = s.lane m) ∧ t.out = s.out ∧ t.net = s.net := by
  obtain ⟨v, hv⟩ : ∃ v, v = s.setLane n fun l => { l with req := none, rxNum := frame }.settle := ⟨_, rfl⟩
  have hlane : ∀ m, v.lane m = if m = n then { s.lane n with req := none, rxNum := frame }.settle else s.lane m :=
    fun m => by rw [hv, State.lane_setLane]
  have hstart := State.startReceived_some hf hr
  rw [← hv] at hstart
  have hlost := v.fld_bump .stnLaneRpl n 8 (sdiff 32 frame f).toNat (hi := 19) (by decide)
  refine ⟨_, run_live_eq (i := .replayStartReceived n frame) (decide_eq_true ⟨hn, hf⟩) hl hstart (by rw [hv]; rfl),
    (hlane n).trans (if_pos rfl), hlost.trans ?_, fun m hm => (hlane m).trans (if_neg hm), ?_, ?_⟩
  all_goals rw [hv]
  all_goals rfl

theorem exec_replayStartReceived_none (hr : (s.lane n).req = none) : exec (.replayStartReceived n frame) s = .next s :=
  run_live_eq (i := .replayStartReceived n frame) (decide_eq_true ⟨hn, hf⟩) hl (State.startReceived_none hr frame) rfl
end

theorem exec_replayRetryTimeout_idle (h : (s.lane n).down = true ∨ (s.lane n).attempts = 0) :
    exec (.replayRetryTimeout n) s = .next s :=
  run_live_eq (i := .replayRetryTimeout n) (decide_eq_true hn) hl (State.retryTimeout_idle h) rfl

section
variable (hd : (s.lane n).down = false) (h0 : (s.lane n).attempts ≠ 0)
include hd h0

theorem exec_replayRetryTimeout_down
    (h : (s.lane n).req.isSome = true ∧ (s.lane n).attempts = 4 ∧ (s.lane n).lastAt + 2 ≤ s.beat.bc
      ∨ (s.lane n).req = none ∧ (s.lane n).firstAt + 8 ≤ s.beat.bc) :
    ∃ t, exec (.replayRetryTimeout n) s = .next t ∧ (t.lane n).down = true ∧ (t.lane n).stopped = true
      ∧ t.fld .stnLaneRpl n 7 0 = Nat.min 255 (s.fld .stnLaneRpl n 7 0 + 1) ∧ .event .laneDown [n] ∈ t.out := by
  have hdown : s.retryTimeout n = s.declareDown n := by
    rcases h with ⟨hr, h4, h2⟩ | ⟨hr, h8⟩
    · rw [State.retryTimeout_request hd h0 hr h2, State.nextAttempt_down h4]
    · exact State.retryTimeout_unclean hd h0 hr h8
  obtain ⟨t, ht⟩ : ∃ t, t = s.declareDown n := ⟨_, rfl⟩
  obtain ⟨hlane, -, hout, -, -, hpend, hcount⟩ := State.declareDown_spec hd ht
  rw [← ht] at hdown
  refine ⟨t, run_live_eq (i := .replayRetryTimeout n) (decide_eq_true hn) hl hdown hpend, ?_, ?_, hcount hn, ?_⟩
  · rw [hlane]
  · rw [hlane]
  · rw [hout]; simp

theorem exec_replayRetryTimeout_again {f : Nat} (hr : (s.lane n).req = some f) (h4 : (s.lane n).attempts < 4)
    (h2 : (s.lane n).lastAt + 2 ≤ s.beat.bc) (h8 : s.beat.bc < (s.lane n).firstAt + 8) (hb : s.txBypassed n = false) :
    ∃ t, exec (.replayRetryTimeout n) s = .next t
      ∧ (t.lane n).receiver = { (s.lane n).receiver with attempts := (s.lane n).attempts + 1, lastAt := s.beat.bc }
      ∧ hopOut n opLinkReplay (replayPay 1 0 ((s.lane n).attempts + 1) f) ∈ t.out := by
  obtain ⟨u, hu⟩ : ∃ u, u = s.retryTimeout n := ⟨_, rfl⟩
  have hagain : u = s.requestReplay n ((s.lane n).attempts + 1) := by
    rw [hu, State.retryTimeout_request hd h0 (by rw [hr]; rfl) h2, State.nextAttempt_requests h4 h8]
  obtain ⟨hsends, hhop, -⟩ := State.requestReplay_spec hb hagain
  rw [hr] at hhop
  refine ⟨_, run_live_state (i := .replayRetryTimeout n) (decide_eq_true hn) hl hu, hsends.receiver.trans ?_, hhop⟩
  have hlater : ¬ (s.lane n).attempts + 1 = 1 := by omega
  rw [State.lane_requested, hr, if_neg hlater]
  simp only [Lane.receiver, hr, Option.getD_some]
end

section
variable {pos frame p : Nat} (hpos : pos < 8) (hf : frame < 2 ^ 32) (hp : s.portOf n = some p)
  (ha : s.asuneLane n = true) (hw : pos < s.portWidth p)
include hpos hf hp ha hw

theorem exec_handoverReceived_awaited (hawait : (s.lane (p + pos)).awaitHand = true)
    (hr : SMap.get [] s.lnk.resend p = []) (hg : s.goodLanes p = []) :
    ∃ t, exec (.handoverReceived n pos frame) s = .next t ∧ t.lane (p + pos) = (s.lane (p + pos)).handedOver
      ∧ SMap.get [] t.lnk.resend p = (s.lane (p + pos)).unaccepted (p + pos) frame
      ∧ (∀ k, k ≠ p + pos → t.lane k = s.lane k) ∧ t.out = s.out ∧ t.net = s.net ∧ t.q = s.q := by
  obtain ⟨t, ht⟩ : ∃ t, t = (s.c7Break n).handRest p (p + pos) frame := ⟨_, rfl⟩
  have hrest : s.handReceived n pos frame = t := by rw [State.handReceived_eq frame hp ha hw, if_pos hawait, ht]
  obtain ⟨hlane, hother, hresend, hframe⟩ := State.handRest_noLane (s := s.c7Break n) hr hg ht
  refine ⟨t, run_live_eq (i := .handoverReceived n pos frame) (decide_eq_true ⟨hn, hpos, hf⟩) hl hrest ?_, hlane, hresend,
    hother, ?_, ?_, ?_⟩
  all_goals rw [hframe]; rfl

theorem exec_handoverReceived_inService (hawait : (s.lane (p + pos)).awaitHand = false)
    (hup : s.laneUp (p + pos) = true) :
    ∃ t, exec (.handoverReceived n pos frame) s = .next t ∧ (t.lane (p + pos)).down = true
      ∧ (t.lane (p + pos)).handed = some frame ∧ (∀ k, k ≠ p + pos → t.lane k = s.lane k) ∧ t.net = s.net
      ∧ t.q = s.q := by
  obtain ⟨v, hv⟩ : ∃ v, v = (s.c7Break n).declareDown (p + pos) := ⟨_, rfl⟩
  have hdown : (v.lane (p + pos)).down = true ∧ (∀ k, k ≠ p + pos → v.lane k = s.lane k) ∧ v.net = s.net ∧ v.q = s.q
      ∧ v.pending = s.pending := by
    cases hd : (s.lane (p + pos)).down
    case false =>
      obtain ⟨hlane, hother, -, hnet, hq, hpend, -⟩ := State.declareDown_spec (s := s.c7Break n) hd hv
      exact ⟨by rw [hlane], hother, hnet, hq, hpend⟩
    case true =>
      have hstays : v = s.c7Break n := by
        unfold State.declareDown at hv
        exact hv.trans (if_pos hd)
      rw [hstays]
      exact ⟨hd, fun _ _ => rfl, rfl, rfl, rfl⟩
  obtain ⟨hdown, hother, hnet, hq, hpend⟩ := hdown
  have hnamed : s.handReceived n pos frame = v.setLane (p + pos) fun l => { l with handed := some frame } := by
    rw [State.handReceived_eq frame hp ha hw, hawait, if_neg Bool.false_ne_true, if_pos hup, hv]
  have hlane := fun m => v.lane_setLane (p + pos) m fun l => { l with handed := some frame }
  refine ⟨_, run_live_eq (i := .handoverReceived n pos frame) (decide_eq_true ⟨hn, hpos, hf⟩) hl hnamed hpend, ?_, ?_,
    fun k hk => ?_, hnet, hq⟩
  · rw [hlane, if_pos rfl]; exact hdown
  · rw [hlane, if_pos rfl]
  · rw [hlane, if_neg hk]; exact hother k hk

theorem exec_handoverReceived_other (hawait : (s.lane (p + pos)).awaitHand = false)
    (hup : s.laneUp (p + pos) = false) : exec (.handoverReceived n pos frame) s = .next s := by
  refine run_live_eq (i := .handoverReceived n pos frame) (decide_eq_true ⟨hn, hpos, hf⟩) hl ?_ rfl
  rw [State.handReceived_eq frame hp ha hw, hawait, hup, if_neg Bool.false_ne_true, if_neg Bool.false_ne_true]
end

end

/-- Settles O48: the codewords, requests, starts, retries and hand-overs of a lane, each by the lemma of its command. -/
theorem laneReplay : Obligations.LaneReplay := by
  intro s n hl hn
  simp only [← hopOut_replayPay]
  refine ⟨fun k ha hi hd => ⟨fun hr h0 hb => ?first, exec_uncorrectableCodeword_standing hl hn ha hi hd⟩,
    fun k => exec_uncorrectableCodeword_ignored hl hn,
    fun frame attempt hf hatt => ⟨exec_replayRequestReceived_held hl hn hf hatt,
      exec_replayRequestReceived_waits hl hn hf hatt, exec_replayRequestReceived_other hl hn hf hatt⟩,
    fun frame f hf => exec_replayStartReceived_some hl hn hf, fun frame hf => exec_replayStartReceived_none hl hn hf,
    exec_replayRetryTimeout_idle hl hn,
    fun hd h0 => ⟨exec_replayRetryTimeout_down hl hn hd h0, fun f hr h4 h2 h8 hb => ?again⟩,
    fun pos frame p m hpos hf hp ha hw hm => ?handover⟩
  case first =>
    obtain ⟨t, hexec, hrec, hrest⟩ := exec_uncorrectableCodeword_first (k := k) hl hn ha hi hd hr h0 hb
    exact ⟨t, hexec, congrArg (·.req) hrec, congrArg (·.attempts) hrec, congrArg (·.firstAt) hrec,
      congrArg (·.lastAt) hrec, congrArg (·.rxPos) hrec, hrest⟩
  case again =>
    obtain ⟨t, hexec, hrec, hhop⟩ := exec_replayRetryTimeout_again hl hn hd h0 hr h4 h2 h8 hb
    exact ⟨t, hexec, congrArg (·.attempts) hrec, (congrArg (·.req) hrec).trans hr, congrArg (·.lastAt) hrec,
      congrArg (·.firstAt) hrec, hhop⟩
  case handover =>
    subst hm
    refine ⟨fun hawait hr hg => ?_, exec_handoverReceived_inService hl hn hpos hf hp ha hw,
      exec_handoverReceived_other hl hn hpos hf hp ha hw⟩
    obtain ⟨t, hexec, hlane, hrest⟩ := exec_handoverReceived_awaited hl hn hpos hf hp ha hw hawait hr hg
    exact ⟨t, hexec, congrArg (·.awaitHand) hlane, congrArg (·.replay) hlane, hrest⟩

end Sys2Proof.Machine

/-! ## The credits of a lane (06 R157; 07 R187, R188) -/

namespace Sys2Proof.Machine

/-! ### A hop-local frame that goes at once, or waits (03 R627) -/

section
variable {s : State} {n : Nat} (op : Nat) (pay : List Byte)

/-- A hop-local frame that no copy is listed before, on a lane where no other waits, is put out. -/
theorem State.flushHops_one (h : (s.lane n).hops = [{ op := op, pay := pay }]) :
    s.flushHops n = (s.setLane n fun l => { l with hops := [] }).emitHop n op pay := by
  unfold State.flushHops
  rw [h]
  rfl

/-- A hop-local frame that goes out takes its lane time. -/
theorem State.lane_emitHop (s : State) (n op : Nat) (pay : List Byte) (m : Nat) :
    (s.emitHop n op pay).lane m = if m = n then (s.lane n).pass (laneBytes 256) else s.lane m := by
  obtain ⟨c, h⟩ := s.emitHop_spec n op pay
  rw [h]
  exact s.lane_setLane n m _

/-- A change of a lane is what it makes of the lane as it stands. -/
theorem State.setLane_congr {f g : Lane → Lane} (h : f (s.lane n) = g (s.lane n)) : s.setLane n f = s.setLane n g :=
  congrArg (fun l => { s with lnk := { s.lnk with lanes := SMap.set {} s.lnk.lanes n l } }) h

/-- On a lane that sends nothing and is not bypassed, where no hop-local frame waits, one that is to be sent goes at
once: it is listed and taken off the list, which leaves every lane as it was. -/
theorem State.sendHop_goes (hnow : (s.lane n).now = .idle) (hbyp : s.txBypassed n = false)
    (hhops : (s.lane n).hops = []) :
    ∃ u : State, s.sendHop n op pay = u.emitHop n op pay ∧ (∀ m, u.lane m = s.lane m) ∧ u = { s with lnk := u.lnk } := by
  obtain ⟨v, hv⟩ : ∃ v, v = s.setLane n fun l => { l with hops := [{ op := op, pay := pay }] } := ⟨_, rfl⟩
  have hlane : ∀ m, v.lane m = if m = n then { s.lane n with hops := [{ op := op, pay := pay }] } else s.lane m :=
    fun m => by rw [hv, State.lane_setLane]
  have hn : v.lane n = { s.lane n with hops := [{ op := op, pay := pay }] } := (hlane n).trans (if_pos rfl)
  have hlisted : (s.setLane n fun l => { l with hops := l.hops ++ [{ op := op, pay := pay }] }) = v := by
    rw [hv]
    exact State.setLane_congr (by rw [hhops]; rfl)
  have hgo : ¬ ((v.lane n).now ≠ .idle || v.txBypassed n) = true := by
    have hb : v.txBypassed n = false := by rw [hv]; exact hbyp
    simp [hn, hnow, hb]
  refine ⟨v.setLane n fun l => { l with hops := [] }, ?_, fun m => ?_, ?_⟩
  · rw [← State.flushHops_one op pay (by rw [hn])]
    unfold State.sendHop
    rw [hlisted]
    exact if_neg hgo
  · rw [State.lane_setLane, hn, hlane]
    by_cases hm : m = n
    · rw [if_pos hm, hm, ← hhops]
    · rw [if_neg hm, if_neg hm]
  · rw [hv]; rfl

/-- What such a sending leaves: the frame is put out, and the lane is as its lane time makes it. -/
theorem State.sendHop_goes_spec {t : State} (hnow : (s.lane n).now = .idle) (hbyp : s.txBypassed n = false)
    (hhops : (s.lane n).hops = []) (ht : t = s.sendHop n op pay) :
    t.lane n = (s.lane n).pass (laneBytes 256) ∧ (∀ m, m ≠ n → t.lane m = s.lane m)
      ∧ t = { s with lnk := t.lnk, cnt := t.cnt, out := s.out ++ [hopOut n op pay] } := by
  obtain ⟨u, hsend, hsame, hu⟩ := State.sendHop_goes op pay hnow hbyp hhops
  have hlane : ∀ m, t.lane m = if m = n then (s.lane n).pass (laneBytes 256) else s.lane m := fun m => by
    rw [ht, hsend, State.lane_emitHop, hsame, hsame]
  have hframe := (u.puts_emitHop n op pay).frame
  rw [← hsend, ← ht, hu] at hframe
  exact ⟨(hlane n).trans (if_pos rfl), fun m hm => (hlane m).trans (if_neg hm), hframe⟩

/-- Behind a frame in progress a hop-local frame waits. -/
theorem State.sendHop_waits (hnow : (s.lane n).now ≠ .idle) :
    s.sendHop n op pay = s.setLane n fun l => { l with hops := l.hops ++ [{ op := op, pay := pay }] } := by
  have hbusy : ((s.setLane n fun l => { l with hops := l.hops ++ [{ op := op, pay := pay }] }).lane n).now ≠ .idle := by
    rw [State.lane_setLane, if_pos rfl]; exact hnow
  unfold State.sendHop
  exact if_pos (by simp only [hbusy, ne_eq, not_false_eq_true, decide_true, Bool.true_or])
end

/-! ### A LINK_CREDIT frame that is due (07 R188) -/

/-- The payload of a LINK_CREDIT frame: the lane's grants. -/
def Lane.creditPay (l : Lane) : List Byte := wordBytes (at_ 32 l.g5 ||| at_ 0 l.g6) ++ wordBytes (at_ 32 l.g7)

/-- A lane whose grants are the last ones sent, in the beat that boundary `beat` began. -/
def Lane.credited (l : Lane) (beat : Nat) : Lane :=
  { l with l5 := l.g5, l6 := l.g6, l7 := l.g7, lAt := beat, lSent := true }

/-- A LINK_CREDIT frame carries 16 bytes (07 R188). -/
theorem hopOut_creditPay (n : Nat) (l : Lane) : hopOut n opLinkCredit l.creditPay
    = .hop n (fitBytes 256 (Hdr.bytes { op := opLinkCredit, len := 16 } ++ l.creditPay)) := by
  have hlen : l.creditPay.length = 16 := by simp [Lane.creditPay, wordBytes, length_beBytes]
  rw [hopOut, hlen]

section
variable {s : State} {n : Nat}

theorem State.sendCredit_early (h : s.creditDue n = false) : s.sendCredit n = s := by
  unfold State.sendCredit
  rw [h]
  rfl

theorem State.sendCredit_due (h : s.creditDue n = true) : s.sendCredit n
    = (s.setLane n fun l => l.credited s.beat.bc).sendHop n opLinkCredit (s.lane n).creditPay := by
  have hgo : ¬ (!s.creditDue n) = true := by simp [h]
  unfold State.sendCredit
  rw [if_neg hgo]
  rfl

/-- A LINK_CREDIT frame is due only on a lane that is switched in this beat (09 R250). -/
theorem State.txBypassed_of_creditDue (h : s.creditDue n = true) : s.txBypassed n = false := by
  unfold State.creditDue State.switched at h
  simp only [Bool.and_eq_true, Bool.not_eq_true'] at h
  obtain ⟨⟨⟨-, -, hsend⟩, -⟩, -⟩ := h
  exact hsend

theorem State.lane_credited (s : State) (n m : Nat) : (s.setLane n fun l => l.credited s.beat.bc).lane m
    = if m = n then (s.lane n).credited s.beat.bc else s.lane m :=
  s.lane_setLane n m _

theorem State.sendCredit_goes {t : State} (h : s.creditDue n = true) (hnow : (s.lane n).now = .idle)
    (hhops : (s.lane n).hops = []) (ht : t = s.sendCredit n) :
    t.lane n = ((s.lane n).credited s.beat.bc).pass (laneBytes 256) ∧ (∀ m, m ≠ n → t.lane m = s.lane m)
      ∧ t = { s with lnk := t.lnk, cnt := t.cnt, out := s.out ++ [hopOut n opLinkCredit (s.lane n).creditPay] } := by
  have hlane := s.lane_credited n
  have hn := (hlane n).trans (if_pos rfl)
  rw [State.sendCredit_due h] at ht
  have hbyp : (s.setLane n fun l => l.credited s.beat.bc).txBypassed n = false :=
    State.txBypassed_of_creditDue (s := s) h
  obtain ⟨htn, hother, hframe⟩ := State.sendHop_goes_spec _ _ (by rw [hn]; exact hnow) hbyp (by rw [hn]; exact hhops) ht
  exact ⟨htn.trans (by rw [hn]), fun m hm => (hother m hm).trans ((hlane m).trans (if_neg hm)), hframe⟩

theorem State.sendCredit_waits {t : State} (h : s.creditDue n = true) (hnow : (s.lane n).now ≠ .idle)
    (ht : t = s.sendCredit n) :
    t.lane n = { (s.lane n).credited s.beat.bc with
        hops := (s.lane n).hops ++ [{ op := opLinkCredit, pay := (s.lane n).creditPay }] }
      ∧ (∀ m, m ≠ n → t.lane m = s.lane m) ∧ t = { s with lnk := t.lnk } := by
  have hlane := s.lane_credited n
  have hn := (hlane n).trans (if_pos rfl)
  rw [State.sendCredit_due h, State.sendHop_waits _ _ (by rw [hn]; exact hnow)] at ht
  refine ⟨?_, fun m hm => ?_, by rw [ht]; rfl⟩
  · rw [ht, State.lane_setLane, if_pos rfl, hn]; rfl
  · rw [ht, State.lane_setLane, if_neg hm, hlane, if_neg hm]

/-! ### A LINK_CREDIT frame that arrives (06 R157; 07 R188) -/

/-- A frame handed over goes on a lane or waits; no command is queued. -/
theorem State.pending_resendOne (p : Nat) (x : State × List (Nat × List Byte)) (f : Nat × List Byte) :
    (State.resendOne p x f).1.pending = x.1.pending := by
  unfold State.resendOne
  split
  · rfl
  · rcases hns : x.1.startable (x.1.eligible p (Hdr.ofBytes f.2).cls (tilesOf f.2.length)) with ⟨ns, s1⟩
    rcases hpick : s1.fewest ns with ⟨n?, s2⟩
    have hdraw : s2.pending = x.1.pending := by rw [(State.picked_spec hns hpick).1]
    simp only [hpick]
    cases n? <;> exact hdraw

theorem State.pending_takeResend (s : State) (p : Nat) : (s.takeResend p).pending = s.pending := by
  by_cases h : SMap.get [] s.lnk.resend p = []
  · rw [State.takeResend_none h]
  · rw [State.takeResend_some h]
    exact List.foldlRecOn (motive := fun (x : State × List (Nat × List Byte)) => x.1.pending = s.pending) _ _ rfl
      fun x hx f _ => (State.pending_resendOne p x f).trans hx

theorem State.creditReceived_other {a b c : Nat} (h : s.asuneLane n = false) : s.creditReceived n a b c = s := by
  unfold State.creditReceived
  rw [h]
  rfl

theorem State.creditReceived_port {a b c p : Nat} (ha : a < 2 ^ 32) (hb : b < 2 ^ 32) (hc : c < 2 ^ 32)
    (h : s.asuneLane n = true) (hp : s.portOf n = some p) :
    s.creditReceived n a b c = (s.setLane n fun l => { l with ng5 := a, ng6 := b, ng7 := c }).takeResend p := by
  unfold State.creditReceived
  simp only [h, if_true, Nat.mod_eq_of_lt ha, Nat.mod_eq_of_lt hb, Nat.mod_eq_of_lt hc]
  have hport : (s.setLane n fun l => { l with ng5 := a, ng6 := b, ng7 := c }).portOf n = some p := hp
  rw [hport]
end

/-! ### As commands -/

section
variable {s : State} {n : Nat} (hl : s.live = true) (hn : n < 1024)
include hl hn

theorem exec_linkCreditSend_early (h : s.creditDue n = false) : exec (.linkCreditSend n) s = .next s :=
  run_live_eq (i := .linkCreditSend n) (decide_eq_true hn) hl (State.sendCredit_early h) rfl

theorem exec_linkCreditSend_goes (h : s.creditDue n = true) (hnow : (s.lane n).now = .idle)
    (hhops : (s.lane n).hops = []) :
    ∃ t, exec (.linkCreditSend n) s = .next t ∧ t.out = s.out ++ [hopOut n opLinkCredit (s.lane n).creditPay]
      ∧ t.lane n = ((s.lane n).credited s.beat.bc).pass (laneBytes 256) ∧ (∀ m, m ≠ n → t.lane m = s.lane m)
      ∧ t.net = s.net ∧ t.regs = s.regs := by
  obtain ⟨t, ht⟩ : ∃ t, t = s.sendCredit n := ⟨_, rfl⟩
  obtain ⟨hlane, hother, hframe⟩ := State.sendCredit_goes h hnow hhops ht
  have hpend : t.pending = s.pending := congrArg (·.pending) hframe
  exact ⟨t, run_live_eq (i := .linkCreditSend n) (decide_eq_true hn) hl ht.symm hpend, congrArg (·.out) hframe, hlane,
    hother, congrArg (·.net) hframe, congrArg (·.regs) hframe⟩

theorem exec_linkCreditSend_waits (h : s.creditDue n = true) (hnow : (s.lane n).now ≠ .idle) :
    ∃ t, exec (.linkCreditSend n) s = .next t ∧ t.lane n = { (s.lane n).credited s.beat.bc with
        hops := (s.lane n).hops ++ [{ op := opLinkCredit, pay := (s.lane n).creditPay }] }
      ∧ (∀ m, m ≠ n → t.lane m = s.lane m) ∧ t.out = s.out ∧ t.net = s.net ∧ t.regs = s.regs := by
  obtain ⟨t, ht⟩ : ∃ t, t = s.sendCredit n := ⟨_, rfl⟩
  obtain ⟨hlane, hother, hframe⟩ := State.sendCredit_waits h hnow ht
  have hpend : t.pending = s.pending := congrArg (·.pending) hframe
  exact ⟨t, run_live_eq (i := .linkCreditSend n) (decide_eq_true hn) hl ht.symm hpend, hlane, hother,
    congrArg (·.out) hframe, congrArg (·.net) hframe, congrArg (·.regs) hframe⟩

section
variable {a b c : Nat} (ha : a < 2 ^ 32) (hb : b < 2 ^ 32) (hc : c < 2 ^ 32)
include ha hb hc

theorem exec_linkCreditReceived_port {p : Nat} (h : s.asuneLane n = true) (hp : s.portOf n = some p) :
    exec (.linkCreditReceived n a b c) s
      = .next ((s.setLane n fun l => { l with ng5 := a, ng6 := b, ng7 := c }).takeResend p) :=
  run_live_eq (i := .linkCreditReceived n a b c) (decide_eq_true ⟨hn, ha, hb, hc⟩) hl
    (State.creditReceived_port ha hb hc h hp) (State.pending_takeResend _ p)

theorem exec_linkCreditReceived_other (h : s.asuneLane n = false) : exec (.linkCreditReceived n a b c) s = .next s :=
  run_live_eq (i := .linkCreditReceived n a b c) (decide_eq_true ⟨hn, ha, hb, hc⟩) hl (State.creditReceived_other h) rfl
end
end

/-- Settles O49: a LINK_CREDIT that is due is on a lane that is not bypassed, so it goes at once unless a frame is in
progress; grants that arrive let the frames handed over on the port try again. -/
theorem linkCredits : Obligations.LinkCredits := by
  intro s n hl hn
  refine ⟨exec_linkCreditSend_early hl hn, fun o l pay ho hlane hpay hdue => ?due,
    fun a b c ha hb hc => ⟨fun p h hp => ⟨exec_linkCreditReceived_port hl hn ha hb hc h hp, fun hr => ?nothingWaits⟩,
      exec_linkCreditReceived_other hl hn ha hb hc⟩⟩
  case due =>
    subst ho hlane hpay
    refine ⟨fun hnow hhops => ?_, exec_linkCreditSend_waits hl hn hdue⟩
    have hgoes := exec_linkCreditSend_goes hl hn hdue hnow hhops
    rw [hopOut_creditPay] at hgoes
    exact hgoes
  case nothingWaits =>
    have hnone : SMap.get [] (s.setLane n fun l => { l with ng5 := a, ng6 := b, ng7 := c }).lnk.resend p = [] := hr
    rw [exec_linkCreditReceived_port hl hn ha hb hc h hp, State.takeResend_none hnone]

end Sys2Proof.Machine

/-! ## What weevil's walks and checks touch (07 R200 to R202) -/

namespace Sys2Proof

theorem SMap.erase_subset {α : Type} (m : SMap α) (k : Nat) : SMap.erase m k ⊆ m := by
  induction m with
  | nil => exact List.Subset.refl _
  | cons e m ih =>
    obtain ⟨j, v⟩ := e
    unfold SMap.erase
    split
    · exact List.subset_cons_of_subset _ ih
    · exact List.cons_subset_cons _ ih

end Sys2Proof

namespace Sys2Proof.Machine

/-- The lists `is` are tended: of the buffers only their free lists change, and owner records of their buffers go; items
are posted, and no audit is counted. -/
structure State.Tends (is : List ListId) (s t : State) : Prop where
  frame : t = { s with regs := t.regs, host := t.host, buf := { s.buf with lists := t.buf.lists, own := t.buf.own } }
  audits : t.fld .bufWeevilStatus 0 63 32 = s.fld .bufWeevilStatus 0 63 32
  lists : ∀ k, (∀ i ∈ is, i.key ≠ k) → SMap.get none t.buf.lists k = SMap.get none s.buf.lists k
  own : t.buf.own ⊆ s.buf.own

theorem State.Tends.refl (is : List ListId) (s : State) : State.Tends is s s :=
  ⟨rfl, rfl, fun _ _ => rfl, List.Subset.refl _⟩

theorem State.Tends.trans {is : List ListId} {s t u : State} (h : State.Tends is s t) (g : State.Tends is t u) :
    State.Tends is s u := by
  refine ⟨?_, g.audits.trans h.audits, fun k hk => (g.lists k hk).trans (h.lists k hk), List.Subset.trans g.own h.own⟩
  rw [g.frame, h.frame]

theorem State.Tends.mono {is js : List ListId} {s t : State} (h : State.Tends is s t) (hsub : is ⊆ js) :
    State.Tends js s t :=
  ⟨h.frame, h.audits, fun k hk => h.lists k fun i hi => hk i (hsub hi), h.own⟩

/-- A walk whose every step tends its list tends the lists. -/
theorem State.tends_foldl {f : State → ListId → State} (h : ∀ s i, State.Tends [i] s (f s i)) (is : List ListId)
    (s : State) : State.Tends is s (is.foldl f s) :=
  List.foldlRecOn (motive := fun (t : State) => State.Tends is s t) _ _ (State.Tends.refl is s)
    fun t ht i hi => ht.trans ((h t i).mono (List.cons_subset.2 ⟨hi, List.nil_subset _⟩))

/-- A walk over the buffers of one list. -/
theorem State.tends_foldl_one {α : Type} {i : ListId} {f : State → α → State} (h : ∀ s a, State.Tends [i] s (f s a))
    (l : List α) (s : State) : State.Tends [i] s (l.foldl f s) :=
  List.foldlRecOn (motive := fun (t : State) => State.Tends [i] s t) _ _ (State.Tends.refl [i] s)
    fun t ht a _ => ht.trans (h t a)

theorem State.tends_setList (s : State) (i : ListId) (l : List Run) : State.Tends [i] s (s.setList i l) :=
  ⟨rfl, rfl, fun _ hk => SMap.get_set_other _ _ _ (Ne.symm (hk i List.mem_cons_self)), List.Subset.refl _⟩

/-! ### Items (07 R204, R213) -/

/-- An item of what was found is posted and counted. -/
theorem State.tends_weevilFinds (s : State) (is : List ListId) (type : Nat) (list : ListId) (owner : Option Nat)
    (more : Bool) (count reclaimed addr beat : Nat) :
    State.Tends is s (s.weevilFinds type list owner more count reclaimed addr beat) := by
  refine ⟨rfl, ?_, fun _ _ => rfl, List.Subset.refl _⟩
  unfold State.weevilFinds
  exact (State.fld_bump_other _ _ _ _ (.inl (by decide))).trans (State.fld_bump_other _ _ _ _ (.inl (by decide)))

/-! ### Buffers that go back to their list (07 R201, R202) -/

/-- A buffer of a record goes back: its record goes. -/
theorem State.tends_takeBack (s : State) (i : ListId) (b : Nat) : State.Tends [i] s (s.takeBack i b) := by
  have hrecord : State.Tends [i] s (s.setOwner (Buf.key ⟨i, b⟩) 0) :=
    ⟨rfl, rfl, fun _ _ => rfl, SMap.erase_subset s.buf.own _⟩
  exact hrecord.trans (State.tends_setList _ i _)

theorem State.tends_threadBack (s : State) (i : ListId) (l : List Run) : State.Tends [i] s (s.threadBack i l) := by
  unfold State.threadBack
  split
  · exact State.Tends.refl _ s
  · exact s.tends_setList i _

/-- A teardown check of a list (07 R202). -/
theorem State.tends_tearList (s : State) (p : Nat) (i : ListId) : State.Tends [i] s (s.tearList p i) := by
  unfold State.tearList
  split
  · exact State.Tends.refl _ s
  · exact (State.tends_foldl_one (fun s b => s.tends_takeBack i b) _ s).trans
      (State.tends_weevilFinds _ _ _ _ _ _ _ _ _ _)

/-! ### The walk of one list (07 R200, R201) -/

theorem State.tends_ownerFound (s : State) (i : ListId) (beat p : Nat) : State.Tends [i] s (s.ownerFound i beat p) := by
  unfold State.ownerFound
  split
  · exact State.Tends.refl _ s
  · refine State.Tends.trans ?_ (State.tends_weevilFinds _ _ _ _ _ _ _ _ _ _)
    split
    · exact State.tends_foldl_one (fun s b => s.tends_takeBack i b) _ s
    · exact State.Tends.refl _ s

theorem State.ownerFound_none {s : State} {i : ListId} {p : Nat} (h : s.surplus i p = []) (beat : Nat) :
    s.ownerFound i beat p = s := by
  unfold State.ownerFound
  rw [h]

/-- Buffers of no owner are threaded back and reported. -/
def State.gapsFound (s : State) (i : ListId) (beat : Nat) (gaps : List Run) : State :=
  match gaps with
  | [] => s
  | r :: _ =>
    (s.threadBack i gaps).weevilFinds 0x40 i none false (listLen gaps) (listLen gaps) (s.bufAddr ⟨i, r.first⟩) beat

/-- Buffers that are found twice are reported. -/
def State.twiceFound (s t : State) (i : ListId) (beat : Nat) (twice : List Run) : State :=
  match twice with
  | [] => t
  | r :: _ => t.weevilFinds 0x40 i none true (listLen twice) 0 (s.bufAddr ⟨i, r.first⟩) beat

theorem State.walkList_eq (s : State) (beat : Nat) (i : ListId) : s.walkList beat i
    = s.twiceFound (((s.ownersOf i).map fun e => bits e.2 11 0).eraseDups.foldl
        (fun (t : State) p => t.ownerFound i beat p) (s.gapsFound i beat (s.walkRuns i).1)) i beat (s.walkRuns i).2 := rfl

theorem State.tends_gapsFound (s : State) (i : ListId) (beat : Nat) (gaps : List Run) :
    State.Tends [i] s (s.gapsFound i beat gaps) := by
  cases gaps with
  | nil => exact State.Tends.refl _ s
  | cons r l => exact (s.tends_threadBack i _).trans (State.tends_weevilFinds _ _ _ _ _ _ _ _ _ _)

theorem State.tends_twiceFound (s t : State) (i : ListId) (beat : Nat) (twice : List Run) :
    State.Tends [i] t (s.twiceFound t i beat twice) := by
  cases twice with
  | nil => exact State.Tends.refl _ t
  | cons r l => exact State.tends_weevilFinds _ _ _ _ _ _ _ _ _ _

theorem State.tends_walkList (s : State) (beat : Nat) (i : ListId) : State.Tends [i] s (s.walkList beat i) := by
  rw [State.walkList_eq]
  exact ((s.tends_gapsFound i beat _).trans (State.tends_foldl_one (fun t p => t.tends_ownerFound i beat p) _ _)).trans
    (s.tends_twiceFound _ i beat _)

/-- Where every buffer of a list is accounted for once, its walk changes nothing. -/
theorem State.walkList_clear {s : State} {i : ListId} (hruns : s.walkRuns i = ([], [])) (hsur : ∀ p, s.surplus i p = [])
    (beat : Nat) : s.walkList beat i = s := by
  rw [State.walkList_eq, hruns]
  exact List.foldlRecOn (motive := fun (t : State) => t = s) _ _ rfl fun t ht p _ => by
    rw [ht, State.ownerFound_none (hsur p)]

/-! ### The walk of a die's tiles -/

/-- A list of tiles that is written reads so; one that stands whole again is not named (07 R178). -/
theorem State.freeList_setList_tile (s : State) (d : Nat) (l : List Run) :
    (s.setList (.tile d) l).freeList (.tile d) = l := by
  have hsize : ∀ u : State, u.listSize (.tile d) = 655360 := fun _ => rfl
  unfold State.freeList State.setList
  rw [SMap.get_set_same, hsize]
  by_cases h : l = [⟨0, 655360⟩]
  · rw [if_pos h, h]; rfl
  · rw [if_neg h]

theorem State.freeList_threadBack_tile (s : State) (d : Nat) (l : List Run) :
    (s.threadBack (.tile d) l).freeList (.tile d) = l ++ s.freeList (.tile d) := by
  unfold State.threadBack
  split
  · next h => rw [h]; rfl
  · exact s.freeList_setList_tile d _

/-- A free list of tiles is a matter of the buffers alone. -/
theorem State.freeList_tile_congr {s t : State} {d : Nat}
    (h : SMap.get none t.buf.lists (ListId.tile d).key = SMap.get none s.buf.lists (ListId.tile d).key) :
    t.freeList (.tile d) = s.freeList (.tile d) := by
  unfold State.freeList
  rw [h]
  rfl

theorem State.freeList_gapsFound_tile (s : State) (d beat : Nat) (gaps : List Run) :
    (s.gapsFound (.tile d) beat gaps).freeList (.tile d) = gaps ++ s.freeList (.tile d) := by
  cases gaps with
  | nil => rfl
  | cons r l =>
    have hsame : (s.gapsFound (.tile d) beat (r :: l)).buf = (s.threadBack (.tile d) (r :: l)).buf := rfl
    rw [State.freeList_tile_congr (congrArg (fun b => SMap.get none b.lists _) hsame), s.freeList_threadBack_tile]

/-- Where no tile of a die is in use, the walk of its list threads the missing ones back and does no more to it. -/
theorem State.freeList_walkList_tile {s : State} {d : Nat} (h : s.ownersOf (.tile d) = []) (beat : Nat) :
    (s.walkList beat (.tile d)).freeList (.tile d) = (s.walkRuns (.tile d)).1 ++ s.freeList (.tile d) := by
  have htwice : ∀ t twice, (s.twiceFound t (.tile d) beat twice).freeList (.tile d) = t.freeList (.tile d) := by
    intro t twice
    cases twice <;> rfl
  rw [State.walkList_eq, htwice, h]
  exact s.freeList_gapsFound_tile d beat _

section
variable {is : List ListId} {s t : State} {d : Nat} (h : State.Tends is s t)
  (hk : ∀ i ∈ is, i.key ≠ (ListId.tile d).key)
include h hk

/-- Tending other lists leaves a die's tiles as they were. -/
theorem State.Tends.freeList_tile : t.freeList (.tile d) = s.freeList (.tile d) :=
  State.freeList_tile_congr (h.lists _ hk)

omit hk

theorem State.Tends.ownersOf_nil (i : ListId) (hown : s.ownersOf i = []) : t.ownersOf i = [] := by
  unfold State.ownersOf at hown ⊢
  rw [List.map_eq_nil_iff, List.filter_eq_nil_iff] at hown ⊢
  exact fun e he => hown e (h.own he)

include hk

theorem State.Tends.walkRuns_tile (hown : s.ownersOf (.tile d) = []) : t.walkRuns (.tile d) = s.walkRuns (.tile d) := by
  have hcache : ∀ p, t.cache p = s.cache p := fun p => by rw [h.frame]; rfl
  have hruns : t.freeRuns (.tile d) = s.freeRuns (.tile d) := by
    simp only [State.freeRuns, h.freeList_tile hk, hcache]
  unfold State.walkRuns
  rw [hruns, hown, h.ownersOf_nil _ hown]
  rfl
end

end Sys2Proof.Machine

/-! ## Weevil's audit and the end of its walk (07 R200, R201) -/

namespace Sys2Proof.Machine

/-- On a live part a call answers the state in which it is called, or none where it is not due (02 R28, R29). -/
theorem run_call {i : Instr} {s : State} (hi : i.wellFormed = true) (hl : s.live = true) {due : State → Bool} {b : Bool}
    (hdue : due s = b) : run i s (fun s => s.call i (due s)) = .next (s.call i b) :=
  run_live_eq hi hl (by rw [hdue]) (by rw [State.call_spec])

/-! ### The audit (07 R200) -/

/-- When an audit falls due. -/
theorem State.auditDue_iff (s : State) : s.auditDue = true ↔ s.boot.running = true ∧ s.fld .bufWeevilCfg 0 31 0 ≠ 0
    ∧ s.buf.walk = none ∧ s.buf.auditAt + Nat.max 1024 (s.fld .bufWeevilCfg 0 31 0) ≤ s.beat.bc := by
  unfold State.auditDue State.auditPeriod
  by_cases hp : s.fld .bufWeevilCfg 0 31 0 = 0
  · simp [hp]
  · have hmax : Nat.max 1024 (s.fld .bufWeevilCfg 0 31 0) ≠ 0 :=
      Nat.ne_of_gt (Nat.lt_of_lt_of_le (by decide) (Nat.le_max_left 1024 _))
    simp [hp, hmax, and_assoc]

theorem State.coming_auditDue_iff (s : State) : s.coming State.auditDue = true ↔ s.boot.running = true
    ∧ s.fld .bufWeevilCfg 0 31 0 ≠ 0 ∧ s.buf.walk = none
    ∧ s.buf.auditAt + Nat.max 1024 (s.fld .bufWeevilCfg 0 31 0) ≤ s.beat.bc + 1 :=
  State.auditDue_iff { s with beat := { s.beat with bc := s.beat.bc + 1, now := (s.beat.now + 1) % 2 ^ 32 } }

/-- The buffers have been audited at this boundary. -/
def State.audited (s : State) : State := { s with buf := { s.buf with auditAt := s.beat.bc } }

theorem State.auditDiffs_audited (s : State) : s.audited.auditDiffs = s.auditDiffs := rfl

theorem State.weevilAudit_due {s : State} (hdue : s.auditDue = true) :
    s.weevilAudit = if s.audited.auditDiffs.all (· = 0) then s.audited.auditEnd
      else { s.audited with buf := { s.audited.buf with walk := some (s.beat.now % 2 ^ 32) } } := by
  have hgo : ¬ (!s.auditDue) = true := by simp [hdue]
  unfold State.weevilAudit
  rw [if_neg hgo]
  rfl

/-- An audit that finds no difference is counted. -/
theorem State.weevilAudit_clear {s : State} (hdue : s.auditDue = true) (h : ∀ x ∈ s.auditDiffs, x = 0) :
    s.weevilAudit = s.audited.auditEnd := by
  rw [State.weevilAudit_due hdue, s.auditDiffs_audited]
  exact if_pos (List.all_eq_true.2 fun x hx => decide_eq_true (h x hx))

/-- An audit that finds a difference starts a walk. -/
theorem State.weevilAudit_differs {s : State} (hdue : s.auditDue = true) (h : ∃ x ∈ s.auditDiffs, x ≠ 0) :
    s.weevilAudit = { s with buf := { s.buf with auditAt := s.beat.bc, walk := some (s.beat.now % 2 ^ 32) } } := by
  obtain ⟨x, hx, hne⟩ := h
  rw [State.weevilAudit_due hdue, s.auditDiffs_audited]
  exact if_neg fun hall => hne (of_decide_eq_true (List.all_eq_true.1 hall x hx))

/-- The count of completed audits goes up by one, round its 32 bits. -/
theorem State.fld_auditEnd (s : State) :
    s.auditEnd.fld .bufWeevilStatus 0 63 32 = (s.fld .bufWeevilStatus 0 63 32 + 1) % 2 ^ 32 :=
  s.fld_setFld .bufWeevilStatus 0 32 _ (by decide)

theorem State.freeList_auditEnd_tile (s : State) (d : Nat) : s.auditEnd.freeList (.tile d) = s.freeList (.tile d) :=
  State.freeList_tile_congr rfl

/-! ### The end of a walk (07 R201) -/

/-- The walk is over, and none of its findings has been dealt with yet. -/
def State.walked (s : State) : State := { s with buf := { s.buf with walk := none } }

/-- The state in which every list has been dealt with. -/
def State.swept (s : State) (beat : Nat) : State :=
  s.auditLists.foldl (fun (t : State) i => t.walkList beat i) s.walked

theorem State.walkEnd_none {s : State} (h : s.buf.walk = none) : s.walkEnd = s := by
  unfold State.walkEnd
  rw [h]

theorem State.walkEnd_some {s : State} {beat : Nat} (h : s.buf.walk = some beat) :
    s.walkEnd = (s.swept beat).auditEnd := by
  unfold State.walkEnd
  rw [h]
  rfl

theorem State.tends_swept (s : State) (beat : Nat) : State.Tends s.auditLists s.walked (s.swept beat) :=
  State.tends_foldl (fun t i => t.tends_walkList beat i) _ _

/-- The end of a walk changes the buffers, the registers and the items alone, and counts one audit. -/
theorem State.sweptEnd_spec {s t : State} {beat : Nat} (ht : t = (s.swept beat).auditEnd) :
    t = { s with regs := t.regs, host := t.host, buf := t.buf } ∧ t.buf.walk = none
      ∧ t.fld .bufWeevilStatus 0 63 32 = (s.fld .bufWeevilStatus 0 63 32 + 1) % 2 ^ 32 := by
  obtain ⟨hframe, haudits, -, -⟩ := s.tends_swept beat
  obtain ⟨v, hv⟩ : ∃ v, v = s.swept beat := ⟨_, rfl⟩
  rw [← hv] at ht hframe haudits
  have hcount : v.auditEnd.fld .bufWeevilStatus 0 63 32 = (s.fld .bufWeevilStatus 0 63 32 + 1) % 2 ^ 32 := by
    rw [State.fld_auditEnd, haudits]; rfl
  subst ht
  refine ⟨?_, ?_, hcount⟩
  · rw [hframe]; rfl
  · rw [hframe]; rfl

/-- The lists of staging and of spill come after those of the tiles. -/
theorem two_le_key_of_mem_poolLists {pool c : Nat} {i : ListId} (h : i ∈ poolLists pool c) : 2 ≤ i.key := by
  unfold poolLists at h
  split at h
  · have hsize : i = .staging c 0 ∨ i = .staging c 1 ∨ i = .staging c 2 ∨ i = .staging c 3 := by simpa using h
    rcases hsize with rfl | rfl | rfl | rfl <;> (simp only [ListId.key]; omega)
  · have hsize : i = .spill 0 ∨ i = .spill 1 := by simpa using h
    rcases hsize with rfl | rfl <;> decide

/-- The lists that an audit goes through: the tiles of each die, and lists of staging and spill. -/
theorem State.auditLists_eq (s : State) : ∃ rest, s.auditLists = .tile 0 :: .tile 1 :: rest ∧ ∀ i ∈ rest, 2 ≤ i.key := by
  refine ⟨_, rfl, fun i hi => ?_⟩
  rcases List.mem_append.1 hi with hstg | hspill
  · obtain ⟨l, hl, hil⟩ := List.mem_flatten.1 hstg
    obtain ⟨c, -, rfl⟩ := List.mem_map.1 hl
    exact two_le_key_of_mem_poolLists hil
  · exact two_le_key_of_mem_poolLists hspill

/-- A die's tiles are one of the lists of an audit, and no other list of it has their number. -/
theorem State.auditLists_split (s : State) {d : Nat} (hd : d < 2) : ∃ a b, s.auditLists = a ++ .tile d :: b
    ∧ (∀ i ∈ a, i.key ≠ (ListId.tile d).key) ∧ ∀ i ∈ b, i.key ≠ (ListId.tile d).key := by
  obtain ⟨rest, hlists, hrest⟩ := s.auditLists_eq
  have hkey : ∀ i ∈ rest, i.key ≠ (ListId.tile d).key := fun i hi => by
    have h2 := hrest i hi
    have htile : (ListId.tile d).key = d % 2 := rfl
    omega
  obtain rfl | rfl : d = 0 ∨ d = 1 := by omega
  · exact ⟨[], .tile 1 :: rest, hlists, nofun, List.forall_mem_cons.2 ⟨by decide, hkey⟩⟩
  · exact ⟨[.tile 0], rest, hlists, List.forall_mem_singleton.2 (by decide), hkey⟩

/-- Where no tile of a die is in use, a walk threads those that are on no list back onto the die's. -/
theorem State.freeList_swept_tile {s : State} {d : Nat} (hd : d < 2) (hown : s.ownersOf (.tile d) = []) (beat : Nat) :
    (s.swept beat).freeList (.tile d) = (s.walkRuns (.tile d)).1 ++ s.freeList (.tile d) := by
  obtain ⟨a, b, hlists, ha, hb⟩ := s.auditLists_split hd
  have hbefore := State.tends_foldl (fun t i => t.tends_walkList beat i) a s.walked
  have hafter := State.tends_foldl (fun t i => t.tends_walkList beat i) b
    ((a.foldl (fun (t : State) i => t.walkList beat i) s.walked).walkList beat (.tile d))
  unfold State.swept
  rw [hlists, List.foldl_append, List.foldl_cons, hafter.freeList_tile hb,
    State.freeList_walkList_tile (hbefore.ownersOf_nil _ hown), hbefore.walkRuns_tile ha hown, hbefore.freeList_tile ha]
  rfl

/-- A walk that finds nothing changes nothing. -/
theorem State.swept_clear {s : State} (h : ∀ i ∈ s.auditLists, s.walkRuns i = ([], []) ∧ ∀ p, s.surplus i p = [])
    (beat : Nat) : s.swept beat = s.walked :=
  List.foldlRecOn (motive := fun (t : State) => t = s.walked) _ _ rfl fun t ht i hi => by
    obtain ⟨hruns, hsur⟩ := h i hi
    rw [ht]
    exact State.walkList_clear (s := s.walked) hruns hsur beat

/-! ### As commands -/

section
variable {s : State} (hl : s.live = true)
include hl

theorem exec_weevilAudit_early (h : s.boot.running = false ∨ s.buf.walk.isSome = true ∨ s.fld .bufWeevilCfg 0 31 0 = 0
    ∨ s.beat.bc + 1 < s.buf.auditAt + Nat.max 1024 (s.fld .bufWeevilCfg 0 31 0)) : exec .weevilAudit s = .next s := by
  have hnot : s.coming State.auditDue = false := Bool.eq_false_iff.2 fun hdue => by
    obtain ⟨hrun, hper, hwalk, hat⟩ := s.coming_auditDue_iff.1 hdue
    rcases h with h | h | h | h
    · exact Bool.false_ne_true (h.symm.trans hrun)
    · rw [hwalk] at h; cases h
    · exact hper h
    · omega
  exact (run_call (i := .weevilAudit) rfl hl hnot).trans (by rw [State.call_early])

theorem exec_weevilAudit_due (h : s.boot.running = true ∧ s.fld .bufWeevilCfg 0 31 0 ≠ 0 ∧ s.buf.walk = none
    ∧ s.buf.auditAt + Nat.max 1024 (s.fld .bufWeevilCfg 0 31 0) ≤ s.beat.bc + 1) :
    exec .weevilAudit s = .next (s.call .weevilAudit true) :=
  run_call (i := .weevilAudit) rfl hl (s.coming_auditDue_iff.2 h)

theorem exec_weevilWalkEnd_some {t : State} {beat : Nat} (h : s.buf.walk = some beat)
    (ht : t = (s.swept beat).auditEnd) : exec .weevilWalkEnd s = .next t :=
  run_live_eq (i := .weevilWalkEnd) rfl hl ((State.walkEnd_some h).trans ht.symm)
    (congrArg (·.pending) (State.sweptEnd_spec ht).1)
end

end Sys2Proof.Machine

/-! ## Teardown checks and the staging carve (07 R202, R210) -/

namespace Sys2Proof.Machine

/-! ### A teardown check (07 R202) -/

/-- The state in which a partition's work holds no buffers any more, and its use counts are zero. -/
def State.emptied (s : State) (p : Nat) : State :=
  { s with
    net := { s.net with streams := s.net.streams.map fun (t : Stream) => t.bare p },
    mem := { s.mem with
      trk := s.mem.trk.map fun (x : Trk) => ({ x with req := x.req.bare p } : Trk),
      late := s.mem.late.map fun (x : Trk) => ({ x with req := x.req.bare p } : Trk) },
    coll := { s.coll with
      checks := s.coll.checks.map fun c => if c.desc.part = p then { c with retained := [] } else c },
    buf := { s.buf with
      stg := s.buf.stg.filter (fun u => u.part ≠ p), spill := s.buf.spill.filter (fun u => u.part ≠ p),
      tileUse := SMap.set 0 (SMap.set 0 s.buf.tileUse p 0) (4096 + p) 0,
      stgUse := SMap.set 0 s.buf.stgUse p 0, spillUse := SMap.set 0 s.buf.spillUse p 0 } }

section
variable {s : State} {p : Nat}

theorem State.teardown_unused (h : s.unused p = true) : s.teardown p = s := if_pos h

/-- A check of a partition whose use counts are not zero tends the lists once its work holds no buffers. -/
theorem State.tends_teardown (h : s.unused p = false) : State.Tends s.auditLists (s.emptied p) (s.teardown p) := by
  have hteardown : s.teardown p = s.auditLists.foldl (fun (t : State) i => t.tearList p i) (s.emptied p) := by
    unfold State.teardown
    rw [h]
    rfl
  rw [hteardown]
  exact State.tends_foldl (fun t i => t.tends_tearList p i) _ _

theorem Stream.part_bare (t : Stream) : (t.bare p).part = t.part := by
  unfold Stream.bare
  split <;> rfl

theorem Stream.alloc_bare {t : Stream} (h : t.part = p) : (t.bare p).alloc = none := by
  rw [Stream.bare, if_pos h]

theorem State.alloc_emptied {x : Stream} (hx : x ∈ (s.emptied p).net.streams) (h : x.part = p) : x.alloc = none := by
  obtain ⟨t, -, rfl⟩ := List.mem_map.1 hx
  exact Stream.alloc_bare (t.part_bare.symm.trans h)

theorem State.coming_teardownDue_iff (s : State) (p : Nat) : s.coming (·.teardownDue p) = true
    ↔ s.pst p = .reset ∧ (s.partInfo p).resetAt + 64 ≤ s.beat.bc + 1 := by
  have hpst : ∀ b, ({ s with beat := b } : State).pst p = s.pst p := fun _ => rfl
  have hinfo : ∀ b, ({ s with beat := b } : State).partInfo p = s.partInfo p := fun _ => rfl
  simp only [State.coming, State.teardownDue, hpst, hinfo, Bool.and_eq_true, decide_eq_true_eq]

theorem exec_weevilTeardownCheck_early (hl : s.live = true) (hp : p < 4096)
    (h : s.pst p ≠ .reset ∨ s.beat.bc + 1 < (s.partInfo p).resetAt + 64) :
    exec (.weevilTeardownCheck p) s = .next s := by
  have hnot : s.coming (·.teardownDue p) = false := Bool.eq_false_iff.2 fun hdue => by
    obtain ⟨hst, hat⟩ := (s.coming_teardownDue_iff p).1 hdue
    rcases h with h | h
    · exact h hst
    · omega
  exact (run_call (i := .weevilTeardownCheck p) (decide_eq_true hp) hl hnot).trans (by rw [State.call_early])

theorem exec_weevilTeardownCheck_due (hl : s.live = true) (hp : p < 4096)
    (h : s.pst p = .reset ∧ (s.partInfo p).resetAt + 64 ≤ s.beat.bc + 1) :
    exec (.weevilTeardownCheck p) s = .next (s.call (.weevilTeardownCheck p) true) :=
  run_call (i := .weevilTeardownCheck p) (decide_eq_true hp) hl ((s.coming_teardownDue_iff p).2 h)

/-! ### The carve (07 R210) -/

theorem State.carveDue_waits (h : s.buf.carve = none ∨ s.buf.stg ≠ []) : s.carveDue = false := by
  unfold State.carveDue
  rcases h with h | h
  · rw [h]; rfl
  · rw [List.isEmpty_eq_false_iff.2 h, Bool.and_false]

theorem State.applyCarve_waits (h : s.buf.carve = none ∨ s.buf.stg ≠ []) : s.applyCarve = s := by
  unfold State.applyCarve
  split
  · next v hv =>
    rcases h with h | h
    · rw [hv] at h; cases h
    · exact if_neg h
  · rfl

theorem State.applyCarve_some {v : Word} (h : s.buf.carve = some v) (hstg : s.buf.stg = []) :
    s.applyCarve = { s.putRw .bufStgCarve 0 v with
      buf := { s.buf with carve := none, lists := s.buf.lists.filter fun e => e.1 < 8 } } := by
  unfold State.applyCarve
  rw [h]
  exact if_pos hstg

theorem exec_stgCarveApply_waits (hl : s.live = true) (h : s.buf.carve = none ∨ s.buf.stg ≠ []) :
    exec .stgCarveApply s = .next s :=
  (run_call (i := .stgCarveApply) rfl hl (State.carveDue_waits h)).trans (by rw [State.call_early])

theorem exec_stgCarveApply_due {v : Word} (hl : s.live = true) (h : s.buf.carve = some v) (hstg : s.buf.stg = []) :
    exec .stgCarveApply s = .next (s.call .stgCarveApply true) := by
  have hdue : s.carveDue = true := by rw [State.carveDue, h, hstg]; rfl
  exact run_call (i := .stgCarveApply) rfl hl hdue
end

/-! ### The statement -/

/-- Settles O38: whatever a walk or a teardown check finds, only the free lists, the owner records and weevil's report
change (`State.Tends`). -/
theorem bufferAuditsAndCarve : Obligations.BufferAuditsAndCarve := by
  refine fun s hl => ⟨exec_weevilAudit_early hl,
    fun hrun hwalk hper => ⟨fun hat => exec_weevilAudit_due hl ⟨hrun, hper, hwalk, hat⟩,
      fun hat => ⟨fun hclear => ?audited, State.weevilAudit_differs (s.auditDue_iff.2 ⟨hrun, hper, hwalk, hat⟩)⟩⟩,
    fun hwalk => run_live_eq (i := .weevilWalkEnd) rfl hl (State.walkEnd_none hwalk) rfl, fun hwalk => ?walked,
    fun p hp => ⟨exec_weevilTeardownCheck_early hl hp, fun hst hat => exec_weevilTeardownCheck_due hl hp ⟨hst, hat⟩,
      State.teardown_unused, fun hused => ?tornDown⟩,
    fun hwait => ⟨exec_stgCarveApply_waits hl hwait, State.applyCarve_waits hwait⟩,
    fun v hv hstg => ⟨exec_stgCarveApply_due hl hv hstg, ?carved⟩⟩
  case audited =>
    rw [State.weevilAudit_clear (s.auditDue_iff.2 ⟨hrun, hper, hwalk, hat⟩) hclear]
    exact ⟨rfl, State.fld_auditEnd _, rfl⟩
  case walked =>
    obtain ⟨beat, hbeat⟩ := Option.isSome_iff_exists.1 hwalk
    obtain ⟨t, ht⟩ : ∃ t, t = (s.swept beat).auditEnd := ⟨_, rfl⟩
    obtain ⟨hframe, hover, hcount⟩ := State.sweptEnd_spec ht
    refine ⟨t, exec_weevilWalkEnd_some hl hbeat ht, hover, hcount, congrArg (·.mem) hframe, congrArg (·.net) hframe,
      congrArg (·.coll) hframe, congrArg (·.out) hframe, fun d hd hown => ?_, fun hclear => ?_⟩
    · rw [ht, State.freeList_auditEnd_tile, State.freeList_swept_tile hd hown beat]
    · rw [ht, State.swept_clear hclear beat]
      exact ⟨rfl, rfl⟩
  case tornDown =>
    obtain ⟨hframe, -, -, -⟩ := State.tends_teardown hused
    have hstg : (s.teardown p).buf.stg = s.buf.stg.filter (fun u => u.part ≠ p) := congrArg (·.buf.stg) hframe
    have hspill : (s.teardown p).buf.spill = s.buf.spill.filter (fun u => u.part ≠ p) := congrArg (·.buf.spill) hframe
    have hnet : (s.teardown p).net = (s.emptied p).net := congrArg (·.net) hframe
    rw [hstg, hspill, hnet]
    refine ⟨fun x hx => State.alloc_emptied hx, fun u hu => ?_, fun u hu => ?_, fun u hu hne => ?_, fun u hu hne => ?_,
      congrArg (·.mem.spine) hframe, congrArg (·.mem.near) hframe, congrArg (·.part) hframe, congrArg (·.beat) hframe⟩
    · exact of_decide_eq_true (List.mem_filter.1 hu).2
    · exact of_decide_eq_true (List.mem_filter.1 hu).2
    · exact List.mem_filter.2 ⟨hu, decide_eq_true hne⟩
    · exact List.mem_filter.2 ⟨hu, decide_eq_true hne⟩
  case carved =>
    rw [State.applyCarve_some hv hstg]
    exact ⟨rfl, s.reg_putRw .bufStgCarve 0 v, rfl⟩

end Sys2Proof.Machine

/-! ## What a lane's move leaves (08 R229, R230, R233) -/

namespace Sys2Proof.Machine

section
variable (s : State) (n m : Nat)

@[simp] theorem State.optLane_setReg (k : RegKind) (i : Nat) (v : Word) : (s.setReg k i v).optLane m = s.optLane m := rfl

@[simp] theorem State.optLane_bump (k : RegKind) (i hi lo c : Nat) : (s.bump k i hi lo c).optLane m = s.optLane m := rfl

@[simp] theorem State.optLane_setEngine (e : Nat) (f : EngineSt → EngineSt) :
    (s.setEngine e f).optLane m = s.optLane m := rfl

/-- A lane that moves is as `OptLane.moved` makes it, and every other lane is as it was (08 R230). -/
@[simp] theorem State.optLane_moveLane (st : LaneSt) (c : Option Nat) :
    (s.moveLane n st c).optLane m = if m = n then (s.optLane n).moved st c s.beat.bc else s.optLane m := by
  unfold State.moveLane
  dsimp only
  split
  · rw [State.laneItem_optLane, State.optLane_setOpt]
  · rw [State.optLane_setOpt]

/-- An entry to a state that posts no item changes the lane alone (08 R247). -/
theorem State.moveLane_unposted {st : LaneSt} (h : st.posts = false) (c : Option Nat) :
    s.moveLane n st c = s.setOpt n fun o => o.moved st c s.beat.bc := by
  simp [State.moveLane, h]

/-- A lane changed and moved: no register changes. -/
theorem State.onlyMoves_setOpt_moveLane (f : OptLane → OptLane) (st : LaneSt) (c : Option Nat) :
    s.onlyMoves ((s.setOpt n f).moveLane n st c) :=
  State.onlyMoves_trans (s.onlyMoves_setOpt n f) (State.onlyMoves_moveLane _ n st c)

/-- A lane as it FAILS: both rings are parked (08 R233). -/
def OptLane.fallen (o : OptLane) (cause bc : Nat) : OptLane := ((o.park true).park false).moved .failed (some cause) bc

@[simp] theorem OptLane.fallen_st (o : OptLane) (cause bc : Nat) : (o.fallen cause bc).st = .failed := rfl

@[simp] theorem State.optLane_laneFailed (c : Nat) :
    (s.laneFailed n c).optLane m = if m = n then (s.optLane n).fallen c s.beat.bc else s.optLane m := by
  by_cases hm : m = n <;> simp [State.laneFailed, OptLane.fallen, hm]

/-- A lane that FAILS is counted (08 R233). -/
theorem State.fld_laneFailed (c : Nat) :
    (s.laneFailed n c).fld .leLaneCnt n 7 0 = Nat.min 255 (s.fld .leLaneCnt n 7 0 + 1) := by
  obtain ⟨v, hv, heq⟩ := s.laneFailed_eq n c
  rw [heq, State.fld_bump _ _ _ _ _ (by decide), hv]
  rfl
end

/-- Lanes, engines, registers, free values and posted items change; the lasers, and all else, stay. -/
def State.onlyLanes (s t : State) : Prop :=
  t = { s with opt := { s.opt with lanes := t.opt.lanes, eng := t.opt.eng }, free := t.free, host := t.host,
               regs := t.regs }

section
variable {s t u : State}

theorem State.onlyLanes_refl (s : State) : s.onlyLanes s := rfl

theorem State.onlyLanes_trans (h : s.onlyLanes t) (g : t.onlyLanes u) : s.onlyLanes u := by
  unfold State.onlyLanes at *
  rw [g, h]

theorem State.onlyLanes_setOpt (s : State) (n : Nat) (f : OptLane → OptLane) : s.onlyLanes (s.setOpt n f) := rfl

theorem State.onlyLanes_setReg (s : State) (k : RegKind) (i : Nat) (v : Word) : s.onlyLanes (s.setReg k i v) := rfl

theorem State.onlyLanes_setEngine (s : State) (e : Nat) (f : EngineSt → EngineSt) : s.onlyLanes (s.setEngine e f) := rfl

theorem State.onlyLanes_laneItem (s : State) (n : Nat) (old : LaneSt) : s.onlyLanes (s.laneItem n old) := by
  unfold State.laneItem State.laneItemOf State.itemWord State.leItem State.onlyLanes
  dsimp only
  rcases s.heats_spec n with h | h <;> rw [h] <;> rfl

theorem State.onlyLanes_moveLane (s : State) (n : Nat) (st : LaneSt) (c : Option Nat) :
    s.onlyLanes (s.moveLane n st c) := by
  unfold State.moveLane
  dsimp only
  split
  · exact State.onlyLanes_trans (s.onlyLanes_setOpt n _) (State.onlyLanes_laneItem _ n _)
  · exact s.onlyLanes_setOpt n _

theorem State.onlyLanes_setOpt_moveLane (s : State) (n : Nat) (f : OptLane → OptLane) (st : LaneSt) (c : Option Nat) :
    s.onlyLanes ((s.setOpt n f).moveLane n st c) :=
  State.onlyLanes_trans (s.onlyLanes_setOpt n f) (State.onlyLanes_moveLane _ n st c)

theorem State.onlyLanes_laneFailed (s : State) (n c : Nat) : s.onlyLanes (s.laneFailed n c) :=
  State.onlyLanes_trans (s.onlyLanes_setOpt_moveLane n _ .failed (some c)) (State.onlyLanes_setReg _ _ _ _)

theorem State.onlyLanes.beat (h : s.onlyLanes t) : t.beat = s.beat := congrArg (·.beat) h

theorem State.onlyLanes.net (h : s.onlyLanes t) : t.net = s.net := congrArg (·.net) h

theorem State.onlyLanes.mem (h : s.onlyLanes t) : t.mem = s.mem := congrArg (·.mem) h

theorem State.onlyLanes.pending (h : s.onlyLanes t) : t.pending = s.pending := congrArg (·.pending) h

theorem State.onlyLanes.laser (h : s.onlyLanes t) (e k : Nat) : t.laser e k = s.laser e k :=
  congrArg (fun t => t.laser e k) h
end

/-! ### A walk over lanes that changes each on its own -/

theorem mem_rangeFrom {a b m : Nat} : m ∈ rangeFrom a b ↔ a ≤ m ∧ m < b := by
  simp only [rangeFrom, List.mem_map, List.mem_range]
  exact ⟨fun ⟨i, hi, hm⟩ => by omega, fun h => ⟨m - a, by omega, by omega⟩⟩

theorem nodup_rangeFrom (a b : Nat) : (rangeFrom a b).Nodup :=
  List.Pairwise.map _ (fun _ _ hne h => hne (Nat.add_left_cancel h)) List.nodup_range

/-- A walk that changes at each place that lane alone changes every lane of the list once; `K`: what the walk keeps. -/
theorem State.optLane_foldl {f : State → Nat → State} {g : Nat → OptLane → OptLane} {K : State → Prop}
    (hK : ∀ t n, K t → K (f t n))
    (hf : ∀ t n m, K t → (f t n).optLane m = if m = n then g n (t.optLane n) else t.optLane m)
    {l : List Nat} (hl : l.Nodup) {s : State} (hs : K s) :
    K (l.foldl f s) ∧ ∀ m, (l.foldl f s).optLane m = if m ∈ l then g m (s.optLane m) else s.optLane m := by
  induction l generalizing s with
  | nil => exact ⟨hs, fun m => by simp⟩
  | cons n l ih =>
    obtain ⟨hn, hl⟩ := List.nodup_cons.1 hl
    obtain ⟨hkept, hlanes⟩ := ih hl (hK s n hs)
    refine ⟨hkept, fun m => ?_⟩
    rw [List.foldl_cons, hlanes, hf s n m hs]
    by_cases hm : m = n
    · subst hm
      simp [hn]
    · simp [hm]

/-! ### Groups of rings that wait for their turn (08 R239) -/

/-- The lane acquires, and the turn of its group has not come. -/
def OptLane.waitsTurn (o : OptLane) : Prop := o.st = .acquire ∧ o.txOk = false ∧ o.txFrom = none

/-- Both rings begin acquisition. -/
def OptLane.started (o : OptLane) (bc : Nat) : OptLane := (o.startRing true bc).startRing false bc

theorem OptLane.started_txFrom (o : OptLane) (bc : Nat) : (o.started bc).txFrom = some bc := rfl

/-- Lanes that wait for their turn may start; nothing else changes. -/
structure State.Starts (s t : State) : Prop where
  frame : t = { s with opt := { s.opt with lanes := t.opt.lanes } }
  lane : ∀ m, t.optLane m = s.optLane m ∨ (s.optLane m).waitsTurn ∧ t.optLane m = (s.optLane m).started s.beat.bc

section
variable {s t u : State}

theorem State.Starts.refl (s : State) : State.Starts s s := ⟨rfl, fun _ => .inl rfl⟩

/-- A lane that has started waits no more. -/
theorem State.Starts.trans (h : State.Starts s t) (g : State.Starts t u) : State.Starts s u := by
  have hbeat : t.beat = s.beat := congrArg (·.beat) h.frame
  refine ⟨by rw [g.frame, h.frame], fun m => ?_⟩
  rcases h.lane m with hm | ⟨hw, hm⟩ <;> rcases g.lane m with gm | ⟨gw, gm⟩
  · exact .inl (gm.trans hm)
  · rw [hm] at gw gm
    exact .inr ⟨gw, by rw [gm, hbeat]⟩
  · exact .inr ⟨hw, gm.trans hm⟩
  · obtain ⟨-, -, hfrom⟩ := gw
    rw [hm, OptLane.started_txFrom] at hfrom
    cases hfrom

theorem State.starts_setOpt {n : Nat} (h : (s.optLane n).waitsTurn) :
    State.Starts s (s.setOpt n fun o => o.started s.beat.bc) := by
  refine ⟨rfl, fun m => ?_⟩
  rw [State.optLane_setOpt]
  by_cases hm : m = n
  · subst hm
    exact .inr ⟨h, if_pos rfl⟩
  · exact .inl (if_neg hm)

theorem State.starts_startGroups (s : State) (e : Nat) : State.Starts s (s.startGroups e) := by
  unfold State.startGroups
  refine List.foldlRecOn (motive := fun u => State.Starts s u) _ _ (.refl s) fun u hu g _ => ?_
  dsimp only
  split
  · exact hu
  · refine List.foldlRecOn (motive := fun v => State.Starts s v) _ _ hu fun v hv n _ => ?_
    split
    · rename_i hwait
      simp only [Bool.and_eq_true, decide_eq_true_eq, Bool.not_eq_true', Option.isNone_iff_eq_none, and_assoc] at hwait
      exact hv.trans (State.starts_setOpt hwait)
    · exact hv

theorem State.Starts.onlyLanes (h : State.Starts s t) : s.onlyLanes t := by
  rw [h.frame]
  rfl

theorem State.Starts.st (h : State.Starts s t) (m : Nat) : (t.optLane m).st = (s.optLane m).st := by
  rcases h.lane m with hm | ⟨-, hm⟩ <;> rw [hm]
  rfl

theorem State.Starts.noLight (h : State.Starts s t) (m : Nat) : (t.optLane m).noLight = (s.optLane m).noLight := by
  rcases h.lane m with hm | ⟨-, hm⟩ <;> rw [hm]
  rfl

theorem State.Starts.same (h : State.Starts s t) {m : Nat} (hm : ¬ (s.optLane m).waitsTurn) : t.optLane m = s.optLane m :=
  (h.lane m).resolve_right fun hw => hm hw.1

/-- A lane that does not acquire stays as it is. -/
theorem State.Starts.idle (h : State.Starts s t) {m : Nat} (hm : (s.optLane m).st ≠ .acquire) :
    t.optLane m = s.optLane m := h.same fun hw => hm hw.1
end

end Sys2Proof.Machine

/-! ## Rings that are lost, checked and verified (08 R225 to R228, R230) -/

namespace Sys2Proof.Machine

section
variable {s : State} {n : Nat}

/-! ### Light that is gone (08 R228, R232) -/

/-- The lane once its light has been seen to stand, or to be gone. -/
def OptLane.dimmed (o : OptLane) (light : Bool) : OptLane := { o with noLight := o.noLight || !light }

/-- Light that is gone is noted (08 R228, R232). -/
def State.dimmed (s : State) (n : Nat) (light : Bool) : State := if light then s else s.darken n

theorem State.optLane_dimmed (s : State) (n : Nat) (light : Bool) (m : Nat) :
    (s.dimmed n light).optLane m = if m = n then (s.optLane n).dimmed light else s.optLane m := by
  by_cases hm : m = n <;> cases light <;> simp [State.dimmed, OptLane.dimmed, State.darken, hm]

theorem State.dimmed_frame (s : State) (n : Nat) (light : Bool) :
    s.dimmed n light = { s with opt := (s.dimmed n light).opt } ∧ s.onlyLanes (s.dimmed n light) := by
  cases light <;> exact ⟨rfl, rfl⟩

/-! ### A ring that is lost (08 R225) -/

theorem State.ringLost_service (h : (s.optLane n).st = .service) (tx : Bool) (cause : Nat) :
    s.ringLost n tx cause = (s.setOpt n fun o => o.startRing tx s.beat.bc).moveLane n .reacq (some cause) := by
  simp [State.ringLost, h]

/-- The lane of a lost ring reacquires, and its ring stands parked; the rest of the part only sees the item. -/
theorem State.ringLost_spec (h : (s.optLane n).st = .service) (tx : Bool) (cause : Nat) {t : State}
    (ht : t = s.ringLost n tx cause) :
    (∀ m, t.optLane m = if m = n then ((s.optLane n).startRing tx s.beat.bc).moved .reacq (some cause) s.beat.bc
        else s.optLane m) ∧ s.onlyMoves t := by
  rw [ht, State.ringLost_service h]
  refine ⟨fun m => ?_, s.onlyMoves_setOpt_moveLane n _ _ _⟩
  by_cases hm : m = n <;> simp [hm]

theorem State.ringUnlock_unlocked {tx : Bool} (h : s.ringLocked n tx = false) (light : Bool) :
    s.ringUnlock n tx light = s := by
  simp [State.ringUnlock, h]

/-- The state in which a locked ring has been counted as lost, and a receive position without light noted. -/
def State.unlocked (s : State) (n : Nat) (light : Bool) : State := (s.bump .leLaneCnt n 47 32 1).dimmed n light

theorem State.unlocked_spec {light : Bool} {t : State} (ht : t = s.unlocked n light) :
    (∀ m, t.optLane m = if m = n then (s.optLane n).dimmed light else s.optLane m)
      ∧ t.fld .leLaneCnt n 47 32 = Nat.min 65535 (s.fld .leLaneCnt n 47 32 + 1) ∧ s.onlyLanes t := by
  obtain ⟨hdim, -⟩ := State.dimmed_frame (s.bump .leLaneCnt n 47 32 1) n light
  rw [← State.unlocked, ← ht] at hdim
  refine ⟨fun m => ?_, (?_ : _ = (s.bump .leLaneCnt n 47 32 1).fld .leLaneCnt n 47 32).trans
    (s.fld_bump .leLaneCnt n 32 1 (by decide)), ?_⟩
  · rw [ht, State.unlocked, State.optLane_dimmed]
    rfl
  · rw [hdim]
    rfl
  · rw [ht]
    cases light <;> rfl

/-- Why a locked ring is lost (log entry 84). -/
def unlockCause (tx light : Bool) : Nat := if tx then 5 else if light then 6 else 10

theorem State.ringUnlock_locked {tx : Bool} (h : s.ringLocked n tx = true) (light : Bool) :
    s.ringUnlock n tx light = (s.unlocked n (tx || light)).ringLost n tx (unlockCause tx light) := by
  unfold State.ringUnlock State.unlocked State.dimmed unlockCause
  cases tx <;> cases light <;> simp [h]

/-- The windows of a locked ring are seen. -/
theorem State.seen_of_ringLocked {tx : Bool} (h : s.ringLocked n tx = true) :
    (s.optLane n).st ≠ .off ∧ (tx = true ∨ s.byp.rxByp.contains n = false) := by
  simp only [State.ringLocked, Bool.and_eq_true, Bool.or_eq_true, decide_eq_true_eq, Bool.not_eq_true'] at h
  obtain ⟨⟨-, hst⟩, hbyp⟩ := h
  refine ⟨fun hoff => ?_, hbyp⟩
  rw [hoff] at hst
  simp at hst

theorem State.ringChecked_of_ringLocked {tx : Bool} (hlock : s.ringLocked n tx = true)
    (h : tx = true ∨ s.flag .leCfg (n / 64) 3 = true) : s.ringChecked n tx = true := by
  rw [State.ringChecked, hlock]
  rcases h with h | h <;> simp [h]

/-! ### Pilot windows (08 R226, R227) -/

theorem State.pilotWindow_ignored {tx : Bool} (h : (s.optLane n).st = .off ∨ tx = false ∧ s.byp.rxByp.contains n = true)
    (tone : Nat) : s.pilotWindow n tx tone = s := by
  unfold State.pilotWindow
  exact if_pos (by simpa using h)

/-- The index that the last wrong window of a ring named. -/
def OptLane.lastWrong (o : OptLane) (tx : Bool) : Option Nat := if tx then o.winTx else o.winRx

/-- A window that is seen is noted; two in a row with the same wrong index are a mislock. -/
theorem State.pilotWindow_seen {tx : Bool} (hoff : (s.optLane n).st ≠ .off)
    (hbyp : tx = true ∨ s.byp.rxByp.contains n = false) (tone : Nat) {t : State}
    (ht : t = s.setOpt n fun o => o.window tx (s.ringChecked n tx) (decide (tone ≠ n % 4)) tone) :
    s.pilotWindow n tx tone
      = if s.ringChecked n tx = true ∧ tone ≠ n % 4 ∧ (s.optLane n).lastWrong tx = some tone
        then (t.bump .leLaneCnt n 63 48 1).ringLost n tx (if tx then 3 else 4) else t := by
  have hseen : ¬ ((s.optLane n).st = .off || (!tx && s.byp.rxByp.contains n)) = true := by
    rcases hbyp with h | h
    · simp [hoff, h]
    · simp only [hoff, h, decide_false, Bool.and_false, Bool.or_self, Bool.false_eq_true, not_false_eq_true]
  unfold State.pilotWindow
  rw [if_neg hseen, ht]
  simp [OptLane.lastWrong, and_assoc]

/-! ### A ring that is verified, or not in time (08 R228) -/

/-- A lane whose rings acquire. -/
def OptLane.seeks (o : OptLane) : Bool := o.st = .acquire || o.st = .reacq

/-- A ring holds a verified lock. -/
def OptLane.ringOk (o : OptLane) (tx : Bool) : Bool := if tx then o.txOk else o.rxOk

/-- When a ring's acquisition started, if it has. -/
def OptLane.ringFrom (o : OptLane) (tx : Bool) : Option Nat := if tx then o.txFrom else o.rxFrom

/-- A ring's 250 µs have run out without a verified lock (R228). -/
def OptLane.ringOut (o : OptLane) (tx : Bool) (bc : Nat) : Bool := !o.ringOk tx && ringLate (o.ringFrom tx) bc

/-- Why a lane with a ring out of time FAILS: in REACQ its cause stays (R230; log entry 20). -/
def OptLane.lateCause (o : OptLane) (bc : Nat) : Nat :=
  if o.st = .reacq then o.cause else if o.ringOut true bc then 5 else 6

theorem State.reacqTimeout_eq (s : State) (n : Nat) : s.reacqTimeout n
    = if (s.optLane n).seeks && ((s.optLane n).ringOut true s.beat.bc || (s.optLane n).ringOut false s.beat.bc)
      then (s.laneFailed n ((s.optLane n).lateCause s.beat.bc)).startGroups (n / 64) else s := rfl

theorem State.reacqTimeout_idle (h : (s.optLane n).seeks = false) : s.reacqTimeout n = s := by
  simp [State.reacqTimeout_eq, h]

theorem State.reacqTimeout_early (h : ∀ tx, (s.optLane n).ringOut tx s.beat.bc = false) : s.reacqTimeout n = s := by
  simp [State.reacqTimeout_eq, h]

/-- A lane with a ring out of time FAILS. -/
theorem State.reacqTimeout_late (hseek : (s.optLane n).seeks = true) {tx : Bool}
    (h : (s.optLane n).ringOut tx s.beat.bc = true) {t : State} (ht : t = s.reacqTimeout n) :
    s.onlyLanes t ∧ t.fld .leLaneCnt n 7 0 = Nat.min 255 (s.fld .leLaneCnt n 7 0 + 1)
      ∧ t.optLane n = (s.optLane n).fallen ((s.optLane n).lateCause s.beat.bc) s.beat.bc := by
  have hout : ((s.optLane n).ringOut true s.beat.bc || (s.optLane n).ringOut false s.beat.bc) = true := by
    cases tx <;> simp [h]
  rw [State.reacqTimeout_eq, if_pos (by rw [hseek, hout]; rfl)] at ht
  obtain ⟨c, hc⟩ : ∃ c, c = (s.optLane n).lateCause s.beat.bc := ⟨_, rfl⟩
  rw [← hc] at ht ⊢
  have hstart := State.starts_startGroups (s.laneFailed n c) (n / 64)
  rw [← ht] at hstart
  have hlane : (s.laneFailed n c).optLane n = (s.optLane n).fallen c s.beat.bc := by simp
  refine ⟨State.onlyLanes_trans (s.onlyLanes_laneFailed n c) hstart.onlyLanes, ?_, ?_⟩
  · rw [← s.fld_laneFailed n c, hstart.frame]
    rfl
  · rw [hstart.idle (by simp [hlane]), hlane]

theorem OptLane.acquires_iff (o : OptLane) (tx : Bool) :
    o.acquires tx = true ↔ o.seeks = true ∧ o.ringOk tx = false ∧ (o.ringFrom tx).isSome = true := by
  cases tx <;> simp [OptLane.acquires, OptLane.seeks, OptLane.ringOk, OptLane.ringFrom]

theorem State.reacqVerified_eq (s : State) (n : Nat) (tx : Bool) (heat : Nat) : s.reacqVerified n tx heat
    = if !(s.optLane n).acquires tx then s
      else if ringLate ((s.optLane n).ringFrom tx) s.beat.bc then s.reacqTimeout n
      else ((s.setOpt n fun o => o.verified tx heat (n % 4)).ringsDone n).startGroups (n / 64) := rfl

theorem State.reacqVerified_idle {tx : Bool} (h : (s.optLane n).seeks = false) (heat : Nat) :
    s.reacqVerified n tx heat = s := by
  have hidle : ¬ (s.optLane n).acquires tx = true := fun ha => by simp [h, OptLane.acquires_iff] at ha
  simp [State.reacqVerified_eq, hidle]

/-- A verification that comes too late is the ring's time-out. -/
theorem State.reacqVerified_late {tx : Bool} (hseek : (s.optLane n).seeks = true) {b : Nat}
    (hok : (s.optLane n).ringOk tx = false) (hfrom : (s.optLane n).ringFrom tx = some b) (hlate : b + 977 ≤ s.beat.bc) (heat : Nat) :
    s.reacqVerified n tx heat = s.reacqTimeout n := by
  have hacq := (OptLane.acquires_iff _ tx).2 ⟨hseek, hok, by rw [hfrom]; rfl⟩
  simp [State.reacqVerified_eq, hacq, hfrom, ringLate, hlate]

/-- The lane trains once both of its rings are verified. -/
theorem State.ringsDone_spec (hseek : (s.optLane n).seeks = true) {t : State} (ht : t = s.ringsDone n) :
    (∀ m, m ≠ n → t.optLane m = s.optLane m) ∧ s.onlyLanes t
      ∧ t.optLane n = if (s.optLane n).txOk && (s.optLane n).rxOk then (s.optLane n).moved .train none s.beat.bc
          else s.optLane n := by
  have heq : t = if (s.optLane n).txOk && (s.optLane n).rxOk then s.setOpt n fun o => o.moved .train none s.beat.bc
      else s := by
    rw [ht, State.ringsDone, State.moveLane_unposted _ _ rfl]
    simp only [OptLane.seeks] at hseek
    simp [hseek]
  rw [heq]
  split
  · exact ⟨fun m hm => by simp [hm], rfl, by simp⟩
  · exact ⟨fun _ _ => rfl, rfl, rfl⟩

/-- A ring verified in time; a lane whose transmit ring acquires, or is verified, does not wait for its turn. -/
theorem State.reacqVerified_inTime {tx : Bool} (hseek : (s.optLane n).seeks = true) (hok : (s.optLane n).ringOk tx = false)
    (hfrom : ((s.optLane n).ringFrom tx).isSome = true) (hlate : ringLate ((s.optLane n).ringFrom tx) s.beat.bc = false)
    (hturn : tx = true ∨ (s.optLane n).txOk = true ∨ (s.optLane n).txFrom.isSome = true) (heat : Nat) {t : State}
    (ht : t = s.reacqVerified n tx heat) {o : OptLane} (ho : o = (s.optLane n).verified tx heat (n % 4)) :
    s.onlyLanes t ∧ (∀ m, m ≠ n → (t.optLane m).st = (s.optLane m).st)
      ∧ t.optLane n = if o.txOk && o.rxOk then o.moved .train none s.beat.bc else o := by
  obtain ⟨v, hv⟩ : ∃ v, v = s.setOpt n fun o => o.verified tx heat (n % 4) := ⟨_, rfl⟩
  obtain ⟨w, hw⟩ : ∃ w, w = v.ringsDone n := ⟨_, rfl⟩
  have hvn : v.optLane n = o := by rw [hv, ho]; simp
  have hbeat : v.beat = s.beat := by rw [hv]; rfl
  have hseekv : (v.optLane n).seeks = true := by
    rw [hvn, ho]
    cases tx <;> exact hseek
  obtain ⟨hother, honly, hself⟩ := State.ringsDone_spec hseekv hw
  rw [hvn, hbeat] at hself
  have hacq := (OptLane.acquires_iff _ tx).2 ⟨hseek, hok, hfrom⟩
  have heq : t = w.startGroups (n / 64) := by
    rw [ht, hw, hv]
    simp [State.reacqVerified_eq, hacq, hlate]
  have hstart := State.starts_startGroups w (n / 64)
  rw [← heq] at hstart
  have hgo : ¬ (w.optLane n).waitsTurn := by
    rintro ⟨-, htx, hnone⟩
    have hlane : o.txOk = (w.optLane n).txOk ∧ o.txFrom = (w.optLane n).txFrom := by
      rw [hself]
      split <;> exact ⟨rfl, rfl⟩
    rw [← hlane.1, ho] at htx
    rw [← hlane.2, ho] at hnone
    cases tx
    · rcases hturn with h | h | h
      · cases h
      · exact absurd (htx.symm.trans h) (by decide)
      · rw [show (s.optLane n).txFrom = none from hnone] at h
        cases h
    · cases htx
  have hverified : s.onlyLanes w := State.onlyLanes_trans (hv ▸ s.onlyLanes_setOpt n _) honly
  refine ⟨State.onlyLanes_trans hverified hstart.onlyLanes, fun m hm => ?_, (hstart.same hgo).trans hself⟩
  rw [hstart.st, hother m hm, hv, State.optLane_setOpt, if_neg hm]

/-! ### Light (08 R228) -/

/-- The lane once light stands at its receive position. -/
def OptLane.lit (o : OptLane) (bc : Nat) : OptLane :=
  { o with noLight := false, lightAt := if o.noLight then bc else o.lightAt,
           cleanFrom := if o.noLight then bc else o.cleanFrom,
           rxFrom := if o.noLight && !o.rxOk && (o.st = .reacq || o.st = .acquire && (o.txFrom.isSome || o.txOk))
             then some bc else o.rxFrom }

theorem State.lightPresent_eq (s : State) (n : Nat) : s.lightPresent n = s.setOpt n fun o => o.lit s.beat.bc := rfl

/-- Light that stood already changes nothing. -/
theorem OptLane.lit_of_light {o : OptLane} (h : o.noLight = false) (bc : Nat) : o.lit bc = o := by
  cases o
  simp_all [OptLane.lit]
end

end Sys2Proof.Machine

/-! ## Training and link faults (08 R230 to R232) -/

namespace Sys2Proof.Machine

section
variable {s : State} {n : Nat}

theorem State.trainTimeout_waits (h : (s.optLane n).st ≠ .train ∨ (s.optLane n).noLight = true) :
    s.trainTimeout n = s := by
  rcases h with h | h <;> simp [State.trainTimeout, h]

theorem State.trainTimeout_early (h : (s.optLane n).trainLate s.beat.bc = false) : s.trainTimeout n = s := by
  simp [State.trainTimeout, h]

theorem State.trainComplete_waits (h : (s.optLane n).st ≠ .train ∨ (s.optLane n).noLight = true) :
    s.trainComplete n = s := by
  rcases h with h | h <;> simp [State.trainComplete, h]

section
variable (ht : (s.optLane n).st = .train) (hlight : (s.optLane n).noLight = false)
include ht hlight

theorem State.trainTimeout_late (h : (s.optLane n).trainLate s.beat.bc = true) : s.trainTimeout n = s.laneFailed n 8 := by
  simp [State.trainTimeout, ht, hlight, h]

theorem State.trainComplete_late (h : (s.optLane n).trainLate s.beat.bc = true) :
    s.trainComplete n = s.trainTimeout n := by
  simp [State.trainComplete, ht, hlight, h]

variable (hin : (s.optLane n).trainLate s.beat.bc = false)
include hin

theorem State.trainComplete_unclean (h : s.beat.bc < (s.optLane n).cleanFrom + 16) : s.trainComplete n = s := by
  simp [State.trainComplete, ht, hlight, hin, h]

variable (hclean : (s.optLane n).cleanFrom + 16 ≤ s.beat.bc)
include hclean

/-- A lane of no Ethernet port enters SERVICE on its own. -/
theorem State.trainComplete_alone (h : s.portOf n = none ∨ ∃ p, s.portOf n = some p ∧ s.portEth p = false) :
    s.trainComplete n = (s.setOpt n fun o => { o with ready := true }).trainDone n := by
  have hport : (s.setOpt n fun o => { o with ready := true }).portOf n = s.portOf n := rfl
  have heth : ∀ p, (s.setOpt n fun o => { o with ready := true }).portEth p = s.portEth p := fun _ => rfl
  rcases h with h | ⟨p, h, he⟩
  · simp [State.trainComplete, ht, hlight, hin, Nat.not_lt.2 hclean, hport, h]
  · simp [State.trainComplete, ht, hlight, hin, Nat.not_lt.2 hclean, hport, h, heth, he]

/-- On an Ethernet port the lanes enter together, or the lane waits for the others (R231). -/
theorem State.trainComplete_eth {p : Nat} (h : s.portOf n = some p) (he : s.portEth p = true) {t : State}
    (heq : t = s.setOpt n fun o => { o with ready := true }) :
    s.trainComplete n = if t.portTrained p then (s.portLanes p).foldl State.trainDone t else t := by
  have hport : t.portOf n = s.portOf n := by rw [heq]; rfl
  have heth : t.portEth p = s.portEth p := by rw [heq]; rfl
  have hlanes : t.portLanes p = s.portLanes p := by rw [heq]; rfl
  simp only [State.trainComplete, ht, hlight, hin, Nat.not_lt.2 hclean, ← heq, hport, h, heth, he, hlanes]
  simp
end

theorem State.trainDone_eq (s : State) (n : Nat) : s.trainDone n
    = if (s.optLane n).st = .train then s.setOpt n fun o => o.moved .service none s.beat.bc else s := by
  rw [State.trainDone, State.moveLane_unposted _ _ rfl]

/-- The lane after the end of its training. -/
def OptLane.trained (o : OptLane) (bc : Nat) : OptLane := if o.st = .train then o.moved .service none bc else o

theorem State.optLane_trainDone (s : State) (n m : Nat) :
    (s.trainDone n).optLane m = if m = n then (s.optLane n).trained s.beat.bc else s.optLane m := by
  rw [State.trainDone_eq, OptLane.trained]
  by_cases ht : (s.optLane n).st = .train <;> by_cases hm : m = n <;> simp [ht, hm]

theorem State.trainDone_frame (s : State) (n : Nat) : s.trainDone n = { s with opt := (s.trainDone n).opt } := by
  rw [State.trainDone_eq]
  split <;> rfl

theorem State.nodup_portLanes (s : State) (p : Nat) : (s.portLanes p).Nodup := nodup_rangeFrom _ _

/-- Every lane of the list that trains enters SERVICE. -/
theorem State.trainDone_all (s : State) {l : List Nat} (hl : l.Nodup) {t : State} (ht : t = l.foldl State.trainDone s) :
    t = { s with opt := t.opt }
      ∧ ∀ m, t.optLane m = if m ∈ l then (s.optLane m).trained s.beat.bc else s.optLane m := by
  rw [ht]
  exact State.optLane_foldl (K := fun t => t = { s with opt := t.opt }) (g := fun _ o => o.trained s.beat.bc)
    (fun t n h => by rw [State.trainDone_frame, h])
    (fun t n m h => by rw [State.optLane_trainDone, show t.beat = s.beat from congrArg (·.beat) h]) hl rfl

/-! ### Faults of the link (08 R230, R232) -/

theorem State.linkFault_other {light : Bool} (hs : (s.optLane n).st ≠ .service) (ht : (s.optLane n).st ≠ .train) :
    s.linkFault n light = s := by
  simp [State.linkFault, hs, ht]

theorem State.linkFault_train {light : Bool} (h : (s.optLane n).st = .train) :
    s.linkFault n light = (s.dimmed n light).notClean n := by
  simp [State.linkFault, h, State.dimmed]

theorem State.linkFault_service {light : Bool} (h : (s.optLane n).st = .service) :
    s.linkFault n light = (s.dimmed n light).laneToTrain n 8 := by
  simp [State.linkFault, h, State.dimmed]

/-- The departures of a lane from SERVICE for TRAIN in the last 60 s. -/
def OptLane.recent (o : OptLane) (bc : Nat) : List Nat := o.departs.filter fun b => bc < b + 234375000

/-- A lane that leaves SERVICE for TRAIN, noted with its departure. -/
def State.departed (s : State) (n cause : Nat) : State :=
  (s.setOpt n fun o => { o with departs := (s.optLane n).recent s.beat.bc ++ [s.beat.bc] }).moveLane n .train (some cause)

theorem State.laneToTrain_service (h : (s.optLane n).st = .service) (cause : Nat) :
    s.laneToTrain n cause = if 2 ≤ ((s.optLane n).recent s.beat.bc).length
      then (s.departed n cause).laneFailed n 7 else s.departed n cause := by
  have hcount : 3 ≤ ((s.optLane n).recent s.beat.bc ++ [s.beat.bc]).length
      ↔ 2 ≤ ((s.optLane n).recent s.beat.bc).length := by simp
  simp only [← hcount]
  simp [State.laneToTrain, h, State.departed, OptLane.recent]

theorem State.optLane_departed (s : State) (n cause m : Nat) : (s.departed n cause).optLane m
    = if m = n then
        { s.optLane n with departs := (s.optLane n).recent s.beat.bc ++ [s.beat.bc] }.moved .train (some cause) s.beat.bc
      else s.optLane m := by
  by_cases hm : m = n <;> simp [State.departed, hm]

theorem State.onlyLanes_departed (s : State) (n cause : Nat) : s.onlyLanes (s.departed n cause) :=
  s.onlyLanes_setOpt_moveLane n _ _ _
end

end Sys2Proof.Machine

/-! ## Rings and training, as commands (08 R224 to R233) -/

namespace Sys2Proof.Machine

section
variable {s : State} {n : Nat} (hl : s.live = true) (hn : n < 1024)
include hl hn

/-! ### RING_UNLOCK and PILOT_WINDOW -/

theorem exec_ringUnlock_service {tx : Bool} (hlock : s.ringLocked n tx = true) (hst : (s.optLane n).st = .service)
    (light : Bool) :
    ∃ u, exec (.ringUnlock n ⟨tx, light⟩) s = .next u ∧ (u.optLane n).st = .reacq
      ∧ (u.optLane n).cause = (if tx then 5 else if light then 6 else 10)
      ∧ (if tx then (u.optLane n).txOk else (u.optLane n).rxOk) = false
      ∧ (tx = true → (u.optLane n).txFrom = some s.beat.bc)
      ∧ (if tx then (u.optLane n).parkedTx else (u.optLane n).parkedRx) = true
      ∧ (tx = false → light = false → (u.optLane n).noLight = true)
      ∧ u.fld .leLaneCnt n 47 32 = Nat.min 65535 (s.fld .leLaneCnt n 47 32 + 1)
      ∧ (∀ m, m ≠ n → u.optLane m = s.optLane m) ∧ u.net = s.net := by
  obtain ⟨v, hv⟩ : ∃ v, v = s.unlocked n (tx || light) := ⟨_, rfl⟩
  obtain ⟨u, hu⟩ : ∃ u, u = s.ringUnlock n tx light := ⟨_, rfl⟩
  obtain ⟨hvlane, hvfld, hframe⟩ := State.unlocked_spec hv
  have hvn := (hvlane n).trans (if_pos rfl)
  obtain ⟨hlane, hmoves⟩ := State.ringLost_spec (by rw [hvn]; exact hst) tx (unlockCause tx light)
    (hu.trans ((State.ringUnlock_locked hlock light).trans (by rw [hv])))
  have hun := (hlane n).trans (if_pos rfl)
  rw [hvn, hframe.beat] at hun
  refine ⟨u, run_live_eq (i := .ringUnlock n ⟨tx, light⟩) (decide_eq_true hn) hl hu.symm
    ((congrArg (·.pending) hmoves).trans hframe.pending), ?_, ?_, ?_, ?_, ?_, ?_, ?_, fun m hm => ?_,
    (congrArg (·.net) hmoves).trans hframe.net⟩
  · rw [hun]; rfl
  · rw [hun]; rfl
  · rw [hun]; cases tx <;> rfl
  · rintro rfl
    rw [hun]; rfl
  · rw [hun]; cases tx <;> rfl
  · rintro rfl rfl
    rw [hun]
    exact Bool.or_true _
  · rw [← hvfld, hmoves]; rfl
  · rw [hlane, if_neg hm, hvlane, if_neg hm]

theorem exec_pilotWindow_unchecked {tx : Bool} {tone : Nat} (htone : tone < 4) (hoff : (s.optLane n).st ≠ .off)
    (hbyp : tx = true ∨ s.byp.rxByp.contains n = false) (hcheck : s.ringChecked n tx = false) :
    ∃ u, exec (.pilotWindow n tx tone) s = .next u ∧ u = { s with opt := u.opt }
      ∧ (if tx then (u.optLane n).pilTx else (u.optLane n).pilRx) = tone ∧ (u.optLane n).st = (s.optLane n).st
      ∧ ∀ m, m ≠ n → u.optLane m = s.optLane m := by
  obtain ⟨u, hu⟩ : ∃ u, u = s.setOpt n fun o => o.window tx (s.ringChecked n tx) (decide (tone ≠ n % 4)) tone := ⟨_, rfl⟩
  have heq : s.pilotWindow n tx tone = u := by
    rw [State.pilotWindow_seen hoff hbyp tone hu, hcheck]
    simp
  have hun : u.optLane n = (s.optLane n).window tx (s.ringChecked n tx) (decide (tone ≠ n % 4)) tone := by
    rw [hu]; simp
  refine ⟨u, run_live_eq (i := .pilotWindow n tx tone) (decide_eq_true ⟨hn, htone⟩) hl heq (by rw [hu]; rfl),
    by rw [hu]; rfl, ?_, ?_, fun m hm => by rw [hu]; simp [hm]⟩
  · rw [hun]; cases tx <;> rfl
  · rw [hun]; cases tx <;> rfl

section
variable {tx : Bool} (hlock : s.ringLocked n tx = true) (hst : (s.optLane n).st = .service) {tone : Nat} (htone : tone < 4)
  (hcheck : tx = true ∨ s.flag .leCfg (n / 64) 3 = true)
include hlock hst htone hcheck

/-- A window that names the lane's own index, or a wrong one for the first time, is noted. -/
theorem exec_pilotWindow_noted (h : tone = n % 4 ∨ (s.optLane n).lastWrong tx ≠ some tone) :
    ∃ u, exec (.pilotWindow n tx tone) s = .next u ∧ (u.optLane n).st = .service
      ∧ (if tx then (u.optLane n).winTx else (u.optLane n).winRx) = (if tone = n % 4 then none else some tone)
      ∧ (if tx then (u.optLane n).pilTx else (u.optLane n).pilRx) = tone ∧ u = { s with opt := u.opt } := by
  obtain ⟨hoff, hbyp⟩ := State.seen_of_ringLocked hlock
  have hc := State.ringChecked_of_ringLocked hlock hcheck
  obtain ⟨u, hu⟩ : ∃ u, u = s.setOpt n fun o => o.window tx (s.ringChecked n tx) (decide (tone ≠ n % 4)) tone := ⟨_, rfl⟩
  have heq : s.pilotWindow n tx tone = u := by
    rw [State.pilotWindow_seen hoff hbyp tone hu, if_neg]
    rintro ⟨-, hbad, hlast⟩
    exact h.elim hbad fun hne => hne hlast
  have hun : u.optLane n = (s.optLane n).window tx true (decide (tone ≠ n % 4)) tone := by
    rw [hu, hc]; simp
  refine ⟨u, run_live_eq (i := .pilotWindow n tx tone) (decide_eq_true ⟨hn, htone⟩) hl heq (by rw [hu]; rfl),
    ?_, ?_, ?_, by rw [hu]; rfl⟩
  · rw [hun, ← hst]; cases tx <;> rfl
  · rw [hun]
    by_cases hgood : tone = n % 4 <;> cases tx <;> simp [OptLane.window, hgood]
  · rw [hun]; cases tx <;> rfl

/-- The same wrong index a second time is a mislock (R227). -/
theorem exec_pilotWindow_mislock (hbad : tone ≠ n % 4) (hlast : (s.optLane n).lastWrong tx = some tone) :
    ∃ u, exec (.pilotWindow n tx tone) s = .next u ∧ (u.optLane n).st = .reacq
      ∧ (u.optLane n).cause = (if tx then 3 else 4)
      ∧ u.fld .leLaneCnt n 63 48 = Nat.min 65535 (s.fld .leLaneCnt n 63 48 + 1)
      ∧ ∀ m, m ≠ n → u.optLane m = s.optLane m := by
  obtain ⟨hoff, hbyp⟩ := State.seen_of_ringLocked hlock
  have hc := State.ringChecked_of_ringLocked hlock hcheck
  obtain ⟨v, hv⟩ : ∃ v, v = s.setOpt n fun o => o.window tx (s.ringChecked n tx) (decide (tone ≠ n % 4)) tone := ⟨_, rfl⟩
  obtain ⟨u, hu⟩ : ∃ u, u = s.pilotWindow n tx tone := ⟨_, rfl⟩
  have hvst : (v.optLane n).st = .service := by
    rw [hv, ← hst]
    cases tx <;> simp [OptLane.window]
  have heq := hu.trans ((State.pilotWindow_seen hoff hbyp tone hv).trans (if_pos ⟨hc, hbad, hlast⟩))
  obtain ⟨hlane, hmoves⟩ := State.ringLost_spec (s := v.bump .leLaneCnt n 63 48 1) hvst tx (if tx then 3 else 4) heq
  have hun := (hlane n).trans (if_pos rfl)
  refine ⟨u, run_live_eq (i := .pilotWindow n tx tone) (decide_eq_true ⟨hn, htone⟩) hl hu.symm ?_, by rw [hun]; rfl,
    by rw [hun]; rfl, ?_, fun m hm => ?_⟩
  · rw [hmoves, hv]; rfl
  · rw [hmoves, hv]
    exact s.fld_bump .leLaneCnt n 48 1 (by decide)
  · rw [hlane, if_neg hm, hv]
    simp [hm]
end

/-! ### REACQ_VERIFIED and REACQ_TIMEOUT -/

theorem exec_reacqVerified_idle {heat : Nat} (hheat : heat < 4096) (h : (s.optLane n).seeks = false) (tx : Bool) :
    exec (.reacqVerified n tx heat) s = .next s ∧ exec (.reacqTimeout n) s = .next s :=
  ⟨run_live_eq (i := .reacqVerified n tx heat) (decide_eq_true ⟨hn, hheat⟩) hl (State.reacqVerified_idle h heat) rfl,
    run_live_eq (i := .reacqTimeout n) (decide_eq_true hn) hl (State.reacqTimeout_idle h) rfl⟩

section
variable {heat : Nat} (hheat : heat < 4096) (hseek : (s.optLane n).seeks = true)
include hheat hseek

theorem exec_reacqVerified_inTime {tx : Bool} (hok : (s.optLane n).ringOk tx = false)
    (hfrom : ((s.optLane n).ringFrom tx).isSome = true) (hlate : ringLate ((s.optLane n).ringFrom tx) s.beat.bc = false)
    (hturn : tx = true ∨ (s.optLane n).txOk = true ∨ (s.optLane n).txFrom.isSome = true) :
    ∃ u, exec (.reacqVerified n tx heat) s = .next u ∧ (u.optLane n).ringOk tx = true
      ∧ (if tx then (u.optLane n).heatTx else (u.optLane n).heatRx) = heat
      ∧ (if tx then (u.optLane n).parkedTx else (u.optLane n).parkedRx) = false
      ∧ (u.optLane n).st = (if (s.optLane n).ringOk (!tx) then .train else (s.optLane n).st)
      ∧ (∀ m, m ≠ n → (u.optLane m).st = (s.optLane m).st) ∧ u.net = s.net ∧ u.mem = s.mem := by
  obtain ⟨u, hu⟩ : ∃ u, u = s.reacqVerified n tx heat := ⟨_, rfl⟩
  obtain ⟨o, ho⟩ : ∃ o, o = (s.optLane n).verified tx heat (n % 4) := ⟨_, rfl⟩
  obtain ⟨hframe, hother, hun⟩ := State.reacqVerified_inTime hseek hok hfrom hlate hturn heat hu ho
  have hboth : (o.txOk && o.rxOk) = (s.optLane n).ringOk (!tx) := by
    rw [ho]
    cases tx
    · exact Bool.and_true _
    · rfl
  rw [hboth] at hun
  have hkept : (u.optLane n).ringOk tx = o.ringOk tx ∧ (u.optLane n).heatTx = o.heatTx ∧ (u.optLane n).heatRx = o.heatRx
      ∧ (u.optLane n).parkedTx = o.parkedTx ∧ (u.optLane n).parkedRx = o.parkedRx := by
    rw [hun]
    split <;> exact ⟨rfl, rfl, rfl, rfl, rfl⟩
  obtain ⟨hok', hheatTx, hheatRx, hparkTx, hparkRx⟩ := hkept
  refine ⟨u, run_live_eq (i := .reacqVerified n tx heat) (decide_eq_true ⟨hn, hheat⟩) hl hu.symm hframe.pending,
    ?_, ?_, ?_, ?_, hother, hframe.net, hframe.mem⟩
  · rw [hok', ho]; cases tx <;> rfl
  · rw [hheatTx, hheatRx, ho]; cases tx <;> rfl
  · rw [hparkTx, hparkRx, ho]; cases tx <;> rfl
  · rw [hun]
    split
    · rfl
    · rw [ho]; cases tx <;> rfl

theorem exec_reacqTimeout_late {tx : Bool} {b : Nat} (hok : (s.optLane n).ringOk tx = false)
    (hfrom : (s.optLane n).ringFrom tx = some b) (hlate : b + 977 ≤ s.beat.bc) :
    ∃ u, exec (.reacqTimeout n) s = .next u ∧ exec (.reacqVerified n tx heat) s = .next u ∧ (u.optLane n).st = .failed
      ∧ (u.optLane n).parkedTx = true ∧ (u.optLane n).parkedRx = true
      ∧ u.fld .leLaneCnt n 7 0 = Nat.min 255 (s.fld .leLaneCnt n 7 0 + 1)
      ∧ ((s.optLane n).st = .reacq → (u.optLane n).cause = (s.optLane n).cause) := by
  obtain ⟨u, hu⟩ : ∃ u, u = s.reacqTimeout n := ⟨_, rfl⟩
  have hout : (s.optLane n).ringOut tx s.beat.bc = true := by
    rw [OptLane.ringOut, hok, hfrom]
    exact decide_eq_true hlate
  obtain ⟨hframe, hfld, hun⟩ := State.reacqTimeout_late hseek hout hu
  refine ⟨u, run_live_eq (i := .reacqTimeout n) (decide_eq_true hn) hl hu.symm hframe.pending,
    run_live_eq (i := .reacqVerified n tx heat) (decide_eq_true ⟨hn, hheat⟩) hl
      ((State.reacqVerified_late hseek hok hfrom hlate heat).trans hu.symm) hframe.pending,
    by rw [hun]; rfl, by rw [hun]; rfl, by rw [hun]; rfl, hfld, fun hr => ?_⟩
  rw [hun]
  exact if_pos hr
end

theorem exec_lightPresent :
    ∃ u, exec (.lightPresent n) s = .next u ∧ u = { s with opt := u.opt } ∧ (∀ m, m ≠ n → u.optLane m = s.optLane m)
      ∧ (u.optLane n).noLight = false ∧ (u.optLane n).st = (s.optLane n).st
      ∧ ((s.optLane n).noLight = true → (s.optLane n).rxOk = false → (s.optLane n).st = .reacq →
          (u.optLane n).rxFrom = some s.beat.bc)
      ∧ ((s.optLane n).noLight = false → u.optLane n = s.optLane n) := by
  have hun : (s.lightPresent n).optLane n = (s.optLane n).lit s.beat.bc := by
    rw [State.lightPresent_eq]; simp
  refine ⟨s.lightPresent n, run_live_eq (i := .lightPresent n) (decide_eq_true hn) hl rfl rfl, rfl,
    fun m hm => by rw [State.lightPresent_eq]; simp [hm], by rw [hun]; rfl, by rw [hun]; rfl, fun hdark hok hst => ?_,
    fun hlight => by rw [hun, OptLane.lit_of_light hlight]⟩
  rw [hun]
  simp [OptLane.lit, hdark, hok, hst]

/-! ### LANE_TRAIN_COMPLETE, TRAIN_TIMEOUT and LINK_FAULT -/

theorem exec_train_waits (h : (s.optLane n).st ≠ .train ∨ (s.optLane n).noLight = true) :
    exec (.laneTrainComplete n) s = .next s ∧ exec (.trainTimeout n) s = .next s :=
  ⟨run_live_eq (i := .laneTrainComplete n) (decide_eq_true hn) hl (State.trainComplete_waits h) rfl,
    run_live_eq (i := .trainTimeout n) (decide_eq_true hn) hl (State.trainTimeout_waits h) rfl⟩

section
variable (ht : (s.optLane n).st = .train) (hlight : (s.optLane n).noLight = false)
include ht hlight

theorem exec_train_late (h : (s.optLane n).trainLate s.beat.bc = true) :
    ∃ u, exec (.trainTimeout n) s = .next u ∧ exec (.laneTrainComplete n) s = .next u ∧ (u.optLane n).st = .failed
      ∧ (u.optLane n).cause = 8 ∧ ∀ m, m ≠ n → u.optLane m = s.optLane m := by
  have htime := State.trainTimeout_late ht hlight h
  have hpend := (s.onlyLanes_laneFailed n 8).pending
  exact ⟨s.laneFailed n 8, run_live_eq (i := .trainTimeout n) (decide_eq_true hn) hl htime hpend,
    run_live_eq (i := .laneTrainComplete n) (decide_eq_true hn) hl
      ((State.trainComplete_late ht hlight h).trans htime) hpend,
    by simp, by simp [OptLane.fallen, OptLane.moved], fun m hm => by simp [hm]⟩

variable (hin : (s.optLane n).trainLate s.beat.bc = false) (hclean : (s.optLane n).cleanFrom + 16 ≤ s.beat.bc)
include hin hclean

theorem exec_laneTrainComplete_alone (h : s.portOf n = none ∨ ∃ p, s.portOf n = some p ∧ s.portEth p = false) :
    ∃ u, exec (.laneTrainComplete n) s = .next u ∧ (u.optLane n).st = .service
      ∧ (u.optLane n).inSvc = (s.optLane n).inSvc ∧ (∀ m, m ≠ n → u.optLane m = s.optLane m)
      ∧ u = { s with opt := u.opt } := by
  obtain ⟨v, hv⟩ : ∃ v, v = s.setOpt n fun o => { o with ready := true } := ⟨_, rfl⟩
  have heq := State.trainComplete_alone ht hlight hin hclean h
  rw [← hv] at heq
  have hlane : ∀ m, (v.trainDone n).optLane m
      = if m = n then (v.optLane n).trained v.beat.bc else s.optLane m := fun m => by
    rw [State.optLane_trainDone]
    by_cases hm : m = n <;> simp [hm, hv]
  have hvn : v.optLane n = { s.optLane n with ready := true } := by rw [hv]; simp
  have hun := (hlane n).trans (if_pos rfl)
  rw [hvn, OptLane.trained, if_pos ht] at hun
  have hframe : v.trainDone n = { s with opt := (v.trainDone n).opt } := by rw [State.trainDone_frame, hv]; rfl
  exact ⟨v.trainDone n, run_live_eq (i := .laneTrainComplete n) (decide_eq_true hn) hl heq (congrArg (·.pending) hframe),
    by rw [hun]; rfl, by rw [hun]; rfl, fun m hm => (hlane m).trans (if_neg hm), hframe⟩

theorem exec_laneTrainComplete_eth {p : Nat} (h : s.portOf n = some p) (he : s.portEth p = true) :
    ((∀ m ∈ s.portLanes p, m ≠ n →
        (s.optLane m).st = .service ∨ (s.optLane m).st = .train ∧ (s.optLane m).ready = true) →
      ∃ u, exec (.laneTrainComplete n) s = .next u ∧ (∀ m ∈ s.portLanes p, (u.optLane m).st = .service)
        ∧ u = { s with opt := u.opt })
    ∧ ((∃ m ∈ s.portLanes p, m ≠ n ∧ (s.optLane m).st ≠ .service
          ∧ ((s.optLane m).st ≠ .train ∨ (s.optLane m).ready = false)) →
      ∃ u, exec (.laneTrainComplete n) s = .next u ∧ u.optLane n = { s.optLane n with ready := true }
        ∧ (∀ m, m ≠ n → u.optLane m = s.optLane m)) := by
  obtain ⟨v, hv⟩ : ∃ v, v = s.setOpt n fun o => { o with ready := true } := ⟨_, rfl⟩
  have heq := State.trainComplete_eth ht hlight hin hclean h he hv
  have hvlane : ∀ m, v.optLane m = if m = n then { s.optLane n with ready := true } else s.optLane m := fun m => by
    rw [hv, State.optLane_setOpt]
  have hports : v.portLanes p = s.portLanes p := by rw [hv]; rfl
  have hready : v.portTrained p = true
      ↔ ∀ m ∈ s.portLanes p, (v.optLane m).st = .service ∨ (v.optLane m).st = .train ∧ (v.optLane m).ready = true := by
    simp [State.portTrained, hports]
  refine ⟨fun hall => ?_, fun ⟨m, hm, hne, hsvc, hlate⟩ => ?_⟩
  · have hgo : ∀ m ∈ s.portLanes p, (v.optLane m).st = .service ∨ (v.optLane m).st = .train ∧ (v.optLane m).ready = true :=
      fun m hm => by
        rw [hvlane]
        split
        · exact .inr ⟨ht, rfl⟩
        · exact hall m hm ‹_›
    obtain ⟨u, hu⟩ : ∃ u, u = (s.portLanes p).foldl State.trainDone v := ⟨_, rfl⟩
    obtain ⟨hframe, hlane⟩ := State.trainDone_all v (s.nodup_portLanes p) hu
    rw [if_pos (hready.2 hgo), ← hu] at heq
    have hsame : u = { s with opt := u.opt } := by rw [hframe, hv]; rfl
    refine ⟨u, run_live_eq (i := .laneTrainComplete n) (decide_eq_true hn) hl heq (congrArg (·.pending) hsame),
      fun m hm => ?_, hsame⟩
    rw [hlane, if_pos hm, OptLane.trained]
    rcases hgo m hm with hs | ⟨hs, -⟩
    · rw [if_neg (by rw [hs]; decide), hs]
    · rw [if_pos hs]; rfl
  · have hno : ¬ v.portTrained p = true := fun htr => by
      have := hready.1 htr m hm
      rw [hvlane, if_neg hne] at this
      rcases this with hs | ⟨hs, hr⟩
      · exact hsvc hs
      · exact hlate.elim (fun h => h hs) fun h => absurd (hr.symm.trans h) (by decide)
    rw [if_neg hno] at heq
    exact ⟨v, run_live_eq (i := .laneTrainComplete n) (decide_eq_true hn) hl heq (by rw [hv]; rfl),
      (hvlane n).trans (if_pos rfl), fun m hm => (hvlane m).trans (if_neg hm)⟩
end

theorem exec_linkFault_train (light : Bool) (h : (s.optLane n).st = .train) :
    ∃ u, exec (.linkFault ⟨n, light⟩) s = .next u ∧ u = { s with opt := u.opt }
      ∧ u.optLane n
        = { s.optLane n with ready := false, cleanFrom := s.beat.bc, noLight := (s.optLane n).noLight || !light } := by
  obtain ⟨hdim, hframe⟩ := s.dimmed_frame n light
  have hu : (s.dimmed n light).notClean n = { s with opt := ((s.dimmed n light).notClean n).opt } := by
    rw [hdim]; rfl
  refine ⟨(s.dimmed n light).notClean n, run_live_eq (i := .linkFault ⟨n, light⟩) (decide_eq_true hn) hl
    (State.linkFault_train h) (congrArg (·.pending) hu), hu, ?_⟩
  simp [State.notClean, State.optLane_dimmed, OptLane.dimmed, hframe.beat]

theorem exec_linkFault_service (light : Bool) (h : (s.optLane n).st = .service) :
    (((s.optLane n).recent s.beat.bc).length < 2 →
      ∃ u, exec (.linkFault ⟨n, light⟩) s = .next u ∧ (u.optLane n).st = .train ∧ (u.optLane n).cause = 8
        ∧ (u.optLane n).noLight = ((s.optLane n).noLight || !light) ∧ ∀ m, m ≠ n → u.optLane m = s.optLane m)
    ∧ (2 ≤ ((s.optLane n).recent s.beat.bc).length →
      ∃ u, exec (.linkFault ⟨n, light⟩) s = .next u ∧ (u.optLane n).st = .failed ∧ (u.optLane n).cause = 7
        ∧ ∀ m, m ≠ n → u.optLane m = s.optLane m) := by
  obtain ⟨v, hv⟩ : ∃ v, v = s.dimmed n light := ⟨_, rfl⟩
  have hvlane : ∀ m, v.optLane m = if m = n then (s.optLane n).dimmed light else s.optLane m := fun m => by
    rw [hv, State.optLane_dimmed]
  have hvn := (hvlane n).trans (if_pos rfl)
  have hframe : s.onlyLanes v := hv ▸ (s.dimmed_frame n light).2
  have heq := (State.linkFault_service (light := light) h).trans
    ((by rw [hv] : _ = v.laneToTrain n 8).trans (State.laneToTrain_service (by rw [hvn]; exact h) 8))
  have hrecent : (v.optLane n).recent v.beat.bc = (s.optLane n).recent s.beat.bc := by rw [hvn, hframe.beat]; rfl
  have hleft := State.onlyLanes_trans hframe (v.onlyLanes_departed n 8)
  rw [hrecent] at heq
  refine ⟨fun hfew => ?_, fun hmany => ?_⟩
  · rw [if_neg (Nat.not_le.2 hfew)] at heq
    refine ⟨_, run_live_eq (i := .linkFault ⟨n, light⟩) (decide_eq_true hn) hl heq hleft.pending, ?_, ?_, ?_,
      fun m hm => ?_⟩
    · rw [State.optLane_departed, if_pos rfl]; rfl
    · rw [State.optLane_departed, if_pos rfl]; rfl
    · rw [State.optLane_departed, if_pos rfl, hvn]; rfl
    · rw [State.optLane_departed, if_neg hm, hvlane, if_neg hm]
  · rw [if_pos hmany] at heq
    refine ⟨_, run_live_eq (i := .linkFault ⟨n, light⟩) (decide_eq_true hn) hl heq
      (State.onlyLanes_trans hleft (State.onlyLanes_laneFailed _ n 7)).pending, ?_, ?_, fun m hm => ?_⟩
    · rw [State.optLane_laneFailed, if_pos rfl]; rfl
    · rw [State.optLane_laneFailed, if_pos rfl]; rfl
    · rw [State.optLane_laneFailed, if_neg hm, State.optLane_departed, if_neg hm, hvlane, if_neg hm]
end

/-! ### The statement -/

/-- Settles O58: a lane changes by `OptLane` functions of its own; the groups of rings that go on (`State.Starts`) keep
every lane's state. -/
theorem ringsAndTraining : Obligations.RingsAndTraining := by
  rintro s n _ hl hn rfl
  have hidle : (s.optLane n).st ≠ .acquire → (s.optLane n).st ≠ .reacq → (s.optLane n).seeks = false := fun ha hr => by
    simp [OptLane.seeks, ha, hr]
  have hseek : (s.optLane n).st = .acquire ∨ (s.optLane n).st = .reacq → (s.optLane n).seeks = true := fun h => by
    simpa [OptLane.seeks] using h
  refine ⟨fun tx light h => run_live_eq (i := .ringUnlock n ⟨tx, light⟩) (decide_eq_true hn) hl
      (State.ringUnlock_unlocked h light) rfl,
    fun tx tone htone h => run_live_eq (i := .pilotWindow n tx tone) (decide_eq_true ⟨hn, htone⟩) hl
      (State.pilotWindow_ignored h tone) rfl,
    fun tx tone htone => exec_pilotWindow_unchecked hl hn htone,
    fun tx hlock hst => ⟨exec_ringUnlock_service hl hn hlock hst, fun tone htone hcheck =>
      ⟨exec_pilotWindow_noted hl hn hlock hst htone hcheck, exec_pilotWindow_mislock hl hn hlock hst htone hcheck⟩⟩,
    fun tx heat hheat ha hr => exec_reacqVerified_idle hl hn hheat (hidle ha hr) tx,
    fun heat hheat h => ⟨fun hok hfrom hlate => ?txVerified, fun hok hfrom hlate hturn => ?rxVerified,
      fun htx hrx => ?notLate, fun b tx => exec_reacqTimeout_late hl hn hheat (hseek h)⟩,
    exec_lightPresent hl hn, exec_train_waits hl hn,
    fun ht hlight => ⟨fun hin => ?inTime, fun hlate => exec_train_late hl hn ht hlight (decide_eq_true hlate)⟩,
    fun light hs ht => run_live_eq (i := .linkFault ⟨n, light⟩) (decide_eq_true hn) hl (State.linkFault_other hs ht) rfl,
    exec_linkFault_train hl hn, exec_linkFault_service hl hn⟩
  case txVerified => exact exec_reacqVerified_inTime hl hn hheat (hseek h) (tx := true) hok hfrom hlate (.inl rfl)
  case rxVerified => exact exec_reacqVerified_inTime hl hn hheat (hseek h) (tx := false) hok hfrom hlate (.inr hturn)
  case notLate =>
    refine run_live_eq (i := .reacqTimeout n) (decide_eq_true hn) hl (State.reacqTimeout_early fun tx => ?_) rfl
    cases tx
    · rcases hrx with h | h <;> simp [OptLane.ringOut, OptLane.ringOk, OptLane.ringFrom, h]
    · rcases htx with h | h <;> simp [OptLane.ringOut, OptLane.ringOk, OptLane.ringFrom, h]
  case inTime =>
    have hlate : (s.optLane n).trainLate s.beat.bc = false := decide_eq_false (Nat.not_le.2 hin)
    exact ⟨run_live_eq (i := .trainTimeout n) (decide_eq_true hn) hl (State.trainTimeout_early hlate) rfl,
      fun hclean => run_live_eq (i := .laneTrainComplete n) (decide_eq_true hn) hl
        (State.trainComplete_unclean ht hlight hlate hclean) rfl,
      fun hclean => ⟨exec_laneTrainComplete_alone hl hn ht hlight hlate hclean,
        fun p => exec_laneTrainComplete_eth hl hn ht hlight hlate hclean⟩⟩

end Sys2Proof.Machine

/-! ## Lasers, and the lanes that they feed (08 R220 to R222, R239) -/

namespace Sys2Proof.Machine

/-! ### Which lanes a laser feeds (08 R220) -/

theorem nodup_fedLanes (e k : Nat) : (fedLanes e k).Nodup := by
  refine List.Pairwise.map _ (fun i j hne h => hne ?_) List.nodup_range
  omega

theorem mem_fedLanes {e k n : Nat} :
    n ∈ fedLanes e k ↔ ∃ i, i < 8 ∧ 64 * e + 4 * (8 * (k % 2) + i) + k / 2 = n := by
  simp [fedLanes]

theorem engine_of_mem_fedLanes {e k n : Nat} (hk : k < 8) (h : n ∈ fedLanes e k) : n / 64 = e ∧ feederOf n = k := by
  obtain ⟨i, hi, hn⟩ := mem_fedLanes.1 h
  have hfour : n % 4 = k / 2 := by omega
  have hhalf : n % 64 / 32 = k % 2 := by
    have hrow : n % 64 = 4 * (8 * (k % 2) + i) + k / 2 := by omega
    omega
  rw [feederOf, hfour, hhalf]
  omega

/-! ### A laser that changes -/

/-- The lasers change, and their items are posted. -/
def State.onlyLasers (s t : State) : Prop :=
  t = { s with opt := { s.opt with lasers := t.opt.lasers }, host := t.host }

/-- The light engines change, and the registers, free values and items that they touch. -/
def State.onlyOptics (s t : State) : Prop :=
  t = { s with opt := t.opt, free := t.free, host := t.host, regs := t.regs }

section
variable {s t u : State}

theorem State.onlyLasers_trans (h : s.onlyLasers t) (g : t.onlyLasers u) : s.onlyLasers u := by
  unfold State.onlyLasers at *
  rw [g, h]

theorem State.onlyLasers_setLaser (s : State) (e k : Nat) (f : Laser → Laser) : s.onlyLasers (s.setLaser e k f) := by
  unfold State.setLaser
  dsimp only
  split <;> rfl

theorem State.onlyLasers.optLane (h : s.onlyLasers t) (m : Nat) : t.optLane m = s.optLane m :=
  congrArg (fun t => t.optLane m) h

theorem State.onlyLasers.beat (h : s.onlyLasers t) : t.beat = s.beat := congrArg (·.beat) h

theorem State.onlyLasers.engineOn (h : s.onlyLasers t) (e : Nat) : t.engineOn e = s.engineOn e :=
  congrArg (fun t => t.engineOn e) h

theorem State.onlyLasers.flag (h : s.onlyLasers t) (k : RegKind) (i n : Nat) : t.flag k i n = s.flag k i n :=
  congrArg (fun t => t.flag k i n) h

theorem State.onlyLanes.engineOn (h : s.onlyLanes t) (e : Nat) : t.engineOn e = s.engineOn e :=
  congrArg (fun t => t.engineOn e) h

theorem State.onlyLanes.fed (h : s.onlyLanes t) (n : Nat) : t.fed n = s.fed n := congrArg (fun t => t.fed n) h

theorem State.onlyLasers.onlyOptics (h : s.onlyLasers t) : s.onlyOptics t := by
  unfold State.onlyOptics
  rw [h]

theorem State.onlyLanes.onlyOptics (h : s.onlyLanes t) : s.onlyOptics t := by
  unfold State.onlyOptics
  rw [h]

theorem State.onlyOptics_trans (h : s.onlyOptics t) (g : t.onlyOptics u) : s.onlyOptics u := by
  unfold State.onlyOptics at *
  rw [g, h]

theorem State.onlyOptics.net (h : s.onlyOptics t) : t.net = s.net := congrArg (·.net) h

theorem State.onlyOptics.mem (h : s.onlyOptics t) : t.mem = s.mem := congrArg (·.mem) h

theorem State.onlyOptics.pending (h : s.onlyOptics t) : t.pending = s.pending := congrArg (·.pending) h
end

/-- A laser after a change, and every other as it was. -/
theorem State.laser_setLaser (s : State) (e k : Nat) (f : Laser → Laser) (e' k' : Nat) :
    (s.setLaser e k f).laser e' k' = if 12 * e' + k' = 12 * e + k then f (s.laser e k) else s.laser e' k' := by
  have hopt : (s.setLaser e k f).opt.lasers = SMap.set {} s.opt.lasers (12 * e + k) (f (s.laser e k)) := by
    unfold State.setLaser
    dsimp only
    split <;> rfl
  rw [State.laser, hopt, SMap.get_set]
  rfl

theorem State.laser_setLaser_same (s : State) (e k : Nat) (f : Laser → Laser) :
    (s.setLaser e k f).laser e k = f (s.laser e k) := by rw [State.laser_setLaser, if_pos rfl]

theorem State.laser_setLaser_other (s : State) (e k : Nat) (f : Laser → Laser) {j : Nat} (h : j ≠ k) :
    (s.setLaser e k f).laser e j = s.laser e j := by
  rw [State.laser_setLaser, if_neg]
  omega

theorem State.settling_iff (s : State) (e : Nat) : s.settling e = true ↔ ∃ j, j < 8 ∧ (s.laser e j).st = 1 := by
  simp [State.settling]

theorem State.settling_congr {s t : State} {e : Nat} (h : ∀ j, j < 8 → t.laser e j = s.laser e j) :
    t.settling e = s.settling e := by
  rw [Bool.eq_iff_iff, State.settling_iff, State.settling_iff]
  exact exists_congr fun j => and_congr_right fun hj => by rw [h j hj]

/-! ### A walk over the lanes of an engine, after which waiting groups go on (08 R239) -/

/-- The walk changes the lanes of its list, each on its own; the groups that go on afterwards change a lane that
acquires, and neither its state nor its light. -/
theorem State.walk_startGroups {s : State} {f : State → Nat → State} {g : Nat → OptLane → OptLane}
    (hf : ∀ t n, s.onlyLanes t → t.onlyLanes (f t n)
      ∧ ∀ m, (f t n).optLane m = if m = n then g n (t.optLane n) else t.optLane m)
    {l : List Nat} (hl : l.Nodup) {e : Nat} {u : State} (hu : u = (l.foldl f s).startGroups e) :
    s.onlyLanes u ∧ ∀ m o, o = (if m ∈ l then g m (s.optLane m) else s.optLane m) →
      (u.optLane m).st = o.st ∧ (u.optLane m).noLight = o.noLight ∧ (o.st ≠ .acquire → u.optLane m = o) := by
  obtain ⟨honly, hlane⟩ := State.optLane_foldl (K := s.onlyLanes) (fun t n ht => State.onlyLanes_trans ht (hf t n ht).1)
    (fun t n m ht => (hf t n ht).2 m) hl s.onlyLanes_refl
  have hstart := State.starts_startGroups (l.foldl f s) e
  rw [← hu] at hstart
  refine ⟨State.onlyLanes_trans honly hstart.onlyLanes, ?_⟩
  rintro m _ rfl
  rw [← hlane m]
  exact ⟨hstart.st m, hstart.noLight m, hstart.idle⟩

/-! ### Lanes that lose their light (08 R221) -/

/-- One lane of a laser that has failed. -/
def State.loseLane (spare : Bool) (s : State) (n : Nat) : State :=
  let s := s.endLoop n 2
  if (s.optLane n).st = .off then s
  else
    let s := if (s.optLane n).st = .calib then s.abandonCal n else s
    let s := s.setOpt n fun o => { o with txOk := false, txFrom := none, winTx := none }
    let s := s.moveLane n .waitLaser (some 9)
    if spare then s else s.laneFailed n 9

theorem State.loseLight_eq (s : State) (e k : Nat) (spare : Bool) :
    s.loseLight e k spare = ((fedLanes e k).foldl (State.loseLane spare) s).startGroups e := rfl

/-- A lane that waits for its spare. -/
def OptLane.waiting (o : OptLane) (bc : Nat) : OptLane :=
  ({ o with txOk := false, txFrom := none, winTx := none }).moved .waitLaser (some 9) bc

/-- A lane that loses its light, with a spare to come or without. -/
def OptLane.unlit (o : OptLane) (spare : Bool) (bc : Nat) : OptLane :=
  if o.st = .off then o else if spare then o.waiting bc else (o.waiting bc).fallen 9 bc

/-- The end of a loopback test touches an engine and its result. -/
theorem State.endLoop_spec (s : State) (n status : Nat) :
    s.onlyLanes (s.endLoop n status) ∧ ∀ m, (s.endLoop n status).optLane m = s.optLane m := by
  unfold State.endLoop
  split
  · split
    · exact ⟨State.onlyLanes_trans (s.onlyLanes_setEngine _ _) (State.onlyLanes_setReg _ _ _ _), fun m => by simp⟩
    · exact ⟨rfl, fun _ => rfl⟩
  · exact ⟨rfl, fun _ => rfl⟩

theorem State.abandonCal_spec (s : State) (n : Nat) :
    s.onlyLanes (s.abandonCal n) ∧ ∀ m, (s.abandonCal n).optLane m = s.optLane m :=
  ⟨s.onlyLanes_setEngine _ _, fun m => s.optLane_setEngine m _ _⟩

theorem State.loseLane_spec (spare : Bool) (s : State) (n : Nat) :
    s.onlyLanes (s.loseLane spare n)
      ∧ ∀ m, (s.loseLane spare n).optLane m = if m = n then (s.optLane n).unlit spare s.beat.bc else s.optLane m := by
  obtain ⟨t, ht⟩ : ∃ t, t = s.endLoop n 2 := ⟨_, rfl⟩
  obtain ⟨hend, hsame⟩ := s.endLoop_spec n 2
  rw [← ht] at hend hsame
  unfold State.loseLane OptLane.unlit
  dsimp only
  rw [← ht, hsame]
  by_cases hoff : (s.optLane n).st = .off
  · rw [if_pos hoff, if_pos hoff]
    refine ⟨hend, fun m => ?_⟩
    by_cases hm : m = n <;> simp [hsame, hm]
  rw [if_neg hoff, if_neg hoff]
  obtain ⟨v, hv⟩ : ∃ v, v = if (s.optLane n).st = .calib then t.abandonCal n else t := ⟨_, rfl⟩
  have hcal : t.onlyLanes v ∧ ∀ m, v.optLane m = t.optLane m := by
    rw [hv]
    split
    · exact t.abandonCal_spec n
    · exact ⟨rfl, fun _ => rfl⟩
  obtain ⟨hvonly, hvsame⟩ := hcal
  have hbeat : v.beat = s.beat := (State.onlyLanes_trans hend hvonly).beat
  obtain ⟨w, hw⟩ : ∃ w, w = (v.setOpt n fun o => { o with txOk := false, txFrom := none, winTx := none }).moveLane n
    .waitLaser (some 9) := ⟨_, rfl⟩
  have hwlane : ∀ m, w.optLane m = if m = n then (s.optLane n).waiting s.beat.bc else s.optLane m := fun m => by
    rw [hw]
    by_cases hm : m = n <;> simp [hm, hvsame, hsame, OptLane.waiting, hbeat]
  have hwonly : s.onlyLanes w :=
    State.onlyLanes_trans (State.onlyLanes_trans hend hvonly) (hw ▸ v.onlyLanes_setOpt_moveLane n _ _ _)
  rw [← hv, ← hw]
  cases spare
  · refine ⟨State.onlyLanes_trans hwonly (w.onlyLanes_laneFailed n 9), fun m => ?_⟩
    by_cases hm : m = n <;> simp [hm, hwlane, hwonly.beat]
  · exact ⟨hwonly, hwlane⟩

theorem State.loseLight_spec {s u : State} {e k : Nat} {spare : Bool} (hu : u = s.loseLight e k spare) :
    s.onlyLanes u ∧ ∀ m o, o = (if m ∈ fedLanes e k then (s.optLane m).unlit spare s.beat.bc else s.optLane m) →
      (u.optLane m).st = o.st ∧ (u.optLane m).noLight = o.noLight ∧ (o.st ≠ .acquire → u.optLane m = o) :=
  State.walk_startGroups (g := fun _ o => o.unlit spare s.beat.bc)
    (fun t n ht => by
      obtain ⟨honly, hlane⟩ := t.loseLane_spec spare n
      exact ⟨honly, fun m => by rw [hlane, ht.beat]⟩)
    (nodup_fedLanes e k) (hu.trans (s.loseLight_eq e k spare))

/-- What a laser's loss leaves: its lanes wait, or FAIL; the others keep their state. -/
theorem State.loseLight_lanes {s u : State} {e k : Nat} {spare : Bool} (hu : u = s.loseLight e k spare) :
    (∀ n ∈ fedLanes e k, (s.optLane n).st ≠ .off →
      u.optLane n = if spare then (s.optLane n).waiting s.beat.bc else ((s.optLane n).waiting s.beat.bc).fallen 9 s.beat.bc)
    ∧ (∀ n, n ∉ fedLanes e k → (u.optLane n).st = (s.optLane n).st)
    ∧ (∀ n, n ∉ fedLanes e k → (s.optLane n).st ≠ .acquire → u.optLane n = s.optLane n) := by
  obtain ⟨-, hlane⟩ := State.loseLight_spec hu
  refine ⟨fun n hn hoff => ?_, fun n hn => ?_, fun n hn hacq => ?_⟩
  · obtain ⟨-, -, hsame⟩ := hlane n _ (if_pos hn).symm
    rw [OptLane.unlit, if_neg hoff] at hsame
    refine hsame ?_
    cases spare <;> exact LaneSt.noConfusion
  · exact (hlane n _ (if_neg hn).symm).1
  · exact (hlane n _ (if_neg hn).symm).2.2 hacq

/-! ### Lanes that lock again (08 R221, R222) -/

/-- A lane whose laser has been replaced. -/
def OptLane.relocked (o : OptLane) (bc : Nat) : OptLane :=
  (let o := o.startRing true bc
   if o.rxOk then o else o.startRing false bc).moved .reacq (some 9) bc

theorem OptLane.relocked_spec (o : OptLane) (bc : Nat) :
    (o.relocked bc).st = .reacq ∧ (o.relocked bc).cause = 9 ∧ (o.relocked bc).txFrom = some bc := by
  refine ⟨rfl, rfl, ?_⟩
  unfold OptLane.relocked
  dsimp only
  split <;> rfl

/-- One lane of a replaced laser. -/
def State.relockLane (from' : OptLane → Bool) (s : State) (n : Nat) : State :=
  if from' (s.optLane n) then
    (s.setOpt n fun o =>
      let o := o.startRing true s.beat.bc
      if o.rxOk then o else o.startRing false s.beat.bc).moveLane n .reacq (some 9)
  else s

theorem State.relock_eq (s : State) (e a : Nat) (from' : OptLane → Bool) :
    s.relock e a from' = ((fedLanes e a).foldl (State.relockLane from') s).startGroups e := rfl

theorem State.relockLane_spec (from' : OptLane → Bool) (s : State) (n : Nat) :
    s.onlyLanes (s.relockLane from' n)
      ∧ ∀ m, (s.relockLane from' n).optLane m
        = if m = n then (if from' (s.optLane n) then (s.optLane n).relocked s.beat.bc else s.optLane n)
          else s.optLane m := by
  unfold State.relockLane
  split
  · refine ⟨s.onlyLanes_setOpt_moveLane n _ _ _, fun m => ?_⟩
    by_cases hm : m = n <;> simp [hm, OptLane.relocked]
  · refine ⟨rfl, fun m => ?_⟩
    by_cases hm : m = n <;> simp [hm]

/-- The lanes of a replaced laser reacquire where `from'` says so; every other lane keeps its state. -/
theorem State.relock_lanes {s u : State} {e a : Nat} {from' : OptLane → Bool} (hu : u = s.relock e a from') :
    s.onlyLanes u
    ∧ (∀ n ∈ fedLanes e a, from' (s.optLane n) = true → u.optLane n = (s.optLane n).relocked s.beat.bc)
    ∧ (∀ n, n ∉ fedLanes e a ∨ from' (s.optLane n) = false → (u.optLane n).st = (s.optLane n).st)
    ∧ (∀ n, n ∉ fedLanes e a ∨ from' (s.optLane n) = false → (s.optLane n).st ≠ .acquire → u.optLane n = s.optLane n) := by
  obtain ⟨honly, hlane⟩ := State.walk_startGroups
    (g := fun _ o => if from' o then o.relocked s.beat.bc else o)
    (fun t n ht => by
      obtain ⟨honly, hlane⟩ := t.relockLane_spec from' n
      exact ⟨honly, fun m => by rw [hlane, ht.beat]⟩)
    (nodup_fedLanes e a) (hu.trans (s.relock_eq e a from'))
  have hkept : ∀ n, n ∉ fedLanes e a ∨ from' (s.optLane n) = false → s.optLane n
      = if n ∈ fedLanes e a then (if from' (s.optLane n) then (s.optLane n).relocked s.beat.bc else s.optLane n)
        else s.optLane n := fun n hn => by
    rcases hn with hn | hn <;> simp [hn]
  refine ⟨honly, fun n hn hfrom => ?_, fun n hn => (hlane n _ (hkept n hn)).1, fun n hn => (hlane n _ (hkept n hn)).2.2⟩
  obtain ⟨-, -, hsame⟩ := hlane n _ (if_pos hn).symm
  rw [if_pos hfrom] at hsame
  exact hsame LaneSt.noConfusion

/-! ### Lanes that acquire once they are fed (08 R230, R239) -/

/-- A dark lane that acquires. -/
def OptLane.acquiring (o : OptLane) (bc : Nat) : OptLane :=
  ({ (o.park true).park false with noLight := true } : OptLane).moved .acquire none bc

/-- One lane of an engine whose lasers are ON. -/
def State.acquireLane (s : State) (n : Nat) : State :=
  if (s.optLane n).st = .off && s.fed n then
    (s.setOpt n fun o => { (o.park true).park false with noLight := true }).moveLane n .acquire none
  else s

theorem State.acquireFed_eq (s : State) (e : Nat) :
    s.acquireFed e = ((rangeFrom (64 * e) (64 * e + 64)).foldl State.acquireLane s).startGroups e := rfl

/-- A dark lane of the engine that is fed acquires and waits for light; every other lane keeps its state. -/
theorem State.acquireFed_lanes {s u : State} {e : Nat} (hu : u = s.acquireFed e) :
    s.onlyLanes u
    ∧ (∀ n, n / 64 = e → (s.optLane n).st = .off → s.fed n = true →
        (u.optLane n).st = .acquire ∧ (u.optLane n).noLight = true)
    ∧ (∀ n, n / 64 ≠ e ∨ (s.optLane n).st ≠ .off → (u.optLane n).st = (s.optLane n).st)
    ∧ (∀ n, (s.optLane n).st ≠ .off → (s.optLane n).st ≠ .acquire → u.optLane n = s.optLane n) := by
  obtain ⟨honly, hlane⟩ := State.walk_startGroups
    (g := fun n o => if o.st = .off ∧ s.fed n = true then o.acquiring s.beat.bc else o)
    (fun t n ht => by
      unfold State.acquireLane
      rw [ht.fed]
      by_cases hgo : (t.optLane n).st = .off ∧ s.fed n = true
      · rw [if_pos (by simpa using hgo)]
        refine ⟨t.onlyLanes_setOpt_moveLane n _ _ _, fun m => ?_⟩
        by_cases hm : m = n <;> simp [hm, hgo, OptLane.acquiring, ht.beat]
      · rw [if_neg (by simpa using hgo)]
        refine ⟨rfl, fun m => ?_⟩
        by_cases hm : m = n <;> simp [hm, hgo])
    (nodup_rangeFrom _ _) (hu.trans (s.acquireFed_eq e))
  have hmem : ∀ n, n ∈ rangeFrom (64 * e) (64 * e + 64) ↔ n / 64 = e := fun n => by
    rw [mem_rangeFrom]
    omega
  have hkept : ∀ n, n / 64 ≠ e ∨ (s.optLane n).st ≠ .off → s.optLane n
      = if n ∈ rangeFrom (64 * e) (64 * e + 64) then
          (if (s.optLane n).st = .off ∧ s.fed n = true then (s.optLane n).acquiring s.beat.bc else s.optLane n)
        else s.optLane n := fun n hn => by
    rcases hn with hn | hn <;> simp [hn, hmem]
  refine ⟨honly, fun n hn hoff hfed => ?_, fun n hn => (hlane n _ (hkept n hn)).1,
    fun n hn => (hlane n _ (hkept n (.inr hn))).2.2⟩
  obtain ⟨hst, hdark, -⟩ := hlane n _ (if_pos ((hmem n).2 hn)).symm
  rw [if_pos ⟨hoff, hfed⟩] at hst hdark
  exact ⟨hst, hdark⟩

end Sys2Proof.Machine

/-! ## Lasers that fail, are replaced and settle (08 R221, R222, R239) -/

namespace Sys2Proof.Machine

section
variable {s : State} {e k : Nat}

/-! ### LASER_FAIL (08 R221) -/

/-- The state in which a laser has failed. -/
def State.failed (s : State) (e k : Nat) : State := s.setLaser e k fun l => { l with st := 4 }

theorem State.laserFail_dark (h : (s.laser e k).st = 0 ∨ (s.laser e k).st = 4) : s.laserFail e k = s := by
  rcases h with h | h <;> simp [State.laserFail, h]

section
variable (h0 : (s.laser e k).st ≠ 0) (h4 : (s.laser e k).st ≠ 4)
include h0 h4

section
variable (hk : k < 8)
include hk

/-- The spare that stands by ramps in the place of the laser. -/
theorem State.laserFail_spare (hauto : s.flag .leCfg e 2 = true) (hsp : (s.laser e (spareOf k)).st = 3) :
    s.laserFail e k = ((s.failed e k).loseLight e k true).setLaser e (spareOf k) fun x =>
      { x with st := 1, forK := some k, retiring := false } := by
  have hflag := (s.onlyLasers_setLaser e k fun l => { l with st := 4 }).flag .leCfg e 2
  simp [State.laserFail, h0, h4, hk, hsp, hflag, hauto, State.failed]

/-- Where no spare can be used the lanes are lost. -/
theorem State.laserFail_alone (hno : s.flag .leCfg e 2 = false ∨ (s.laser e (spareOf k)).st ≠ 3)
    (hramp : (s.laser e (spareOf k)).st ≠ 1 ∨ (s.laser e (spareOf k)).forK ≠ some k) :
    s.laserFail e k = (s.failed e k).loseLight e k false := by
  have hflag := (s.onlyLasers_setLaser e k fun l => { l with st := 4 }).flag .leCfg e 2
  have hnone : ¬ ((s.laser e (spareOf k)).st = 1 && (s.laser e (spareOf k)).forK = some k) = true := by
    rcases hramp with h | h <;> simp [h]
  have huse : ¬ (s.flag .leCfg e 2 && (s.laser e (spareOf k)).st = 3) = true := by
    rcases hno with h | h <;> simp [h]
  unfold State.laserFail
  simp only [h0, h4, hk, hflag, State.failed, if_neg hnone, if_neg huse]
  rfl
end

end

/-- A spare that substitutes takes the lanes of its laser with it. -/
theorem State.laserFail_substitute (hk : 8 ≤ k) (hst : (s.laser e k).st = 2) (hsub : (s.laser e k).sub < 8) :
    s.laserFail e k = (s.setLaser e k fun _ => { st := 4 }).loseLight e (s.laser e k).sub false := by
  simp [State.laserFail, hst, Nat.not_lt.2 hk, hsub]

/-! ### A spare in the place of its laser (08 R221) -/

theorem State.spareSwitchIn_idle (h : (s.laser e k).forK = none ∨ (s.laser e k).st ≠ 1 ∨ (s.laser e k).retiring = true) :
    s.spareSwitchIn e k = s := by
  unfold State.spareSwitchIn
  dsimp only
  cases hfor : (s.laser e k).forK with
  | none => rfl
  | some a =>
    rcases h with h | h | h
    · cases hfor.symm.trans h
    · simp [h]
    · simp [h]

theorem State.spareSwitchIn_ready {a : Nat} (hfor : (s.laser e k).forK = some a) (hst : (s.laser e k).st = 1)
    (hret : (s.laser e k).retiring = false) : s.spareSwitchIn e k = s.spareOn e k a := by
  simp [State.spareSwitchIn, hfor, hst, hret]

theorem State.retireSwitch_idle (h : (s.laser e k).forK = none ∨ (s.laser e k).st ≠ 1 ∨ (s.laser e k).retiring = false) :
    s.retireSwitch e k = s := by
  rcases h with h | h | h <;> simp [State.retireSwitch, h]

/-- The state in which a spare is ON for an active laser, before its lanes lock again. -/
def State.substituted (s : State) (e k a : Nat) : State := s.setLaser e k fun _ => { st := 2, sub := a }

theorem State.spareOn_eq (s : State) (e k a : Nat) : s.spareOn e k a
    = (let t := (s.substituted e k a).relock e a fun o => o.st = .waitLaser
       if t.engineOn e && !t.settling e then t.acquireFed e else t) := rfl

/-- A spare that is ON in the place of a laser feeds that laser's lanes (R221). -/
theorem State.fed_of_sub {a n : Nat} (ha : a < 8) (hn : n ∈ fedLanes e a) (hst : (s.laser e (spareOf a)).st = 2)
    (hsub : (s.laser e (spareOf a)).sub = a) : s.fed n = true := by
  obtain ⟨hdiv, hfeed⟩ := engine_of_mem_fedLanes ha hn
  simp [State.fed, hdiv, hfeed, hst, hsub]

/-- What a spare that is switched in leaves. -/
theorem State.spareOn_spec {a : Nat} (hk : 8 ≤ k) (ha : a < 8) {u : State} (hu : u = s.spareOn e k a) :
    s.onlyOptics u ∧ (u.laser e k).st = 2 ∧ (u.laser e k).sub = a
      ∧ (∀ n ∈ fedLanes e a, (s.optLane n).st = .waitLaser → u.optLane n = (s.optLane n).relocked s.beat.bc)
      ∧ (k = spareOf a → s.engineOn e = true → s.settling e = false →
          ∀ n ∈ fedLanes e a, (s.optLane n).st = .off → (u.optLane n).st = .acquire)
      ∧ (∀ n, (s.optLane n).st ≠ .waitLaser → (s.optLane n).st ≠ .off → (s.optLane n).st ≠ .acquire →
          u.optLane n = s.optLane n) := by
  obtain ⟨t, ht⟩ : ∃ t, t = (s.substituted e k a).relock e a fun o => o.st = .waitLaser := ⟨_, rfl⟩
  obtain ⟨hrelock, hwait, hstate, hsame⟩ := State.relock_lanes ht
  have hsub := s.onlyLasers_setLaser e k fun _ => { st := 2, sub := a }
  rw [← State.substituted] at hsub
  simp only [hsub.optLane, hsub.beat] at hwait hstate hsame
  have htk : t.laser e k = { st := 2, sub := a } := by
    rw [hrelock.laser]
    exact s.laser_setLaser_same e k _
  have hon : t.engineOn e = s.engineOn e := (hrelock.engineOn e).trans (hsub.engineOn e)
  have hsettle : t.settling e = s.settling e := State.settling_congr fun j hj => by
    rw [hrelock.laser]
    exact s.laser_setLaser_other e k _ (by omega)
  have hstep : t.onlyLanes u
      ∧ (s.engineOn e = true → s.settling e = false → u = t.acquireFed e)
      ∧ ∀ n, (t.optLane n).st ≠ .off → (t.optLane n).st ≠ .acquire → u.optLane n = t.optLane n := by
    rw [State.spareOn_eq, ← ht] at hu
    dsimp only at hu
    rw [hon, hsettle] at hu
    by_cases hgo : (s.engineOn e && !s.settling e) = true
    · rw [if_pos hgo] at hu
      obtain ⟨honly, -, -, hfix⟩ := State.acquireFed_lanes hu
      exact ⟨honly, fun _ _ => hu, hfix⟩
    · rw [if_neg hgo] at hu
      subst hu
      exact ⟨rfl, fun hen hset => absurd (by rw [hen, hset]; rfl) hgo, fun _ _ _ => rfl⟩
  obtain ⟨honly, hacquire, hfix⟩ := hstep
  have huk : u.laser e k = { st := 2, sub := a } := (honly.laser e k).trans htk
  refine ⟨State.onlyOptics_trans hsub.onlyOptics (State.onlyLanes_trans hrelock honly).onlyOptics, by rw [huk], by rw [huk],
    fun n hn hw => ?_, fun hspare hen hset n hn hoff => ?_, fun n hw hoff hacq => ?_⟩
  · have htn := hwait n hn (decide_eq_true hw)
    rw [← htn]
    exact hfix n (by rw [htn]; exact LaneSt.noConfusion) (by rw [htn]; exact LaneSt.noConfusion)
  · subst hspare
    have htn : (t.optLane n).st = .off :=
      (hstate n (.inr (decide_eq_false (by rw [hoff]; decide)))).trans hoff
    obtain ⟨-, hgo, -, -⟩ := State.acquireFed_lanes (hacquire hen hset)
    exact (hgo n (engine_of_mem_fedLanes ha hn).1 htn (State.fed_of_sub ha hn (by rw [htk]) (by rw [htk]))).1
  · have htn := hsame n (.inr (decide_eq_false hw)) hacq
    rw [hfix n (by rw [htn]; exact hoff) (by rw [htn]; exact hacq), htn]

/-! ### A retired laser's replacement (08 R222) -/

theorem State.retireSwitch_ready {a : Nat} (hfor : (s.laser e k).forK = some a) (hst : (s.laser e k).st = 1)
    (hret : (s.laser e k).retiring = true) : s.retireSwitch e k = s.setLaser e k fun l => { l with atPower := true } := by
  simp [State.retireSwitch, hfor, hst, hret]

/-- The lanes that a retired laser's replacement takes out of their state. -/
def OptLane.replaced (o : OptLane) : Bool :=
  o.st = .service || o.st = .train || o.st = .calib || o.st = .reacq || o.st = .acquire

/-- The lanes of a list that are in calibration abandon it. -/
def State.abandonAll (s : State) (l : List Nat) : State :=
  l.foldl (fun s n => if (s.optLane n).st = .calib then s.abandonCal n else s) s

theorem State.abandonAll_spec (s : State) (l : List Nat) :
    s.onlyLanes (s.abandonAll l) ∧ ∀ m, (s.abandonAll l).optLane m = s.optLane m := by
  refine List.foldlRecOn (motive := fun t => s.onlyLanes t ∧ ∀ m, t.optLane m = s.optLane m) _ _ ⟨rfl, fun _ => rfl⟩
    fun t ⟨honly, hsame⟩ n _ => ?_
  split
  · obtain ⟨hcal, hcalsame⟩ := t.abandonCal_spec n
    exact ⟨State.onlyLanes_trans honly hcal, fun m => (hcalsame m).trans (hsame m)⟩
  · exact ⟨honly, hsame⟩

theorem State.retireDue_eq (hk : k < 12) {a : Nat} (hfor : (s.laser e k).forK = some a)
    (hpow : (s.laser e k).atPower = true) (hret : (s.laser e k).retiring = true) : s.retireDue (12 * e + k)
      = (((s.substituted e k a).setLaser e a fun _ => {}).abandonAll (fedLanes e a)).relock e a OptLane.replaced := by
  have hdiv : (12 * e + k) / 12 = e := by omega
  have hmod : (12 * e + k) % 12 = k := by omega
  unfold State.retireDue
  rw [hdiv, hmod]
  dsimp only
  rw [hfor, hpow, hret]
  rfl

/-- What the boundary's replacement leaves: the laser is OFF, and its lanes lock again. -/
theorem State.retireDue_spec (hk : k < 12) (hspare : 8 ≤ k) {a : Nat} (ha : a < 8) (hfor : (s.laser e k).forK = some a)
    (hpow : (s.laser e k).atPower = true) (hret : (s.laser e k).retiring = true) {u : State}
    (hu : u = s.retireDue (12 * e + k)) :
    s.onlyOptics u ∧ u.laser e k = { st := 2, sub := a } ∧ u.laser e a = {}
      ∧ (∀ n ∈ fedLanes e a, (s.optLane n).st = .service → u.optLane n = (s.optLane n).relocked s.beat.bc)
      ∧ (∀ n, n ∉ fedLanes e a → (s.optLane n).st ≠ .acquire → u.optLane n = s.optLane n) := by
  obtain ⟨v, hv⟩ : ∃ v, v = (s.substituted e k a).setLaser e a fun _ => {} := ⟨_, rfl⟩
  have hlasers : s.onlyLasers v :=
    hv ▸ State.onlyLasers_trans (s.onlyLasers_setLaser e k _) (State.onlyLasers_setLaser _ e a _)
  rw [State.retireDue_eq hk hfor hpow hret, ← hv] at hu
  obtain ⟨hcal, hcalsame⟩ := v.abandonAll_spec (fedLanes e a)
  obtain ⟨hrelock, hwait, -, hsame⟩ := State.relock_lanes hu
  have honly := State.onlyLanes_trans hcal hrelock
  simp only [hcalsame, hlasers.optLane, hcal.beat, hlasers.beat] at hwait hsame
  refine ⟨State.onlyOptics_trans hlasers.onlyOptics honly.onlyOptics, ?_, ?_, fun n hn hs => hwait n hn ?_,
    fun n hn => hsame n (.inl hn)⟩
  · rw [honly.laser, hv, State.laser_setLaser_other _ e a _ (by omega : k ≠ a)]
    exact s.laser_setLaser_same e k _
  · rw [honly.laser, hv, State.laser_setLaser_same]
  · simp [OptLane.replaced, hs]

/-! ### LASER_SETTLED (08 R239) -/

theorem State.laserSettled_idle (h : s.engineOn e = false ∨ ∀ j, j < 8 → (s.laser e j).st ≠ 1) : s.laserSettled e = s := by
  have hno : (s.engineOn e && s.settling e) = false := by
    rcases h with h | h
    · rw [h]; rfl
    · have hset : s.settling e = false := Bool.eq_false_iff.2 fun hs => by
        obtain ⟨j, hj, hst⟩ := (s.settling_iff e).1 hs
        exact h j hj hst
      rw [hset, Bool.and_false]
  simp [State.laserSettled, hno]

/-- An active laser that ramps reaches set power. -/
def State.rampEnd (e : Nat) (s : State) (j : Nat) : State :=
  if (s.laser e j).st = 1 then s.setLaser e j fun l => { l with st := 2 } else s

theorem State.laserSettled_eq (hon : s.engineOn e = true) (hset : s.settling e = true) :
    s.laserSettled e = ((List.range 8).foldl (State.rampEnd e) s).acquireFed e := by
  rw [State.laserSettled, hon, hset]
  rfl

theorem State.rampEnd_spec (e : Nat) (s : State) (j : Nat) : s.onlyLasers (s.rampEnd e j)
    ∧ ∀ i, ((s.rampEnd e j).laser e i).st = if i = j ∧ (s.laser e j).st = 1 then 2 else (s.laser e i).st := by
  unfold State.rampEnd
  split
  · rename_i hst
    refine ⟨s.onlyLasers_setLaser e j _, fun i => ?_⟩
    by_cases hi : i = j
    · subst hi
      rw [State.laser_setLaser_same, if_pos ⟨rfl, hst⟩]
    · rw [State.laser_setLaser_other _ _ _ _ hi, if_neg fun h => hi h.1]
  · rename_i hst
    exact ⟨rfl, fun i => by rw [if_neg fun h => hst h.2]⟩

theorem State.rampEnds_spec (s : State) (e : Nat) (l : List Nat) : s.onlyLasers (l.foldl (State.rampEnd e) s)
    ∧ ∀ i, ((l.foldl (State.rampEnd e) s).laser e i).st
      = if i ∈ l ∧ (s.laser e i).st = 1 then 2 else (s.laser e i).st := by
  induction l generalizing s with
  | nil => exact ⟨rfl, fun i => by simp⟩
  | cons j l ih =>
    obtain ⟨hone, hst⟩ := s.rampEnd_spec e j
    obtain ⟨hall, hend⟩ := ih (s.rampEnd e j)
    refine ⟨State.onlyLasers_trans hone hall, fun i => ?_⟩
    rw [List.foldl_cons, hend, hst]
    by_cases hi : i = j
    · subst hi
      by_cases h1 : (s.laser e i).st = 1 <;> simp [h1]
    · simp [hi]

theorem feederOf_lt (n : Nat) : feederOf n < 8 := by
  unfold feederOf
  omega

/-- What the settling of an engine leaves. -/
theorem State.laserSettled_spec (hon : s.engineOn e = true) (hset : s.settling e = true) {u : State}
    (hu : u = s.laserSettled e) :
    s.onlyOptics u ∧ (∀ j, j < 8 → (u.laser e j).st = if (s.laser e j).st = 1 then 2 else (s.laser e j).st)
      ∧ (∀ n, n / 64 = e → (s.optLane n).st = .off → (s.laser e (feederOf n)).st = 1 ∨ (s.laser e (feederOf n)).st = 2 →
          (u.optLane n).st = .acquire ∧ (u.optLane n).noLight = true)
      ∧ (∀ n, n / 64 ≠ e ∨ (s.optLane n).st ≠ .off → (u.optLane n).st = (s.optLane n).st) := by
  obtain ⟨v, hv⟩ : ∃ v, v = (List.range 8).foldl (State.rampEnd e) s := ⟨_, rfl⟩
  obtain ⟨hlasers, hst⟩ := s.rampEnds_spec e (List.range 8)
  rw [← hv] at hlasers hst
  rw [State.laserSettled_eq hon hset, ← hv] at hu
  obtain ⟨honly, hgo, hstay, -⟩ := State.acquireFed_lanes hu
  simp only [hlasers.optLane] at hgo hstay
  have hactive : ∀ j, j < 8 → (v.laser e j).st = if (s.laser e j).st = 1 then 2 else (s.laser e j).st := fun j hj => by
    rw [hst]
    simp [hj]
  refine ⟨State.onlyOptics_trans hlasers.onlyOptics honly.onlyOptics, fun j hj => ?_, fun n hn hoff hlit => ?_, hstay⟩
  · rw [honly.laser, hactive j hj]
  · refine hgo n hn hoff ?_
    have hon2 : (v.laser e (feederOf n)).st = 2 := by
      rw [hactive _ (feederOf_lt n)]
      rcases hlit with h | h <;> simp [h]
    simp [State.fed, hn, hon2]
end

end Sys2Proof.Machine

/-! ## Lasers, as commands (08 R220 to R222, R230, R239) -/

namespace Sys2Proof.Machine

section
variable {s : State} {e k : Nat} (hl : s.live = true) (he : e < 16) (hk : k < 12)
include hl he hk

/-! ### The commands of one laser -/

theorem exec_laserFail_dark (h : (s.laser e k).st = 0 ∨ (s.laser e k).st = 4) : exec (.laserFail e k) s = .next s :=
  run_live_eq (i := .laserFail e k) (decide_eq_true ⟨he, hk⟩) hl (State.laserFail_dark h) rfl

section
variable (h0 : (s.laser e k).st ≠ 0) (h4 : (s.laser e k).st ≠ 4)
include h0 h4

theorem exec_laserFail_spare (hact : k < 8) (hauto : s.flag .leCfg e 2 = true) (hsp : (s.laser e (spareOf k)).st = 3) :
    ∃ u, exec (.laserFail e k) s = .next u ∧ (u.laser e k).st = 4
      ∧ (u.laser e (spareOf k)).st = 1 ∧ (u.laser e (spareOf k)).forK = some k ∧ (u.laser e (spareOf k)).retiring = false
      ∧ (∀ n ∈ fedLanes e k, (s.optLane n).st ≠ .off →
          (u.optLane n).st = .waitLaser ∧ (u.optLane n).cause = 9 ∧ (u.optLane n).txOk = false)
      ∧ (∀ n, n ∉ fedLanes e k → (u.optLane n).st = (s.optLane n).st)
      ∧ (∀ n, n ∉ fedLanes e k → (s.optLane n).st ≠ .acquire → u.optLane n = s.optLane n)
      ∧ u.net = s.net ∧ u.mem = s.mem := by
  obtain ⟨v, hv⟩ : ∃ v, v = (s.failed e k).loseLight e k true := ⟨_, rfl⟩
  have hfail := s.onlyLasers_setLaser e k fun l => { l with st := 4 }
  rw [← State.failed] at hfail
  obtain ⟨hlanes, -⟩ := State.loseLight_spec hv
  obtain ⟨hwait, hstate, hsame⟩ := State.loseLight_lanes hv
  simp only [hfail.optLane, hfail.beat] at hwait hstate hsame
  obtain ⟨u, hu⟩ : ∃ u, u = v.setLaser e (spareOf k) fun x => { x with st := 1, forK := some k, retiring := false } :=
    ⟨_, rfl⟩
  have hspare := v.onlyLasers_setLaser e (spareOf k) fun x => { x with st := 1, forK := some k, retiring := false }
  rw [← hu] at hspare
  have heq : s.laserFail e k = u := by rw [State.laserFail_spare h0 h4 hact hauto hsp, ← hv, hu]
  have hframe := State.onlyOptics_trans (State.onlyOptics_trans hfail.onlyOptics hlanes.onlyOptics) hspare.onlyOptics
  have hsp' : u.laser e (spareOf k)
      = { v.laser e (spareOf k) with st := 1, forK := some k, retiring := false } := by
    rw [hu, State.laser_setLaser_same]
  refine ⟨u, run_live_eq (i := .laserFail e k) (decide_eq_true ⟨he, hk⟩) hl heq hframe.pending, ?_, by rw [hsp'],
    by rw [hsp'], by rw [hsp'], fun n hn hoff => ?_, fun n hn => ?_, fun n hn hacq => ?_, hframe.net, hframe.mem⟩
  · have hne : k ≠ spareOf k := by unfold spareOf; omega
    rw [hu, State.laser_setLaser_other _ _ _ _ hne, hlanes.laser, State.failed, State.laser_setLaser_same]
  · rw [hspare.optLane, hwait n hn hoff]
    exact ⟨rfl, rfl, rfl⟩
  · rw [hspare.optLane, hstate n hn]
  · rw [hspare.optLane, hsame n hn hacq]

theorem exec_laserFail_alone (hact : k < 8) (hno : s.flag .leCfg e 2 = false ∨ (s.laser e (spareOf k)).st ≠ 3)
    (hramp : (s.laser e (spareOf k)).st ≠ 1 ∨ (s.laser e (spareOf k)).forK ≠ some k) :
    ∃ u, exec (.laserFail e k) s = .next u ∧ (u.laser e k).st = 4
      ∧ (∀ n ∈ fedLanes e k, (s.optLane n).st ≠ .off → (u.optLane n).st = .failed ∧ (u.optLane n).cause = 9)
      ∧ (∀ n, n ∉ fedLanes e k → (u.optLane n).st = (s.optLane n).st)
      ∧ (∀ n, n ∉ fedLanes e k → (s.optLane n).st ≠ .acquire → u.optLane n = s.optLane n)
      ∧ u.net = s.net ∧ u.mem = s.mem := by
  obtain ⟨u, hu⟩ : ∃ u, u = (s.failed e k).loseLight e k false := ⟨_, rfl⟩
  have hfail := s.onlyLasers_setLaser e k fun l => { l with st := 4 }
  rw [← State.failed] at hfail
  obtain ⟨hlanes, -⟩ := State.loseLight_spec hu
  obtain ⟨hlost, hstate, hsame⟩ := State.loseLight_lanes hu
  simp only [hfail.optLane, hfail.beat] at hlost hstate hsame
  have hframe := State.onlyOptics_trans hfail.onlyOptics hlanes.onlyOptics
  refine ⟨u, run_live_eq (i := .laserFail e k) (decide_eq_true ⟨he, hk⟩) hl
    ((State.laserFail_alone h0 h4 hact hno hramp).trans hu.symm) hframe.pending, ?_, fun n hn hoff => ?_, hstate, hsame,
    hframe.net, hframe.mem⟩
  · rw [hlanes.laser, State.failed, State.laser_setLaser_same]
  · rw [hlost n hn hoff]
    exact ⟨rfl, rfl⟩
end

theorem exec_laserFail_substitute (hspare : 8 ≤ k) (hst : (s.laser e k).st = 2) (hsub : (s.laser e k).sub < 8) :
    ∃ u, exec (.laserFail e k) s = .next u ∧ (u.laser e k).st = 4
      ∧ ∀ n ∈ fedLanes e (s.laser e k).sub, (s.optLane n).st ≠ .off →
        (u.optLane n).st = .failed ∧ (u.optLane n).cause = 9 := by
  obtain ⟨v, hv⟩ : ∃ v, v = s.setLaser e k fun _ => { st := 4 } := ⟨_, rfl⟩
  have hfail : s.onlyLasers v := hv ▸ s.onlyLasers_setLaser e k _
  obtain ⟨u, hu⟩ : ∃ u, u = v.loseLight e (s.laser e k).sub false := ⟨_, rfl⟩
  obtain ⟨hlanes, -⟩ := State.loseLight_spec hu
  obtain ⟨hlost, -, -⟩ := State.loseLight_lanes hu
  simp only [hfail.optLane, hfail.beat] at hlost
  refine ⟨u, run_live_eq (i := .laserFail e k) (decide_eq_true ⟨he, hk⟩) hl
    ((State.laserFail_substitute hspare hst hsub).trans (by rw [hu, hv]))
    (State.onlyOptics_trans hfail.onlyOptics hlanes.onlyOptics).pending, ?_, fun n hn hoff => ?_⟩
  · rw [hlanes.laser, hv, State.laser_setLaser_same]
  · rw [hlost n hn hoff]
    exact ⟨rfl, rfl⟩

section
variable (hspare : 8 ≤ k)
include hspare

theorem exec_spareSwitchIn_idle
    (h : (s.laser e k).forK = none ∨ (s.laser e k).st ≠ 1 ∨ (s.laser e k).retiring = true) :
    exec (.spareSwitchIn e k) s = .next s :=
  run_live_eq (i := .spareSwitchIn e k) (decide_eq_true ⟨he, hspare, hk⟩) hl (State.spareSwitchIn_idle h) rfl

theorem exec_retireSwitch_idle
    (h : (s.laser e k).forK = none ∨ (s.laser e k).st ≠ 1 ∨ (s.laser e k).retiring = false) :
    exec (.retireSwitch e k) s = .next s :=
  run_live_eq (i := .retireSwitch e k) (decide_eq_true ⟨he, hspare, hk⟩) hl (State.retireSwitch_idle h) rfl

variable {a : Nat} (hfor : (s.laser e k).forK = some a) (ha : a < 8) (hst : (s.laser e k).st = 1)
include hfor ha hst

theorem exec_spareSwitchIn_ready (hret : (s.laser e k).retiring = false) :
    ∃ u, exec (.spareSwitchIn e k) s = .next u ∧ (u.laser e k).st = 2 ∧ (u.laser e k).sub = a
      ∧ (∀ n ∈ fedLanes e a, (s.optLane n).st = .waitLaser →
          (u.optLane n).st = .reacq ∧ (u.optLane n).cause = 9 ∧ (u.optLane n).txFrom = some s.beat.bc)
      ∧ (k = spareOf a → s.engineOn e = true → s.settling e = false →
          ∀ n ∈ fedLanes e a, (s.optLane n).st = .off → (u.optLane n).st = .acquire)
      ∧ (∀ n, (s.optLane n).st ≠ .waitLaser → (s.optLane n).st ≠ .off → (s.optLane n).st ≠ .acquire →
          u.optLane n = s.optLane n) ∧ u.net = s.net ∧ u.mem = s.mem := by
  obtain ⟨u, hu⟩ : ∃ u, u = s.spareOn e k a := ⟨_, rfl⟩
  obtain ⟨hframe, hon, hsub, hwait, hoff, hsame⟩ := State.spareOn_spec hspare ha hu
  refine ⟨u, run_live_eq (i := .spareSwitchIn e k) (decide_eq_true ⟨he, hspare, hk⟩) hl
    ((State.spareSwitchIn_ready hfor hst hret).trans hu.symm) hframe.pending, hon, hsub, fun n hn hw => ?_, hoff, hsame,
    hframe.net, hframe.mem⟩
  rw [hwait n hn hw]
  exact (s.optLane n).relocked_spec s.beat.bc

theorem exec_retireSwitch_ready (hret : (s.laser e k).retiring = true) :
    exec (.retireSwitch e k) s = .next (s.setLaser e k fun l => { l with atPower := true })
    ∧ ∀ u, u = (s.setLaser e k fun l => { l with atPower := true }).retireDue (12 * e + k) →
      (u.laser e k).st = 2 ∧ (u.laser e k).sub = a ∧ (u.laser e a).st = 0
      ∧ (∀ n ∈ fedLanes e a, (s.optLane n).st = .service →
          (u.optLane n).st = .reacq ∧ (u.optLane n).cause = 9 ∧ (u.optLane n).txFrom = some s.beat.bc)
      ∧ (∀ n, n ∉ fedLanes e a → (s.optLane n).st ≠ .acquire → u.optLane n = s.optLane n)
      ∧ u.net = s.net ∧ u.mem = s.mem := by
  obtain ⟨v, hv⟩ : ∃ v, v = s.setLaser e k fun l => { l with atPower := true } := ⟨_, rfl⟩
  have hnoted : s.onlyLasers v := hv ▸ s.onlyLasers_setLaser e k _
  have hvk : v.laser e k = { s.laser e k with atPower := true } := by rw [hv, State.laser_setLaser_same]
  rw [← hv]
  refine ⟨run_live_eq (i := .retireSwitch e k) (decide_eq_true ⟨he, hspare, hk⟩) hl
    ((State.retireSwitch_ready hfor hst hret).trans hv.symm) hnoted.onlyOptics.pending, fun u hu => ?_⟩
  obtain ⟨hframe, huk, hua, hserv, hsame⟩ :=
    State.retireDue_spec hk hspare ha (by rw [hvk]; exact hfor) (by rw [hvk]) (by rw [hvk]; exact hret) hu
  simp only [hnoted.optLane, hnoted.beat] at hserv hsame
  have hall := State.onlyOptics_trans hnoted.onlyOptics hframe
  refine ⟨by rw [huk], by rw [huk], by rw [hua], fun n hn hs => ?_, hsame, hall.net, hall.mem⟩
  rw [hserv n hn hs]
  exact (s.optLane n).relocked_spec s.beat.bc
end
end

/-! ### The statement -/

/-- Settles O57: each command is a walk over the lanes of one laser or one engine that changes each lane on its own,
after which the groups of rings that waited go on (`State.walk_startGroups`). -/
theorem lasersAndSpares : Obligations.LasersAndSpares := by
  intro s e k hl he hk
  refine ⟨exec_laserFail_dark hl he hk,
    fun h0 h4 hact => ⟨exec_laserFail_spare hl he hk h0 h4 hact, exec_laserFail_alone hl he hk h0 h4 hact⟩,
    exec_laserFail_substitute hl he hk,
    fun hspare => ⟨fun h => ?notRamping, fun h => exec_spareSwitchIn_idle hl he hk hspare (.inr (.inr h)),
      fun h => exec_retireSwitch_idle hl he hk hspare (.inr (.inr h)),
      fun a hfor ha hst => ⟨exec_spareSwitchIn_ready hl he hk hspare hfor ha hst,
        exec_retireSwitch_ready hl he hk hspare hfor ha hst⟩⟩,
    fun h => run_live_eq (i := .laserSettled e) (decide_eq_true he) hl (State.laserSettled_idle h) rfl,
    fun hon hramp => ?settles⟩
  case notRamping =>
    exact ⟨exec_spareSwitchIn_idle hl he hk hspare (h.imp_right .inl),
      exec_retireSwitch_idle hl he hk hspare (h.imp_right .inl)⟩
  case settles =>
    obtain ⟨hframe, hlasers, hgo, hstay⟩ := State.laserSettled_spec hon ((s.settling_iff e).2 hramp) rfl
    exact ⟨s.laserSettled e, run_live_eq (i := .laserSettled e) (decide_eq_true he) hl rfl hframe.pending, hlasers, hgo,
      hstay, hframe.net, hframe.mem⟩

end Sys2Proof.Machine

/-! ## A calibration slot that finds a request (08 R235) -/

namespace Sys2Proof.Machine

section
variable {s : State} {e : Nat}

theorem State.eng_laneItem (s : State) (n : Nat) (old : LaneSt) : (s.laneItem n old).opt.eng = s.opt.eng := by
  unfold State.laneItem State.laneItemOf State.itemWord State.leItem
  dsimp only
  rcases s.heats_spec n with h | h <;> rw [h] <;> rfl

theorem State.eng_moveLane (s : State) (n : Nat) (st : LaneSt) (c : Option Nat) :
    (s.moveLane n st c).opt.eng = s.opt.eng := by
  unfold State.moveLane
  dsimp only
  split
  · exact State.eng_laneItem _ n _
  · rfl

/-- The count of a slot changes lanes, and no engine (R236). -/
theorem State.eng_countSlots (s : State) (e : Nat) : (s.countSlots e).opt.eng = s.opt.eng := by
  unfold State.countSlots
  refine List.foldlRecOn (motive := fun (t : State) => t.opt.eng = s.opt.eng) _ _ rfl fun t ht n _ => ?_
  dsimp only
  split
  · exact ht
  · split
    · rw [← ht]
      unfold State.itemWord State.leItem
      dsimp only
      rcases (t.setOpt n fun o => { o with slots := (t.optLane n).slots + 1 }).heats_spec n with h | h <;> rw [h] <;> rfl
    · exact ht

/-- A slot takes the first position of its list whose lane is in SERVICE and may leave. -/
theorem State.slotPick_takes {p : Nat} (hst : (s.optLane (64 * e + p)).st = .service)
    (hpass : s.slotPasses (64 * e + p) = false) (ps : List Nat) : s.slotPick e (p :: ps) = (some p, []) := by
  simp [State.slotPick, hst, hpass]

/-- A slot that takes a pending position starts its calibration. -/
theorem State.calSlot_pending {p : Nat} (hen : s.flag .leCfg e 0 = true) (hcur : (s.engine e).cur = none)
    (hchoice : s.slotChoice e = (some (p, true), [])) : s.calSlot e = (s.calStart e p false).countSlots e := by
  simp [State.calSlot, hen, hcur, hchoice]

theorem State.engine_setEngine (s : State) (e : Nat) (f : EngineSt → EngineSt) :
    (s.setEngine e f).engine e = f (s.engine e) := SMap.get_upd_same _ _ _ _

theorem State.cur_calStart (s : State) (e p : Nat) (forced : Bool) :
    ((s.calStart e p forced).engine e).cur = some (p, forced, s.beat.bc) := by
  rw [State.calStart, State.engine, State.eng_moveLane, ← State.engine, State.engine_setEngine]
end

/-- A live part with cal_en set for engine 0: the engine holds a request for position 64, and lane 64, the first of
engine 1, is the one lane in SERVICE. -/
def strayRequest : State :=
  { pins := { perstLow := false }
    regs := { eff := [(RegKind.leCfg.off 0 / 8, 1)] }
    opt := { lanes := [(64, { st := .service })], eng := [(0, { pend := [64] })] } }

theorem strayRequest_lane (n : Nat) (h : n ≠ 64) : strayRequest.optLane n = {} := by
  simp [State.optLane, strayRequest, SMap.get_cons, h]

/-- Engine 0 starts a calibration of the lane of engine 1. -/
theorem strayRequest_taken : ((strayRequest.calSlot 0).engine 0).cur = some (64, false, 0) := by
  have hpick : strayRequest.slotPick 0 [64] = (some 64, []) := State.slotPick_takes (by decide) (by decide) []
  have hchoice : strayRequest.slotChoice 0 = (some (64, true), []) := by
    have hpend : sortBy id (strayRequest.engine 0).pend = [64] := by decide
    simp [State.slotChoice, hpend, hpick]
  rw [State.calSlot_pending (by decide) (by decide) hchoice, State.engine, State.eng_countSlots]
  exact State.cur_calStart strayRequest 0 64 false

/-- Refutes O59: a slot of an engine with no lane in SERVICE is to leave the engine as it was, whatever requests it holds.
With position 64 among them, which is no position of an engine, `slotPick` reads lane 64 · 0 + 64, a lane of engine 1, and
starts a calibration there. No command pends such a position: the statement lacks that premise. -/
theorem not_calibrationAndLoopback : ¬ Obligations.CalibrationAndLoopback := by
  intro h
  obtain ⟨-, -, -, hslot, -⟩ := h strayRequest 0 (by decide) (by decide)
  obtain ⟨hidle, -⟩ := hslot (by decide) _ rfl
  have hdark : ∀ n, n / 64 = 0 → (strayRequest.optLane n).st ≠ .service := fun n hn => by
    rw [strayRequest_lane n (by omega)]
    exact LaneSt.noConfusion
  obtain ⟨hsame, -⟩ := hidle (.inr hdark)
  have htaken := strayRequest_taken
  rw [hsame] at htaken
  exact absurd htaken (by decide)

end Sys2Proof.Machine

/-! ## What a restart measures, and for whom (09 R258, R267; 16 R478, R487) -/

namespace Sys2Proof.Machine

section
variable {s : State} {n lane first : Nat} {meas : Int}

/-- TIME_ALIGN has a word for each of the 256 leaves. -/
theorem timeAlign_word (n : Nat) : RegKind.timeAlign.off n / 8 = 0x840400 + n % 256 := by
  have hoff : RegKind.timeAlign.off n = 0x4202000 + 0 * (n / 256) + 8 * (n % 256) := RegKind.off_eq _ n
  omega

/-- A measurement within the bounds keeps the lanes, and every register but TIME_ALIGN of its leaf. -/
theorem State.alignMeasure_within (hlo : -16 ≤ meas) (hhi : meas ≤ 16) :
    (s.alignMeasure n meas).lnk = s.lnk
      ∧ ∀ k i, k.off i / 8 ≠ RegKind.timeAlign.off n / 8 → (s.alignMeasure n meas).reg k i = s.reg k i := by
  have hin : ¬ (meas < -16 || 16 < meas) = true := by simp; omega
  have hlast : ∀ k i, k.off i / 8 ≠ RegKind.timeAlign.off n / 8 →
      ((s.bump .timeAlign n 63 48 1).setFld .timeAlign n 15 0 (ofSigned 16 meas)).reg k i = s.reg k i := fun k i h => by
    rw [State.reg_setFld_other _ _ _ _ _ _ _ _ h, State.reg_bump_other _ _ _ _ _ _ _ _ h]
  unfold State.alignMeasure
  dsimp only
  rw [if_neg hin]
  split
  · exact ⟨rfl, fun k i h => (State.reg_setFld_other _ _ _ _ _ _ _ _ h).trans (hlast k i h)⟩
  · exact ⟨rfl, hlast⟩

/-- A restart on a lane that was bypassed for at most 1 s, with no frame missing, is measured for the leaf of its port,
and nothing more. -/
theorem State.restart_measured (hback : SMap.get 0 s.byp.back lane ≠ 0) (hshort : SMap.get 0 s.byp.back lane ≤ 3906250)
    (hleaf : (s.portOf lane).bind s.bypLeafOf = some n) (hlo : -16 ≤ meas) (hhi : meas ≤ 16)
    (hgap : sdiff 32 first (s.lane lane).rxNum ≤ 0) :
    s.restart lane meas first
      = State.alignMeasure { s with byp := { s.byp with back := SMap.erase s.byp.back lane } } n meas := by
  obtain ⟨t, ht⟩ : ∃ t : State, t = { s with byp := { s.byp with back := SMap.erase s.byp.back lane } } := ⟨_, rfl⟩
  have hleaf' : (t.portOf lane).bind t.bypLeafOf = some n := by rw [ht]; exact hleaf
  obtain ⟨hlnk, -⟩ := t.alignMeasure_within (n := n) hlo hhi
  have hnum : ((t.alignMeasure n meas).lane lane).rxNum = (s.lane lane).rxNum := by
    rw [State.lane, hlnk, ht]; rfl
  unfold State.restart
  dsimp only
  rw [if_neg hback, ← ht, hleaf']
  dsimp only
  rw [if_neg (by simp; omega), hnum, if_neg (by simp; omega)]
end

/-- A live part with the reference cabling of leaf 1 (R26): it takes part through port 4, a valid port of four lanes, and
lane 4, bypassed for one beat, awaits its restart. -/
def leafOneReturns : State :=
  { pins := { perstLow := false }
    regs := { eff := [(RegKind.stnPort.off 4 / 8, at_ 5 2 ||| at_ 0 1), (RegKind.strLeaf.off 1 / 8, at_ 16 1 ||| at_ 0 4)] }
    byp := { leaves := [(1, { takes := true })], back := [(4, 1)] } }

/-- Refutes O60: it has the measurement of a restart recorded in TIME_ALIGN at the number of the lane, where R487 and the
model give that register one word for each leaf. Leaf 1 restarts lane 4, measured 0.125 ns late: the restart leaves the
word at 4, that of leaf 4, as it was (`State.alignMeasure_within`), where the statement has the measurement in it. -/
theorem not_opticalBypass : ¬ Obligations.OpticalBypass := by
  intro h
  obtain ⟨-, -, -, -, -, -, hrestart, -⟩ := h leafOneReturns (by decide)
  have hback : SMap.get 0 leafOneReturns.byp.back 4 = 1 := by decide
  have hleaf : (leafOneReturns.portOf 4).bind leafOneReturns.bypLeafOf = some 1 := by decide
  have hgap : sdiff 32 0 (leafOneReturns.lane 4).rxNum ≤ 0 := by decide
  obtain ⟨u, hu, -, -, hlast, -⟩ :=
    (hrestart 4 1 0 (by decide)).2 1 (by omega) (by omega) hleaf (by omega) (by omega) hgap
  have hrun : exec (.restartReceived 4 1 0) leafOneReturns = .next (leafOneReturns.act fun s => s.restart 4 1 0) :=
    run_live (i := .restartReceived 4 1 0) (s := leafOneReturns) (f := fun s => s.restart 4 1 0) (by decide) (by decide)
  rw [hrun] at hu
  cases hu
  have hsame : (leafOneReturns.restart 4 1 0).reg .timeAlign 4 = leafOneReturns.reg .timeAlign 4 := by
    rw [State.restart_measured (by omega) (by omega) hleaf (by omega) (by omega) hgap]
    exact (State.alignMeasure_within (by omega) (by omega)).2 _ _ (by simp only [timeAlign_word]; omega)
  have hkept : leafOneReturns.fld .timeAlign 4 15 0 = ofSigned 16 1 := by
    rw [← hlast, State.fld, ← hsame]
    rfl
  exact absurd hkept (by decide)

end Sys2Proof.Machine

/-! ## Fabric memory: which parts of the state its operations touch (10 R291 to R303; 07 R187) -/

namespace Sys2Proof.Machine

/-! ### Running counters (17 R489, R497) -/

/-- A state that differs in the running counters alone, their snapshot as it was. -/
def State.onlyLive (s t : State) : Prop := t = { s with cnt := { s.cnt with live := t.cnt.live } }

theorem State.onlyLive_trans {s t u : State} (h : s.onlyLive t) (g : t.onlyLive u) : s.onlyLive u := by
  unfold State.onlyLive at *
  rw [g, h]

theorem State.onlyLive_progEvent (s : State) (src idx : Nat) (p : Option Nat) (n : Nat) :
    s.onlyLive (s.progEvent src idx p n) :=
  List.foldlRecOn (motive := fun (t : State) => s.onlyLive t) _ _ rfl fun _ ht _ _ => State.onlyLive_trans ht rfl

/-- Accesses to lines count, and the snapshot of the counters is as it was. -/
theorem State.onlyLive_lineAccess (s : State) (l : List (Space × Nat)) : s.onlyLive (s.lineAccess l) := by
  refine List.foldlRecOn (motive := fun (t : State) => s.onlyLive t) _ _ rfl fun t ht x _ => ?_
  split
  · exact State.onlyLive_trans ht (t.onlyLive_progEvent _ _ _ _)
  · exact ht

/-! ### The credit and the tiles of a stream (06 R160; 07 R180, R187, R190) -/

/-- A state that differs in the link state of lanes and ports, its counters and what it put out. -/
def State.onlyLink (s t : State) : Prop := t = { s with lnk := t.lnk, cnt := t.cnt, out := t.out }

theorem State.onlyLink_trans {s t u : State} (h : s.onlyLink t) (g : t.onlyLink u) : s.onlyLink u := by
  unfold State.onlyLink at *
  rw [g, h]

theorem State.onlyLink_sendPfc (s : State) (p c quanta : Nat) : s.onlyLink (s.sendPfc p c quanta) := by
  unfold State.sendPfc
  split <;> rfl

theorem State.onlyLink_pfcJudge (s : State) (p c : Nat) : s.onlyLink (s.pfcJudge p c) := by
  unfold State.pfcJudge
  dsimp only
  split <;> split
  · exact State.onlyLink_trans (t := s.setPfc p fun f => f.setXoff c (some s.beat.bc)) rfl (State.onlyLink_sendPfc _ _ _ _)
  · rfl
  · exact State.onlyLink_trans (t := s.setPfc p fun f => f.setXoff c none) rfl (State.onlyLink_sendPfc _ _ _ _)
  · rfl

theorem State.onlyLink_advanceG (s : State) (lane : Nat) : s.onlyLink (s.advanceG lane) := by
  unfold State.advanceG
  split
  · rfl
  · split <;> rfl

/-- The release of a stream's credit changes the link state of its lane or port, and may send a PFC frame, which counts. -/
theorem State.onlyLink_releaseCredit (s : State) (t : Stream) : s.onlyLink (s.releaseCredit t) := by
  unfold State.releaseCredit
  split
  · split
    · exact State.onlyLink_trans (t := s.setPfc t.inPort fun f => f.setHeld t.cls (f.held t.cls - t.tiles)) rfl
        (State.onlyLink_pfcJudge _ _ _)
    · exact State.onlyLink_trans (t := s.setLane t.inLane fun l => l.setHeld t.cls (l.held t.cls - t.tiles)) rfl
        (State.onlyLink_advanceG _ _)
  · rfl

/-- A stream that leaves the list is counted in D; the registers, the memories and the waiting commands are not touched. -/
theorem State.addD_dropStream (s : State) (id : Nat) (b : Option Nat) {u : State} (hu : u = (s.dropStream id).addD b) :
    u = { s with net := u.net } ∧ u.net.streams = (s.dropStream id).net.streams := by
  subst hu
  cases b <;> exact ⟨rfl, rfl⟩

/-! ### Which memory is written (10 R291, R292) -/

/-- A state that differs in the bytes of the two memories and their poison marks alone. -/
def State.onlyBytes (s t : State) : Prop :=
  t = { s with mem := { s.mem with spine := t.mem.spine, near := t.mem.near, poisonS := t.mem.poisonS,
                                   poisonN := t.mem.poisonN } }

theorem State.onlyBytes_trans {s t u : State} (h : s.onlyBytes t) (g : t.onlyBytes u) : s.onlyBytes u := by
  unfold State.onlyBytes at *
  rw [g, h]

theorem State.onlyBytes_setBytes (s : State) (sp : Space) (m : List Host.Cell) : s.onlyBytes (s.setBytes sp m) := by
  cases sp <;> rfl

theorem State.onlyBytes_setPoison (s : State) (sp : Space) (l : Nat) (b : Bool) : s.onlyBytes (s.setPoison sp l b) := by
  cases sp <;> rfl

/-- A write of memory is one of bytes, and then of poison marks alone. -/
theorem State.writeMem_ind {P : State → Prop} (s : State) (sp : Space) (a : Nat) (bs : List Byte) (p : Bool)
    (hbytes : P (s.setBytes sp (memWrite (s.bytesOf sp) a bs)))
    (hmark : ∀ (t : State) (l : Nat) (b : Bool), P t → P (t.setPoison sp l b)) : P (s.writeMem sp a bs p) := by
  refine List.foldlRecOn (motive := P) _ _ hbytes fun t ht l _ => ?_
  split
  · exact hmark t l true ht
  · split
    · exact hmark t l false ht
    · exact ht

theorem State.onlyBytes_writeMem (s : State) (sp : Space) (a : Nat) (bs : List Byte) (p : Bool) :
    s.onlyBytes (s.writeMem sp a bs p) :=
  s.writeMem_ind sp a bs p (s.onlyBytes_setBytes sp _) fun t l b ht => State.onlyBytes_trans ht (t.onlyBytes_setPoison sp l b)

/-- A write of one memory leaves the bytes of the other. -/
theorem State.bytesOf_writeMem_other (s : State) {sp sp' : Space} (h : sp' ≠ sp) (a : Nat) (bs : List Byte) (p : Bool) :
    (s.writeMem sp a bs p).bytesOf sp' = s.bytesOf sp' := by
  refine s.writeMem_ind (P := fun t => t.bytesOf sp' = s.bytesOf sp') sp a bs p ?_ fun t l b ht => ?_
  · match sp, sp', h with
    | .spine, .near, _ => rfl
    | .near, .spine, _ => rfl
    | .spine, .spine, h => exact absurd rfl h
    | .near, .near, h => exact absurd rfl h
  · rw [State.setPoison_bytesOf, ht]

/-! ### Subscriptions (10 R299) -/

/-- A subscription that fires sends its result and is disarmed; nothing else changes. -/
def State.onlyFires (s t : State) : Prop := t = { s with net := t.net, mem := { s.mem with subs := t.mem.subs } }

theorem State.onlyFires_fireSub (s : State) (i : Nat) : s.onlyFires (s.fireSub i) := by
  unfold State.fireSub
  split
  · split <;> rfl
  · rfl

/-! ### Replies and damage (01 R19; 03 R67; 14 R405) -/

/-- A reply is put behind the results of the return ports, and its status is counted. -/
theorem State.sendReply_spec (s : State) (unit : RetUnit) (pipe : Nat) (q : Hdr) (r : Reply) (trk : Option Nat) {u : State}
    (hu : u = s.sendReply unit pipe q r trk) :
    u = { s with regs := u.regs, cnt := u.cnt, net := u.net }
      ∧ u.net = { s.net with ret := s.net.ret ++
          [{ unicastRet unit pipe (s.replyHdr q (0x40 + r.status) r.payload.length r.poison) r.payload with trk := trk }] } := by
  subst hu
  unfold State.sendReply
  dsimp only
  split <;> exact ⟨rfl, rfl⟩

/-- A damaged counter condemns its owner at most (14 R405). -/
theorem State.counterDamage_frame (s : State) (h : Hdr) : s.counterDamage h = { s with part := (s.counterDamage h).part } := by
  unfold State.counterDamage State.partCondemn
  split
  · rfl
  · split
    · split <;> rfl
    · rfl

/-- Where no line of its counters is poisoned, a request meets no damage. -/
theorem State.counterDamage_sound {s : State} {h : Hdr} (hs : (counterLines h).all (fun l => !s.poisoned .near l) = true) :
    s.counterDamage h = s := by
  have hnone : (counterLines h).find? (fun l => s.poisoned .near l) = none := by
    rw [List.find?_eq_none]
    intro l hl
    simpa using List.all_eq_true.1 hs l hl
  unfold State.counterDamage
  rw [hnone]
  dsimp only
  split <;> rfl

end Sys2Proof.Machine

/-! ## The canonical form of both memories (10 R291, R292) -/

namespace Sys2Proof.Machine

theorem MemState.wf_iff (m : MemState) : m.wf = true ↔ Memory.wf m.spine = true ∧ Memory.wf m.near = true :=
  Bool.and_eq_true_iff

theorem State.memWf_bytesOf {s : State} (h : s.mem.wf = true) (sp : Space) : Memory.wf (s.bytesOf sp) = true := by
  obtain ⟨hspine, hnear⟩ := (MemState.wf_iff _).1 h
  cases sp
  · exact hspine
  · exact hnear

/-! ### Writes -/

theorem State.memWf_setBytes {s : State} (h : s.mem.wf = true) (sp : Space) {m : List Host.Cell} (hm : Memory.wf m = true) :
    (s.setBytes sp m).mem.wf = true := by
  obtain ⟨hspine, hnear⟩ := (MemState.wf_iff _).1 h
  cases sp
  · exact (MemState.wf_iff _).2 ⟨hm, hnear⟩
  · exact (MemState.wf_iff _).2 ⟨hspine, hm⟩

@[simp] theorem State.wf_setPoison (s : State) (sp : Space) (l : Nat) (b : Bool) : (s.setPoison sp l b).mem.wf = s.mem.wf := by
  cases sp <;> rfl

theorem State.memWf_writeMem {s : State} (h : s.mem.wf = true) (sp : Space) (a : Nat) (bs : List Byte) (p : Bool) :
    (s.writeMem sp a bs p).mem.wf = true :=
  s.writeMem_ind (P := fun t => t.mem.wf = true) sp a bs p
    (State.memWf_setBytes h sp (memWf_memWrite a bs (State.memWf_bytesOf h sp)))
    fun t l b ht => (t.wf_setPoison sp l b).trans ht

theorem State.memWf_putSpine {s : State} (h : s.mem.wf = true) (a : Nat) (w : Word) : (s.putSpine a w).mem.wf = true :=
  State.memWf_setBytes h .spine (memWf_memPutWord a w (State.memWf_bytesOf h .spine))

theorem State.memWf_setCtr {s : State} (h : s.mem.wf = true) (i v : Nat) : (s.setCtr i v).mem.wf = true :=
  State.memWf_setBytes h .near (memWf_memPutWord _ _ (State.memWf_bytesOf h .near))

/-! ### Updates that write no byte -/

@[simp] theorem State.wf_fireSub (s : State) (i : Nat) : (s.fireSub i).mem.wf = s.mem.wf := by
  rw [s.onlyFires_fireSub i]
  rfl

@[simp] theorem State.mem_lineAccess (s : State) (l : List (Space × Nat)) : (s.lineAccess l).mem = s.mem := by
  rw [s.onlyLive_lineAccess l]

@[simp] theorem State.mem_counterDamage (s : State) (h : Hdr) : (s.counterDamage h).mem = s.mem := by
  rw [s.counterDamage_frame h]

@[simp] theorem State.mem_freeStreamTiles (s : State) (t : Stream) : (s.freeStreamTiles t).mem = s.mem := by
  rw [s.onlyBuf_freeStreamTiles t]

@[simp] theorem State.mem_sendReply (s : State) (unit : RetUnit) (pipe : Nat) (q : Hdr) (r : Reply) (trk : Option Nat) :
    (s.sendReply unit pipe q r trk).mem = s.mem := by
  rw [(s.sendReply_spec unit pipe q r trk rfl).1]

/-! ### Loads, stores and subscriptions (10 R294, R298, R299) -/

theorem State.memWf_opLoad {s : State} (h : s.mem.wf = true) (r : Req) : (s.opLoad r).2.mem.wf = true := by
  unfold State.opLoad
  split
  · exact h
  · split
    · split <;> exact h
    · exact h

theorem State.memWf_opStore {s : State} (h : s.mem.wf = true) (r : Req) : (s.opStore r).2.mem.wf = true := by
  unfold State.opStore
  split
  · exact h
  · split
    · exact h
    · exact State.memWf_writeMem h _ _ _ _

theorem State.memWf_putCtr {s : State} (h : s.mem.wf = true) (i v : Nat) : (s.putCtr i v).mem.wf = true :=
  (State.wf_fireSub _ i).trans (State.memWf_setCtr h _ _)

theorem State.memWf_opCounted {s : State} (h : s.mem.wf = true) (r : Req) (accepted noCount : Bool) :
    (s.opCounted r accepted noCount).2.mem.wf = true := by
  have hstored := State.memWf_writeMem h (s.winAddr r.h).1 (s.winAddr r.h).2 (fitBytes r.h.len r.pay) r.h.poison
  unfold State.opCounted
  dsimp only
  split
  · exact h
  · split
    · exact h
    · split
      · exact hstored
      · split
        · exact hstored
        · exact State.memWf_putCtr hstored _ _

theorem State.memWf_opSubscribe {s : State} (h : s.mem.wf = true) (r : Req) : (s.opSubscribe r).2.mem.wf = true := by
  unfold State.opSubscribe
  split
  · exact h
  · split
    · exact h
    · exact (State.wf_fireSub _ _).trans (State.memWf_writeMem h _ _ _ _)

/-! ### Atomics and their records (10 R295, R304 to R308) -/

theorem State.memWf_awinFind {s v : State} (h : s.mem.wf = true) {src p a : Nat} (hf : s.awinFind src p = some (a, v)) :
    v.mem.wf = true := by
  unfold State.awinFind at hf
  dsimp only at hf
  split at hf
  · cases hf; exact h
  · split at hf
    · cases hf
    · cases hf; exact State.memWf_putSpine (State.memWf_writeMem h _ _ _ _) _ _

theorem State.memWf_awinPut {s : State} (h : s.mem.wf = true) (a t res : Nat) (newest : Bool) :
    (s.awinPut a t res newest).mem.wf = true := by
  have hslot := State.memWf_putSpine (State.memWf_putSpine h (a + 64 + 16 * (t % 16)) (at_ 48 t ||| at_ 47 1))
    (a + 72 + 16 * (t % 16)) (BitVec.ofNat 64 res)
  unfold State.awinPut
  dsimp only
  split
  · exact State.memWf_putSpine hslot _ _
  · exact hslot

theorem State.memWf_atomApply {s : State} (h : s.mem.wf = true) (r : Req) : (s.atomApply r).2.mem.wf = true := by
  have hwritten := State.memWf_setBytes h (s.atomAddr r.h).1
    (memWf_memWrite (s.atomAddr r.h).2 (leBytes (atomWidth r.h) (atomNew (r.h.op - 0x10) (atomWidth r.h)
      (leNat (s.readMem (s.atomAddr r.h).1 (s.atomAddr r.h).2 (atomWidth r.h))) (leNat (r.pay.take (atomWidth r.h)))
      (leNat ((r.pay.drop (atomWidth r.h)).take (atomWidth r.h))))) (State.memWf_bytesOf h (s.atomAddr r.h).1))
  unfold State.atomApply
  dsimp only
  split
  · exact (State.wf_fireSub _ _).trans hwritten
  · exact hwritten

theorem State.memWf_opAtom {s : State} (h : s.mem.wf = true) (r : Req) (noRecord : Bool) :
    (s.opAtom r noRecord).2.mem.wf = true := by
  unfold State.opAtom
  dsimp only
  split
  · exact h
  · split
    · exact h
    · split
      · exact h
      · split
        · exact h
        next a v hf =>
          have hv := State.memWf_awinFind h hf
          split
          · exact hv
          · split
            · exact State.memWf_putSpine hv _ _
            · split
              · have happ := State.memWf_atomApply hv r
                split
                · exact happ
                · exact State.memWf_awinPut happ _ _ _ _
              · split <;> exact hv

/-! ### BAR2 (18 R518, R519) -/

theorem State.mem_hostBytes (s : State) (sp : Space) (a n : Nat) : (s.hostBytes sp a n).2.mem = s.mem := by
  unfold State.hostBytes
  dsimp only
  split
  · refine List.foldlRecOn (motive := fun (x : List Byte × State) => x.2.mem = s.mem) _ _ rfl fun x hx i _ => ?_
    split <;> exact hx
  · rfl

theorem State.memWf_hostDo {s : State} (h : s.mem.wf = true) (x : HostAcc) : (s.hostDo x).mem.wf = true := by
  have hline : (s.lineAccess x.lines).mem.wf = true := by rw [State.mem_lineAccess, h]
  unfold State.hostDo
  dsimp only
  split
  · rw [State.emit_mem, State.mem_hostBytes, hline]
  · refine List.foldlRecOn (motive := fun (t : State) => t.mem.wf = true) _ _ ?_ fun t ht l _ => (t.wf_setPoison _ l _).trans ht
    exact State.memWf_setBytes hline _ (memWf_putBytes _ _ (State.memWf_bytesOf hline _))

theorem State.memWf_hostStep {s : State} (h : s.mem.wf = true) (x : HostAcc) : (s.hostStep x).mem.wf = true := by
  unfold State.hostStep
  split
  · exact h
  · refine State.memWf_hostDo ?_ x
    exact h

theorem State.memWf_hostGoes {s : State} (h : s.mem.wf = true) : s.hostGoes.mem.wf = true :=
  List.foldlRecOn (motive := fun (t : State) => t.mem.wf = true) _ _ h fun _ ht x _ => State.memWf_hostStep ht x

theorem State.memWf_hostAccess {s : State} (h : s.mem.wf = true) (spine : Bool) (addr : Nat) (read : Option Nat)
    (data : List (Option Byte)) : (s.hostAccess spine addr read data).mem.wf = true := by
  refine State.memWf_hostStep ?_ _
  exact h

theorem State.memWf_bar2Read {s : State} (h : s.mem.wf = true) (addr n : Nat) : (s.bar2Read addr n).mem.wf = true := by
  unfold State.bar2Read
  split
  · exact h
  · exact State.memWf_hostAccess h _ _ _ _

theorem State.memWf_bar2Write {s : State} (h : s.mem.wf = true) (addr : Nat) (data : List (Option Byte)) :
    (s.bar2Write addr data).mem.wf = true := by
  unfold State.bar2Write
  split
  · exact h
  · exact State.memWf_hostAccess h _ _ _ _

/-! ### Tracker entries (10 R285, R301 to R303) -/

/-- Whatever an entry's operation is, if it keeps the canonical form, so does its performance. -/
theorem State.memWf_perform {s : State} {f : State → Trk → Option Reply × State}
    (hf : ∀ (v : State) (t : Trk), v.mem.wf = true → (f v t).2.mem.wf = true) (h : s.mem.wf = true) (id : Nat)
    (ops : Nat → Bool) : (s.perform id ops f).mem.wf = true := by
  have hop : ∀ l (t : Trk), (((f (s.lineAccess l) t).2).freeStreamTiles t.req).mem.wf = true := fun l t => by
    rw [State.mem_freeStreamTiles]
    exact hf _ t (by rw [State.mem_lineAccess, h])
  refine State.memWf_hostGoes ?_
  unfold State.performed
  split
  · split
    · exact h
    · dsimp only
      split
      · split <;> exact hop _ _
      · exact hop _ _
  · split
    · exact h
    · split
      · exact h
      · exact hop _ _

theorem State.memWf_simpleOp {s : State} {f : State → Req → Reply × State}
    (hf : ∀ (v : State) (r : Req), v.mem.wf = true → (f v r).2.mem.wf = true) (h : s.mem.wf = true) (id op : Nat) :
    (s.simpleOp id op f).mem.wf = true :=
  State.memWf_perform (fun v t hv => hf (v.counterDamage t.req.hdr) t.toReq (by rw [State.mem_counterDamage, hv])) h id _

theorem State.memWf_atomic {s : State} (h : s.mem.wf = true) (id sub : Nat) : (s.atomic id sub).mem.wf = true :=
  State.memWf_perform (fun v t hv => State.memWf_opAtom (by rw [State.mem_counterDamage, hv]) t.toReq t.reset) h id _

theorem State.memWf_complete {s : State} (h : s.mem.wf = true) (id : Nat) : (s.complete id).mem.wf = true := by
  unfold State.complete
  split
  · split
    · split
      · exact h
      · split
        · exact h
        · rw [State.mem_sendReply]; exact h
    · exact h
  · split
    · exact h
    · split <;> exact h

/-! ### Requests that are accepted (06 R163, R165; 10 R301) -/

theorem State.memWf_trkAccept {s : State} (h : s.mem.wf = true) (t : Stream) (since : Nat) :
    (s.trkAccept t since).mem.wf = true := by
  obtain ⟨v, hv⟩ : ∃ v, v = ((s.dropStream t.id).addD t.bucket).releaseCredit t := ⟨_, rfl⟩
  have hmem : v.mem = s.mem := by
    rw [hv, State.onlyLink_releaseCredit, (s.addD_dropStream t.id t.bucket rfl).1]
  have hprog : ∀ die, (v.progEvent 0x18 die (some t.part) 1).mem.wf = true := fun die => by
    rw [v.onlyLive_progEvent]
    exact hmem ▸ h
  unfold State.trkAccept
  rw [← hv]
  exact hprog _

theorem State.memWf_seqAccept {s : State} (h : s.mem.wf = true) (key seq : Nat) : (s.seqAccept key seq).mem.wf = true := by
  unfold State.seqAccept
  split
  · exact h
  · dsimp only
    split
    · exact State.memWf_putSpine (State.memWf_putSpine h _ _) _ _
    · exact h

theorem State.memWf_acceptWaiting {s : State} (h : s.mem.wf = true) : s.acceptWaiting.mem.wf = true := by
  refine List.foldlRecOn (motive := fun (u : State) => u.mem.wf = true) _ _ h fun u hu t _ => ?_
  split
  · have hacc := State.memWf_trkAccept hu t t.since
    unfold State.acceptReq
    dsimp only
    split
    · exact State.memWf_seqAccept hacc _ _
    · exact hacc
  · exact hu

/-! ### As commands -/

/-- A meaning that keeps the canonical form makes a command that keeps it, on a held part as on a live one. -/
theorem run_memWf (i : Instr) {s t : State} (f : State → State) (hf : s.mem.wf = true → (f s).mem.wf = true)
    (h : s.mem.wf = true) (hr : run i s f = .next t) : t.mem.wf = true := by
  obtain ⟨-, ⟨-, rfl⟩ | ⟨-, rfl⟩⟩ := run_cases hr
  · exact h
  · exact hf h

/-- Settles O53: each command runs a meaning that writes memory only by operations that keep the canonical form. -/
theorem memoryKeepsItsCanonicalForm : Obligations.MemoryKeepsItsCanonicalForm := by
  refine ⟨rfl, fun s t i id a n bs => ?_⟩
  have hsimple : ∀ (j : Instr) (op : Nat) {f : State → Req → Reply × State},
      (∀ (v : State) (r : Req), v.mem.wf = true → (f v r).2.mem.wf = true) →
      s.mem.wf = true → run j s (fun s => s.simpleOp id op f) = .next t → t.mem.wf = true :=
    fun j op _ hf => run_memWf j _ fun h => State.memWf_simpleOp hf h id op
  have hatomic : ∀ (j : Instr) (sub : Nat),
      s.mem.wf = true → run j s (fun s => s.atomic id sub) = .next t → t.mem.wf = true :=
    fun j sub => run_memWf j _ fun h => State.memWf_atomic h id sub
  revert i
  simp only [List.forall_mem_cons]
  refine ⟨hsimple (.loadRequest id) opLdReq fun _ r hv => State.memWf_opLoad hv r,
    hsimple (.store id) opSt fun _ r hv => State.memWf_opStore hv r,
    run_memWf (.countedStore id) _ fun h => State.memWf_perform ?counted h id _,
    hsimple (.subArm id) opSub fun _ r hv => State.memWf_opSubscribe hv r,
    hatomic (.atomAdd id) 0, hatomic (.atomFetchAdd id) 1, hatomic (.atomSwap id) 2, hatomic (.atomCas id) 3,
    hatomic (.atomMinS id) 4, hatomic (.atomMaxS id) 5, hatomic (.atomMinU id) 6, hatomic (.atomMaxU id) 7,
    hatomic (.atomAnd id) 8, hatomic (.atomOr id) 9, hatomic (.atomXor id) 0xA, hatomic (.atomFp32Add id) 0xB,
    hatomic (.atomBf16Add id) 0xC,
    run_memWf (.memoryCompletion id) (·.complete id) fun h => State.memWf_complete h id,
    run_memWf (.trackerTimeout id) (fun s => s.call (.trackerTimeout id) (s.coming (·.giveUpDue id))) fun h => ?timeout,
    run_memWf .waitingRequestAccept State.acceptWaiting State.memWf_acceptWaiting,
    run_memWf (.bar2Read a n) (·.bar2Read a n) fun h => State.memWf_bar2Read h a n,
    run_memWf (.bar2Write a bs) (·.bar2Write a bs) fun h => State.memWf_bar2Write h a bs,
    List.forall_mem_nil _⟩
  case counted =>
    exact fun v t hv => State.memWf_opCounted (by rw [State.mem_counterDamage, hv]) t.toReq t.owned t.reset
  case timeout =>
    rw [State.call_spec]
    exact h

end Sys2Proof.Machine

/-! ## Tracker entries (10 R285, R301 to R303; 07 R191; 15 R441) -/

namespace Sys2Proof.Machine

/-- A record that is changed and is still accepted is found in its place. -/
theorem find?_updFirst {α : Type} {p : α → Bool} {f : α → α} {l : List α} {a : α} (h : l.find? p = some a)
    (hp : p (f a) = true) : (updFirst p f l).find? p = some (f a) := by
  induction l with
  | nil => cases h
  | cons b l ih =>
    unfold updFirst
    cases hb : p b
    · rw [List.find?_cons_of_neg (by simp [hb])] at h
      rw [if_neg (by simp), List.find?_cons_of_neg (by simp [hb]), ih h]
    · rw [List.find?_cons_of_pos hb, Option.some.injEq] at h
      rw [if_pos rfl, h, List.find?_cons_of_pos hp]

theorem State.id_of_trkAt {s : State} {id : Nat} {t : Trk} (h : s.trkAt id = some t) : t.id = id := by
  simpa using List.find?_some h

theorem State.id_of_stream {s : State} {id : Nat} {t : Stream} (h : s.stream id = some t) : t.id = id := by
  simpa using List.find?_some h

/-- An entry that is replaced is found by its number. -/
theorem State.trkAt_putTrk {s : State} {id : Nat} {t x : Trk} (h : s.trkAt id = some t) (hx : x.id = id) :
    (s.putTrk x).trkAt id = some x := by
  subst hx
  exact find?_updFirst (f := fun _ => x) h (decide_eq_true rfl)

/-! ### Requests that wait at merge (10 R301) -/

/-- The entry of a request at place `ord`, with the boundary at which it reached merge. -/
def newTrk (t : Stream) (since ord die : Nat) (owned : Bool) : Trk :=
  { id := t.id, ord := ord, die := die, req := { t with bucket := none, credit := false }, since := since, reply := none,
    sent := false, silent := false, reset := false, owned := owned }

/-- An accepted request leaves the streams for an entry behind every earlier one. -/
theorem State.trkAccept_spec (s : State) (t : Stream) (since : Nat) {u : State} (hu : u = s.trkAccept t since) :
    (∃ die owned, u.mem = { s.mem with trk := s.mem.trk ++ [newTrk t since s.mem.nextOrd die owned],
                                       nextOrd := s.mem.nextOrd + 1 })
      ∧ u.net.streams = (s.dropStream t.id).net.streams ∧ u.regs = s.regs ∧ u.pending = s.pending := by
  obtain ⟨d, hd⟩ : ∃ d, d = (s.dropStream t.id).addD t.bucket := ⟨_, rfl⟩
  obtain ⟨hdrop, hstreams⟩ := s.addD_dropStream t.id t.bucket hd
  obtain ⟨v, hv⟩ : ∃ v, v = d.releaseCredit t := ⟨_, rfl⟩
  have hrel : d.onlyLink v := hv ▸ d.onlyLink_releaseCredit t
  obtain ⟨w, hw⟩ : ∃ w, w = v.progEvent 0x18 (v.targetDie t) (some t.part) 1 := ⟨_, rfl⟩
  have hprog : v.onlyLive w := hw ▸ v.onlyLive_progEvent _ _ _ _
  have hmem : w.mem = s.mem := by rw [hprog, hrel, hdrop]
  have hregs : w.regs = s.regs := by rw [hprog, hrel, hdrop]
  have hpend : w.pending = s.pending := by rw [hprog, hrel, hdrop]
  have hnet : w.net = d.net := by rw [hprog, hrel]
  have haccept : u = { w with mem := { w.mem with
      nextOrd := w.mem.nextOrd + 1
      trk := w.mem.trk ++ [newTrk t since w.mem.nextOrd (v.targetDie t) (w.owns t.part t.hdr.ctr)] } } := by
    rw [hu, hw, hv, hd]
    rfl
  rw [haccept, hmem]
  exact ⟨⟨_, _, rfl⟩, (congrArg (·.streams) hnet).trans hstreams, hregs, hpend⟩

/-- Which flows terminate at the part depends on its registers alone. -/
theorem State.seqFlow_congr {s u : State} (h : u.regs = s.regs) (t : Stream) : u.seqFlow t = s.seqFlow t := by
  unfold State.seqFlow State.isSelf State.nodeValid State.selfNode State.flag State.fld State.reg
  rw [h]

theorem State.acceptReq_unsequenced {s : State} {t : Stream} (h : s.seqFlow t = false) (since : Nat) :
    s.acceptReq t since = s.trkAccept t since := by
  obtain ⟨-, -, hregs, -⟩ := s.trkAccept_spec t since rfl
  unfold State.acceptReq
  dsimp only
  rw [State.seqFlow_congr hregs, h]
  rfl

/-- The one request that waits is accepted where there is room for it. -/
theorem State.acceptWaiting_one {s : State} {t : Stream} (h : s.net.streams.filter (fun t => t.stage = .memWait) = [t]) :
    s.acceptWaiting = if s.trkRoom t.part then s.acceptReq t t.since else s := by
  unfold State.acceptWaiting
  rw [h]
  rfl

/-! ### Completion (10 R285, R303; 07 R191) -/

theorem State.complete_left {s : State} {id : Nat} {t : Trk} (h : s.trkAt id = some t)
    (hleft : t.reply = none ∨ t.sent = true ∨ s.unitWaits (.engine t.die) = true) : s.complete id = s := by
  unfold State.complete
  rw [h]
  dsimp only
  split
  next r hr =>
    have hwaits : (t.sent || s.unitWaits (.engine t.die)) = true := by
      rcases hleft with hnone | hsent | hunit
      · rw [hr] at hnone; cases hnone
      · rw [hsent, Bool.true_or]
      · rw [hunit, Bool.or_true]
    rw [if_pos hwaits]
  · rfl

/-- A reply that may go ends the entry of a discarded partition, and is otherwise handed to the return port. -/
theorem State.complete_ready {s : State} {id : Nat} {t : Trk} {r : Reply} (h : s.trkAt id = some t) (hr : t.reply = some r)
    (hsent : t.sent = false) (hunit : s.unitWaits (.engine t.die) = false) :
    s.complete id = if t.silent then s.dropTrk id
      else (s.putTrk { t with sent := true }).sendReply (.engine t.die) (pipeOnDie t.die t.req.pipe) t.req.hdr r (some id) := by
  unfold State.complete
  rw [h]
  dsimp only
  rw [hr]
  dsimp only
  rw [hsent, hunit]
  rfl

/-- A request that was given up and has completed is counted, and no reply is sent. -/
theorem State.complete_late {s : State} {id : Nat} {t : Trk} (h : s.trkAt id = none)
    (hl : s.mem.late.find? (fun t => t.id = id) = some t) (hr : t.reply.isSome = true) :
    s.complete id = { s.bump .fmemCnt0 0 15 0 1 with
      mem := { s.mem with late := dropFirst (fun x => x.id = id) s.mem.late } } := by
  unfold State.complete
  rw [h, hl]
  dsimp only
  rw [if_neg (by rw [Option.isNone_iff_eq_none]; intro hn; rw [hn] at hr; cases hr)]
  rfl

theorem State.complete_unknown {s : State} {id : Nat} (h : s.trkAt id = none)
    (hl : s.mem.late.find? (fun t => t.id = id) = none) : s.complete id = s := by
  unfold State.complete
  rw [h, hl]

/-! ### Requests that are given up (10 R302) -/

/-- The count of a request that is given up, for its partition too, and its item 0x61. -/
def State.gaveUp (s : State) (p : Nat) (h : Hdr) : State :=
  ((s.bump .fmemCnt0 0 31 16 1).partCount p 18).fmemItem 0x61 0 p h.src h.offset h.opTag 0 0

theorem State.gaveUp_count (s : State) (p : Nat) (h : Hdr) :
    (s.gaveUp p h).fld .fmemCnt0 0 31 16 = Nat.min 65535 (s.fld .fmemCnt0 0 31 16 + 1) :=
  s.fld_bump .fmemCnt0 0 16 1 (hi := 31) (by omega)

/-- An item of fabric memory goes to the ring that FMEM_CFG names (10 R317). -/
theorem State.fmemItem_outbox (s : State) (type code p node off tag coll chunk : Nat) : ∃ y : Item,
    (s.fmemItem type code p node off tag coll chunk).host.outbox = s.host.outbox ++ [(s.fld .fmemCfg 0 5 0, [y])]
      ∧ y.w0 = (at_ 56 type ||| at_ 52 code ||| at_ 40 p ||| at_ 22 node) := by
  have hring : s.fld .fmemCfg 0 5 0 % 64 = s.fld .fmemCfg 0 5 0 := Nat.mod_eq_of_lt (Nat.mod_lt _ (by decide))
  unfold State.fmemItem
  rw [State.post_outbox, hring]
  exact ⟨_, rfl, rfl⟩

theorem State.gaveUp_item (s : State) (p : Nat) (h : Hdr) : ∃ y : Item,
    (s.gaveUp p h).host.outbox = s.host.outbox ++ [(s.fld .fmemCfg 0 5 0, [y])]
      ∧ y.w0 = (at_ 56 0x61 ||| at_ 52 0 ||| at_ 40 p ||| at_ 22 h.src) := by
  have hcfg : ((s.bump .fmemCnt0 0 31 16 1).partCount p 18).fld .fmemCfg 0 5 0 = s.fld .fmemCfg 0 5 0 :=
    congrArg (bits · 5 0) (s.reg_bump_other .fmemCnt0 0 31 16 1 .fmemCfg 0 (by decide))
  rw [← hcfg]
  exact State.fmemItem_outbox _ _ _ _ _ _ _ _ _

/-- An entry at its timeout, its reply not handed on, is freed, and completes late. -/
theorem State.giveUp_due {s : State} {t : Trk} (hsent : t.sent = false) (hdue : t.since + s.trkTimeout ≤ s.beat.bc) :
    s.giveUp t = { s with mem := { s.mem with trk := dropFirst (fun x => x.id = t.id) s.mem.trk,
                                              late := s.mem.late ++ [t] } }.gaveUp t.req.part t.req.hdr := by
  unfold State.giveUp
  rw [if_neg (by simpa [hsent] using hdue)]
  rfl

theorem State.giveUpWaiting_due {s : State} {t : Stream} (hdue : t.since + s.trkTimeout ≤ s.beat.bc) :
    s.giveUpWaiting t = (s.endStream t).gaveUp t.part t.hdr := by
  unfold State.giveUpWaiting
  rw [if_neg (Nat.not_lt.2 hdue)]
  rfl

/-- A stream that ends leaves the list; the memories and the registers are not touched. -/
theorem State.endStream_spec (s : State) (t : Stream) {u : State} (hu : u = s.endStream t) :
    u.net.streams = (s.dropStream t.id).net.streams ∧ u.mem = s.mem ∧ u.regs = s.regs := by
  obtain ⟨d, hd⟩ : ∃ d, d = (s.dropStream t.id).addD t.bucket := ⟨_, rfl⟩
  obtain ⟨hdrop, hstreams⟩ := s.addD_dropStream t.id t.bucket hd
  obtain ⟨v, hv⟩ : ∃ v, v = d.releaseCredit t := ⟨_, rfl⟩
  have hrel : d.onlyLink v := hv ▸ d.onlyLink_releaseCredit t
  obtain ⟨w, hw⟩ : ∃ w, w = v.freeStreamTiles t := ⟨_, rfl⟩
  have hfree : v.onlyBuf w := hw ▸ v.onlyBuf_freeStreamTiles t
  have hdone : u = { w with host := u.host } := by
    have hend : u = w.sendDone t 0x02 := by rw [hu, hw, hv, hd]; rfl
    rw [hend]
    unfold State.sendDone
    split <;> rfl
  have hnet : u.net = d.net := by rw [hdone, hfree, hrel]
  refine ⟨(congrArg (·.streams) hnet).trans hstreams, ?_, ?_⟩
  · rw [hdone, hfree, hrel, hdrop]
  · rw [hdone, hfree, hrel, hdrop]

/-- The state of the coming boundary. -/
def State.nextBeat (s : State) : State :=
  { s with beat := { s.beat with bc := s.beat.bc + 1, now := (s.beat.now + 1) % 2 ^ 32 } }

theorem State.giveUpDue_entry {s : State} {id : Nat} {t : Trk} (h : s.trkAt id = some t) :
    s.nextBeat.giveUpDue id = (!t.sent && decide (t.since + s.trkTimeout ≤ s.beat.bc + 1)) := by
  have hnext : s.nextBeat.trkAt id = some t := h
  unfold State.giveUpDue
  rw [hnext]
  rfl

theorem State.giveUpDue_stream {s : State} {id : Nat} {t : Stream} (h : s.trkAt id = none) (ht : s.stream id = some t)
    (hw : t.stage = .memWait) : s.nextBeat.giveUpDue id = decide (t.since + s.trkTimeout ≤ s.beat.bc + 1) := by
  have hnext : s.nextBeat.trkAt id = none := h
  have hstream : s.nextBeat.stream id = some t := ht
  unfold State.giveUpDue
  rw [hnext, hstream]
  dsimp only
  rw [Option.any_some, decide_eq_true hw, Bool.true_and]
  rfl

theorem State.giveUpDue_unknown {s : State} {id : Nat} (h : s.trkAt id = none) (ht : s.stream id = none) :
    s.nextBeat.giveUpDue id = false := by
  have hnext : s.nextBeat.trkAt id = none := h
  have hstream : s.nextBeat.stream id = none := ht
  unfold State.giveUpDue
  rw [hnext, hstream]
  rfl

/-! ### As commands -/

/-- A timeout that is due at the coming boundary is called for it, and any other changes nothing. -/
theorem exec_trackerTimeout {s : State} (hl : s.live = true) {id : Nat} {due : Bool} (hdue : s.nextBeat.giveUpDue id = due) :
    exec (.trackerTimeout id) s = .next (s.call (.trackerTimeout id) due) := by
  refine run_live_eq (i := .trackerTimeout id) rfl hl (congrArg (s.call _) hdue) ?_
  rw [State.call_spec]

theorem exec_trackerTimeout_early {s : State} (hl : s.live = true) {id : Nat} (hdue : s.nextBeat.giveUpDue id = false) :
    exec (.trackerTimeout id) s = .next s := by
  rw [exec_trackerTimeout hl hdue, State.call_early]

theorem exec_memoryCompletion_left {s : State} (hl : s.live = true) {id : Nat} (h : s.complete id = s) :
    exec (.memoryCompletion id) s = .next s :=
  run_live_eq (i := .memoryCompletion id) rfl hl h rfl

/-- A reply goes behind the results of the return ports, and its entry is kept. -/
theorem exec_memoryCompletion_reply {s : State} (hl : s.live = true) {id : Nat} {t : Trk} {r : Reply}
    (h : s.trkAt id = some t) (hr : t.reply = some r) (hsent : t.sent = false) (hunit : s.unitWaits (.engine t.die) = false)
    (hsilent : t.silent = false) :
    ∃ u x, exec (.memoryCompletion id) s = .next u ∧ u.trkAt id = some { t with sent := true }
      ∧ u.net = { s.net with ret := s.net.ret ++ [x] } ∧ u.mem = { s.mem with trk := u.mem.trk }
      ∧ x.bytes = (s.replyHdr t.req.hdr (0x40 + r.status) r.payload.length r.poison).bytes ++ r.payload
      ∧ x.target = t.req.hdr.src ∧ x.trk = some id ∧ x.pipe = pipeOnDie t.die t.req.pipe ∧ x.unit = .engine t.die := by
  obtain ⟨u, hu⟩ : ∃ u, u = (s.putTrk { t with sent := true }).sendReply (.engine t.die) (pipeOnDie t.die t.req.pipe)
    t.req.hdr r (some id) := ⟨_, rfl⟩
  obtain ⟨hframe, hnet⟩ := State.sendReply_spec _ _ _ _ _ _ hu
  have hid : t.id = id := State.id_of_trkAt h
  have hcomplete : s.complete id = u := by rw [State.complete_ready h hr hsent hunit, if_neg (by simp [hsilent]), hu]
  have hmem : u.mem = (s.putTrk { t with sent := true }).mem := by rw [hframe]
  have htrk : u.trkAt id = (s.putTrk { t with sent := true }).trkAt id := by rw [State.trkAt, hmem]; rfl
  refine ⟨u, _, run_live_eq (i := .memoryCompletion id) rfl hl hcomplete (by rw [hframe]; rfl), ?_, hnet, ?_,
    rfl, rfl, rfl, rfl, rfl⟩
  · rw [htrk, State.trkAt_putTrk (x := { t with sent := true }) h hid]
  · rw [hmem]; rfl

theorem exec_waitingRequestAccept {s u : State} (hl : s.live = true) (h : s.acceptWaiting = u) (hp : u.pending = s.pending) :
    exec .waitingRequestAccept s = .next u :=
  run_live_eq (i := .waitingRequestAccept) rfl hl h hp

theorem State.giveUpId_entry {s : State} {id : Nat} {t : Trk} (h : s.trkAt id = some t) : s.giveUpId id = s.giveUp t := by
  unfold State.giveUpId
  rw [h]

theorem State.giveUpId_stream {s : State} {id : Nat} {t : Stream} (h : s.trkAt id = none) (ht : s.stream id = some t)
    (hw : t.stage = .memWait) : s.giveUpId id = s.giveUpWaiting t := by
  unfold State.giveUpId
  rw [h, ht]
  exact if_pos hw

/-- Settles O52: acceptance, completion and give-up, each by the lemma of its case. -/
theorem trackerEntries : Obligations.TrackerEntries := by
  refine fun s hl => ⟨fun hnone => ?none, fun t hone => ⟨fun hroom => ?full, fun hroom hseq => ?accepted⟩,
    fun id t h => ⟨fun hleft => exec_memoryCompletion_left hl (State.complete_left h hleft), ?replied, ?early, ?due,
      ?given⟩,
    fun id t h hlate hr => ?late, fun id t h ht hw => ⟨?waitsEarly, ?waitsDue, ?waitsGiven⟩,
    fun id h => ⟨fun hlate => exec_memoryCompletion_left hl (State.complete_unknown h hlate),
      fun ht => exec_trackerTimeout_early hl (State.giveUpDue_unknown h ht)⟩⟩
  case none => exact exec_waitingRequestAccept hl (by unfold State.acceptWaiting; rw [hnone]; rfl) rfl
  case full => exact exec_waitingRequestAccept hl (by rw [State.acceptWaiting_one hone, hroom]; rfl) rfl
  case accepted =>
    obtain ⟨⟨die, owned, hmem⟩, hstreams, hregs, hpend⟩ := s.trkAccept_spec t t.since rfl
    have haccept : s.acceptWaiting = s.trkAccept t t.since := by
      rw [State.acceptWaiting_one hone, hroom, if_pos rfl, State.acceptReq_unsequenced hseq]
    exact ⟨_, _, exec_waitingRequestAccept hl haccept hpend, hmem, rfl, rfl, rfl, rfl, rfl, rfl, rfl, hstreams, hregs⟩
  case replied =>
    refine fun hunit hsent => ⟨fun hr hsilent => ?_,
      fun r hr hsilent => exec_memoryCompletion_reply hl h hr hsent hunit hsilent⟩
    obtain ⟨r, hr⟩ := Option.isSome_iff_exists.1 hr
    exact run_live_eq (i := .memoryCompletion id) rfl hl (by rw [State.complete_ready h hr hsent hunit, hsilent]; rfl) rfl
  case early =>
    intro hearly
    refine exec_trackerTimeout_early hl ((State.giveUpDue_entry h).trans ?_)
    rcases hearly with hsent | hearly
    · rw [hsent]; rfl
    · rw [decide_eq_false (Nat.not_le.2 hearly), Bool.and_false]
  case due =>
    intro hsent hdue
    refine exec_trackerTimeout hl ((State.giveUpDue_entry h).trans ?_)
    rw [hsent, decide_eq_true hdue]
    rfl
  case given =>
    intro hsent hdue
    obtain ⟨v, hv⟩ : ∃ v : State, v = { s with mem := { s.mem with
      trk := dropFirst (fun x => x.id = t.id) s.mem.trk
      late := s.mem.late ++ [t] } } := ⟨_, rfl⟩
    obtain ⟨y, hout, hword⟩ := v.gaveUp_item t.req.part t.req.hdr
    have hgive : s.giveUpId id = v.gaveUp t.req.part t.req.hdr := by
      rw [State.giveUpId_entry h, State.giveUp_due hsent hdue, hv]
    have hcount := v.gaveUp_count t.req.part t.req.hdr
    have hid := State.id_of_trkAt h
    subst hv hid
    exact ⟨_, y, hgive, rfl, hcount, hout, hword, rfl, rfl⟩
  case late =>
    have hcomplete := State.complete_late h hlate hr
    exact ⟨_, run_live_eq (i := .memoryCompletion id) rfl hl hcomplete rfl, rfl,
      s.fld_bump .fmemCnt0 0 0 1 (hi := 15) (by omega), rfl⟩
  case waitsEarly =>
    intro hearly
    refine exec_trackerTimeout_early hl ((State.giveUpDue_stream h ht hw).trans ?_)
    exact decide_eq_false (Nat.not_le.2 hearly)
  case waitsDue =>
    intro hdue
    exact exec_trackerTimeout hl ((State.giveUpDue_stream h ht hw).trans (decide_eq_true hdue))
  case waitsGiven =>
    intro hdue
    obtain ⟨v, hv⟩ : ∃ v, v = s.endStream t := ⟨_, rfl⟩
    obtain ⟨hstreams, hmem, hregs⟩ := s.endStream_spec t hv
    have hgive : s.giveUpId id = v.gaveUp t.part t.hdr := by
      rw [State.giveUpId_stream h ht hw, State.giveUpWaiting_due hdue, hv]
    have hfld : v.fld .fmemCnt0 0 31 16 = s.fld .fmemCnt0 0 31 16 := by
      unfold State.fld State.reg
      rw [hregs]
    have hid := State.id_of_stream ht
    rw [hgive, State.gaveUp_count, hfld, ← hid]
    exact ⟨hstreams, hmem, rfl⟩

end Sys2Proof.Machine

/-! ## Requests that are performed (10 R288, R293 to R299; 18 R519) -/

namespace Sys2Proof.Machine

/-! ### The reply waits in the entry (10 R285, R293) -/

/-- The state `v` that an entry's operation has made, once the entry's tiles are given back and its reply waits in it. -/
def State.answered (v : State) (t : Trk) (r : Reply) : State :=
  (v.freeStreamTiles t.req).putTrk { t with reply := some r, req := { t.req with alloc := none } }

section
variable (v : State) (t : Trk) (r : Reply)

theorem State.answered_frame :
    v.answered t r = { v with buf := (v.answered t r).buf, mem := { v.mem with trk := (v.answered t r).mem.trk } } := by
  unfold State.answered
  rw [v.onlyBuf_freeStreamTiles t.req]
  rfl

@[simp] theorem State.answered_pending : (v.answered t r).pending = v.pending := by rw [State.answered_frame]
@[simp] theorem State.answered_regs : (v.answered t r).regs = v.regs := by rw [State.answered_frame]
@[simp] theorem State.answered_net : (v.answered t r).net = v.net := by rw [State.answered_frame]
@[simp] theorem State.answered_spine : (v.answered t r).mem.spine = v.mem.spine := by rw [State.answered_frame]
@[simp] theorem State.answered_near : (v.answered t r).mem.near = v.mem.near := by rw [State.answered_frame]
@[simp] theorem State.answered_subs : (v.answered t r).mem.subs = v.mem.subs := by rw [State.answered_frame]

@[simp] theorem State.answered_bytesOf (sp : Space) : (v.answered t r).bytesOf sp = v.bytesOf sp := by
  cases sp
  · exact v.answered_spine t r
  · exact v.answered_near t r

@[simp] theorem State.answered_ctr (i : Nat) : (v.answered t r).ctr i = v.ctr i := by
  rw [State.ctr, State.answered_near, State.ctr]

@[simp] theorem State.answered_subTarget (i : Nat) : (v.answered t r).subTarget i = v.subTarget i := by
  rw [State.subTarget, State.answered_near, State.subTarget]

@[simp] theorem State.answered_sub (i : Nat) : (v.answered t r).sub i = v.sub i := by
  rw [State.sub, State.answered_subs, State.sub]

/-- The entry holds its reply, and its tiles no more. -/
theorem State.trkAt_answered {id : Nat} (h : v.trkAt id = some t) :
    (v.answered t r).trkAt id = some { t with reply := some r, req := { t.req with alloc := none } } := by
  have hid : t.id = id := State.id_of_trkAt h
  have hfree : (v.freeStreamTiles t.req).trkAt id = some t := by rw [State.trkAt, State.mem_freeStreamTiles]; exact h
  exact State.trkAt_putTrk (x := { t with reply := some r, req := { t.req with alloc := none } }) hfree hid
end

/-! ### An entry that is performed, or left (10 R293) -/

/-- On a live part the entry t waits to be performed: no earlier entry holds its lines, no recalibration does, and its
counters are not damaged. -/
structure Performable (s : State) (id : Nat) (t : Trk) : Prop where
  live : s.live = true
  entry : s.trkAt id = some t
  unanswered : t.reply = none
  speaks : t.silent = false
  kept : t.reset = false
  free : s.trkBlocked t = false
  still : s.recalHolds (s.reqLines t.req.hdr) = false
  sound : (counterLines t.req.hdr).all (fun l => !s.poisoned .near l) = true

/-- The state in which the accesses of entry t to its lines have been counted. -/
def State.accessed (s : State) (t : Trk) : State := s.lineAccess (s.reqLines t.req.hdr)

theorem State.onlyLive_accessed (s : State) (t : Trk) : s.onlyLive (s.accessed t) := s.onlyLive_lineAccess _

section
variable (s : State) (t : Trk)

@[simp] theorem State.accessed_pending : (s.accessed t).pending = s.pending := by rw [s.onlyLive_accessed t]

@[simp] theorem State.accessed_bytesOf (sp : Space) : (s.accessed t).bytesOf sp = s.bytesOf sp := by
  rw [s.onlyLive_accessed t]
  cases sp <;> rfl

variable (h : Hdr)

@[simp] theorem State.accessed_checkReq : (s.accessed t).checkReq h = s.checkReq h := by rw [s.onlyLive_accessed t]; rfl
@[simp] theorem State.accessed_winAddr : (s.accessed t).winAddr h = s.winAddr h := by rw [s.onlyLive_accessed t]; rfl
@[simp] theorem State.accessed_loadBad : (s.accessed t).loadBad h = s.loadBad h := by rw [s.onlyLive_accessed t]; rfl
@[simp] theorem State.accessed_loadBytes : (s.accessed t).loadBytes h = s.loadBytes h := by rw [s.onlyLive_accessed t]; rfl
@[simp] theorem State.accessed_carry (p : Nat) : (s.accessed t).carry p = s.carry p := by rw [s.onlyLive_accessed t]; rfl
@[simp] theorem State.accessed_owns (p i : Nat) : (s.accessed t).owns p i = s.owns p i := by rw [s.onlyLive_accessed t]; rfl

@[simp] theorem State.accessed_storePoison : (s.accessed t).storePoison h = s.storePoison h := by
  rw [State.storePoison, State.accessed_carry, State.storePoison]
end

section
variable {s : State} {id : Nat} {t : Trk} (hp : Performable s id t) {i : Instr} (hi : i.wellFormed = true)
include hp hi

/-- An entry of another opcode is not touched; the BAR2 accesses that waited follow. -/
theorem run_perform_other {ops : Nat → Bool} (hop : ops t.req.hdr.op = false) (f : State → Trk → Option Reply × State) :
    run i s (fun s => s.perform id ops f) = .next s.hostGoes := by
  have hleft : s.performed id ops f = s := State.performed_left hp.entry (by simp [hop])
  exact run_live_eq hi hp.live (congrArg State.hostGoes hleft) s.hostGoes_pending

/-- An entry of the command's opcode takes the reply of its operation; the BAR2 accesses that waited follow. -/
theorem run_perform {ops : Nat → Bool} (hop : ops t.req.hdr.op = true) {f : State → Trk → Option Reply × State} {r : Reply}
    {v : State} (hf : f (s.accessed t) t = (some r, v)) (hpend : v.pending = s.pending) :
    run i s (fun s => s.perform id ops f) = .next (v.answered t r).hostGoes := by
  have hdone : s.performed id ops f = v.answered t r :=
    State.performed_done hp.entry hp.speaks (by simp [hop, hp.unanswered, hp.free, hp.still]) (some r, v) hf.symm
  refine run_live_eq hi hp.live (congrArg State.hostGoes hdone) ?_
  rw [State.hostGoes_pending, State.answered_pending, hpend]

omit hi in
theorem Performable.undamaged : (s.accessed t).counterDamage t.req.hdr = s.accessed t := by
  refine State.counterDamage_sound ?_
  rw [s.onlyLive_accessed t]
  exact hp.sound

theorem run_simpleOp {op : Nat} (hop : t.req.hdr.op = op) {f : State → Req → Reply × State} {r : Reply} {v : State}
    (hf : f (s.accessed t) t.toReq = (r, v)) (hpend : v.pending = s.pending) :
    run i s (fun s => s.simpleOp id op f) = .next (v.answered t r).hostGoes := by
  refine run_perform hp hi (decide_eq_true hop) ?_ hpend
  rw [hp.undamaged, hf]
end

/-- COUNTED_STORE performs its entry. -/
theorem exec_countedStore {s : State} {id : Nat} {t : Trk} (hp : Performable s id t) (hop : t.req.hdr.op = opStCnt) {r : Reply}
    {v : State} (hf : (s.accessed t).opCounted t.toReq t.owned t.reset = (r, v)) (hpend : v.pending = s.pending) :
    exec (.countedStore id) s = .next (v.answered t r).hostGoes := by
  refine run_perform (i := .countedStore id) hp rfl (decide_eq_true hop) ?_ hpend
  rw [hp.undamaged, hf]

/-- A performed entry whose operation has counted at most: the memories, the registers and the results are as they were. -/
theorem Performable.answered_quiet {s : State} {id : Nat} {t : Trk} (hp : Performable s id t) {v u : State} (hv : s.onlyCnt v)
    {r : Reply} (hu : u = v.answered t r) :
    u.mem = { s.mem with trk := u.mem.trk } ∧ u.regs = s.regs ∧ u.net = s.net
      ∧ u.trkAt id = some { t with reply := some r, req := { t.req with alloc := none } } := by
  have hmem : v.mem = s.mem := by rw [hv]
  have hentry : v.trkAt id = some t := by rw [State.trkAt, hmem]; exact hp.entry
  subst hu
  refine ⟨?_, ?_, ?_, v.trkAt_answered t r hentry⟩
  · rw [v.answered_frame t r, hmem]
  · rw [State.answered_regs, hv]
  · rw [State.answered_net, hv]

theorem State.onlyLive.onlyCnt {s t : State} (h : s.onlyLive t) : s.onlyCnt t := by
  unfold State.onlyCnt
  rw [h]

/-! ### The operations (10 R288, R294, R296, R298) -/

section
variable {w : State} {r : Req}

theorem State.opLoad_refused {k : Nat} (h : w.checkReq r.h = some k) : w.opLoad r = (⟨k, [], false⟩, w) := by
  unfold State.opLoad
  rw [h]

theorem State.opStore_refused {k : Nat} (h : w.checkReq r.h = some k) : w.opStore r = (⟨k, [], false⟩, w) := by
  unfold State.opStore
  rw [h]

theorem State.opSubscribe_refused {k : Nat} (h : w.checkReq r.h = some k) : w.opSubscribe r = (⟨k, [], false⟩, w) := by
  unfold State.opSubscribe
  rw [h]

/-- A counted store whose block was not lost since its acceptance is refused as any other request is (10 R313). -/
theorem State.opCounted_refused {k : Nat} {accepted : Bool} (h : w.checkReq r.h = some k)
    (hown : accepted = false ∨ w.owns r.h.part r.h.ctr = true) (noCount : Bool) :
    w.opCounted r accepted noCount = (⟨k, [], false⟩, w) := by
  unfold State.opCounted
  rw [h]
  rcases hown with hown | hown
  · simp [hown]
  · simp [hown]

theorem State.opLoad_good (h : w.checkReq r.h = none) (hg : w.loadBad r.h = false) :
    w.opLoad r = (⟨0, w.loadBytes r.h, false⟩, w.partCount r.h.part 9) := by
  unfold State.opLoad
  rw [h, hg]
  rfl

/-- A load of a poisoned line: with carry its bytes and the poison bit, without it POISON. -/
theorem State.opLoad_bad (h : w.checkReq r.h = none) (hb : w.loadBad r.h = true) :
    w.opLoad r = (if w.carry r.h.part then ⟨0, w.loadBytes r.h, true⟩ else ⟨5, [], false⟩,
      if w.carry r.h.part then w.partCount r.h.part 9 else w) := by
  unfold State.opLoad
  rw [h, hb]
  dsimp only
  rw [if_pos rfl]
  split <;> rfl

theorem State.opStore_poisoned (h : w.checkReq r.h = none) (hp : w.storePoison r.h = true) :
    w.opStore r = (⟨5, [], false⟩, w) := by
  unfold State.opStore
  rw [h, hp]
  rfl

theorem State.opCounted_poisoned (h : w.checkReq r.h = none) (hp : w.storePoison r.h = true) (accepted noCount : Bool) :
    w.opCounted r accepted noCount = (⟨5, [], false⟩, w) := by
  unfold State.opCounted
  simp [h, hp]

/-- What a store leaves: its payload at its window's address. -/
def State.payloadWritten (w : State) (r : Req) : State :=
  w.writeMem (w.winAddr r.h).1 (w.winAddr r.h).2 (fitBytes r.h.len r.pay) r.h.poison

theorem State.opStore_done (h : w.checkReq r.h = none) (hp : w.storePoison r.h = false) :
    w.opStore r = (⟨0, [], false⟩, (w.payloadWritten r).partCount r.h.part 10) := by
  unfold State.opStore
  rw [h]
  dsimp only
  rw [hp]
  rfl

theorem State.opCounted_done (h : w.checkReq r.h = none) (hp : w.storePoison r.h = false) (accepted : Bool) :
    w.opCounted r accepted false
      = (⟨0, [], false⟩, ((w.payloadWritten r).putCtr r.h.ctr ((w.payloadWritten r).ctr r.h.ctr + 1)).partCount r.h.part 10) := by
  unfold State.opCounted
  simp [h, hp, State.payloadWritten]

/-- A subscription leaves its target in the near store, and is armed. -/
def State.armed (w : State) (r : Req) : State :=
  (w.writeMem .near (0x800000 + 16 * r.h.ctr) (fitBytes 8 r.pay) false).setSub r.h.ctr (some { hdr := r.h })

theorem State.opSubscribe_done (h : w.checkReq r.h = none) (hp : r.h.poison = false) :
    w.opSubscribe r = (⟨0, [], false⟩, (w.armed r).fireSub r.h.ctr) := by
  unfold State.opSubscribe
  rw [h]
  dsimp only
  rw [hp]
  rfl
end

/-- A counted store and a subscription that pass the checks name a counter that their partition owns (10 R297). -/
theorem State.owns_of_checkReq {s : State} {h : Hdr} (hc : s.checkReq h = none) (hop : h.op = opStCnt ∨ h.op = opSub) :
    s.owns h.part h.ctr = true := by
  unfold State.checkReq at hc
  rcases hop with hop | hop
  · have hctr : countersOf h = [h.ctr] := by simp [countersOf, hop]
    have hsub : h.op ≠ opSub := by rw [hop]; decide
    simp only [hsub, if_false, hctr, List.all_cons, List.all_nil, Bool.and_true] at hc
    split_ifs at hc with _ _ _ _ hown
    simpa using hown
  · simp only [hop, if_true] at hc
    split_ifs at hc with _ hown
    simpa using hown

theorem State.ctr_lt_of_owns {s : State} {p i : Nat} (h : s.owns p i = true) : i < 1048576 := by
  simp only [State.owns, Bool.and_eq_true, decide_eq_true_eq] at h
  obtain ⟨⟨hlt, -⟩, -⟩ := h
  exact hlt

end Sys2Proof.Machine

/-! ## Loads, stores, counted stores and subscriptions, as commands (10 R288, R293 to R299; 18 R519) -/

namespace Sys2Proof.Machine

/-! ### Words of the near store beside a write (10 R292, R297, R299) -/

theorem leNat_lt (bs : List Byte) : leNat bs < 256 ^ bs.length := by
  induction bs with
  | nil => simp [leNat]
  | cons b bs ih =>
    have := b.isLt
    simp only [leNat, List.length_cons, Nat.pow_succ]
    omega

/-- The bytes read are those written, cut or filled to their number. -/
theorem memRead_memWrite_fit (m : List Host.Cell) (a n : Nat) (bs : List Byte) :
    memRead (memWrite m a (fitBytes n bs)) a n = fitBytes n bs := by
  have h := memRead_memWrite m a (fitBytes n bs)
  rwa [length_fitBytes] at h

theorem memWord_memWrite_other (m : List Host.Cell) {a b : Nat} {bs : List Byte} (h : b + 8 ≤ a ∨ a + bs.length ≤ b) :
    memWord (memWrite m a bs) b = memWord m b := by
  rw [memWord, memRead_memWrite_other _ _ _ _ _ h, memWord]

/-- A word of the near store that a write of memory does not reach. -/
theorem State.nearWord_writeMem (w : State) {sp : Space} {a b : Nat} (bs : List Byte) (p : Bool)
    (h : sp = .spine ∨ b + 8 ≤ a) :
    memWord (w.writeMem sp a bs p).mem.near b = memWord w.mem.near b := by
  cases sp with
  | spine => exact congrArg (memWord · b) (w.bytesOf_writeMem_other (sp := .spine) (sp' := .near) (by decide) a bs p)
  | near =>
    have hnear : (w.writeMem .near a bs p).mem.near = memWrite w.mem.near a bs := w.bytesOf_writeMem .near a bs p
    have hb : b + 8 ≤ a := h.resolve_left (by decide)
    rw [hnear, memWord_memWrite_other _ (.inl hb)]

theorem State.ctr_setCtr (w : State) (i v : Nat) : (w.setCtr i v).ctr i = v % 2 ^ 64 := by
  have hword : memWord (w.setCtr i v).mem.near (8 * i) = BitVec.ofNat 64 v := memWord_memPutWord _ _ _
  rw [State.ctr, hword, BitVec.toNat_ofNat]

/-- A counter's target lies above every counter. -/
theorem State.subTarget_setCtr (w : State) (i v : Nat) : (w.setCtr i v).subTarget i = w.subTarget i := by
  have hword : memWord (w.setCtr i v).mem.near (0x800000 + 16 * i) = memWord w.mem.near (0x800000 + 16 * i) :=
    memWord_memPutWord_other _ _ _ _ (by omega)
  rw [State.subTarget, hword, State.subTarget]

theorem State.memGet_setCtr (w : State) (i v : Nat) {b : Nat} (h : b < 8 * i ∨ 8 * i + 8 ≤ b) :
    memGet (w.setCtr i v).mem.near b = memGet w.mem.near b :=
  memGet_memWrite_other _ _ _ _ (by simpa using h)

/-! ### A subscription that fires, or waits (10 R299) -/

@[simp] theorem State.sub_setSub (x : State) (i : Nat) (y : Option Sub) : (x.setSub i y).sub i = y :=
  SMap.get_set_same none x.mem.subs i y

section
variable (x : State) (i : Nat)

@[simp] theorem State.fireSub_pending : (x.fireSub i).pending = x.pending := by rw [x.onlyFires_fireSub i]
@[simp] theorem State.fireSub_spine : (x.fireSub i).mem.spine = x.mem.spine := by rw [x.onlyFires_fireSub i]
@[simp] theorem State.fireSub_near : (x.fireSub i).mem.near = x.mem.near := by rw [x.onlyFires_fireSub i]
@[simp] theorem State.fireSub_trk : (x.fireSub i).mem.trk = x.mem.trk := by rw [x.onlyFires_fireSub i]

@[simp] theorem State.fireSub_ctr (j : Nat) : (x.fireSub i).ctr j = x.ctr j := by
  rw [State.ctr, State.fireSub_near, State.ctr]

@[simp] theorem State.fireSub_subTarget (j : Nat) : (x.fireSub i).subTarget j = x.subTarget j := by
  rw [State.subTarget, State.fireSub_near, State.subTarget]

@[simp] theorem State.fireSub_bytesOf (sp : Space) : (x.fireSub i).bytesOf sp = x.bytesOf sp := by
  cases sp
  · exact x.fireSub_spine i
  · exact x.fireSub_near i

variable {x i}

theorem State.fireSub_none (h : x.sub i = none) : x.fireSub i = x := by
  unfold State.fireSub
  rw [h]

theorem State.fireSub_early {y : Sub} (h : x.sub i = some y) (hlt : x.ctr i < x.subTarget i) : x.fireSub i = x := by
  unfold State.fireSub
  rw [h]
  exact if_neg (Nat.not_le.2 hlt)

/-- A counter at its subscription's target sends NOTIFY with its value, and the subscription is disarmed. -/
theorem State.fireSub_reached {y : Sub} (h : x.sub i = some y) (hle : x.subTarget i ≤ x.ctr i) :
    (x.fireSub i).sub i = none ∧ ∃ r, (x.fireSub i).net = { x.net with ret := x.net.ret ++ [r] } ∧ r.target = y.hdr.src
      ∧ r.bytes = ({ x.replyHdr y.hdr opNotify 8 false with ctr := i } : Hdr).bytes ++ leBytes 8 (x.ctr i) := by
  have hfire : x.fireSub i = x.notify i (x.ctr i) y := by
    unfold State.fireSub
    rw [h]
    exact if_pos hle
  have hsub : (x.notify i (x.ctr i) y).sub i = none := x.sub_setSub i none
  rw [hfire]
  exact ⟨hsub, _, rfl, rfl, rfl⟩
end

/-! ### Each command that passes the checks -/

section
variable {s : State} {id : Nat} {t : Trk} (hp : Performable s id t)
include hp

/-- A request that fails a check gets the status of that check. -/
theorem exec_refused {i : Instr} {op k : Nat}
    (hi : (i, op) ∈ [(Instr.loadRequest id, opLdReq), (.store id, opSt), (.countedStore id, opStCnt), (.subArm id, opSub)])
    (hop : t.req.hdr.op = op) (hc : s.checkReq t.req.hdr = some k)
    (hown : op = opStCnt → t.owned = false ∨ s.owns t.req.hdr.part t.req.hdr.ctr = true) :
    exec i s = .next ((s.accessed t).answered t ⟨k, [], false⟩).hostGoes := by
  have hck : (s.accessed t).checkReq t.toReq.h = some k := (s.accessed_checkReq t _).trans hc
  have hpend := s.accessed_pending t
  simp only [List.mem_cons, List.not_mem_nil, or_false, Prod.mk.injEq] at hi
  rcases hi with ⟨rfl, rfl⟩ | ⟨rfl, rfl⟩ | ⟨rfl, rfl⟩ | ⟨rfl, rfl⟩
  · exact run_simpleOp (i := .loadRequest id) hp rfl hop (State.opLoad_refused hck) hpend
  · exact run_simpleOp (i := .store id) hp rfl hop (State.opStore_refused hck) hpend
  · have hacown : t.owned = false ∨ (s.accessed t).owns t.toReq.h.part t.toReq.h.ctr = true := by
      rw [State.accessed_owns]
      exact hown rfl
    exact exec_countedStore hp hop (State.opCounted_refused hck hacown _) hpend
  · exact run_simpleOp (i := .subArm id) hp rfl hop (State.opSubscribe_refused hck) hpend

/-- A command of another opcode leaves the entry. -/
theorem exec_otherOpcode {i : Instr} {op : Nat}
    (hi : (i, op) ∈ [(Instr.loadRequest id, opLdReq), (.store id, opSt), (.countedStore id, opStCnt), (.subArm id, opSub)])
    (hop : t.req.hdr.op ≠ op) : exec i s = .next s.hostGoes := by
  simp only [List.mem_cons, List.not_mem_nil, or_false, Prod.mk.injEq] at hi
  rcases hi with ⟨rfl, rfl⟩ | ⟨rfl, rfl⟩ | ⟨rfl, rfl⟩ | ⟨rfl, rfl⟩
  · exact run_perform_other (i := .loadRequest id) hp rfl (decide_eq_false hop) _
  · exact run_perform_other (i := .store id) hp rfl (decide_eq_false hop) _
  · exact run_perform_other (i := .countedStore id) hp rfl (decide_eq_false hop) _
  · exact run_perform_other (i := .subArm id) hp rfl (decide_eq_false hop) _

variable (hc : s.checkReq t.req.hdr = none)
include hc

theorem exec_loadRequest_good (hop : t.req.hdr.op = opLdReq) (hg : s.loadBad t.req.hdr = false) :
    exec (.loadRequest id) s
      = .next (((s.accessed t).partCount t.req.hdr.part 9).answered t ⟨0, s.loadBytes t.req.hdr, false⟩).hostGoes := by
  have hload := State.opLoad_good (r := t.toReq) ((s.accessed_checkReq t _).trans hc) ((s.accessed_loadBad t _).trans hg)
  rw [State.accessed_loadBytes] at hload
  exact run_simpleOp (i := .loadRequest id) hp rfl hop hload (s.accessed_pending t)

theorem exec_loadRequest_bad (hop : t.req.hdr.op = opLdReq) (hb : s.loadBad t.req.hdr = true) :
    ∃ v, s.onlyCnt v ∧ exec (.loadRequest id) s = .next
      (v.answered t (if s.carry t.req.hdr.part then ⟨0, s.loadBytes t.req.hdr, true⟩ else ⟨5, [], false⟩)).hostGoes := by
  have hload := State.opLoad_bad (r := t.toReq) ((s.accessed_checkReq t _).trans hc) ((s.accessed_loadBad t _).trans hb)
  rw [State.accessed_loadBytes, State.accessed_carry] at hload
  obtain ⟨v, hv⟩ : ∃ v, v = if s.carry t.toReq.h.part then (s.accessed t).partCount t.toReq.h.part 9 else s.accessed t :=
    ⟨_, rfl⟩
  have hcnt : s.onlyCnt v := by
    refine State.onlyCnt_trans (s.onlyLive_accessed t).onlyCnt ?_
    rw [hv]
    split <;> rfl
  rw [← hv] at hload
  exact ⟨v, hcnt, run_simpleOp (i := .loadRequest id) hp rfl hop hload (by rw [hcnt])⟩

/-- A store with poison, without carry, is answered POISON. -/
theorem exec_store_poisoned (hop : t.req.hdr.op = opSt ∨ t.req.hdr.op = opStCnt) (hpo : s.storePoison t.req.hdr = true) :
    exec (if t.req.hdr.op = opSt then .store id else .countedStore id) s
      = .next ((s.accessed t).answered t ⟨5, [], false⟩).hostGoes := by
  have hck : (s.accessed t).checkReq t.toReq.h = none := (s.accessed_checkReq t _).trans hc
  have hpoison : (s.accessed t).storePoison t.toReq.h = true := (s.accessed_storePoison t _).trans hpo
  have hpend := s.accessed_pending t
  rcases hop with hop | hop
  · rw [if_pos hop]
    exact run_simpleOp (i := .store id) hp rfl hop (State.opStore_poisoned hck hpoison) hpend
  · rw [if_neg (by rw [hop]; decide)]
    exact exec_countedStore hp hop (State.opCounted_poisoned hck hpoison _ _) hpend
end

end Sys2Proof.Machine

/-! ## Stores, counted stores and subscriptions that are performed (10 R292, R294, R298, R299) -/

namespace Sys2Proof.Machine

@[simp] theorem State.partCount_bytesOf (s : State) (p j : Nat) (sp : Space) : (s.partCount p j).bytesOf sp = s.bytesOf sp := by
  cases sp <;> rfl

/-! ### The payload of a store (10 R294) -/

section
variable {s p : State} {t : Trk} {sp : Space} {a : Nat} (hw : s.winAddr t.req.hdr = (sp, a))
  (hpay : p = (s.accessed t).payloadWritten t.toReq)
include hw hpay

theorem State.payloadWritten_eq :
    p = (s.accessed t).writeMem sp a (fitBytes t.req.hdr.len t.toReq.pay) t.req.hdr.poison := by
  have hacc : (s.accessed t).winAddr t.toReq.h = (sp, a) := (s.accessed_winAddr t _).trans hw
  rw [hpay, State.payloadWritten, hacc]
  rfl

/-- A store changes the bytes of its window's memory, and poison marks. -/
theorem State.payloadWritten_frame :
    p = { s with cnt := p.cnt, mem := { s.mem with spine := p.mem.spine, near := p.mem.near, poisonS := p.mem.poisonS,
                                                   poisonN := p.mem.poisonN } } := by
  have hbytes : (s.accessed t).onlyBytes p := State.payloadWritten_eq hw hpay ▸ State.onlyBytes_writeMem _ _ _ _ _
  rw [hbytes, s.onlyLive_accessed t]

theorem State.payloadWritten_bytes : p.bytesOf sp = memWrite (s.bytesOf sp) a (fitBytes t.req.hdr.len t.toReq.pay) := by
  rw [State.payloadWritten_eq hw hpay, State.bytesOf_writeMem, State.accessed_bytesOf]

theorem State.payloadWritten_read : memRead (p.bytesOf sp) a t.req.hdr.len = fitBytes t.req.hdr.len t.toReq.pay := by
  rw [State.payloadWritten_bytes hw hpay, memRead_memWrite_fit]

theorem State.payloadWritten_otherSpace {sp' : Space} (h : sp' ≠ sp) : p.bytesOf sp' = s.bytesOf sp' := by
  rw [State.payloadWritten_eq hw hpay, State.bytesOf_writeMem_other _ h, State.accessed_bytesOf]

/-- Every other byte of both memories is as it was. -/
theorem State.payloadWritten_other {sp' : Space} {b : Nat} (h : sp' ≠ sp ∨ b < a ∨ a + t.req.hdr.len ≤ b) :
    memGet (p.bytesOf sp') b = memGet (s.bytesOf sp') b := by
  by_cases hsp : sp' = sp
  · subst hsp
    have hb := h.resolve_left (fun hne => hne rfl)
    rw [State.payloadWritten_bytes hw hpay, memGet_memWrite_other _ _ _ _ (by rw [length_fitBytes]; exact hb)]
  · rw [State.payloadWritten_otherSpace hw hpay hsp]

/-- The words of the near store below the payload are as they were. -/
theorem State.payloadWritten_nearWord {b : Nat} (h : sp = .spine ∨ b + 8 ≤ a) :
    memWord p.mem.near b = memWord s.mem.near b := by
  rw [State.payloadWritten_eq hw hpay, State.nearWord_writeMem _ _ _ h, s.onlyLive_accessed t]
end

/-- A store that passes the checks and is not refused for poison. -/
theorem exec_store_done {s : State} {id : Nat} {t : Trk} (hp : Performable s id t) (hc : s.checkReq t.req.hdr = none)
    (hop : t.req.hdr.op = opSt) (hpo : s.storePoison t.req.hdr = false) {sp : Space} {a : Nat}
    (hw : s.winAddr t.req.hdr = (sp, a)) :
    ∃ u : State, exec (.store id) s = .next u.hostGoes
      ∧ memRead (u.bytesOf sp) a t.req.hdr.len = fitBytes t.req.hdr.len t.toReq.pay
      ∧ (∀ b, b < a ∨ a + t.req.hdr.len ≤ b → memGet (u.bytesOf sp) b = memGet (s.bytesOf sp) b)
      ∧ (sp = .spine → u.mem.near = s.mem.near) ∧ (sp = .near → u.mem.spine = s.mem.spine)
      ∧ u.mem.subs = s.mem.subs ∧ u.regs = s.regs ∧ u.net = s.net
      ∧ u.trkAt id = some { t with reply := some ⟨0, [], false⟩, req := { t.req with alloc := none } } := by
  obtain ⟨p, hpay⟩ : ∃ p, p = (s.accessed t).payloadWritten t.toReq := ⟨_, rfl⟩
  have hframe := State.payloadWritten_frame hw hpay
  have hck : (s.accessed t).checkReq t.toReq.h = none := (s.accessed_checkReq t _).trans hc
  have hpoison : (s.accessed t).storePoison t.toReq.h = false := (s.accessed_storePoison t _).trans hpo
  have hstore := State.opStore_done hck hpoison
  rw [← hpay] at hstore
  have hentry : (p.partCount t.req.hdr.part 10).trkAt id = some t := by
    rw [State.trkAt, State.partCount_mem, hframe]; exact hp.entry
  have hexec := run_simpleOp (i := .store id) hp rfl hop hstore (by rw [State.partCount_pending, hframe])
  refine ⟨_, hexec, ?_, fun b hb => ?_, ?_, ?_, ?_, ?_, ?_, State.trkAt_answered _ _ _ hentry⟩
  · rw [State.answered_bytesOf, State.partCount_bytesOf, State.payloadWritten_read hw hpay]
  · rw [State.answered_bytesOf, State.partCount_bytesOf, State.payloadWritten_other hw hpay (.inr hb)]
  · rintro rfl
    rw [State.answered_near]
    exact State.payloadWritten_otherSpace (sp' := .near) hw hpay (by decide)
  · rintro rfl
    rw [State.answered_spine]
    exact State.payloadWritten_otherSpace (sp' := .spine) hw hpay (by decide)
  · rw [State.answered_subs, State.partCount_mem, hframe]
  · rw [State.answered_regs, State.partCount_regs, hframe]
  · rw [State.answered_net, State.partCount_net, hframe]

/-! ### The increment of a counted store (10 R298, R299) -/

section
variable {s p x : State} {t : Trk} {sp : Space} {a n : Nat} (hw : s.winAddr t.req.hdr = (sp, a))
  (hpay : p = (s.accessed t).payloadWritten t.toReq) (hx : x = p.setCtr t.req.hdr.ctr n)
include hw hpay hx

theorem State.counted_frame :
    x = { s with cnt := x.cnt, mem := { s.mem with spine := x.mem.spine, near := x.mem.near, poisonS := x.mem.poisonS,
                                                   poisonN := x.mem.poisonN } } := by
  rw [hx, State.setCtr, State.payloadWritten_frame hw hpay]

theorem State.counted_near {b : Nat} (hb : b < 8 * t.req.hdr.ctr ∨ 8 * t.req.hdr.ctr + 8 ≤ b)
    (hout : sp = .spine ∨ b < a ∨ a + t.req.hdr.len ≤ b) : memGet x.mem.near b = memGet s.mem.near b := by
  have hpayload : memGet (p.bytesOf .near) b = memGet (s.bytesOf .near) b :=
    State.payloadWritten_other hw hpay (hout.imp_left fun h => by rw [h]; decide)
  rw [hx, State.memGet_setCtr _ _ _ hb]
  exact hpayload

variable (hctr : t.req.hdr.ctr < 1048576) (hhigh : sp = .spine ∨ 0x1800000 ≤ a)
include hctr hhigh

/-- The payload is not reached by the increment: a counter lies below every window of the near store. -/
theorem State.counted_read : memRead (x.bytesOf sp) a t.req.hdr.len = fitBytes t.req.hdr.len t.toReq.pay := by
  have hread := State.payloadWritten_read hw hpay
  subst hx
  cases sp with
  | spine => exact hread
  | near =>
    have ha : 0x1800000 ≤ a := hhigh.resolve_left (by decide)
    have hkept : memRead (p.setCtr t.req.hdr.ctr n).mem.near a t.req.hdr.len = memRead p.mem.near a t.req.hdr.len :=
      memRead_memWrite_other _ _ _ _ _ (.inr (by rw [leBytes_length]; omega))
    exact hkept.trans hread

theorem State.counted_subTarget : x.subTarget t.req.hdr.ctr = s.subTarget t.req.hdr.ctr := by
  have hword : memWord p.mem.near (0x800000 + 16 * t.req.hdr.ctr) = memWord s.mem.near (0x800000 + 16 * t.req.hdr.ctr) :=
    State.payloadWritten_nearWord hw hpay (hhigh.imp_right fun ha => by omega)
  rw [hx, State.subTarget_setCtr, State.subTarget, hword, State.subTarget]
end

/-- A counted store adds 1 to the counter as it stood: its payload lies above the counters. -/
theorem State.ctr_payloadWritten {s p : State} {t : Trk} {sp : Space} {a : Nat} (hw : s.winAddr t.req.hdr = (sp, a))
    (hpay : p = (s.accessed t).payloadWritten t.toReq) (hctr : t.req.hdr.ctr < 1048576) (hhigh : sp = .spine ∨ 0x1800000 ≤ a) :
    p.ctr t.req.hdr.ctr = s.ctr t.req.hdr.ctr := by
  have hword : memWord p.mem.near (8 * t.req.hdr.ctr) = memWord s.mem.near (8 * t.req.hdr.ctr) :=
    State.payloadWritten_nearWord hw hpay (hhigh.imp_right fun ha => by omega)
  rw [State.ctr, hword, State.ctr]

/-- A counted store that passes the checks and is not refused for poison. -/
theorem exec_countedStore_done {s : State} {id : Nat} {t : Trk} (hp : Performable s id t) (hc : s.checkReq t.req.hdr = none)
    (hop : t.req.hdr.op = opStCnt) (hpo : s.storePoison t.req.hdr = false) {sp : Space} {a : Nat}
    (hw : s.winAddr t.req.hdr = (sp, a)) (hhigh : sp = .spine ∨ 0x1800000 ≤ a) :
    ∃ (u : State) (n : Nat), exec (.countedStore id) s = .next u.hostGoes ∧ n = (s.ctr t.req.hdr.ctr + 1) % 2 ^ 64
      ∧ u.ctr t.req.hdr.ctr = n
      ∧ memRead (u.bytesOf sp) a t.req.hdr.len = fitBytes t.req.hdr.len t.toReq.pay
      ∧ (∀ b, sp = .near ∨ b < a ∨ a + t.req.hdr.len ≤ b → memGet u.mem.spine b = memGet s.mem.spine b)
      ∧ (∀ b, b < 8 * t.req.hdr.ctr ∨ 8 * t.req.hdr.ctr + 8 ≤ b → sp = .spine ∨ b < a ∨ a + t.req.hdr.len ≤ b →
          memGet u.mem.near b = memGet s.mem.near b)
      ∧ u.trkAt id = some { t with reply := some ⟨0, [], false⟩, req := { t.req with alloc := none } }
      ∧ (s.sub t.req.hdr.ctr = none → u.sub t.req.hdr.ctr = none ∧ u.net = s.net)
      ∧ ∀ x, s.sub t.req.hdr.ctr = some x →
        (n < s.subTarget t.req.hdr.ctr → u.sub t.req.hdr.ctr = some x ∧ u.net = s.net)
        ∧ (s.subTarget t.req.hdr.ctr ≤ n → u.sub t.req.hdr.ctr = none ∧ ∃ r, u.net = { s.net with ret := s.net.ret ++ [r] }
            ∧ r.target = x.hdr.src
            ∧ r.bytes = ({ s.replyHdr x.hdr opNotify 8 false with ctr := t.req.hdr.ctr } : Hdr).bytes ++ leBytes 8 n) := by
  have hlt : t.req.hdr.ctr < 1048576 := State.ctr_lt_of_owns (State.owns_of_checkReq hc (.inl hop))
  obtain ⟨p, hpay⟩ : ∃ p, p = (s.accessed t).payloadWritten t.toReq := ⟨_, rfl⟩
  obtain ⟨n, hn⟩ : ∃ n, n = (s.ctr t.req.hdr.ctr + 1) % 2 ^ 64 := ⟨_, rfl⟩
  obtain ⟨x, hx⟩ : ∃ x, x = p.setCtr t.req.hdr.ctr n := ⟨_, rfl⟩
  obtain ⟨v, hv⟩ : ∃ v, v = (x.fireSub t.req.hdr.ctr).partCount t.req.hdr.part 10 := ⟨_, rfl⟩
  have hframe := State.counted_frame hw hpay hx
  have hctr : x.ctr t.req.hdr.ctr = n := by rw [hx, State.ctr_setCtr, hn, Nat.mod_mod]
  have htarget : x.subTarget t.req.hdr.ctr = s.subTarget t.req.hdr.ctr := State.counted_subTarget hw hpay hx hlt hhigh
  have hsub : x.sub t.req.hdr.ctr = s.sub t.req.hdr.ctr := by rw [hframe]; rfl
  have hnet : x.net = s.net := by rw [hframe]
  have hself : ∀ q op len po, x.replyHdr q op len po = s.replyHdr q op len po := fun _ _ _ _ => by rw [hframe]; rfl
  have hck : (s.accessed t).checkReq t.toReq.h = none := (s.accessed_checkReq t _).trans hc
  have hpoison : (s.accessed t).storePoison t.toReq.h = false := (s.accessed_storePoison t _).trans hpo
  have hcounted : (s.accessed t).opCounted t.toReq t.owned t.reset = (⟨0, [], false⟩, v) := by
    have hput : p.putCtr t.req.hdr.ctr (p.ctr t.req.hdr.ctr + 1) = x.fireSub t.req.hdr.ctr := by
      rw [State.putCtr, State.ctr_payloadWritten hw hpay hlt hhigh, ← hn, ← hx]
    rw [hp.kept, State.opCounted_done hck hpoison, ← hpay, hv, ← hput]
    rfl
  have hvnet : v.net = (x.fireSub t.req.hdr.ctr).net := by rw [hv]; rfl
  have hvsub : v.sub t.req.hdr.ctr = (x.fireSub t.req.hdr.ctr).sub t.req.hdr.ctr := by rw [hv]; rfl
  have hvctr : v.ctr t.req.hdr.ctr = n := by rw [hv, ← hctr]; exact State.fireSub_ctr _ _ _
  have hvbytes : ∀ sp', v.bytesOf sp' = x.bytesOf sp' := fun sp' => by
    rw [hv, State.partCount_bytesOf, State.fireSub_bytesOf]
  have hentry : v.trkAt id = some t := by
    rw [hv, State.trkAt, State.partCount_mem, State.fireSub_trk, hframe]
    exact hp.entry
  have hpend : v.pending = s.pending := by rw [hv, State.partCount_pending, State.fireSub_pending, hframe]
  refine ⟨v.answered t ⟨0, [], false⟩, n, exec_countedStore hp hop hcounted hpend, hn, ?_, ?_, fun b hb => ?_,
    fun b hb hout => ?_, v.trkAt_answered t _ hentry, ?_⟩
  · rw [State.answered_ctr, hvctr]
  · rw [State.answered_bytesOf, hvbytes, State.counted_read hw hpay hx hlt hhigh]
  · rw [State.answered_spine]
    have hkept : memGet (p.bytesOf .spine) b = memGet (s.bytesOf .spine) b :=
      State.payloadWritten_other hw hpay (hb.imp_left fun h => by rw [h]; decide)
    have hspine : v.mem.spine = p.mem.spine := (hvbytes .spine).trans (by rw [hx]; rfl)
    rw [hspine]
    exact hkept
  · rw [State.answered_near]
    have hnear : v.mem.near = x.mem.near := hvbytes .near
    rw [hnear, State.counted_near hw hpay hx hb hout]
  · rw [State.answered_sub, State.answered_net, hvsub, hvnet, ← hsub, ← htarget, ← hctr, ← hnet]
    refine ⟨fun hnone => ?_, fun y hy => ⟨fun hlate => ?_, fun hreach => ?_⟩⟩
    · rw [State.fireSub_none hnone]; exact ⟨hnone, rfl⟩
    · rw [State.fireSub_early hy hlate]; exact ⟨hy, rfl⟩
    · obtain ⟨hgone, r, hret, hdst, hbytes⟩ := State.fireSub_reached hy hreach
      exact ⟨hgone, r, hret, hdst, by rw [hbytes, hself]⟩

/-! ### A subscription (10 R299) -/

section
variable {s x : State} {t : Trk} {n : Nat} (hx : x = (s.accessed t).armed t.toReq) (hn : n = leNat (fitBytes 8 t.toReq.pay))
include hx

theorem State.armed_frame :
    x = { s with cnt := x.cnt, mem := { s.mem with spine := x.mem.spine, near := x.mem.near, poisonS := x.mem.poisonS,
                                                   poisonN := x.mem.poisonN, subs := x.mem.subs } } := by
  rw [hx, State.armed, State.setSub, State.onlyBytes_writeMem, s.onlyLive_accessed t]

theorem State.armed_bytesOf (sp : Space) : x.bytesOf sp
    = ((s.accessed t).writeMem .near (0x800000 + 16 * t.req.hdr.ctr) (fitBytes 8 t.toReq.pay) false).bytesOf sp := by
  rw [hx]
  cases sp <;> rfl

theorem State.armed_spine : x.mem.spine = s.mem.spine := by
  have hother := (State.armed_bytesOf hx .spine).trans (State.bytesOf_writeMem_other _ (by decide) _ _ _)
  rw [State.accessed_bytesOf] at hother
  exact hother

theorem State.armed_near :
    x.mem.near = memWrite s.mem.near (0x800000 + 16 * t.req.hdr.ctr) (fitBytes 8 t.toReq.pay) := by
  have hwritten := (State.armed_bytesOf hx .near).trans (State.bytesOf_writeMem _ _ _ _ _)
  rw [State.accessed_bytesOf] at hwritten
  exact hwritten

theorem State.armed_sub : x.sub t.req.hdr.ctr = some ⟨t.req.hdr⟩ := by
  rw [hx]
  exact State.sub_setSub _ _ _

/-- The target stands above the counter. -/
theorem State.armed_ctr : x.ctr t.req.hdr.ctr = s.ctr t.req.hdr.ctr := by
  rw [State.ctr, State.armed_near hx, memWord_memWrite_other _ (.inl (by omega)), State.ctr]

include hn in
theorem State.armed_subTarget : x.subTarget t.req.hdr.ctr = n := by
  have hlt := leNat_lt (fitBytes 8 t.toReq.pay)
  rw [length_fitBytes] at hlt
  rw [State.subTarget, State.armed_near hx, memWord, memRead_memWrite_fit, BitVec.toNat_ofNat, hn]
  exact Nat.mod_eq_of_lt hlt
end

/-- A subscription that passes the checks, without poison. -/
theorem exec_subArm_done {s : State} {id : Nat} {t : Trk} (hp : Performable s id t) (hc : s.checkReq t.req.hdr = none)
    (hop : t.req.hdr.op = opSub) (hpo : t.req.hdr.poison = false) :
    ∃ (u : State) (n : Nat), exec (.subArm id) s = .next u.hostGoes ∧ n = leNat (fitBytes 8 t.toReq.pay)
      ∧ u.subTarget t.req.hdr.ctr = n ∧ u.ctr t.req.hdr.ctr = s.ctr t.req.hdr.ctr ∧ u.mem.spine = s.mem.spine
      ∧ (∀ b, b < 0x800000 + 16 * t.req.hdr.ctr ∨ 0x800000 + 16 * t.req.hdr.ctr + 8 ≤ b →
          memGet u.mem.near b = memGet s.mem.near b)
      ∧ (s.ctr t.req.hdr.ctr < n → u.sub t.req.hdr.ctr = some ⟨t.req.hdr⟩ ∧ u.net = s.net)
      ∧ (n ≤ s.ctr t.req.hdr.ctr → u.sub t.req.hdr.ctr = none ∧ ∃ r, u.net = { s.net with ret := s.net.ret ++ [r] }
          ∧ r.target = t.req.hdr.src)
      ∧ u.trkAt id = some { t with reply := some ⟨0, [], false⟩, req := { t.req with alloc := none } } := by
  obtain ⟨n, hn⟩ : ∃ n, n = leNat (fitBytes 8 t.toReq.pay) := ⟨_, rfl⟩
  obtain ⟨x, hx⟩ : ∃ x, x = (s.accessed t).armed t.toReq := ⟨_, rfl⟩
  have hframe := State.armed_frame hx
  have hsub := State.armed_sub hx
  have hctr := State.armed_ctr hx
  have htarget := State.armed_subTarget hx hn
  have hnet : x.net = s.net := by rw [hframe]
  have hck : (s.accessed t).checkReq t.toReq.h = none := (s.accessed_checkReq t _).trans hc
  have hsubscribe := State.opSubscribe_done hck hpo
  rw [← hx] at hsubscribe
  have hentry : (x.fireSub t.req.hdr.ctr).trkAt id = some t := by
    rw [State.trkAt, State.fireSub_trk, hframe]
    exact hp.entry
  have hexec := run_simpleOp (i := .subArm id) hp rfl hop hsubscribe (by rw [State.fireSub_pending, hframe])
  refine ⟨(x.fireSub t.req.hdr.ctr).answered t ⟨0, [], false⟩, n, hexec, hn, ?_, ?_, ?_, fun b hb => ?_, ?_, ?_,
    State.trkAt_answered _ _ _ hentry⟩
  · rw [State.answered_subTarget, State.fireSub_subTarget, htarget]
  · rw [State.answered_ctr, State.fireSub_ctr, hctr]
  · rw [State.answered_spine, State.fireSub_spine, State.armed_spine hx]
  · rw [State.answered_near, State.fireSub_near, State.armed_near hx,
      memGet_memWrite_other _ _ _ _ (by rw [length_fitBytes]; exact hb)]
  · rw [State.answered_sub, State.answered_net, ← hctr, ← htarget, ← hnet]
    intro hlate
    rw [State.fireSub_early hsub hlate]
    exact ⟨hsub, rfl⟩
  · rw [State.answered_sub, State.answered_net, ← hctr, ← htarget, ← hnet]
    intro hreach
    obtain ⟨hgone, r, hret, hdst, -⟩ := State.fireSub_reached hsub hreach
    exact ⟨hgone, r, hret, hdst⟩

/-- Without the poison bit, or with carry, a store is not refused for poison (10 R296). -/
theorem State.storePoison_eq_false {s : State} {h : Hdr} (hpo : h.poison = false ∨ s.carry h.part = true) :
    s.storePoison h = false := by
  rcases hpo with hpo | hca
  · rw [State.storePoison, hpo, Bool.false_and]
  · rw [State.storePoison, hca, Bool.not_true, Bool.and_false]

/-- Settles O50: a request that is left, refused, loads, stores, counts or subscribes, each by the lemma of its case. -/
theorem loadsAndStores : Obligations.LoadsAndStores := by
  intro s id t h hl hentry hr hsilent hreset hh hfree hstill hsound
  subst hh
  have hp : Performable s id t := ⟨hl, hentry, hr, hsilent, hreset, hfree, hstill, hsound⟩
  have hacc := (s.onlyLive_accessed t).onlyCnt
  refine ⟨fun v hv => State.hostGoes_none hv, fun i op hi => ⟨exec_otherOpcode hp hi, fun k hop hc hown => ?refused⟩,
    fun hc => ⟨fun hop => ⟨fun hg => ?good, fun hb => ?bad⟩, fun hop hpo hca => ?poisoned,
      fun sp a hpo hw => ⟨fun hop => exec_store_done hp hc hop (State.storePoison_eq_false hpo) hw,
        fun hop hhigh => exec_countedStore_done hp hc hop (State.storePoison_eq_false hpo) hw hhigh⟩,
      fun hop hpo => exec_subArm_done hp hc hop hpo⟩⟩
  case refused => exact ⟨_, exec_refused hp hi hop hc hown, hp.answered_quiet hacc rfl⟩
  case good =>
    have hcounted : s.onlyCnt ((s.accessed t).partCount t.req.hdr.part 9) := State.onlyCnt_trans hacc rfl
    obtain ⟨hmem, hregs, hnet, htrk⟩ := hp.answered_quiet hcounted rfl
    refine ⟨_, _, exec_loadRequest_good hp hc hop hg, hmem, hregs, hnet, fun sp a hsp hw => ?window, fun hsp => ?counters,
      fun _ => rfl, htrk⟩
    case window => rw [State.loadBytes, if_pos hsp, hw]; rfl
    case counters => rw [State.loadBytes, if_neg (by omega), if_pos hsp]; rfl
  case bad =>
    obtain ⟨v, hv, hexec⟩ := exec_loadRequest_bad hp hc hop hb
    exact ⟨_, hexec, hp.answered_quiet hv rfl⟩
  case poisoned =>
    have hpoison : s.storePoison t.req.hdr = true := by rw [State.storePoison, hpo, hca]; rfl
    obtain ⟨hmem, -, -, htrk⟩ := hp.answered_quiet hacc rfl
    exact ⟨_, exec_store_poisoned hp hc hop hpoison, hmem, htrk⟩

end Sys2Proof.Machine

/-! ## The queue drains (00; 02 R30) -/

namespace Sys2Proof.Machine

/-- A step takes a well-formed command from the front of the queue and stops nowhere. -/
theorem step_wellFormed {s : State} {c : Instr} {rest : List Instr} (hq : s.pending = c :: rest)
    (hc : c.wellFormed = true) : ∃ t, step s = .next t ∧ t.pending = rest := by
  rw [step_cons hq]
  exact (wellFormedCommandsComplete c { s with pending := rest }).1 hc

/-- As many well-formed commands as wait are run, one after another, with no stop. -/
theorem steps_drain (q : List Instr) (hq : ∀ c ∈ q, c.wellFormed = true) (s : State) (hs : s.pending = q) :
    ∃ t, steps q.length s = .next t ∧ t.pending = [] := by
  induction q generalizing s with
  | nil => exact ⟨s, rfl, hs⟩
  | cons c rest ih =>
    obtain ⟨u, hu, hrest⟩ := step_wellFormed hs (hq c List.mem_cons_self)
    obtain ⟨t, ht, hempty⟩ := ih (fun d hd => hq d (List.mem_cons_of_mem c hd)) u hrest
    refine ⟨t, ?_, hempty⟩
    rw [List.length_cons, steps, hu]
    exact ht

/-- Settles O3: a step takes one well-formed command off the queue, so as many steps as commands empty it. -/
theorem wellFormedQueueDrains : Obligations.WellFormedQueueDrains := by
  refine ⟨fun s t hq hstep => ?kept, fun s hq => steps_drain s.pending hq s rfl⟩
  case kept =>
    cases hs : s.pending with
    | nil =>
      rw [step_nil hs] at hstep
      cases hstep
      exact ⟨hq, hs⟩
    | cons c rest =>
      rw [hs] at hq
      obtain ⟨u, hu, hrest⟩ := step_wellFormed hs (hq c List.mem_cons_self)
      rw [hu] at hstep
      cases hstep
      exact ⟨fun d hd => hq d (List.mem_cons_of_mem c (hrest ▸ hd)), hrest⟩

end Sys2Proof.Machine

/-! ## The state after reset (15 R438; 20 R580, R601) -/

namespace Sys2Proof.Machine

theorem reset_pst {p : Nat} (h : p ≠ 0) : State.reset.pst p = .free := by
  rw [State.pst, State.partInfo, if_neg h]
  rfl

theorem reset_dom {d : Nat} (h : d ≠ 94) : State.reset.dom d = {} := if_neg h

/-- Settles O5: nothing is listed, so that every map reads its default but for cricket's domain. -/
theorem resetState : Obligations.ResetState :=
  ⟨rfl, rfl, rfl, rfl, rfl, fun _ hp => reset_pst hp, rfl, fun _ hd => congrArg Dom.st (reset_dom hd), rfl, rfl, rfl, rfl,
    fun _ _ => rfl⟩

end Sys2Proof.Machine

/-! ## Pins and the test port (21 R609 to R619) -/

namespace Sys2Proof.Machine

/-- Settles O6: each of the five changes the port alone, and puts out what its data register captures. -/
theorem tapReadsWithoutDisturbing : Obligations.TapReadsWithoutDisturbing := fun _ =>
  ⟨runAlways_next (i := .idcode) rfl, runAlways_next (i := .tapReset) rfl, runAlways_next (i := .bypass) rfl,
    runAlways_next (i := .ecid) rfl, fun n => runAlways_next (i := .samplePreload n) rfl⟩

/-- An instruction that takes the pins resets the part and holds it (21 R617, R618). -/
theorem State.takePins_live (s : State) (code : Nat) : (s.takePins code).live = false := by
  simp [State.live, State.takePins]

/-- The command of an instruction that takes the pins loads its code. -/
theorem exec_takePins {i : Instr} {code : Nat}
    (h : (i, code) ∈ [(Instr.extest, 0x00), (.extestPulse, 0x03), (.extestTrain, 0x04), (.clamp, 0x05), (.highz, 0x06)])
    (s : State) : exec i s = .next (s.act fun s => s.takePins code) := by
  simp only [List.mem_cons, Prod.mk.injEq, List.not_mem_nil, or_false] at h
  rcases h with ⟨rfl, rfl⟩ | ⟨rfl, rfl⟩ | ⟨rfl, rfl⟩ | ⟨rfl, rfl⟩ | ⟨rfl, rfl⟩ <;> rfl

/-- Settles O7: all five run `State.takePins`, which is a fundamental reset that holds. -/
theorem tapTakesThePins : Obligations.TapTakesThePins := fun s _ code h =>
  ⟨_, exec_takePins h s, rfl, rfl, s.takePins_live code, rfl, rfl, rfl, rfl, rfl, rfl, rfl, rfl, rfl, rfl, rfl, rfl, rfl,
    rfl, rfl, rfl, rfl, rfl, rfl, rfl⟩

/-- The loss of a good TREF (21 R611). -/
theorem State.refLost_good {s : State} (h : s.pins.refOk = true) :
    s.refLost = (((({ s with pins := { s.pins with refOk := false, refSel := true } } : State).setFlag .devPkgStatus 0 2 true).bump
      .devPkgStatus 0 47 32 1).raise .refLost []) := by
  simp [State.refLost, h]

/-- Settles O8: the loss writes DEV_PKG_STATUS alone, and the other two a pin alone. -/
theorem referenceAndSupplyPins : Obligations.ReferenceAndSupplyPins := by
  refine ⟨fun s h => ?lost, fun _ => runAlways_next (i := .trefRestore) rfl, fun _ => ⟨runAlways_next (i := .vaonFall) rfl, ?held⟩⟩
  case lost =>
    refine ⟨_, runAlways_next (i := .trefLost) rfl, ?_⟩
    simp only [State.act, State.refLost_good h]
    refine ⟨rfl, ?flag, ?count, fun k i hk => ?frame, rfl, rfl, rfl⟩
    case flag => exact (State.flag_setFld_other _ _ _ _ (by decide)).trans (State.flag_setFlag _ .devPkgStatus 0 true (by decide))
    case count =>
      refine (State.fld_bump _ .devPkgStatus 0 32 1 (by decide)).trans ?_
      exact congrArg (fun n => Nat.min 65535 (n + 1)) (State.fld_setFld_other _ _ _ _ (by decide))
    case frame =>
      exact (State.reg_bump_other _ _ _ _ _ _ _ _ hk).trans (State.reg_setFlag_other _ _ _ _ _ _ _ hk)
  case held => simp [State.live]

end Sys2Proof.Machine

/-! ## Power domains, warnings and stretches (19 R552 to R564, R577) -/

namespace Sys2Proof.Machine

theorem at_zero (lo : Nat) : at_ lo 0 = 0 := by simp [at_]

/-- An item of a unit that names no lane and no laser, with one value (19 R577). -/
theorem State.pwrItem_plain (s : State) (type code dom : Nat) {a : Nat} (ha : a < 4096) :
    s.pwrItem type code dom 0 0 a 0
      = s.post s.pwrRing [⟨at_ 56 type ||| at_ 52 code ||| at_ 45 dom, at_ 32 a, s.beatWord, 0⟩] := by
  have hfits : a % 4294967296 = a := by omega
  simp [State.pwrItem, at_zero, hfits]

/-- A domain that moves is alone in doing so, and posts one item (19 R554). -/
theorem State.dom_moveDom (s : State) (d st code : Nat) (f : Dom → Dom) (e : Nat) :
    (s.moveDom d st code f).dom e = if e = d then { f (s.dom d) with st := st } else s.dom e :=
  s.dom_setDom d e _

/-- While the beat runs a ramp begins at a boundary alone (19 R554). -/
theorem State.rampNow_running {s : State} (h : s.beat.running = true) : s.rampNow = s := if_pos h

theorem State.rampUpDone_running {s : State} {d : Nat} (hst : (s.dom d).st = 1) (hr : s.beat.running = true) :
    s.rampUpDone d = s.setDom d fun x => { x with inRange := true } := by
  simp [State.rampUpDone, hst, hr]

theorem State.rampDownDone_running {s : State} {d : Nat} (hst : (s.dom d).st = 3) (hr : s.beat.running = true) :
    s.rampDownDone d = s.moveDom d (if (s.dom d).toFault then 4 else 0) 0 fun x => { x with vg := 0, goal := 0 } := by
  have hmoved := State.rampNow_running (s := s.moveDom d (if (s.dom d).toFault then 4 else 0) 0
    fun x => { x with vg := 0, goal := 0 }) hr
  simpa [State.rampDownDone, hst] using hmoved

/-- A supply fault of a domain that the core can do without (19 R555). -/
theorem State.faultDom_below80 {s : State} {d : Nat} (hd : d < 80) (h0 : (s.dom d).st ≠ 0) (h4 : (s.dom d).st ≠ 4)
    (hs5 : s.boot.step ≠ 5) (hs7 : s.boot.step ≠ 7) (hs10 : s.boot.step ≠ 10) :
    s.faultDom d = s.setDom d fun x => { x with force := some 3 } := by
  simp [State.faultDom, h0, h4, hs5, hs7, hs10, hd]

/-- A supply fault of a domain that the core cannot do without (19 R555, R564). -/
theorem State.faultDom_trips {s : State} {d : Nat} (hd : 80 ≤ d) (h0 : (s.dom d).st ≠ 0) (h4 : (s.dom d).st ≠ 4)
    (hstep : d < 92 → s.boot.step ≠ 5 ∧ s.boot.step ≠ 7 ∧ s.boot.step ≠ 10) :
    s.faultDom d = s.takeTrip 4 51 45 d := by
  have h80 : ¬ d < 80 := by omega
  by_cases h92 : d < 92
  · obtain ⟨hs5, hs7, hs10⟩ := hstep h92
    simp [State.faultDom, h0, h4, hs5, hs7, hs10, h80]
  · simp [State.faultDom, h0, h4, h80, h92]

/-- A photonic die at 85 °C or more (19 R563). -/
theorem State.engineTrip_due {s : State} {e temp : Nat} (ht : 1360 ≤ temp)
    (hst : (s.dom (64 + e)).st = 1 ∨ (s.dom (64 + e)).st = 2) (hf : (s.dom (64 + e)).force = none) :
    s.engineTrip e temp = (s.setDom (64 + e) fun x => { x with force := some 6 }).pwrItem 0x91 4 (64 + e) 0 0 temp 0 := by
  have hhot : ¬ temp < 16 * 85 := by omega
  rcases hst with hst | hst <;> simp [State.engineTrip, hhot, hst, hf]

/-- Settles O9: each ramp and fault changes its own domain, and posts at most one item. -/
theorem domainRampsAndFaults : Obligations.DomainRampsAndFaults := by
  refine fun s hl => ⟨fun d hd hst hr => ?up, fun d hd hst hr => ?down, fun d hd h0 h4 hs5 hs7 hs10 => ?fault,
    fun e temp he hhot ht hst hf => ?photonic⟩
  case up => exact run_live_eq (i := .domainRampUpDone d) (decide_eq_true hd) hl (State.rampUpDone_running hst hr) rfl
  case down =>
    refine ⟨_, run_live_eq (i := .domainRampDownDone d) (decide_eq_true hd) hl (State.rampDownDone_running hst hr) rfl,
      ?_, ?_, fun e he => ?_, rfl, rfl, List.length_append⟩
    · rw [State.dom_moveDom, if_pos rfl]
    · rw [State.dom_moveDom, if_pos rfl]
    · rw [State.dom_moveDom, if_neg he]
  case fault =>
    exact run_live_eq (i := .supplyFault d) (decide_eq_true (by omega)) hl
      (State.faultDom_below80 hd h0 h4 hs5 hs7 hs10) rfl
  case photonic =>
    have htrip := State.engineTrip_due hhot hst hf
    rw [State.pwrItem_plain _ _ _ _ ht] at htrip
    refine ⟨_, run_live_eq (i := .photonicTrip e temp) (decide_eq_true ⟨he, ht⟩) hl htrip rfl, ?_, fun d hd => ?_, rfl, rfl,
      rfl⟩
    · exact congrArg Dom.force ((s.dom_setDom (64 + e) (64 + e) _).trans (if_pos rfl))
    · exact (s.dom_setDom (64 + e) d _).trans (if_neg hd)

/-! ### Power trips (19 R564) -/

/-- A domain of the list is put OFF. -/
def State.tripDom (s : State) (e : Nat × Dom) : State := s.setDom e.1 fun _ => { cause := 4 }

/-- A list of domains is put OFF: those of the list are OFF, the others as they were, and nothing else changes. -/
theorem State.tripDoms_spec (l : List (Nat × Dom)) (s : State) :
    (∀ d, (l.foldl State.tripDom s).dom d = if d ∈ l.map Prod.fst then { cause := 4 } else s.dom d)
      ∧ l.foldl State.tripDom s = { s with pwr := (l.foldl State.tripDom s).pwr } := by
  induction l generalizing s with
  | nil => exact ⟨fun d => rfl, rfl⟩
  | cons e l ih =>
    obtain ⟨hdom, hframe⟩ := ih (s.tripDom e)
    refine ⟨fun d => ?_, hframe⟩
    rw [List.foldl_cons, hdom, State.tripDom, State.dom_setDom, List.map_cons]
    by_cases hl : d ∈ l.map Prod.fst
    · rw [if_pos hl, if_pos (List.mem_cons_of_mem _ hl)]
    · rw [if_neg hl]
      exact if_congr (by simp [hl]) rfl rfl

/-- A domain that is not OFF is listed. -/
theorem mem_of_get_ne {α : Type} {d : α} {m : SMap α} {k : Nat} (h : SMap.get d m k ≠ d) : (k, SMap.get d m k) ∈ m := by
  induction m with
  | nil => exact absurd rfl h
  | cons e m ih =>
    obtain ⟨j, v⟩ := e
    rw [SMap.get_cons] at h ⊢
    by_cases hk : k = j
    · subst hk
      rw [if_pos rfl]
      exact List.mem_cons_self
    · rw [if_neg hk] at h ⊢
      exact List.mem_cons_of_mem _ (ih h)

theorem State.listed_of_on {s : State} {d : Nat} (h : (s.dom d).st ≠ 0) : (d, s.dom d) ∈ s.pwr.dom :=
  mem_of_get_ne fun hd => h (by rw [State.dom, hd])

/-- The domains that a trip takes off. -/
def State.tripped (s : State) : List (Nat × Dom) := s.pwr.dom.filter fun e => e.1 ≠ 94 && e.2.st ≠ 0

/-- What a trip leaves (19 R564). -/
theorem State.takeTrip_spec (s : State) (cause lo v : Nat) {hi : Nat} (hhi : hi < 64) (hv : v < 2 ^ (hi + 1 - lo)) {t : State}
    (ht : t = s.takeTrip cause hi lo v) :
    t.pwr.trip = some cause ∧ t.pins.alarmLow = true ∧ t.live = false ∧ (∀ d, d ≠ 94 → (t.dom d).st = 0)
      ∧ t.host.speed = 0 ∧ t.host.width = 0 ∧ t.host.outbox = [] ∧ t.fld .pwrWake 0 hi lo = v ∧ t.mem = s.mem
      ∧ t.boot = s.boot ∧ t.pending = s.pending := by
  obtain ⟨hdom, hframe⟩ := State.tripDoms_spec s.tripped s
  have hoff : ∀ d, d ≠ 94 → ((s.tripped.foldl State.tripDom s).dom d).st = 0 := by
    intro d hd
    rw [hdom]
    split
    · rfl
    next hout =>
      by_contra hon
      refine hout (List.mem_map.2 ⟨(d, s.dom d), List.mem_filter.2 ⟨State.listed_of_on hon, ?_⟩, rfl⟩)
      simp [hd, hon]
  have hwake : (((s.tripped.foldl State.tripDom s).setFld .pwrWake 0 hi lo v).fld .pwrWake 0 hi lo) = v := by
    rw [State.fld_setFld _ _ _ _ _ hhi, Nat.mod_eq_of_lt hv]
  have hmem := congrArg State.mem hframe
  have hboot := congrArg State.boot hframe
  have hpending := congrArg State.pending hframe
  subst ht
  refine ⟨rfl, rfl, ?_, hoff, rfl, rfl, rfl, hwake, hmem, hboot, hpending⟩
  simp [State.live, State.takeTrip]

theorem State.thermalTrip_due {s : State} {temp : Nat} (ht : 1680 ≤ temp) (htrip : s.pwr.trip = none)
    (hawake : s.pwr.asleep = false) (hv : s.pins.vaonLow = false) : s.thermalTrip temp = s.takeTrip 3 44 33 temp := by
  have hhot : ¬ temp < 16 * 105 := by omega
  simp [State.thermalTrip, hhot, htrip, hawake, hv]

/-- Settles O10: both run `State.takeTrip`, which takes off every domain that is listed. -/
theorem powerTripTakesEveryDomainOff : Obligations.PowerTripTakesEveryDomainOff := by
  refine ⟨fun s temp hhot ht htrip hawake hv => ?thermal, fun s d hl h80 hd h0 h4 hstep => ?supply⟩
  case thermal =>
    obtain ⟨h1, h2, h3, h4, h5, h6, h7, h8, h9, h10, hp⟩ :=
      s.takeTrip_spec 3 33 temp (hi := 44) (by decide) ht (State.thermalTrip_due hhot htrip hawake hv)
    exact ⟨_, runAlways_next (i := .powerTrip temp) (decide_eq_true ht), h1, h2, h3, h4, h5, h6, h7, h8, h9, h10⟩
  case supply =>
    obtain ⟨h1, h2, h3, h4, h5, h6, h7, h8, h9, h10, hp⟩ :=
      s.takeTrip_spec 4 45 d (hi := 51) (by decide) (by omega) (State.faultDom_trips h80 h0 h4 hstep)
    exact ⟨_, run_live (i := .supplyFault d) (decide_eq_true hd) hl, h1, h2, h3, h4, h5, h6, h7, h8, h9, h10⟩

/-! ### Warnings (19 R561) -/

theorem State.warn_marked {s : State} {u : Nat} (h : SMap.get false s.pwr.warned u = true) (temp : Nat) :
    s.warn u temp = s := by
  simp [State.warn, h]

theorem State.warn_first {s : State} {u temp : Nat} (h : SMap.get false s.pwr.warned u = false)
    (hhot : 16 * s.unitLimit u ≤ temp) :
    s.warn u temp = ({ s with pwr := { s.pwr with warned := SMap.set false s.pwr.warned u true } } : State).pwrItem 0x91
      (if u < 2 then 1 else 3) (unitDom u) 0 0 temp 0 := by
  simp [State.warn, h, Nat.not_lt.2 hhot]

/-- Settles O12: the first warning marks the unit and posts its item; the mark stops the next until it is cleared. -/
theorem warningsPostOnceUntilRearmed : Obligations.WarningsPostOnceUntilRearmed := by
  refine fun s u temp hl hu ht => ⟨fun hm hhot => ?first, fun hm => ?marked, ?rearmed⟩
  case first =>
    have hwarn := State.warn_first hm hhot
    rw [State.pwrItem_plain _ _ _ _ ht] at hwarn
    exact ⟨_, run_live_eq (i := .thermalWarning u temp) (decide_eq_true ⟨hu, ht⟩) hl hwarn rfl,
      SMap.get_set_same false s.pwr.warned u true, rfl, rfl, rfl, rfl⟩
  case marked =>
    exact run_live_eq (i := .thermalWarning u temp) (decide_eq_true ⟨hu, ht⟩) hl (State.warn_marked hm temp) rfl
  case rearmed => exact run_live (i := .thermalWarningRearm u) (decide_eq_true hu) hl

end Sys2Proof.Machine

/-! ## Stretches (19 R559, R560) -/

namespace Sys2Proof.Machine

/-- A number below 2 that is free (log entry 6). -/
theorem State.choose_one (s : State) : ((s.choose 1).1 = 0 ∨ (s.choose 1).1 = 1) ∧ (s.choose 1).2 = { s with free := s.free + 1 } := by
  refine ⟨?_, rfl⟩
  have hlt : (s.choose 1).1 < 1 + 1 := Nat.mod_lt _ (by decide)
  omega

/-- A comparator of the west die makes a stretch due at the next boundary or the one after (19 R559). -/
theorem State.comparator_west {s : State} (hs : s.beat.stretchW = false) (hn : s.pwr.startW = none) (temp : Nat) :
    ∃ b, (b = s.beat.bc + 1 ∨ b = s.beat.bc + 2) ∧ s.comparator false temp
      = { s with free := s.free + 1, pwr := { s.pwr with fireW := true, tempW := temp, startW := some b } } := by
  refine ⟨s.beat.bc + 1 + (s.choose 1).1, ?_, ?_⟩
  · rcases s.choose_one.1 with h | h <;> rw [h]
    · exact .inl rfl
    · exact .inr rfl
  · have hfree : (s.choose 1).2 = { s with free := s.free + 1 } := rfl
    simp [State.comparator, hfree, State.stretched, hs, hn]

/-- A comparator of the east die, likewise (19 R559). -/
theorem State.comparator_east {s : State} (hs : s.beat.stretchE = false) (hn : s.pwr.startE = none) (temp : Nat) :
    ∃ b, (b = s.beat.bc + 1 ∨ b = s.beat.bc + 2) ∧ s.comparator true temp
      = { s with free := s.free + 1, pwr := { s.pwr with fireE := true, tempE := temp, startE := some b } } := by
  refine ⟨s.beat.bc + 1 + (s.choose 1).1, ?_, ?_⟩
  · rcases s.choose_one.1 with h | h <;> rw [h]
    · exact .inl rfl
    · exact .inr rfl
  · have hfree : (s.choose 1).2 = { s with free := s.free + 1 } := rfl
    simp [State.comparator, hfree, State.stretched, hs, hn]

theorem State.stretchDue_of_quiet {s : State} {east : Bool} (hs : s.stretched east = true)
    (hq : s.release ≤ s.quietBeats east) : s.stretchDue east = true := by
  simp [State.stretchDue, hs, hq]

theorem State.stretchDue_eq_false {s : State} {east : Bool}
    (h : s.stretched east = false ∨ s.quietBeats east < s.release) : s.stretchDue east = false := by
  rcases h with h | h
  · simp [State.stretchDue, h]
  · simp [State.stretchDue, Nat.not_le.2 h]

/-- The end of a stretch: the clock is itself again, and one item says so (19 R560). -/
theorem State.stretchEnds_due {s : State} {east : Bool} (h : s.stretchDue east = true) :
    s.stretchEnds east = (s.setStretch east false).stretchItem east 2 := if_pos h

theorem State.length_stretchItem (s : State) (east : Bool) (code : Nat) :
    (s.stretchItem east code).host.outbox.length = s.host.outbox.length + 1 := List.length_append

/-- STRETCH_END of a die whose comparators have stayed quiet, or not (19 R560). -/
theorem exec_stretchEnd {s : State} (hl : s.live = true) {die : Nat} (hd : die < 2) :
    exec (.stretchEnd die) s = .next (s.call (.stretchEnd die) (s.stretchDue (decide (die = 1)))) :=
  run_call (i := .stretchEnd die) (due := fun s => s.stretchDue (decide (die = 1))) (decide_eq_true hd) hl rfl

/-- Settles O13: a comparator sets its die's fields, and the end of a stretch is called where it is due. -/
theorem stretchStartsAndEnds : Obligations.StretchStartsAndEnds := by
  refine fun s hl => ⟨fun temp ht hs hn => ?west, fun temp ht hs hn => ?east, fun hs hq => ?endW, fun hs hq => ?endE,
    fun die hd h => ?early⟩
  case west =>
    obtain ⟨b, hb, heq⟩ := State.comparator_west hs hn temp
    exact ⟨_, run_live_eq (i := .stretchComparatorFire 0 temp) (decide_eq_true ⟨by decide, ht⟩) hl heq rfl, rfl, rfl,
      hb.imp (congrArg some) (congrArg some), rfl, rfl, rfl, rfl⟩
  case east =>
    obtain ⟨b, hb, heq⟩ := State.comparator_east hs hn temp
    exact ⟨_, run_live_eq (i := .stretchComparatorFire 1 temp) (decide_eq_true ⟨by decide, ht⟩) hl heq rfl, rfl, rfl,
      hb.imp (congrArg some) (congrArg some), rfl, rfl, rfl, rfl⟩
  case endW =>
    have hdue : s.stretchDue false = true := State.stretchDue_of_quiet hs hq
    have hexec := exec_stretchEnd hl (die := 0) (by decide)
    rw [show s.stretchDue (decide ((0 : Nat) = 1)) = true from hdue] at hexec
    rw [State.stretchEnds_due hdue]
    exact ⟨hexec, rfl, State.length_stretchItem _ _ _, rfl, rfl⟩
  case endE =>
    have hdue : s.stretchDue true = true := State.stretchDue_of_quiet hs hq
    have hexec := exec_stretchEnd hl (die := 1) (by decide)
    rw [show s.stretchDue (decide ((1 : Nat) = 1)) = true from hdue] at hexec
    rw [State.stretchEnds_due hdue]
    exact ⟨hexec, rfl, State.length_stretchItem _ _ _, rfl, rfl⟩
  case early => rw [exec_stretchEnd hl hd, State.stretchDue_eq_false h, State.call_early]

end Sys2Proof.Machine

/-! ## Ageing and the daily re-plan (19 R572 to R576) -/

namespace Sys2Proof.Machine

/-- Nothing but the list of monitors beyond their limits, and the items that wait, differs. -/
def State.onlyAged (s t : State) : Prop := t = { s with pwr := { s.pwr with aged := t.pwr.aged }, host := t.host }

/-- A monitor is listed where its sample is beyond the limit, and is not where it is within (19 R572). -/
theorem State.ageJudge_spec (s : State) (code unit dom lane laser : Nat) (bad : Bool) (a b : Nat) {t : State}
    (ht : t = s.ageJudge code unit dom lane laser bad a b) :
    ((code, unit) ∈ t.pwr.aged ↔ bad = true) ∧ s.onlyAged t := by
  cases hwas : s.pwr.aged.contains (code, unit) <;> cases bad <;>
    simp only [State.ageJudge, hwas, Bool.not_true, Bool.not_false, Bool.and_true, Bool.and_false, Bool.false_eq_true,
      if_true, if_false] at ht <;>
    subst ht
  · exact ⟨by simpa using hwas, rfl⟩
  · exact ⟨by simp [State.pwrItem], rfl⟩
  · exact ⟨by simp, rfl⟩
  · exact ⟨by simpa using hwas, rfl⟩

theorem State.ageSample_laser (s : State) {e k : Nat} (he : e < 16) (hk : k < 12) (bias : Nat) :
    (s.setFld .leLaser (12 * e + k) 55 44 (Nat.min 4095 bias)).onlyAged (s.ageSample (.laser e k bias)) := by
  simp only [State.ageSample, Nat.not_le.2 he, Nat.not_le.2 hk, decide_false, Bool.or_self, Bool.false_eq_true, if_false]
  exact (State.ageJudge_spec _ _ _ _ _ _ _ _ _ rfl).2

theorem State.ageSample_eye (s : State) {n : Nat} (hn : n < 1024) (mv ui : Nat) :
    ∃ a b, s.ageSample (.eye n mv ui) = s.ageJudge 4 n (64 + n / 64) n 0 (decide (mv < 12 ∨ ui < 80)) a b := by
  by_cases hmv : mv < 12
  · exact ⟨mv, 12, by simp [State.ageSample, Nat.not_le.2 hn, hmv]⟩
  · exact ⟨ui, 80, by simp [State.ageSample, Nat.not_le.2 hn, hmv]⟩

theorem exec_ageingSample {s : State} (hl : s.live = true) (hr : s.boot.running = true) (r : AgeReading) {t : State}
    (ht : t = s.ageSample r) (hp : t.pending = s.pending) : exec (.ageingSample r) s = .next t :=
  run_live_eq (i := .ageingSample r) rfl hl ((if_pos hr).trans ht.symm) hp

theorem exec_marginReplan {s : State} (hl : s.live = true) (hr : s.boot.running = true) (fm : List Nat) {t : State}
    (ht : t = s.replan fm) (hp : t.pending = s.pending) : exec (.marginReplan fm) s = .next t :=
  run_live_eq (i := .marginReplan fm) rfl hl ((if_pos hr).trans ht.symm) hp

/-! ### The plan of one domain (19 R574, R575) -/

/-- Registers in effect, domains, the list of monitors and the items that wait differ, and nothing else. -/
def State.onlyPlan (s t : State) : Prop :=
  t = { s with regs := t.regs, pwr := { s.pwr with dom := t.pwr.dom, aged := t.pwr.aged }, host := t.host }

theorem State.onlyPlan_trans {s t u : State} (h : s.onlyPlan t) (g : t.onlyPlan u) : s.onlyPlan u := by
  unfold State.onlyPlan at *
  rw [g, h]

theorem State.onlyAged.onlyPlan {s t : State} (h : s.onlyAged t) : s.onlyPlan t := by
  unfold State.onlyAged at h
  rw [h]
  rfl

theorem pwrAge_off_div (d : Nat) (h : d < 94) : RegKind.pwrAge.off d / 8 = RegKind.pwrAge.off 0 / 8 + d := by
  have hoff : RegKind.pwrAge.off d = RegKind.pwrAge.off 0 + 8 * d := by
    rw [(RegKind.off_of_oneGroup (k := .pwrAge) rfl h).2, (RegKind.off_of_oneGroup (k := .pwrAge) rfl (n := 0) (by decide)).2]
    rfl
  have := RegKind.off_mod_eight .pwrAge 0
  omega

/-- A domain's plan as PWR_AGE shows it: its guard, its margin and the boundary from which it holds (19 R574). -/
def State.writePlan (s : State) (d p m : Nat) : State :=
  ((s.setFld .pwrAge d 47 40 p).setFld .pwrAge d 39 32 m).setFld .pwrAge d 31 0 ((s.beat.now + 1) % 2 ^ 32)

/-- The plan of a domain that is ON, before its item and its monitor. -/
def State.planned (s : State) (fm : List Nat) (d : Nat) : State :=
  (s.writePlan d (planUnits (s.fld .pwrAge d 63 48) (s.dom d).vg) (Nat.min 255 (fm.getD d 0))).setDom d fun x =>
    { x with goal := planUnits (s.fld .pwrAge d 63 48) (s.dom d).vg, nextMove := s.beat.bc + 1, waitTill := s.beat.bc + 17 }

/-- After its plan is written, a domain's item and its monitor are all that is left (19 R574). -/
theorem State.planDom_on {s : State} {d : Nat} (h : (s.dom d).st = 2) (fm : List Nat) :
    (s.planned fm d).onlyAged (s.planDom fm d) := by
  have hne : ¬ (s.dom d).st ≠ 2 := fun hn => hn h
  unfold State.planDom
  simp only [if_neg hne]
  split
  · exact (State.ageJudge_spec _ _ _ _ _ _ _ _ _ rfl).2
  · exact (State.ageJudge_spec _ _ _ _ _ _ _ _ _ rfl).2

theorem State.planDom_off {s : State} {d : Nat} (h : (s.dom d).st ≠ 2) (fm : List Nat) : s.planDom fm d = s := if_pos h

/-- A monitor's sample changes no domain and no register. -/
theorem State.onlyAged.dom {s t : State} (h : s.onlyAged t) (e : Nat) : t.dom e = s.dom e :=
  congrArg (fun t => t.dom e) h

theorem State.onlyAged.fld {s t : State} (h : s.onlyAged t) (k : RegKind) (i hi lo : Nat) :
    t.fld k i hi lo = s.fld k i hi lo :=
  congrArg (fun t => t.fld k i hi lo) h

/-- The degradation of a domain is not part of a plan: bits 63 to 48 stand apart from what a plan writes (19 R574). -/
theorem State.degradation_writePlan (s : State) {d e : Nat} (hd : d < 94) (he : e < 94) (p m : Nat) :
    (s.writePlan d p m).fld .pwrAge e 63 48 = s.fld .pwrAge e 63 48 := by
  unfold State.writePlan
  by_cases h : e = d
  · subst h
    rw [State.fld_setFld_other _ _ _ _ (by decide), State.fld_setFld_other _ _ _ _ (by decide),
      State.fld_setFld_other _ _ _ _ (by decide)]
  · have hoff : RegKind.pwrAge.off e / 8 ≠ RegKind.pwrAge.off d / 8 := by
      rw [pwrAge_off_div d hd, pwrAge_off_div e he]
      omega
    simp only [State.fld]
    rw [State.reg_setFld_other _ _ _ _ _ _ _ _ hoff, State.reg_setFld_other _ _ _ _ _ _ _ _ hoff,
      State.reg_setFld_other _ _ _ _ _ _ _ _ hoff]

theorem State.fld_setDom (s : State) (d : Nat) (f : Dom → Dom) (k : RegKind) (i hi lo : Nat) :
    (s.setDom d f).fld k i hi lo = s.fld k i hi lo := rfl

theorem State.degradation_planned (s : State) (fm : List Nat) {d e : Nat} (hd : d < 94) (he : e < 94) :
    (s.planned fm d).fld .pwrAge e 63 48 = s.fld .pwrAge e 63 48 := by
  rw [State.planned, State.fld_setDom, s.degradation_writePlan hd he]

theorem State.onlyPlan_planned (s : State) (fm : List Nat) (d : Nat) : s.onlyPlan (s.planned fm d) := rfl

/-- What the plan of one domain does: it sets its goal where it is ON, and leaves every domain's state, guard and
degradation (19 R574). -/
theorem State.planDom_spec (s : State) (fm : List Nat) {d : Nat} (hd : d < 94) {t : State} (ht : t = s.planDom fm d) :
    s.onlyPlan t ∧ (∀ e, (t.dom e).st = (s.dom e).st ∧ (t.dom e).vg = (s.dom e).vg)
      ∧ (∀ e, e < 94 → t.fld .pwrAge e 63 48 = s.fld .pwrAge e 63 48)
      ∧ ∀ e, (t.dom e).goal = if e = d ∧ (s.dom e).st = 2 then planUnits (s.fld .pwrAge e 63 48) (s.dom e).vg
          else (s.dom e).goal := by
  by_cases hon : (s.dom d).st = 2
  · have haged := State.planDom_on hon fm
    rw [← ht] at haged
    have hdom : ∀ e, t.dom e = (s.planned fm d).dom e := haged.dom
    refine ⟨State.onlyPlan_trans (s.onlyPlan_planned fm d) haged.onlyPlan, fun e => ?_, fun e he => ?_, fun e => ?_⟩
    · rw [hdom, State.planned, State.dom_setDom]
      split
      next he => rw [he]; exact ⟨rfl, rfl⟩
      · exact ⟨rfl, rfl⟩
    · rw [haged.fld, s.degradation_planned fm hd he]
    · rw [hdom, State.planned, State.dom_setDom]
      by_cases he : e = d
      · rw [if_pos he, he, if_pos ⟨rfl, hon⟩]
      · rw [if_neg he, if_neg fun h => he h.1]
        rfl
  · rw [State.planDom_off hon] at ht
    subst ht
    refine ⟨rfl, fun e => ⟨rfl, rfl⟩, fun e he => rfl, fun e => (if_neg ?_).symm⟩
    rintro ⟨rfl, h⟩
    exact hon h

/-- The plans of a list of domains, one after another. -/
theorem State.planDoms_spec (fm : List Nat) (l : List Nat) (hl : ∀ d ∈ l, d < 94) (s : State) {t : State}
    (ht : t = l.foldl (fun (s : State) d => s.planDom fm d) s) :
    s.onlyPlan t ∧ ∀ e, e < 94 → (t.dom e).vg = (s.dom e).vg
      ∧ (t.dom e).goal = if e ∈ l ∧ (s.dom e).st = 2 then planUnits (s.fld .pwrAge e 63 48) (s.dom e).vg
          else (s.dom e).goal := by
  induction l generalizing s with
  | nil =>
    subst ht
    exact ⟨rfl, fun e he => ⟨rfl, (if_neg fun h => List.not_mem_nil h.1).symm⟩⟩
  | cons d l ih =>
    obtain ⟨honly, hsame, hdeg, hgoal⟩ := s.planDom_spec fm (hl d List.mem_cons_self) rfl
    obtain ⟨honly', hrest⟩ := ih (fun e he => hl e (List.mem_cons_of_mem d he)) (s.planDom fm d) ht
    refine ⟨State.onlyPlan_trans honly honly', fun e he => ?_⟩
    obtain ⟨hvg, hg⟩ := hrest e he
    refine ⟨hvg.trans (hsame e).2, ?_⟩
    rw [hg, (hsame e).1, (hsame e).2, hdeg e he, hgoal]
    by_cases hon : (s.dom e).st = 2
    · by_cases hmem : e ∈ l
      · rw [if_pos ⟨hmem, hon⟩, if_pos ⟨List.mem_cons_of_mem d hmem, hon⟩]
      · rw [if_neg fun h => hmem h.1]
        exact if_congr (by simp [hmem, hon]) rfl rfl
    · rw [if_neg fun h => hon h.2, if_neg fun h => hon h.2, if_neg fun h => hon h.2]

/-! ### The re-plan (19 R573) -/

/-- The waits of the re-plan that is due. -/
def State.setWaits (s : State) (n : Nat) : State := { s with pwr := { s.pwr with waits := n } }

/-- A re-plan meets a stretch or a ramp (19 R573). -/
def State.replanBusy (s : State) : Bool := s.beat.stretchW || s.beat.stretchE || s.pwr.dom.any fun e => e.2.ramping

theorem State.replanBusy_iff (s : State) :
    s.replanBusy = true ↔ s.beat.stretchW = true ∨ s.beat.stretchE = true ∨ ∃ e ∈ s.pwr.dom, e.2.ramping = true := by
  simp only [State.replanBusy, Bool.or_eq_true, List.any_eq_true, or_assoc]

theorem State.replan_busy {s : State} (h : s.replanBusy = true) (fm : List Nat) :
    s.replan fm = if s.pwr.waits + 1 < 4 then s.setWaits (s.pwr.waits + 1)
      else (s.setWaits 0).pwrItem 0x92 2 0 0 0 0 0 := if_pos h

theorem State.replan_free {s : State} (h : s.replanBusy = false) (fm : List Nat) :
    s.replan fm = (List.range 94).foldl (fun (s : State) d => s.planDom fm d) (s.setWaits 0) :=
  if_neg (Bool.eq_false_iff.1 h)

/-- Settles O14: samples by `State.ageJudge`, and the re-plan by the plans of its domains. -/
theorem ageingAndReplan : Obligations.AgeingAndReplan := by
  refine fun s hl hr => ⟨fun d deg fm hd => ?oscillator, fun e k bias he hk => ?laser, fun n off hn => ?heater,
    fun n mv ui hn => ?eye, fun fm hbusy => ?busy, fun fm hw he hd => ?plan⟩
  case oscillator =>
    have haged : (s.setFld .pwrAge d 63 48 (Nat.min 65535 deg)).onlyAged (s.ageSample (.oscillator d deg fm)) := by
      rw [State.ageSample, if_pos hd]
      exact (State.ageJudge_spec _ _ _ _ _ _ _ _ _ rfl).2
    refine ⟨_, exec_ageingSample hl hr _ haged.symm rfl, ?_, rfl, rfl, rfl⟩
    refine (State.fld_setFld s .pwrAge d 48 (Nat.min 65535 deg) (hi := 63) (by decide)).trans (Nat.mod_eq_of_lt ?_)
    exact Nat.lt_of_le_of_lt (Nat.min_le_left _ _) (by decide)
  case laser =>
    refine ⟨_, exec_ageingSample hl hr _ (s.ageSample_laser he hk bias).symm rfl, ?_, rfl, rfl, rfl⟩
    refine (State.fld_setFld s .leLaser (12 * e + k) 44 (Nat.min 4095 bias) (hi := 55) (by decide)).trans (Nat.mod_eq_of_lt ?_)
    exact Nat.lt_of_le_of_lt (Nat.min_le_left _ _) (by decide)
  case heater =>
    obtain ⟨hlisted, haged⟩ := s.ageJudge_spec 3 n (64 + n / 64) n 0 (decide (800 < off.natAbs)) (ofSigned 32 off) 800 rfl
    have hsample : s.ageSample (.heater n off) = _ := if_neg (Nat.not_le.2 hn)
    rw [← hsample] at hlisted haged
    exact ⟨_, exec_ageingSample hl hr _ haged.symm rfl, hlisted.trans (by simp), rfl, rfl, rfl⟩
  case eye =>
    obtain ⟨a, b, hsample⟩ := s.ageSample_eye hn mv ui
    obtain ⟨hlisted, haged⟩ := s.ageJudge_spec 4 n (64 + n / 64) n 0 (decide (mv < 12 ∨ ui < 80)) a b rfl
    rw [← hsample] at hlisted haged
    exact ⟨_, exec_ageingSample hl hr _ haged.symm rfl, hlisted.trans (by simp), rfl, rfl, rfl⟩
  case busy =>
    have hplan := State.replan_busy (s.replanBusy_iff.2 hbusy) fm
    by_cases hfew : s.pwr.waits + 1 < 4
    · rw [if_pos hfew] at hplan
      rw [if_pos hfew, if_pos hfew]
      exact ⟨_, exec_marginReplan hl hr fm hplan.symm rfl, rfl, rfl, rfl, rfl⟩
    · rw [if_neg hfew] at hplan
      rw [if_neg hfew, if_neg hfew]
      exact ⟨_, exec_marginReplan hl hr fm hplan.symm rfl, rfl, rfl, rfl, List.length_append⟩
  case plan =>
    have hfree : s.replanBusy = false := by
      rw [Bool.eq_false_iff, ne_eq, s.replanBusy_iff, hw, he]
      rintro (h | h | ⟨x, hx, hramp⟩)
      · exact Bool.false_ne_true h
      · exact Bool.false_ne_true h
      · exact Bool.false_ne_true ((hd x hx).symm.trans hramp)
    obtain ⟨honly, hplans⟩ := State.planDoms_spec fm (List.range 94) (fun d hd => List.mem_range.1 hd) (s.setWaits 0)
      (State.replan_free hfree fm)
    have hwaits := congrArg (fun t => t.pwr.waits) honly
    have hmem := congrArg State.mem honly
    have hout := congrArg State.out honly
    have hpending := congrArg State.pending honly
    refine ⟨_, exec_marginReplan hl hr fm rfl hpending, hwaits, hmem, hout, fun d hd hon => ?_⟩
    obtain ⟨hvg, hgoal⟩ := hplans d hd
    exact ⟨hgoal.trans (if_pos ⟨List.mem_range.2 hd, hon⟩), hvg⟩

end Sys2Proof.Machine

/-! ## What a ramp changes (19 R554; 08 R230) -/

namespace Sys2Proof.Machine

/-- A command of the pins, the supplies or a reset answers the state that its meaning gives. -/
theorem runAlways_eq {i : Instr} {s t : State} {f : State → State} (h : i.wellFormed = true) (hf : f s = t)
    (hp : t.pending = s.pending) : runAlways i s f = .next t := by
  rw [runAlways_next h, State.act, hf, ← hp]

/-- Domains, the light engines, free values and the items that wait change; and of the registers the results of
loopback tests alone, which an engine that goes off ends (21 R624). -/
def State.Ramps (s t : State) : Prop :=
  t = { s with opt := t.opt, free := t.free, host := { s.host with outbox := t.host.outbox },
               regs := { s.regs with eff := t.regs.eff }, pwr := { s.pwr with dom := t.pwr.dom } }
    ∧ ∀ k i, (∀ n, k.off i / 8 ≠ RegKind.leLoopRes.off n / 8) → t.reg k i = s.reg k i

theorem State.Ramps.refl (s : State) : s.Ramps s := ⟨rfl, fun _ _ _ => rfl⟩

theorem State.Ramps.trans {s t u : State} (h : s.Ramps t) (g : t.Ramps u) : s.Ramps u := by
  obtain ⟨ht, hregs⟩ := h
  obtain ⟨hu, hregs'⟩ := g
  refine ⟨?_, fun k i hk => (hregs' k i hk).trans (hregs k i hk)⟩
  rw [hu, ht]

theorem State.Ramps.foldl {α : Type} {f : State → α → State} (h : ∀ (s : State) a, s.Ramps (f s a)) (l : List α) (s : State) :
    s.Ramps (l.foldl f s) := by
  induction l generalizing s with
  | nil => exact .refl s
  | cons a l ih => exact (h s a).trans (ih (f s a))

theorem State.ramps_setOpt (s : State) (n : Nat) (f : OptLane → OptLane) : s.Ramps (s.setOpt n f) :=
  ⟨rfl, fun _ _ _ => rfl⟩

theorem State.ramps_setEngine (s : State) (e : Nat) (f : EngineSt → EngineSt) : s.Ramps (s.setEngine e f) :=
  ⟨rfl, fun _ _ _ => rfl⟩

theorem State.ramps_laneItem (s : State) (n : Nat) (old : LaneSt) : s.Ramps (s.laneItem n old) := by
  unfold State.laneItem State.laneItemOf State.itemWord State.leItem
  dsimp only
  rcases s.heats_spec n with h | h <;> rw [h] <;> exact ⟨rfl, fun _ _ _ => rfl⟩

theorem State.ramps_moveLane (s : State) (n : Nat) (st : LaneSt) (c : Option Nat) : s.Ramps (s.moveLane n st c) := by
  unfold State.moveLane
  dsimp only
  split
  · exact (s.ramps_setOpt n _).trans (State.ramps_laneItem _ n _)
  · exact s.ramps_setOpt n _

theorem State.ramps_setLaser (s : State) (e k : Nat) (f : Laser → Laser) : s.Ramps (s.setLaser e k f) := by
  unfold State.setLaser
  dsimp only
  split <;> exact ⟨rfl, fun _ _ _ => rfl⟩

theorem State.ramps_loopResult (s : State) (n : Nat) (v : Word) : s.Ramps (s.setReg .leLoopRes n v) :=
  ⟨rfl, fun k i hk => State.reg_setReg_other s .leLoopRes n v k i (hk n)⟩

theorem State.ramps_endLoop (s : State) (n status : Nat) : s.Ramps (s.endLoop n status) := by
  unfold State.endLoop
  split
  · split
    · exact (s.ramps_setEngine _ _).trans (State.ramps_loopResult _ n _)
    · exact .refl s
  · exact .refl s

/-- An engine goes off: its loopback test ends, and its lanes and lasers go OFF (08 R230). -/
theorem State.ramps_engineDown (s : State) (e : Nat) : s.Ramps (s.engineDown e) := by
  unfold State.engineDown
  refine ((State.Ramps.trans ?loop (.foldl (fun u n => ?lane) _ _)).trans
    (.foldl (fun u k => u.ramps_setLaser e k _) _ _)).trans (State.ramps_setEngine _ e _)
  case loop =>
    split
    · exact s.ramps_endLoop _ 3
    · exact .refl s
  case lane =>
    split
    · exact .refl u
    · exact (u.ramps_setOpt n _).trans (State.ramps_moveLane _ n _ _)

theorem State.ramps_moveDom (s : State) (d st code : Nat) (f : Dom → Dom) : s.Ramps (s.moveDom d st code f) :=
  ⟨rfl, fun _ _ _ => rfl⟩

theorem State.ramps_domLeaves (s : State) (d : Nat) : s.Ramps (s.domLeaves d) := by
  unfold State.domLeaves
  split
  · exact s.ramps_engineDown _
  · exact .refl s

/-- The sequencer begins at most one ramp (19 R554). -/
theorem State.ramps_rampNow (s : State) : s.Ramps s.rampNow := by
  unfold State.rampNow State.nextRamp
  split
  · exact .refl s
  · split
    · exact .refl s
    · split
      · exact .refl s
      next d x _ =>
        split
        · exact .refl s
        · exact s.ramps_moveDom d 1 0 _
        · exact (s.ramps_domLeaves d).trans (State.ramps_moveDom _ d 3 0 _)

/-! ## A start (20 R583) -/

/-- A register that holds no result of a loopback test: those stand in the first half of each engine's block. -/
theorem ne_leLoopRes {w : Nat} (hw : w % 0x2000 < 0xC0 ∨ 0x100 ≤ w % 0x2000) (n : Nat) : w ≠ RegKind.leLoopRes.off n / 8 := by
  have hoff : RegKind.leLoopRes.off n = 0x200600 + 0x10000 * (n / 64) + 8 * (n % 64) := rfl
  omega

/-- The cause of a start goes into PWR_WAKE (19 R571). -/
def State.causeSet (s : State) (cause pair : Nat) : State :=
  if cause = 2 then (s.setFld .pwrWake 0 63 60 cause).setFld .pwrWake 0 59 52 pair else s.setFld .pwrWake 0 63 60 cause

theorem State.fld_causeSet (s : State) (cause pair : Nat) : (s.causeSet cause pair).fld .pwrWake 0 63 60 = cause % 16 := by
  unfold State.causeSet
  split
  · exact (State.fld_setFld_other _ _ _ _ (by decide)).trans (State.fld_setFld _ _ _ _ _ (by decide))
  · exact State.fld_setFld _ _ _ _ _ (by decide)

theorem State.onlyEff_causeSet (s : State) (cause pair : Nat) : s.onlyEff (s.causeSet cause pair) := by
  unfold State.causeSet
  split <;> rfl

/-- A domain is asked on: the request stands in its register (20 R583). -/
theorem State.askOn_spec (s : State) (d : Nat) :
    (s.askOn d).regs = (s.setFlag .pwrDom d 57 true).regs
      ∧ s.askOn d = { s with regs := { s.regs with eff := (s.askOn d).regs.eff },
                             pwr := { s.pwr with dom := (s.askOn d).pwr.dom } } := by
  unfold State.askOn
  dsimp only
  split <;> exact ⟨rfl, rfl⟩

/-- The state before the first ramp of a start. -/
def State.started (s : State) (cause pair : Nat) : State :=
  (({ s.causeSet cause pair with boot := { s.boot with step := 2 } } : State).askOn 92).askOn 93

theorem State.start_eq (s : State) (cause pair : Nat) : s.start cause pair = (s.started cause pair).rampNow := by
  unfold State.start State.started State.causeSet
  by_cases h : cause = 2
  · simp only [if_pos h]
    rfl
  · simp only [if_neg h]
    rfl

/-- A request to turn a domain on leaves every register but the domain's own. -/
theorem State.reg_askOn_other (s : State) (d : Nat) {k : RegKind} {i : Nat} (h : k.off i / 8 ≠ RegKind.pwrDom.off d / 8) :
    (s.askOn d).reg k i = s.reg k i := by
  rw [State.reg, (s.askOn_spec d).1]
  exact State.reg_setFlag_other s .pwrDom d 57 true k i h

theorem State.flag_askOn (s : State) (d : Nat) : (s.askOn d).flag .pwrDom d 57 = true := by
  rw [State.flag, State.reg, (s.askOn_spec d).1]
  exact s.flag_setFlag .pwrDom d true (by decide)

theorem State.started_frame (s : State) (cause pair : Nat) : s.started cause pair
    = { s with regs := { s.regs with eff := (s.started cause pair).regs.eff },
               pwr := { s.pwr with dom := (s.started cause pair).pwr.dom }, boot := { s.boot with step := 2 } } := by
  have hcause := s.onlyEff_causeSet cause pair
  have h92 := (({ s.causeSet cause pair with boot := { s.boot with step := 2 } } : State).askOn_spec 92).2
  have h93 := ((({ s.causeSet cause pair with boot := { s.boot with step := 2 } } : State).askOn 92).askOn_spec 93).2
  unfold State.onlyEff at hcause
  unfold State.started
  rw [h93, h92, hcause]

/-- What a start does (20 R583; 19 R571). -/
theorem State.start_spec (s : State) (cause pair : Nat) {t : State} (ht : t = s.start cause pair) :
    t.fld .pwrWake 0 63 60 = cause % 16 ∧ t.flag .pwrDom 92 57 = true ∧ t.flag .pwrDom 93 57 = true
      ∧ t = { s with opt := t.opt, free := t.free, host := { s.host with outbox := t.host.outbox },
                     regs := { s.regs with eff := t.regs.eff }, pwr := { s.pwr with dom := t.pwr.dom },
                     boot := { s.boot with step := 2 } } := by
  rw [s.start_eq] at ht
  obtain ⟨hframe, hregs⟩ := (s.started cause pair).ramps_rampNow
  rw [← ht] at hframe hregs
  refine ⟨?_, ?_, ?_, ?_⟩
  · rw [State.fld, hregs .pwrWake 0 (ne_leLoopRes (by decide)), State.started, State.reg_askOn_other _ _ (by decide),
      State.reg_askOn_other _ _ (by decide)]
    exact s.fld_causeSet cause pair
  · rw [State.flag, hregs .pwrDom 92 (ne_leLoopRes (by decide)), State.started, State.reg_askOn_other _ _ (by decide)]
    exact State.flag_askOn _ 92
  · rw [State.flag, hregs .pwrDom 93 (ne_leLoopRes (by decide))]
    exact State.flag_askOn _ 93
  · rw [s.started_frame] at hframe
    rw [hframe]

end Sys2Proof.Machine

/-! ## Resets, the end of a trip's hold, sleep and wake-up (19 R564 to R571; 20 R580 to R583) -/

namespace Sys2Proof.Machine

theorem State.tripEnd_held {s : State} {cause temp : Nat} (htrip : s.pwr.trip = some cause)
    (hcool : temp + 160 < 16 * s.tWarn) (hheld : s.heldReset = true) :
    s.tripEnd temp = s.deviceReset false := by
  have hb : belowLimit s.tWarn 10 temp = true := decide_eq_true hcool
  have hh : (s.deviceReset false).heldReset = true := hheld
  simp only [State.tripEnd, htrip, hb, hh, Bool.not_true, Bool.false_eq_true, if_false, if_true]
  rfl

theorem State.tripEnd_starts {s : State} {cause temp : Nat} (htrip : s.pwr.trip = some cause)
    (hcool : temp + 160 < 16 * s.tWarn) (hheld : s.heldReset = false) :
    s.tripEnd temp = (s.deviceReset false).start cause 0 := by
  have hb : belowLimit s.tWarn 10 temp = true := decide_eq_true hcool
  have hh : (s.deviceReset false).heldReset = false := hheld
  simp [State.tripEnd, htrip, hb, hh]

theorem State.wake_starts {s : State} (ha : s.pwr.asleep = true) (hheld : s.heldReset = false) :
    ∃ pair, s.wake = (s.deviceReset false).start (if s.pwr.wakePair.isSome then 2 else 1) pair := by
  have hh : (s.deviceReset false).heldReset = false := hheld
  cases hp : s.pwr.wakePair with
  | none => exact ⟨0, by simp [State.wake, ha, hh, hp]⟩
  | some p => exact ⟨p, by simp [State.wake, ha, hh, hp]⟩

theorem State.light_wakes {s : State} {pair : Nat} (ha : s.pwr.asleep = true) (hn : s.pwr.wakePair = none)
    (hm : s.flag .pwrWakeMask (pair / 64) (pair % 64) = true) :
    s.light pair = { s with pwr := { s.pwr with wakePair := some pair }, out := s.out ++ [.pme] } := by
  simp [State.light, ha, hn, hm, State.emit]

/-- Settles O11: a trip's end and a wake-up are fundamental resets, with a start where nothing holds the part. -/
theorem tripSleepAndWake : Obligations.TripSleepAndWake := by
  refine ⟨fun s cause temp htrip ht hcool => ?trip, fun s hl => run_live (i := .sleepEntry) rfl hl, fun s ha hheld => ?wake,
    fun s pair hp ha hn hm => ?light, fun s ha => ?comparator⟩
  case trip =>
    have hw : (Instr.tripHoldEnd temp).wellFormed = true := decide_eq_true ht
    cases hheld : s.heldReset with
    | true =>
      exact ⟨_, runAlways_eq (i := .tripHoldEnd temp) hw (State.tripEnd_held htrip hcool hheld) rfl, rfl, rfl, rfl, rfl, rfl,
        fun h => absurd h Bool.noConfusion⟩
    | false =>
      obtain ⟨hcause, -, -, hframe⟩ := (s.deviceReset false).start_spec cause 0 rfl
      have hpending := congrArg State.pending hframe
      have hboot := congrArg State.boot hframe
      have halarm := congrArg (fun t => t.pins.alarmLow) hframe
      have hover := congrArg (fun t => t.pwr.trip) hframe
      refine ⟨_, runAlways_eq (i := .tripHoldEnd temp) hw (State.tripEnd_starts htrip hcool hheld) hpending, hover, halarm, ?_,
        ?_, hpending, fun _ => ⟨?_, hcause⟩⟩ <;> rw [hboot] <;> rfl
  case wake =>
    obtain ⟨pair, hwake⟩ := State.wake_starts ha hheld
    obtain ⟨hcause, -, -, hframe⟩ := (s.deviceReset false).start_spec (if s.pwr.wakePair.isSome then 2 else 1) pair rfl
    have hpending := congrArg State.pending hframe
    have hboot := congrArg State.boot hframe
    have hawake := congrArg (fun t => t.pwr.asleep) hframe
    refine ⟨_, runAlways_eq (i := .wakeD0) rfl hwake hpending, hawake, by rw [hboot], hcause.trans ?_, by rw [hboot]; rfl,
      hpending⟩
    cases s.pwr.wakePair <;> rfl
  case light => exact runAlways_eq (i := .lightWake pair) (decide_eq_true hp) (State.light_wakes ha hn hm) rfl
  case comparator => exact runAlways_eq (i := .sleepComparatorFire) rfl (if_pos ha) rfl

/-- Settles O16: a part that nothing holds starts with cause 5. -/
theorem startAfterPerst : Obligations.StartAfterPerst := by
  refine fun s src hlow => ⟨fun h1 => ?first, fun h1 htap hv htrip hm => ?starts⟩
  case first =>
    refine runAlways_eq (i := .perstNRelease src) rfl ?_ rfl
    simp [State.perstRelease, hlow, h1]
  case starts =>
    have hrelease : s.perstRelease src
        = ({ s with pins := { s.pins with perstLow := false, bootSrc := src } } : State).start 5 0 := by
      simp [State.perstRelease, hlow, h1, State.heldReset, htap, hv, htrip, hm]
    obtain ⟨hcause, h92, h93, hframe⟩ := State.start_spec _ 5 0 hrelease
    have hpending := congrArg State.pending hframe
    have hpins := congrArg State.pins hframe
    have hboot := congrArg State.boot hframe
    have hmem := congrArg State.mem hframe
    exact ⟨_, runAlways_eq (i := .perstNRelease src) rfl rfl hpending, hpins, hboot, hcause, h92, h93, hmem⟩

end Sys2Proof.Machine

/-! ## What each reset keeps (20 R580 to R582) -/

namespace Sys2Proof.Machine

/-- A vector is sent or held pending: nothing else of the part changes (18 R520). -/
theorem State.sendVector_spec (s : State) (v : Nat) :
    s.sendVector v = { s with host := { s.host with pba := (s.sendVector v).host.pba }, out := (s.sendVector v).out } := by
  unfold State.sendVector
  dsimp only
  split <;> rfl

/-- The controller as a restart leaves it (20 R582, R596). -/
def BootState.restarted (b : BootState) (first : Option Nat) : BootState :=
  { b with running := false, halted := false, tried := 0, go := false, first := first, walk := none, spdm := 0,
           opState := if b.opState = 1 then 3 else b.opState, opErr := if b.opState = 1 then 7 else b.opErr,
           validA := b.validA && !(decide (b.opState = 1) && b.active),
           validB := b.validB && !(decide (b.opState = 1) && !b.active) }

/-- A restart of the controller changes the controller, the management frames that wait for it, and the host's vector
alone (20 R582). -/
theorem State.restartCtl_spec (s : State) (first : Option Nat) {t : State} (ht : t = s.restartCtl first) :
    t = { s with boot := s.boot.restarted first, net := { s.net with mgmt := [] },
                 host := { s.host with mgmtIn := [], pba := t.host.pba }, out := t.out } := by
  rw [ht]
  unfold State.restartCtl
  dsimp only
  split
  · rw [State.sendVector_spec]
    simp only [BootState.restarted, State.setBoot]
  · simp only [BootState.restarted, State.setBoot]

theorem State.not_heldReset_of_live {s : State} (h : s.live = true) : s.heldReset = false := by
  simp [State.live] at h
  obtain ⟨⟨⟨⟨hperst, hvaon⟩, htap⟩, -⟩, -⟩ := h
  simp [State.heldReset, hperst, hvaon, htap]

theorem State.softReset_live {s : State} (h : s.live = true) : s.softReset = (s.deviceReset true).start 6 0 := by
  have hheld : (s.deviceReset true).heldReset = false := show s.heldReset = false from State.not_heldReset_of_live h
  simp [State.softReset, hheld]

/-- Settles O15: the resets of the blocks are State.reset by definition, and a start or a restart of the controller
changes what its lemma names. -/
theorem resetsKeepWhatTheTableKeeps : Obligations.ResetsKeepWhatTheTableKeeps := by
  refine fun s => ⟨fun testMode bootSrc => ?powerOn, ?fundamental, fun hl => ?soft, fun hl htrial => ?controller⟩
  case powerOn =>
    exact ⟨_, runAlways_next (i := .powerOnReset testMode bootSrc) rfl, rfl, rfl, rfl, rfl, rfl, rfl, rfl, rfl, rfl, rfl, rfl,
      rfl, rfl, rfl, rfl, rfl, rfl, rfl⟩
  case fundamental =>
    exact ⟨_, runAlways_next (i := .fundamentalReset) rfl, rfl, rfl, rfl, rfl, rfl, rfl, rfl, rfl, rfl, rfl, rfl, rfl, rfl, rfl⟩
  case soft =>
    obtain ⟨hcause, -, -, hframe⟩ := (s.deviceReset true).start_spec 6 0 rfl
    rw [← State.softReset_live hl] at hcause hframe
    have hpending := congrArg State.pending hframe
    have hboot := congrArg State.boot hframe
    have hhost := congrArg State.host hframe
    refine ⟨_, run_live_eq (i := .softwareReset) rfl hl rfl hpending, by rw [hboot], hcause, by rw [hboot]; rfl,
      by rw [hboot]; rfl, by rw [hhost]; rfl, by rw [hhost]; rfl, by rw [hhost]; rfl, ?_, ?_, ?_, ?_, ?_, ?_, hpending⟩ <;>
    rw [hframe] <;> rfl
  case controller =>
    have hctl : s.ctlReset = s.restartCtl (if s.boot.running then some s.boot.src else s.boot.first) := by
      simp [State.ctlReset, htrial]
    have hframe := State.restartCtl_spec s _ hctl
    have hpending := congrArg State.pending hframe
    refine ⟨_, run_live_eq (i := .controllerReset) rfl hl rfl hpending, ?_, ?_, ?_, ?_, ?_, ?_, ?_, ?_, ?_, ?_, ?_, ?_,
      hpending⟩ <;> rw [hframe] <;> rfl

end Sys2Proof.Machine

/-! ## The boot ROM and the firmware roll (20 R584 to R591) -/

namespace Sys2Proof.Machine

theorem State.onlyEff_foldl {α : Type} {f : State → α → State} (h : ∀ (s : State) a, s.onlyEff (f s a)) (l : List α)
    (s : State) : s.onlyEff (l.foldl f s) := by
  induction l generalizing s with
  | nil => exact s.onlyEff_refl
  | cons a l ih => exact State.onlyEff_trans (h s a) (ih (f s a))

/-- An image whose measurement is taken changes the measurement's registers alone (20 R586). -/
theorem State.onlyEff_measureFw (s : State) (img : List Byte) : s.onlyEff (s.measureFw img) :=
  State.onlyEff_foldl (fun u _ => u.onlyEff_setReg _ _ _) _ _

/-- The firmware runs, and owes no teardown check (20 R582, R586). -/
theorem State.firmwareUp_spec {s : State} (ho : s.boot.owed = []) (img : List Byte) (src : Nat) {t : State}
    (ht : t = s.firmwareUp img src) :
    t.boot.running = true ∧ t.boot.src = src ∧ t.boot.fwVersion = imgField img 6 2 ∧ t.boot.svn = imgField img 8 1
      ∧ t.boot.starts = (s.boot.starts + 1) % 65536 ∧ t.boot.fuses = s.boot.fuses ∧ t.boot.active = s.boot.active
      ∧ t = { s with regs := { s.regs with eff := t.regs.eff }, boot := t.boot } := by
  have hm := s.onlyEff_measureFw img
  have hboot := congrArg State.boot hm
  have howed : (s.measureFw img).boot.owed = [] := by rw [hboot, ho]
  simp only [State.firmwareUp, howed, List.foldl_nil] at ht
  subst ht
  refine ⟨rfl, rfl, rfl, rfl, ?_, ?_, ?_, ?_⟩
  · simp only [State.setBoot, hboot]
  · simp only [State.setBoot, hboot]
  · simp only [State.setBoot, hboot]
  · unfold State.onlyEff at hm
    simp only [State.setBoot]
    rw [hm]

theorem State.imageRead_runs {s : State} {src : ImageSource} {img : List Byte} {sigOk : Bool} (hlook : s.romLooks = true)
    (hsrc : s.romSource = some (srcCode src)) (hck : s.boot.checkFw (some img) sigOk = none) :
    s.imageRead src (some img) sigOk = s.firmwareUp img (srcCode src) := by
  simp [State.imageRead, hlook, hsrc, hck]

theorem State.imageRead_rejects {s : State} {src : ImageSource} {image : Option (List Byte)} {sigOk : Bool} {code : Nat}
    (hlook : s.romLooks = true) (hsrc : s.romSource = some (srcCode src)) (hck : s.boot.checkFw image sigOk = some code) :
    s.imageRead src image sigOk = s.bootReject code := by
  simp [State.imageRead, hlook, hsrc, hck]

/-- The boot ROM looks only while the firmware does not run (20 R584). -/
theorem State.not_running_of_romLooks {s : State} (h : s.romLooks = true) : s.boot.running = false := by
  simp only [State.romLooks, Bool.and_eq_true, Bool.not_eq_true'] at h
  exact h.1.1.1

/-- Settles O17: an image that passes brings the firmware up, and one that fails is rejected. -/
theorem bootImageIsCheckedAndRun : Obligations.BootImageIsCheckedAndRun := by
  refine fun s src image sigOk hl hlook hsrc => ⟨fun img himg hck howed => ?passes, fun code hck => ?fails⟩
  case passes =>
    subst himg
    obtain ⟨hrun, hsource, hver, hsvn, hstarts, hfuses, hactive, hframe⟩ :=
      State.firmwareUp_spec howed img (srcCode src) (State.imageRead_runs hlook hsrc hck)
    have hpending := congrArg State.pending hframe
    have hmem := congrArg State.mem hframe
    have hpart := congrArg State.part hframe
    exact ⟨_, run_live_eq (i := .bootImageRead src (some img) sigOk) rfl hl rfl hpending, hrun, hsource, hver, hsvn, hstarts,
      hfuses, hactive, hmem, hpart⟩
  case fails =>
    have hidle := State.not_running_of_romLooks hlook
    exact ⟨_, run_live_eq (i := .bootImageRead src image sigOk) rfl hl (State.imageRead_rejects hlook hsrc hck) rfl,
      hidle, rfl, rfl, rfl, rfl, rfl, rfl, rfl, rfl⟩

/-- Firmware on trial in the beat before its 60 s are over. -/
def lastBeatOfTrial : State :=
  { pins := { perstLow := false }, beat := { bc := 234374999 }, boot := { running := true, trial := true } }

/-- Refutes O18: it has the trial end in the beat before its 234,375,000th boundary, but TRIAL_TIMEOUT acts in the beat in
which it comes, and there the boundary that completes the 60 s has not come yet, so nothing changes. -/
theorem not_firmwareRoll : ¬ Obligations.FirmwareRoll := by
  intro h
  have hl : lastBeatOfTrial.live = true := by decide
  obtain ⟨-, -, -, -, -, -, -, htimeout⟩ := h lastBeatOfTrial hl rfl
  obtain ⟨t, ht, hactive, -⟩ := htimeout rfl (by decide)
  have hnot : lastBeatOfTrial.trialDue = false := by decide
  have hsame : exec .trialTimeout lastBeatOfTrial = .next lastBeatOfTrial :=
    run_live_eq (i := .trialTimeout) rfl hl (if_neg (Bool.eq_false_iff.1 hnot)) rfl
  rw [hsame, Host.Outcome.next.injEq] at ht
  subst ht
  exact absurd hactive (by decide)

end Sys2Proof.Machine

/-! ## The SPDM responder (20 R592 to R596) -/

namespace Sys2Proof.Machine

section
variable {s : State}

/-- A request in its place in the exchange is answered (20 R593). -/
theorem State.spdmAsk_answers (hr : s.boot.running = true) (hw : s.boot.walk = none) {need : Nat} (hn : need ≤ s.boot.spdm)
    (f : State → State) : s.spdmAsk need f = f s := by
  simp [State.spdmAsk, hr, hw, Nat.not_lt.2 hn]

/-- A request before its place is answered UnexpectedRequest (20 R593). -/
theorem State.spdmAsk_unexpected (hr : s.boot.running = true) (hw : s.boot.walk = none) {need : Nat} (hn : s.boot.spdm < need)
    (f : State → State) : s.spdmAsk need f = s.spdmError 4 0 := by
  simp [State.spdmAsk, hr, hw, hn]

/-- GET_VERSION starts an exchange (20 R593). -/
theorem State.getVersion_eq (hr : s.boot.running = true) :
    s.getVersion = (s.setBoot fun b => { b with spdm := 1, walk := none }).answer 0x04 [0, 1, 0x00, 0x13] := by
  simp [State.getVersion, hr]

/-- A certificate's bytes from an offset within the chain, or the error InvalidRequest (20 R593). -/
theorem State.getCert_spec (hr : s.boot.running = true) (hw : s.boot.walk = none) (h3 : 3 ≤ s.boot.spdm) (off len : Nat) :
    ∃ o, s.getCert 0 off len = { s with out := s.out ++ [o] } ∧ (off < s.certLen → ∃ b, o = .spdm 0x02 b)
      ∧ (s.certLen ≤ off → o = .spdm 0x7F [1, 0]) := by
  rw [State.getCert, State.spdmAsk_answers hr hw h3]
  rcases Nat.lt_or_ge off s.certLen with hoff | hoff
  · rw [if_neg (by simpa using hoff)]
    exact ⟨_, rfl, fun _ => ⟨_, rfl⟩, fun h => absurd hoff (Nat.not_lt.2 h)⟩
  · rw [if_pos (by simpa using hoff)]
    exact ⟨_, rfl, fun h => absurd h (Nat.not_lt.2 hoff), fun _ => rfl⟩

theorem State.challenge_eq (hr : s.boot.running = true) (hw : s.boot.walk = none) (h3 : 3 ≤ s.boot.spdm) (nonce : List Byte) :
    s.challenge 0 nonce
      = s.answer 0x03 ((0 : Byte) :: s.certDigest ++ s.sign ((0 : Byte) :: s.certDigest ++ nonce)) := by
  rw [State.challenge, State.spdmAsk_answers hr hw h3]
  rfl

/-- A block that needs no table digest is answered at once (20 R594). -/
theorem State.getMeas_now (hr : s.boot.running = true) (hw : s.boot.walk = none) (h3 : 3 ≤ s.boot.spdm) {i : Nat}
    (hi : i ≤ 5 ∨ i = 8) (g : Bool) (n : List Byte) : s.getMeas i g n = s.measure i g n (0, 0) := by
  have h8 : i ≤ 8 := by omega
  have hnot : ¬ (i = 6 ∨ i = 7 ∨ i = 255) := by omega
  rw [State.getMeas, State.spdmAsk_answers hr hw h3, if_neg (by simpa [or_assoc] using hnot), if_pos h8]

/-- One that needs a table digest is answered ResponseNotReady, with the next token (20 R595). -/
theorem State.getMeas_later (hr : s.boot.running = true) (hw : s.boot.walk = none) (h3 : 3 ≤ s.boot.spdm) {i : Nat}
    (hi : i = 6 ∨ i = 7 ∨ i = 255) (g : Bool) (n : List Byte) :
    s.getMeas i g n = (s.setBoot fun b =>
      { b with walk := some { index := i, signed := g, nonce := n }, token := (b.token + 1) % 256 }).spdmError 0x42
        ((s.boot.token + 1) % 256) := by
  rw [State.getMeas, State.spdmAsk_answers hr hw h3, if_pos (by simpa [or_assoc] using hi)]
  rfl

theorem State.walkDone_some {w : DigestWalk} (hw : s.boot.walk = some w) (h3 : w.restarts < 3) :
    s.walkDone = s.setBoot fun b =>
      { b with walk := some { w with digests := some (s.tableDigest false, s.tableDigest true) } } := by
  simp [State.walkDone, hw, Nat.not_le.2 h3]

/-- RESPOND_IF_READY with the token that stands, before the walk is done (20 R595). -/
theorem State.respond_notReady (hr : s.boot.running = true) {w : DigestWalk} (hw : s.boot.walk = some w) (h3 : w.restarts < 3)
    (hd : w.digests = none) : s.respond s.boot.token = s.spdmError 0x42 s.boot.token := by
  simp [State.respond, hr, hw, hd, Nat.not_le.2 h3]

/-- RESPOND_IF_READY once the walk is done (20 R595). -/
theorem State.respond_ready (hr : s.boot.running = true) {w : DigestWalk} (hw : s.boot.walk = some w) {d : Nat × Nat}
    (hd : w.digests = some d) :
    s.respond s.boot.token = (s.setBoot fun b => { b with walk := none }).measure w.index w.signed w.nonce d := by
  simp [State.respond, hr, hw, hd]
end

/-- Settles O20: each request in its place is one answer, by the lemma of its request. -/
theorem spdmResponder : Obligations.SpdmResponder := by
  refine fun s hl hr => ⟨?version, fun code => ?unsupported, fun hw => ⟨fun h0 => ?capsEarly, fun h1 => ?caps,
    fun h2 => ?algorithms, fun h3 => ⟨?digests, fun off len => ?certificate, fun nonce => ?challenge,
    fun i g n hi => ?measureNow, fun i g n hi => ?measureLater⟩⟩, fun w hw h3 => ⟨?walk, fun hd => ?notReady, fun d hd => ?ready⟩⟩
  case version => exact ⟨_, run_live_eq (i := .getVersion) rfl hl (State.getVersion_eq hr) rfl, rfl, rfl, rfl⟩
  case unsupported => exact run_live_eq (i := .unsupportedSpdmRequest code) rfl hl (if_pos hr) rfl
  case capsEarly =>
    exact run_live_eq (i := .getCapabilities) rfl hl (State.spdmAsk_unexpected hr hw (h0 ▸ Nat.one_pos) _) rfl
  case caps => exact ⟨_, run_live_eq (i := .getCapabilities) rfl hl (State.spdmAsk_answers hr hw h1 _) rfl, rfl, rfl⟩
  case algorithms =>
    exact ⟨_, _, run_live_eq (i := .negotiateAlgorithms) rfl hl (State.spdmAsk_answers hr hw h2 _) rfl, rfl, rfl⟩
  case digests => exact run_live_eq (i := .getDigests) rfl hl (State.spdmAsk_answers hr hw h3 _) rfl
  case certificate =>
    obtain ⟨o, hcert, hin, hout⟩ := State.getCert_spec hr hw h3 off len
    exact ⟨o, run_live_eq (i := .getCertificate 0 off len) rfl hl hcert rfl, hin, hout⟩
  case challenge => exact run_live_eq (i := .challenge 0 nonce) rfl hl (State.challenge_eq hr hw h3 nonce) rfl
  case measureNow => exact ⟨_, run_live_eq (i := .getMeasurements i g n) rfl hl (State.getMeas_now hr hw h3 hi g n) rfl⟩
  case measureLater =>
    exact ⟨_, run_live_eq (i := .getMeasurements i g n) rfl hl (State.getMeas_later hr hw h3 hi g n) rfl, rfl, rfl, rfl⟩
  case walk => exact ⟨_, run_live_eq (i := .tableDigestWalkDone) rfl hl (State.walkDone_some hw h3) rfl, rfl, rfl⟩
  case notReady =>
    exact run_live_eq (i := .respondIfReady s.boot.token) rfl hl (State.respond_notReady hr hw h3 hd) rfl
  case ready =>
    exact ⟨_, _, run_live_eq (i := .respondIfReady s.boot.token) rfl hl (State.respond_ready hr hw hd) rfl, rfl, rfl⟩

end Sys2Proof.Machine

/-! ## Registers at different words, and writes that take effect as their rule says (00 R2, R8) -/

namespace Sys2Proof

/-- Registers at different offsets stand in different words. -/
theorem RegKind.word_ne_of_off_ne {k j : RegKind} {n m : Nat} (h : k.off n ≠ j.off m) : k.off n / 8 ≠ j.off m / 8 := by
  have := k.off_mod_eight n
  have := j.off_mod_eight m
  omega

/-- Registers of two kinds stand in different words. -/
theorem RegKind.word_ne {k j : RegKind} (h : k ≠ j) {n m : Nat} (hn : n < k.total) (hm : m < j.total) :
    k.off n / 8 ≠ j.off m / 8 :=
  word_ne_of_off_ne (apart_of_ne h n m hn hm)

/-- Two registers of one kind stand in different words. -/
theorem RegKind.word_ne_same {k : RegKind} {n m : Nat} (hn : n < k.total) (hm : m < k.total) (h : n ≠ m) :
    k.off n / 8 ≠ k.off m / 8 := by
  refine word_ne_of_off_ne fun hoff => h ?_
  have hfind := find_off hn
  rw [hoff, find_off hm] at hfind
  exact (Option.some.inj hfind).symm

end Sys2Proof

namespace Sys2Proof.Machine

/-- A write of a register of the core that no domain holds, and that has no W1C bit, is that of its fields. -/
theorem State.writeReg_fields {k : RegKind} {i : Nat} (hbase : 0x300000 ≤ k.row.base) (hdom : coreDomain k i = none)
    (hm : k.w1cMask = 0) (s : State) (hw : Word) (late : Bool) (v : Word) :
    s.writeReg hw late k i v = s.writeFields k i v late :=
  State.writeReg_reached (by simp [State.offCrossing, engineOf_eq_none hbase, hdom]) hm hw late v

/-- A register reads as before where another kind's is written. -/
theorem State.reg_setReg_kind (s : State) {k j : RegKind} (h : j ≠ k) {n m : Nat} (hn : n < k.total) (hm : m < j.total)
    (v : Word) : (s.setReg k n v).reg j m = s.reg j m :=
  s.reg_setReg_other k n v j m (RegKind.word_ne h hm hn)

end Sys2Proof.Machine

/-! ## Runs of programmable counters (17 R500) -/

namespace Sys2Proof.Machine

/-- The search for a run of free counters, `run` of which stand just below counter i, ends at the lowest place from
i - run on. -/
theorem State.freeRun_lowest {s : State} {n b : Nat} (hb : b + n ≤ 8192) (hfree : ∀ i, b ≤ i → i < b + n → s.held i = false)
    (hlow : ∀ c, c < b → ∃ i, c ≤ i ∧ i < c + n ∧ s.held i = true) :
    ∀ fuel i run, i + fuel = 8192 → run ≤ i → run < n → i ≤ b + run → (∀ j, i - run ≤ j → j < i → s.held j = false) →
      s.freeRun n fuel i run = some b := by
  intro fuel
  induction fuel with
  | zero => intro i run hi _ hrun hle _; omega
  | succ fuel ih =>
    intro i run hi hri hrun hle hwin
    unfold State.freeRun
    cases hh : s.held i with
    | true =>
      have hib : i < b := by
        by_contra hge
        have := hfree i (by omega) (by omega)
        rw [hh] at this
        cases this
      exact ih (i + 1) 0 (by omega) (Nat.zero_le _) (by omega) (by omega) fun j hj hj' => by omega
    | false =>
      have hwin' : ∀ j, i - run ≤ j → j < i + 1 → s.held j = false := by
        intro j hj hj'
        rcases Nat.lt_succ_iff_lt_or_eq.1 hj' with h | h
        · exact hwin j hj h
        · rw [h, hh]
      by_cases hn : n ≤ run + 1
      · have hplace : i + 1 - n = b := by
          by_contra hne
          obtain ⟨j, hj, hj', hheld⟩ := hlow (i + 1 - n) (by omega)
          rw [hwin' j (by omega) (by omega)] at hheld
          cases hheld
        rw [if_neg Bool.false_ne_true, if_pos hn, hplace]
      · rw [if_neg Bool.false_ne_true, if_neg hn]
        exact ih (i + 1) (run + 1) (by omega) (by omega) (by omega) (by omega) fun j hj hj' => hwin' j (by omega) hj'

/-- Where every run of n counters holds one that is held, the search finds none. -/
theorem State.freeRun_none {s : State} {n : Nat} (h1 : 1 ≤ n)
    (hno : ∀ b, b + n ≤ 8192 → ∃ i, b ≤ i ∧ i < b + n ∧ s.held i = true) :
    ∀ fuel i run, i + fuel = 8192 → run ≤ i → run < n → (∀ j, i - run ≤ j → j < i → s.held j = false) →
      s.freeRun n fuel i run = none := by
  intro fuel
  induction fuel with
  | zero => intros; rfl
  | succ fuel ih =>
    intro i run hi hri hrun hwin
    unfold State.freeRun
    cases hh : s.held i with
    | true => exact ih (i + 1) 0 (by omega) (Nat.zero_le _) (by omega) fun j hj hj' => by omega
    | false =>
      have hwin' : ∀ j, i - run ≤ j → j < i + 1 → s.held j = false := by
        intro j hj hj'
        rcases Nat.lt_succ_iff_lt_or_eq.1 hj' with h | h
        · exact hwin j hj h
        · rw [h, hh]
      have hn : ¬ n ≤ run + 1 := by
        intro hn
        obtain ⟨j, hj, hj', hheld⟩ := hno (i + 1 - n) (by omega)
        rw [hwin' j (by omega) (by omega)] at hheld
        cases hheld
      rw [if_neg Bool.false_ne_true, if_neg hn]
      exact ih (i + 1) (run + 1) (by omega) (by omega) (by omega) fun j hj hj' => hwin' j (by omega) hj'

/-- Counters of a list, all of the part, are configured by `f`, which changes each counter's own register alone: the
others' are as they were. -/
theorem State.pcfg_foldl {f : State → Nat → State} {l : List Nat} (hl : ∀ i ∈ l, i < 8192)
    (hother : ∀ (s : State) i m, i < 8192 → m < 8192 → m ≠ i → (f s i).reg .cntPcfg m = s.reg .cntPcfg m) (s : State) {m : Nat}
    (hm : m < 8192) (hout : m ∉ l) : (l.foldl f s).reg .cntPcfg m = s.reg .cntPcfg m := by
  induction l generalizing s with
  | nil => rfl
  | cons i l ih =>
    rw [List.mem_cons, not_or] at hout
    rw [List.foldl_cons, ih (fun j hj => hl j (List.mem_cons_of_mem i hj)) (f s i) hout.2]
    exact hother s i m (hl i List.mem_cons_self) hm hout.1

/-- What `f` makes of the register of each counter of the list stands at the end, where a second change keeps it. -/
theorem State.pcfg_foldl_mem {f : State → Nat → State} {P : Word → Prop} {l : List Nat} (hl : ∀ i ∈ l, i < 8192)
    (hother : ∀ (s : State) i m, i < 8192 → m < 8192 → m ≠ i → (f s i).reg .cntPcfg m = s.reg .cntPcfg m)
    (hself : ∀ (s : State) i, P ((f s i).reg .cntPcfg i)) (s : State) {m : Nat} (hm : m ∈ l) :
    P ((l.foldl f s).reg .cntPcfg m) := by
  induction l generalizing s with
  | nil => exact absurd hm List.not_mem_nil
  | cons i l ih =>
    have hl' : ∀ j ∈ l, j < 8192 := fun j hj => hl j (List.mem_cons_of_mem i hj)
    by_cases hml : m ∈ l
    · exact ih hl' (f s i) hml
    · have hmi : m = i := by simpa [hml] using hm
      subst hmi
      rw [List.foldl_cons, State.pcfg_foldl hl' hother (f s m) (hl m List.mem_cons_self) hml]
      exact hself s m

/-- A counter is held, by an allocation (17 R500). -/
def State.hold1 (s : State) (i : Nat) : State := s.setFlag .cntPcfg i 62 true

/-- A counter is released (17 R500). -/
def State.release1 (s : State) (i : Nat) : State := (s.setFlag .cntPcfg i 62 false).setFlag .cntPcfg i 63 false

theorem State.reg_hold1_other (s : State) (i m : Nat) (hi : i < 8192) (hm : m < 8192) (h : m ≠ i) :
    (s.hold1 i).reg .cntPcfg m = s.reg .cntPcfg m :=
  s.reg_setFlag_other _ _ _ _ _ _ (RegKind.word_ne_same (k := .cntPcfg) hm hi h)

theorem State.reg_release1_other (s : State) (i m : Nat) (hi : i < 8192) (hm : m < 8192) (h : m ≠ i) :
    (s.release1 i).reg .cntPcfg m = s.reg .cntPcfg m := by
  have hword := RegKind.word_ne_same (k := .cntPcfg) hm hi h
  exact (State.reg_setFlag_other _ _ _ _ _ _ _ hword).trans (s.reg_setFlag_other _ _ _ _ _ _ hword)

theorem State.held_hold1 (s : State) (i : Nat) : bit ((s.hold1 i).reg .cntPcfg i) 62 = true :=
  s.flag_setFlag .cntPcfg i true (by decide)

theorem State.held_release1 (s : State) (i : Nat) : bit ((s.release1 i).reg .cntPcfg i) 62 = false
    ∧ bit ((s.release1 i).reg .cntPcfg i) 63 = false :=
  ⟨(State.flag_setFld_other _ _ _ _ (by decide)).trans (s.flag_setFlag .cntPcfg i false (by decide)),
    State.flag_setFlag _ .cntPcfg i false (by decide)⟩

/-- The counters of an allocated run. -/
def runCounters (b n : Nat) : List Nat := (List.range n).map (b + ·)

theorem mem_runCounters {b n i : Nat} : i ∈ runCounters b n ↔ b ≤ i ∧ i < b + n := by
  simp only [runCounters, List.mem_map, List.mem_range]
  constructor
  · rintro ⟨k, hk, rfl⟩
    omega
  · rintro ⟨h, h'⟩
    exact ⟨i - b, by omega, by omega⟩

/-- What CNT_ALLOC shows of an allocation that found its run at b (17 R500). -/
def State.allocShown (s : State) (b : Nat) : State :=
  ((s.setFld .cntAlloc 0 44 32 b).setFlag .cntAlloc 0 63 true).setFlag .cntAlloc 0 62 false

theorem State.cntAllocate_some {s : State} {n b : Nat} (h1 : 1 ≤ n) (h256 : n ≤ 256) (hrun : s.freeRun n 8192 0 0 = some b) :
    s.cntAllocate n = ((runCounters b n).foldl State.hold1 s).allocShown b := by
  have hn : ¬ (n = 0 ∨ 256 < n) := by omega
  simp only [State.cntAllocate, hrun, Bool.or_eq_true, decide_eq_true_eq, if_neg hn, runCounters, List.foldl_map]
  rfl

theorem State.cntAllocate_none {s : State} {n : Nat} (h1 : 1 ≤ n) (h256 : n ≤ 256) (hrun : s.freeRun n 8192 0 0 = none) :
    s.cntAllocate n
      = ((s.setFlag .cntAlloc 0 63 false).setFlag .cntAlloc 0 62 true).bump .cntStatus 0 63 48 1 := by
  have hn : ¬ (n = 0 ∨ 256 < n) := by omega
  simp only [State.cntAllocate, hrun, Bool.or_eq_true, decide_eq_true_eq, if_neg hn]

theorem State.reg_allocShown_cntPcfg (s : State) (b : Nat) {i : Nat} (hi : i < 8192) :
    (s.allocShown b).reg .cntPcfg i = s.reg .cntPcfg i := by
  have hword : RegKind.cntPcfg.off i / 8 ≠ RegKind.cntAlloc.off 0 / 8 :=
    RegKind.word_ne (by decide) hi (by decide)
  rw [State.allocShown, State.reg_setFlag_other _ _ _ _ _ _ _ hword, State.reg_setFlag_other _ _ _ _ _ _ _ hword,
    State.reg_setFld_other _ _ _ _ _ _ _ _ hword]

/-- A release's word: bit 61, the base and n (17 R500). -/
def releaseWord (b n : Nat) : Word := at_ 61 1 ||| at_ 32 b ||| at_ 0 n

theorem bits_releaseWord_n (b : Nat) {n : Nat} (hn : n < 512) : bits (releaseWord b n) 8 0 = n := by
  simp (disch := omega) only [releaseWord, bits_or, bits_at_same, bits_at_above, Nat.zero_or]

theorem bits_releaseWord_base {b n : Nat} (hb : b < 8192) (hn : n < 512) : bits (releaseWord b n) 44 32 = b := by
  simp (disch := omega) only [releaseWord, bits_or, bits_at_same, bits_at_above, bits_at_below, Nat.zero_or, Nat.or_zero]

theorem bit_releaseWord (b n : Nat) : bit (releaseWord b n) 61 = true := by
  have h61 : (at_ 61 1).getLsbD 61 = true := by decide
  simp only [bit, releaseWord, BitVec.getLsbD_or, h61, Bool.true_or]

theorem State.allocWrite_ignored (s : State) {v : Word} (h : bits v 8 0 = 0 ∨ 256 < bits v 8 0) (late : Bool) :
    s.allocWrite v late = s := by
  simp [State.allocWrite, h]

/-- A release waits for the boundary (17 R500). -/
theorem State.allocWrite_release (s : State) {b n : Nat} (h1 : 1 ≤ n) (h256 : n ≤ 256) (late : Bool) :
    s.allocWrite (releaseWord b n) late = (s.putRw .cntAlloc 0 (releaseWord b n)).queueWrite .cntAlloc 0 (releaseWord b n) late := by
  have hn : ¬ (n = 0 ∨ 256 < n) := by omega
  simp [State.allocWrite, bits_releaseWord_n b (show n < 512 by omega), hn, bit_releaseWord]

/-- At its boundary a release clears the counters of its run (17 R500). -/
theorem State.applyWrite_release (s : State) {b n : Nat} (hb : b + n ≤ 8192) (h1 : 1 ≤ n) (h256 : n ≤ 256) :
    s.applyWrite .cntAlloc 0 (releaseWord b n) = (runCounters b n).foldl State.release1 s := by
  have hn : ¬ (n = 0 ∨ 256 < n) := by omega
  have hrange : rangeFrom b (Nat.min 8192 (b + n)) = runCounters b n := by
    rw [show Nat.min 8192 (b + n) = b + n from Nat.min_eq_right hb, rangeFrom, Nat.add_sub_cancel_left, runCounters]
  show s.cntRelease (bits (releaseWord b n) 44 32) (bits (releaseWord b n) 8 0) = _
  rw [bits_releaseWord_n b (by omega), bits_releaseWord_base (by omega) (by omega)]
  simp only [State.cntRelease, Bool.or_eq_true, decide_eq_true_eq, if_neg hn, hrange]
  rfl

/-- The write of a release (17 R500). -/
theorem exec_counterRunRelease {s : State} (hl : s.live = true) {b n : Nat} (hb : b < 8192) (hn : n < 512) (late : Bool)
    {t : State} (ht : t = s.allocWrite (releaseWord b n) late) (hp : t.pending = s.pending) :
    exec (.counterRunRelease b n late) s = .next t :=
  run_live_eq (i := .counterRunRelease b n late) (decide_eq_true ⟨hb, hn⟩) hl
    ((State.writeReg_fields (by decide) rfl (by decide) s 0 late _).trans ht.symm) hp

/-- An allocation that finds its run holds it, and shows its base (17 R500). -/
theorem State.cntAllocate_spec {s : State} {n b : Nat} (hb : b + n ≤ 8192) (h1 : 1 ≤ n) (h256 : n ≤ 256)
    (hrun : s.freeRun n 8192 0 0 = some b) {t : State} (ht : t = s.cntAllocate n) :
    t.fld .cntAlloc 0 44 32 = b ∧ t.flag .cntAlloc 0 63 = true ∧ t.flag .cntAlloc 0 62 = false
      ∧ (∀ i, b ≤ i → i < b + n → t.held i = true)
      ∧ (∀ i, i < b ∨ b + n ≤ i → i < 8192 → t.reg .cntPcfg i = s.reg .cntPcfg i) ∧ s.onlyEff t := by
  have hl : ∀ i ∈ runCounters b n, i < 8192 := fun i hi => Nat.lt_of_lt_of_le (mem_runCounters.1 hi).2 hb
  rw [State.cntAllocate_some h1 h256 hrun] at ht
  subst ht
  refine ⟨?_, ?_, ?_, fun i hi hi' => ?_, fun i hout hi => ?_, ?_⟩
  · refine (State.fld_setFld_other _ _ _ _ (by decide)).trans ((State.fld_setFld_other _ _ _ _ (by decide)).trans
      ((State.fld_setFld _ _ _ _ _ (by decide)).trans (Nat.mod_eq_of_lt ?_)))
    show b < 8192
    omega
  · exact (State.flag_setFld_other _ _ _ _ (by decide)).trans (State.flag_setFlag _ .cntAlloc 0 true (by decide))
  · exact State.flag_setFlag _ .cntAlloc 0 false (by decide)
  · rw [State.held, State.flag, State.reg_allocShown_cntPcfg _ b (by omega)]
    exact State.pcfg_foldl_mem (P := fun w => bit w 62 = true) hl State.reg_hold1_other State.held_hold1 s
      (mem_runCounters.2 ⟨hi, hi'⟩)
  · rw [State.reg_allocShown_cntPcfg _ b hi]
    exact State.pcfg_foldl hl State.reg_hold1_other s hi fun hm => by have := mem_runCounters.1 hm; omega
  · have hholds := State.onlyEff_foldl (f := State.hold1) (fun u i => u.onlyEff_setReg _ _ _) (runCounters b n) s
    exact State.onlyEff_trans hholds rfl

/-- Settles O31: the search finds the lowest run, and only the registers of its counters and CNT_ALLOC are written. -/
theorem counterRunsAreAllocatedLowestFirst : Obligations.CounterRunsAreAllocatedLowestFirst := by
  refine ⟨fun s n hl h1 h256 => ⟨fun b hb hfree hlow => ?found, fun hno => ?refused⟩,
    fun s n hl hn hbad => ⟨?ignored, fun b late hb => ?ignoredRelease⟩, fun s b n late hl hb h1 h256 => ?release,
    fun s b n hb h1 h256 => ?boundary⟩
  case found =>
    have hrun : s.freeRun n 8192 0 0 = some b :=
      State.freeRun_lowest hb hfree hlow 8192 0 0 (by omega) (by omega) (by omega) (by omega) fun j hj hj' => by omega
    obtain ⟨hbase, hok, href, hheld, hother, honly⟩ := State.cntAllocate_spec hb h1 h256 hrun rfl
    have hpending := congrArg State.pending honly
    exact ⟨_, run_live_eq (i := .counterRunAllocate n) (decide_eq_true (by omega)) hl rfl hpending, hbase, hok, href, hheld,
      hother, honly⟩
  case refused =>
    have hrun : s.freeRun n 8192 0 0 = none :=
      State.freeRun_none h1 hno 8192 0 0 (by omega) (by omega) (by omega) fun j hj hj' => by omega
    refine ⟨_, run_live_eq (i := .counterRunAllocate n) (decide_eq_true (by omega)) hl (State.cntAllocate_none h1 h256 hrun)
      rfl, ?_, ?_, ?_, fun i hi => ?_⟩
    · have hword : RegKind.cntAlloc.off 0 / 8 ≠ RegKind.cntStatus.off 0 / 8 := by decide
      rw [State.flag, State.reg_bump_other _ _ _ _ _ _ _ _ hword]
      exact (State.flag_setFld_other _ _ _ _ (by decide)).trans (s.flag_setFlag .cntAlloc 0 false (by decide))
    · have hword : RegKind.cntAlloc.off 0 / 8 ≠ RegKind.cntStatus.off 0 / 8 := by decide
      rw [State.flag, State.reg_bump_other _ _ _ _ _ _ _ _ hword]
      exact State.flag_setFlag _ .cntAlloc 0 true (by decide)
    · have hword : RegKind.cntStatus.off 0 / 8 ≠ RegKind.cntAlloc.off 0 / 8 := by decide
      rw [State.fld_bump _ _ _ _ _ (by decide), State.fld, State.reg_setFlag_other _ _ _ _ _ _ _ hword,
        State.reg_setFlag_other _ _ _ _ _ _ _ hword]
      rfl
    · have hword : RegKind.cntPcfg.off i / 8 ≠ RegKind.cntAlloc.off 0 / 8 := RegKind.word_ne (by decide) hi (by decide)
      have hword' : RegKind.cntPcfg.off i / 8 ≠ RegKind.cntStatus.off 0 / 8 := RegKind.word_ne (by decide) hi (by decide)
      rw [State.reg_bump_other _ _ _ _ _ _ _ _ hword', State.reg_setFlag_other _ _ _ _ _ _ _ hword,
        State.reg_setFlag_other _ _ _ _ _ _ _ hword]
  case ignored =>
    exact run_live_eq (i := .counterRunAllocate n) (decide_eq_true hn) hl (by simp [State.cntAllocate, hbad]) rfl
  case ignoredRelease =>
    rw [← bits_releaseWord_n b hn] at hbad
    exact exec_counterRunRelease hl hb hn late (s.allocWrite_ignored hbad late).symm rfl
  case release => exact exec_counterRunRelease hl hb (by omega) late (s.allocWrite_release h1 h256 late).symm rfl
  case boundary =>
    have hl : ∀ i ∈ runCounters b n, i < 8192 := fun i hi => Nat.lt_of_lt_of_le (mem_runCounters.1 hi).2 hb
    show (∀ i, _) ∧ ∀ i, _
    rw [show s.applyWrite .cntAlloc 0 (at_ 61 1 ||| at_ 32 b ||| at_ 0 n) = _ from s.applyWrite_release hb h1 h256]
    refine ⟨fun i hi hi' => ?cleared, fun i hout hi => ?kept⟩
    case cleared =>
      exact State.pcfg_foldl_mem (P := fun w => bit w 62 = false ∧ bit w 63 = false) hl State.reg_release1_other
        State.held_release1 s (mem_runCounters.2 ⟨hi, hi'⟩)
    case kept =>
      exact State.pcfg_foldl hl State.reg_release1_other s hi fun hm => by have := mem_runCounters.1 hm; omega

end Sys2Proof.Machine

/-! ## Snapshots (17 R494, R501, R502) -/

namespace Sys2Proof.Machine

section
variable {s : State}

theorem State.periodicDue_off (h : s.flag .cntCicadaCfg 0 63 = false) : s.periodicDue = false := by
  simp [State.periodicDue, h]

theorem State.periodicDue_on (h : s.flag .cntCicadaCfg 0 63 = true) (hsince : s.cnt.sinceEn < s.beat.bc)
    (hk : (s.beat.bc - s.cnt.sinceEn) % Nat.max 64 (s.fld .cntCicadaCfg 0 31 0) = 0) : s.periodicDue = true := by
  have hne : s.beat.bc - s.cnt.sinceEn ≠ 0 := by omega
  simp [State.periodicDue, h, hne, State.cicadaK, hk]

theorem State.refreshDue_on (h : 0 < s.fld .cntCfg 0 47 32) (hsince : s.cnt.sinceUser < s.beat.bc)
    (hk : (s.beat.bc - s.cnt.sinceUser) % Nat.max 16 (s.fld .cntCfg 0 47 32) = 0) : s.refreshDue = true := by
  have hne : s.beat.bc - s.cnt.sinceUser ≠ 0 := by omega
  have hu : s.fld .cntCfg 0 47 32 ≠ 0 := by omega
  simp [State.refreshDue, hu, hne, hk]

theorem State.cicadaPeriodic_due (hdone : s.cnt.periodicDone = false) (hdue : s.periodicDue = true) :
    s.cicadaPeriodic = { s.dumpCause with cnt := { s.dumpCause.cnt with periodicDone := true } } := by
  simp [State.cicadaPeriodic, hdone, hdue]

theorem State.cicadaPeriodic_off (h : s.flag .cntCicadaCfg 0 63 = false) : s.cicadaPeriodic = s := by
  simp [State.cicadaPeriodic, State.periodicDue_off h]

/-- Every counter is copied into its shadow (17 R501). -/
theorem State.takeSnapshot_first (h : s.cnt.taken = false) :
    s.takeSnapshot = { s with cnt := { s.cnt with shadow := s.cnt.live, shadowBeat := s.beat.now, taken := true } } := by
  simp [State.takeSnapshot, h]

/-- The dump that begins at this boundary, into the region (17 R502, R503). -/
def State.regionDump (s : State) : Dump :=
  { bc := s.beat.bc, ring := none, seq := s.cnt.seqNext, slot := s.cnt.seqNext % Nat.max 1 (s.fld .cntCicadaRegion 0 15 0),
    sections := s.fld .cntCicadaCfg 0 60 56, overrun := s.cnt.skipped, beat := s.beat.now, sec := s.time.secOf,
    ns := s.time.nsOf, off := s.domainsOff }

/-- A dump falls due while none is in progress (17 R502). -/
theorem State.dumpCause_begins (hd : s.cnt.dump = none) (ht : s.cnt.taken = false) (hhost : s.flag .cntCicadaCfg 0 62 = false)
    (hregion : s.flag .cntCicadaRegion 0 63 = true) :
    s.dumpCause = { s with cnt := { s.cnt with
      dump := some s.regionDump, shadow := s.cnt.live, shadowBeat := s.beat.now, taken := true,
      seqNext := (s.cnt.seqNext + 1) % 2 ^ 32, skipped := 0 } } := by
  have hnot : s.dumping = false := by rw [State.dumping, hd]
  have hh : s.takeSnapshot.flag .cntCicadaCfg 0 62 = false := by rw [State.takeSnapshot_first ht]; exact hhost
  have hr : s.takeSnapshot.flag .cntCicadaRegion 0 63 = true := by rw [State.takeSnapshot_first ht]; exact hregion
  unfold State.dumpCause
  simp only [hnot, hd, Option.isSome_none, hh, hr, Bool.not_false, Bool.not_true, Bool.and_false, Bool.false_eq_true, if_false]
  rw [State.takeSnapshot_first ht]
  rfl

/-- A dump falls due while an earlier one reads the shadows: it is skipped (17 R502). -/
theorem State.dumpCause_skips {d : Dump} (hd : s.cnt.dump = some d) (hbc : d.bc < s.beat.bc) : s.dumpCause = s.skipDump := by
  have hdump : s.dumping = true := by simp [State.dumping, hd, hbc]
  simp [State.dumpCause, hdump]

theorem State.userRefresh_due (hdone : s.cnt.userDone = false) (hdue : s.refreshDue = true) (hd : s.cnt.dump = none)
    (ht : s.cnt.taken = false) : s.userRefresh = { s with cnt := { s.cnt with
      shadow := s.cnt.live, shadowBeat := s.beat.now, taken := true, userDone := true } } := by
  have hnot : s.dumping = false := by rw [State.dumping, hd]
  simp [State.userRefresh, hdone, hdue, State.snapCause, hnot, State.takeSnapshot_first ht]

theorem State.deferredSnap_due (h : s.cnt.deferred = true) (hd : s.cnt.dump = none) (ht : s.cnt.taken = false) :
    s.deferredSnap = { s with cnt := { s.cnt with
      shadow := s.cnt.live, shadowBeat := s.beat.now, taken := true, deferred := false } } := by
  simp [State.deferredSnap, State.deferredDue, h, hd, State.takeSnapshot_first ht]
end

end Sys2Proof.Machine

/-! ## The end of a dump into the region (17 R503 to R505) -/

namespace Sys2Proof.Machine

/-- Spine memory changes at addresses from lo to hi alone, with its marks, and nothing else. -/
def State.SpineIn (lo hi : Nat) (s t : State) : Prop :=
  t = { s with mem := { s.mem with spine := t.mem.spine, poisonS := t.mem.poisonS } }
    ∧ ∀ a, a < lo ∨ hi ≤ a → memGet t.mem.spine a = memGet s.mem.spine a

section
variable {lo hi : Nat}

theorem State.SpineIn.refl (s : State) : State.SpineIn lo hi s s := ⟨rfl, fun _ _ => rfl⟩

theorem State.SpineIn.trans {s t u : State} (h : State.SpineIn lo hi s t) (g : State.SpineIn lo hi t u) :
    State.SpineIn lo hi s u := by
  obtain ⟨ht, hmem⟩ := h
  obtain ⟨hu, hmem'⟩ := g
  refine ⟨?_, fun a ha => (hmem' a ha).trans (hmem a ha)⟩
  rw [hu, ht]

theorem State.SpineIn.foldl {α : Type} {f : State → α → State} {l : List α}
    (h : ∀ (s : State), ∀ a ∈ l, State.SpineIn lo hi s (f s a)) (s : State) : State.SpineIn lo hi s (l.foldl f s) := by
  induction l generalizing s with
  | nil => exact .refl s
  | cons a l ih => exact (h s a List.mem_cons_self).trans (ih (fun s b hb => h s b (List.mem_cons_of_mem a hb)) (f s a))

theorem State.spineIn_putSpine (s : State) {a : Nat} (hlo : lo ≤ a) (hhi : a + 8 ≤ hi) (w : Word) :
    State.SpineIn lo hi s (s.putSpine a w) := by
  refine ⟨rfl, fun b hb => memGet_memWrite_other _ _ _ _ ?_⟩
  rw [leBytes_length]
  omega

/-- A key that a filter of keys keeps reads as before. -/
theorem get_filter_key {α : Type} (d : α) (p : Nat → Bool) (m : SMap α) {k : Nat} (h : p k = true) :
    SMap.get d (m.filter fun e => p e.1) k = SMap.get d m k := by
  induction m with
  | nil => rfl
  | cons e m ih =>
    obtain ⟨j, v⟩ := e
    rw [List.filter_cons]
    by_cases hj : p j = true
    · rw [if_pos hj, SMap.get_cons, SMap.get_cons, ih]
    · have hk : k ≠ j := fun hkj => hj (hkj ▸ h)
      rw [if_neg hj, SMap.get_cons, if_neg hk, ih]

theorem State.spineIn_zeroSpine (s : State) {a n : Nat} (hlo : lo ≤ a) (hhi : a + n ≤ hi) :
    State.SpineIn lo hi s (s.zeroSpine a n) := by
  refine ⟨rfl, fun b hb => get_filter_key 0 (fun k => !(decide (a ≤ k) && decide (k < a + n))) s.mem.spine ?_⟩
  simp
  omega

/-- A section of a dump stays within its place where each of its counters does. -/
theorem State.spineIn_dumpSection (s : State) {a len k0 k1 : Nat} {place : Nat → Nat} (hlo : lo ≤ a) (hhi : a + len ≤ hi)
    (hplace : ∀ k, k0 ≤ k → k < k1 → place k + 8 ≤ len) : State.SpineIn lo hi s (s.dumpSection a len k0 k1 place) := by
  refine (s.spineIn_zeroSpine hlo hhi).trans (.foldl (fun u e he => ?_) _)
  have hkey : k0 ≤ e.1 ∧ e.1 < k1 := by simpa using (List.mem_filter.1 he).2
  have := hplace e.1 hkey.1 hkey.2
  exact u.spineIn_putSpine (by omega) (by omega) _

/-- The sections stand in the slot one after another (17 R505). -/
theorem State.spineIn_writeSection (s : State) (d : Dump) (base k : Nat) :
    State.SpineIn base (base + 0x300000) s (s.writeSection d base k) := by
  unfold State.writeSection
  split
  · exact .refl s
  split
  · exact s.spineIn_dumpSection (by omega) (by omega) fun k h0 h1 => by simp only [cntProg] at *; omega
  split
  · exact s.spineIn_dumpSection (by omega) (by omega) fun k h0 h1 => by simp only [cntLane] at *; omega
  split
  · exact s.spineIn_dumpSection (by omega) (by omega) fun k h0 h1 => by simp only [cntPc] at *; omega
  split
  · exact s.spineIn_dumpSection (by omega) (by omega) fun k h0 h1 => by simp only [cntLeaf] at *; omega
  · refine (s.spineIn_dumpSection (by omega) (by omega) fun k h0 h1 => by simp only [cntPart] at *; omega).trans
      (.foldl (fun u p hp => ?_) _)
    have := List.mem_range.1 hp
    exact u.spineIn_putSpine (by omega) (by omega) _
end

/-- Where the dump's slot stands in spine memory (17 R503). -/
def State.slotBase (s : State) (d : Dump) : Nat := s.fld .cntCicadaRegion 0 62 34 * 4096 + 0x300000 * d.slot

/-- The slot with its sections written and its header's place cleared. -/
def State.sectionsWritten (s : State) (d : Dump) : State :=
  ((List.range 5).foldl (fun (u : State) k => u.writeSection d (s.slotBase d) k) s).zeroSpine (s.slotBase d) 4096

theorem State.spineIn_sectionsWritten (s : State) (d : Dump) :
    State.SpineIn (s.slotBase d) (s.slotBase d + 0x300000) s (s.sectionsWritten d) :=
  State.SpineIn.trans (.foldl (fun u k _ => u.spineIn_writeSection d (s.slotBase d) k) s)
    (State.spineIn_zeroSpine _ (Nat.le_refl _) (by omega))

/-- The words of the header after the first leave the first as it was (17 R505). -/
theorem State.putWords_spec (base : Nat) (l : List (Nat × Word)) (s : State) (hl : ∀ x ∈ l, 1 ≤ x.1 ∧ x.1 < 8) :
    State.SpineIn base (base + 0x300000) s (l.foldl (fun (u : State) x => u.putSpine (base + 8 * x.1) x.2) s)
      ∧ memWord (l.foldl (fun (u : State) x => u.putSpine (base + 8 * x.1) x.2) s).mem.spine base
        = memWord s.mem.spine base := by
  induction l generalizing s with
  | nil => exact ⟨.refl s, rfl⟩
  | cons x l ih =>
    obtain ⟨h1, h8⟩ := hl x List.mem_cons_self
    obtain ⟨hin, hword⟩ := ih (s.putSpine (base + 8 * x.1) x.2) fun y hy => hl y (List.mem_cons_of_mem x hy)
    refine ⟨(s.spineIn_putSpine (by omega) (by omega) x.2).trans hin, hword.trans ?_⟩
    exact memWord_memPutWord_other _ _ _ _ (by omega)

/-- The header is written last; its first word stands at the slot's first address (17 R504, R505). -/
theorem State.dumpToSpine_spec (s : State) (d : Dump) (h : s.ddrReady = true) :
    State.SpineIn (s.slotBase d) (s.slotBase d + 0x300000) s (s.dumpToSpine d)
      ∧ memWord (s.dumpToSpine d).mem.spine (s.slotBase d) = at_ 32 0x43494341 ||| at_ 16 1 ||| at_ 1 d.sections := by
  obtain ⟨w, l, hlist, hw, hl⟩ : ∃ w l, (List.range 7).zip (dumpHeader d) = (0, w) :: l
      ∧ w = at_ 32 0x43494341 ||| at_ 16 1 ||| at_ 1 d.sections ∧ ∀ x ∈ l, 1 ≤ x.1 ∧ x.1 < 8 :=
    ⟨_, _, rfl, rfl, by simp⟩
  have hdump : s.dumpToSpine d
      = l.foldl (fun (u : State) x => u.putSpine (s.slotBase d + 8 * x.1) x.2) ((s.sectionsWritten d).putSpine (s.slotBase d) w) := by
    simp only [State.dumpToSpine, h, hlist, Bool.not_true, Bool.false_eq_true, if_false, List.foldl_cons, Nat.mul_zero,
      Nat.add_zero]
    rfl
  obtain ⟨hin, hword⟩ := State.putWords_spec (s.slotBase d) l ((s.sectionsWritten d).putSpine (s.slotBase d) w) hl
  rw [hdump]
  refine ⟨(s.spineIn_sectionsWritten d).trans (.trans (State.spineIn_putSpine _ (Nat.le_refl _) (by omega) w) hin), ?_⟩
  rw [hword, ← hw]
  exact memWord_memPutWord _ _ _

/-- A dump into the region ends (17 R504). -/
theorem State.dumpComplete_region {s : State} {d : Dump} (hd : s.cnt.dump = some d) (hring : d.ring = none) :
    s.dumpComplete = { (s.dumpToSpine d).setFld .cntCicadaCtrl 0 63 32 d.seq with
      cnt := { (s.dumpToSpine d).cnt with dump := none } } := by
  unfold State.dumpComplete
  rw [hd]
  simp only [hring]
  rfl

/-- A dump falls due at its period's end alone (17 R502). -/
theorem State.coming_periodicDue_off {s : State} (h : s.flag .cntCicadaCfg 0 63 = false) :
    s.coming State.periodicDue = false := by
  unfold State.coming
  exact State.periodicDue_off h

theorem State.coming_periodicDue_on {s : State} (h : s.flag .cntCicadaCfg 0 63 = true) (hsince : s.cnt.sinceEn < s.beat.bc + 1)
    (hk : (s.beat.bc + 1 - s.cnt.sinceEn) % Nat.max 64 (s.fld .cntCicadaCfg 0 31 0) = 0) :
    s.coming State.periodicDue = true := by
  unfold State.coming
  exact State.periodicDue_on h hsince hk

theorem State.coming_refreshDue_on {s : State} (h : 0 < s.fld .cntCfg 0 47 32) (hsince : s.cnt.sinceUser < s.beat.bc + 1)
    (hk : (s.beat.bc + 1 - s.cnt.sinceUser) % Nat.max 16 (s.fld .cntCfg 0 47 32) = 0) :
    s.coming State.refreshDue = true := by
  unfold State.coming
  exact State.refreshDue_on h hsince hk

/-- A due dump that is skipped: counted, once for the boundary (17 R502). -/
theorem State.skipDump_spec {s : State} (h : s.cnt.skipDone = false) :
    s.skipDump.cnt = { s.cnt with skipped := satAdd 16 s.cnt.skipped 1, skipDone := true }
      ∧ s.skipDump.fld .cntCicadaCtrl 0 31 16 = Nat.min 65535 (s.fld .cntCicadaCtrl 0 31 16 + 1)
      ∧ s.skipDump.mem = s.mem ∧ s.skipDump.beat = s.beat := by
  have heq : s.skipDump = { s.bump .cntCicadaCtrl 0 31 16 1 with
      cnt := { s.cnt with skipped := satAdd 16 s.cnt.skipped 1, skipDone := true } } := by simp [State.skipDump, h]
  rw [heq]
  exact ⟨rfl, s.fld_bump .cntCicadaCtrl 0 16 1 (hi := 31) (by omega), rfl, rfl⟩

/-- A dump that ends in the region: its slot and its number (17 R503 to R505). -/
theorem State.dumpComplete_spec {s : State} {d : Dump} (hd : s.cnt.dump = some d) (hring : d.ring = none)
    (hready : s.ddrReady = true) (hseq : d.seq < 2 ^ 32) :
    s.dumpComplete.pending = s.pending ∧ s.dumpComplete.cnt = { s.cnt with dump := none }
      ∧ s.dumpComplete.fld .cntCicadaCtrl 0 63 32 = d.seq
      ∧ (∀ a, a < s.slotBase d ∨ s.slotBase d + 0x300000 ≤ a →
          memGet s.dumpComplete.mem.spine a = memGet s.mem.spine a)
      ∧ memWord s.dumpComplete.mem.spine (s.slotBase d) = at_ 32 0x43494341 ||| at_ 16 1 ||| at_ 1 d.sections
      ∧ s.dumpComplete.mem.near = s.mem.near
      ∧ ∀ j m, j.off m / 8 ≠ RegKind.cntCicadaCtrl.off 0 / 8 → s.dumpComplete.reg j m = s.reg j m := by
  obtain ⟨⟨hframe, hout⟩, hword⟩ := s.dumpToSpine_spec d hready
  rw [State.dumpComplete_region hd hring]
  generalize s.dumpToSpine d = t at *
  have hregs : t.regs = s.regs := by rw [hframe]
  have hcnt : t.cnt = s.cnt := by rw [hframe]
  have hpend : t.pending = s.pending := by rw [hframe]
  have hnear : t.mem.near = s.mem.near := by rw [hframe]
  refine ⟨hpend, by rw [hcnt], ?_, hout, hword, hnear, fun j m hj => ?_⟩
  · have hfld : (t.setFld .cntCicadaCtrl 0 63 32 d.seq).fld .cntCicadaCtrl 0 63 32 = d.seq % 2 ^ 32 :=
      State.fld_setFld t .cntCicadaCtrl 0 32 d.seq (by omega)
    rwa [Nat.mod_eq_of_lt hseq] at hfld
  · have hreg : (t.setFld .cntCicadaCtrl 0 63 32 d.seq).reg j m = t.reg j m := t.reg_setFld_other _ _ _ _ _ _ _ hj
    have hold : t.reg j m = s.reg j m := by rw [hframe]; rfl
    exact hreg.trans hold

/-- Settles O30: the causes of snapshots and dumps at their boundary, and the end of a dump into the region. -/
theorem snapshotsAndDumps : Obligations.SnapshotsAndDumps := by
  unfold Obligations.SnapshotsAndDumps
  intro s hlive
  refine ⟨fun hoff => ?_, fun hon hsince hk => ?_, fun hon hdone hsince hk => ?_, fun hu hsince hk => ?_,
    fun hu hdone hsince hk hd ht => ?_, fun hdef hd => ?_, fun hnot => ?_, fun d hd hring hready _ hseq _ => ?_⟩
  · have hrun := run_call (i := .cicadaPeriodic) rfl hlive (due := fun s => s.coming State.periodicDue)
      (State.coming_periodicDue_off hoff)
    rw [State.call_early] at hrun
    exact ⟨hrun, State.cicadaPeriodic_off hoff⟩
  · exact run_call (i := .cicadaPeriodic) rfl hlive (due := fun s => s.coming State.periodicDue)
      (State.coming_periodicDue_on hon hsince hk)
  · have hdue := State.periodicDue_on hon hsince hk
    rw [State.cicadaPeriodic_due hdone hdue]
    refine ⟨fun hd ht hhost hregion => ?_, fun d hd hbc hskip => ?_⟩
    · rw [State.dumpCause_begins hd ht hhost hregion]
      exact ⟨s.regionDump, rfl, rfl, rfl, rfl, rfl, rfl, rfl⟩
    · obtain ⟨hcnt, hfld, hmem, hbeat⟩ := State.skipDump_spec hskip
      rw [State.dumpCause_skips hd hbc]
      exact ⟨by rw [hcnt]; exact hd, by rw [hcnt], by rw [hcnt]; rfl, hfld, hmem, hbeat⟩
  · exact run_call (i := .userRefresh) rfl hlive (due := fun s => s.coming State.refreshDue)
      (State.coming_refreshDue_on hu hsince hk)
  · exact State.userRefresh_due hdone (State.refreshDue_on hu hsince hk) hd ht
  · refine ⟨run_call (i := .deferredSnapshot) rfl hlive (due := State.deferredDue) ?_, State.deferredSnap_due hdef hd⟩
    simp [State.deferredDue, hdef, hd]
  · have hdue : s.deferredDue = false := by
      rcases hnot with h | h
      · simp [State.deferredDue, h]
      · simp [State.deferredDue, ← Option.not_isSome, h]
    have hrun := run_call (i := .deferredSnapshot) rfl hlive hdue
    rwa [State.call_early] at hrun
  · obtain ⟨hpend, h⟩ := State.dumpComplete_spec hd hring hready hseq
    exact ⟨s.dumpComplete, run_live_eq (i := .dumpComplete) rfl hlive rfl hpend, h⟩

end Sys2Proof.Machine

/-! ## Triggers (16 R473 to R475) -/

namespace Sys2Proof.Machine

section
variable {s : State} {n now : Nat}

/-- A due trigger that does not repeat, disarmed and counted; `late` says that its target lies more than a beat back. -/
def State.trigSpent (s : State) (n : Nat) (late : Bool) : State :=
  let u := if late then s.setFlag .timeTrigCtl n 61 true else s
  (u.setFld .timeTrigCnt n 63 32 (u.fld .timeTrigCnt n 63 32 + 1)).setTrig n none

/-- What the action of a trigger does (16 R474). -/
def State.trigAct (s : State) (n action arg : Nat) : State :=
  if action = 1 then s.sendVector arg
  else if action = 3 then s.emit .pulse
  else if action = 4 then s.raise .trigger [n, arg]
  else s

/-- A field reads as before where a register of another kind is written. -/
theorem State.fld_setFld_kind (s : State) {k j : RegKind} (h : j ≠ k) {n m : Nat} (hn : n < k.total) (hm : m < j.total)
    (hi lo v hi' lo' : Nat) : (s.setFld k n hi lo v).fld j m hi' lo' = s.fld j m hi' lo' :=
  congrArg (bits · hi' lo') (s.reg_setReg_kind h hn hm _)

/-- The late mark of a trigger is apart from its other fields (16 R486). -/
theorem State.fld_lateMark (s : State) (p : Prop) [Decidable p] {hi lo : Nat} (h : hi < 61 ∨ 61 < lo) :
    (if p then s.setFlag .timeTrigCtl n 61 true else s).fld .timeTrigCtl n hi lo = s.fld .timeTrigCtl n hi lo := by
  split
  · exact s.fld_setFld_other .timeTrigCtl n _ (by omega)
  · rfl

theorem State.trigFire_due (hn : n < 64) (hdue : s.trigDue n now = true) (hp : s.trigPeriod n = 0) :
    ∃ late, s.trigFire n now
      = (s.trigSpent n late).trigAct n (s.fld .timeTrigCtl n 60 58) (s.fld .timeTrigCtl n 57 47) := by
  unfold State.trigDue at hdue
  unfold State.trigFire
  cases hat : s.trigAt n with
  | none => simp [hat] at hdue
  | some t =>
    simp only [hat] at hdue ⊢
    refine ⟨decide (t + 256 ≤ now / 256 * 256), ?_⟩
    have hfree : ∀ v, ((if t + 256 ≤ now / 256 * 256 then s.setFlag .timeTrigCtl n 61 true else s).setFld .timeTrigCnt n 63 32
        v).trigPeriod n = 0 := by
      intro v
      rw [State.trigPeriod, State.fld_setFld_kind _ (by decide) hn hn, s.fld_lateMark _ (by omega)]
      exact hp
    simp only [hdue, Bool.not_true, Bool.false_eq_true, if_false, hfree, if_true]
    simp only [State.trigSpent, State.trigAct, decide_eq_true_eq]

/-- A trigger that has fired is disarmed, and counted modulo 2^32. -/
theorem State.trigSpent_spec (hn : n < 64) (s : State) (late : Bool) {t : State} (ht : t = s.trigSpent n late) :
    (∀ m, t.trigAt m = if m = n then none else s.trigAt m)
      ∧ t.fld .timeTrigCnt n 63 32 = (s.fld .timeTrigCnt n 63 32 + 1) % 2 ^ 32
      ∧ t.fld .timeTrigCnt n 31 16 = s.fld .timeTrigCnt n 31 16
      ∧ (∀ j m, j.off m / 8 ≠ RegKind.timeTrigCnt.off n / 8 → j.off m / 8 ≠ RegKind.timeTrigCtl.off n / 8 →
          t.reg j m = s.reg j m)
      ∧ t = { s with regs := t.regs, time := t.time } := by
  generalize hu : (if late then s.setFlag .timeTrigCtl n 61 true else s) = u
  have hcnt : ∀ hi lo, u.fld .timeTrigCnt n hi lo = s.fld .timeTrigCnt n hi lo := by
    intro hi lo
    subst hu
    cases late with
    | false => rfl
    | true => exact State.fld_setFld_kind s (by decide) hn hn ..
  have hreg : ∀ j m, j.off m / 8 ≠ RegKind.timeTrigCtl.off n / 8 → u.reg j m = s.reg j m := by
    intro j m hj
    subst hu
    cases late with
    | false => rfl
    | true => exact s.reg_setFlag_other _ _ _ _ _ _ hj
  have hrest : u = { s with regs := u.regs } := by
    subst hu
    cases late <;> rfl
  have ht' : t = (u.setFld .timeTrigCnt n 63 32 (u.fld .timeTrigCnt n 63 32 + 1)).setTrig n none := by
    rw [ht, State.trigSpent, ← hu]
  subst ht'
  refine ⟨fun m => ?_, ?_, ?_, fun j m hj hj' => ?_, ?_⟩
  · have hat : s.trigAt m = u.trigAt m := by rw [hrest]; rfl
    rw [hat]
    exact SMap.get_set none u.time.armed n m none
  · rw [← hcnt 63 32]
    exact u.fld_setFld .timeTrigCnt n 32 _ (by omega)
  · rw [← hcnt 31 16]
    exact u.fld_setFld_other .timeTrigCnt n _ (by omega)
  · rw [← hreg j m hj']
    exact u.reg_setFld_other _ _ _ _ _ _ _ hj
  · rw [hrest]
    rfl

/-- An action sends what it names, and changes nothing but the outputs and the vectors that wait (16 R474). -/
theorem State.trigAct_spec (s : State) (n a arg : Nat) {t : State} (ht : t = s.trigAct n a arg) :
    t = { s with host := t.host, out := t.out }
      ∧ (a = 0 ∨ a = 2 → t.out = s.out) ∧ (a = 3 → t.out = s.out ++ [.pulse])
      ∧ (a = 4 → t.out = s.out ++ [.event .trigger [n, arg]])
      ∧ (a = 1 → (s.msix arg).mask = false → s.host.funcMask = false →
          t.out = s.out ++ [.msix arg (s.msix arg).addr (s.msix arg).data]) := by
  subst ht
  unfold State.trigAct
  split
  case isTrue h1 =>
    have hsend := s.sendVector_spec arg
    refine ⟨?_, by omega, by omega, by omega, fun _ hm hf => ?_⟩
    · rw [hsend]
    · simp [State.sendVector, hm, hf, State.setPba, State.emit]
  split
  case isTrue h3 => exact ⟨rfl, by omega, fun _ => rfl, by omega, by omega⟩
  split
  case isTrue h4 => exact ⟨rfl, by omega, by omega, fun _ => rfl, by omega⟩
  case isFalse h1 h3 h4 => exact ⟨rfl, fun _ => rfl, by omega, by omega, by omega⟩

/-- A due trigger with action 2 asks for a dump, and nothing else (16 R474). -/
theorem State.trigDump_due (h : s.trigDue n now = true) : s.trigDump n now
    = { s with cnt := { s.cnt with wantDump := s.cnt.wantDump || decide (s.fld .timeTrigCtl n 60 58 = 2) } } := by
  unfold State.trigDump
  by_cases ha : s.fld .timeTrigCtl n 60 58 = 2 <;> simp [h, ha]

/-- Settles O27: the call for the coming boundary, and the firing there of a trigger that does not repeat. -/
theorem triggersFireOnce : Obligations.TriggersFireOnce := by
  unfold Obligations.TriggersFireOnce
  intro s n hlive hn
  have hwf : (Instr.triggerFire n).wellFormed = true := by simpa [Instr.wellFormed] using hn
  refine ⟨fun h => ?_, fun h => ?_, fun now hdue hp t ht => ?_⟩
  · have hrun := run_call hwf hlive (due := fun s => s.trigDue n s.comingNs) h
    rwa [State.call_early] at hrun
  · exact run_call hwf hlive (due := fun s => s.trigDue n s.comingNs) h
  · rw [State.trigDump_due hdue] at ht
    obtain ⟨late, hfire⟩ := State.trigFire_due (s := { s with cnt := { s.cnt with
      wantDump := s.cnt.wantDump || decide (s.fld .timeTrigCtl n 60 58 = 2) } }) hn hdue hp
    rw [hfire] at ht
    obtain ⟨hat, hcnt, hmiss, hreg, hspent⟩ := State.trigSpent_spec hn _ late rfl
    obtain ⟨hact, hnone, hpulse, hevent, hmsix⟩ := State.trigAct_spec _ n _ _ ht
    generalize State.trigSpent _ n late = w at *
    have htime : t.time = w.time := by rw [hact]
    have hregs : t.regs = w.regs := by rw [hact]
    have hmem : t.mem = s.mem := by rw [hact, hspent]
    have hbeat : t.beat = s.beat := by rw [hact, hspent]
    have hwant : t.cnt.wantDump = (s.cnt.wantDump || decide (s.fld .timeTrigCtl n 60 58 = 2)) := by rw [hact, hspent]
    have hout : w.out = s.out := by rw [hspent]
    have hhost : w.host = s.host := by rw [hspent]
    rw [hout] at hnone hpulse hevent hmsix
    rw [hhost, State.msix, hhost] at hmsix
    have hat' : ∀ m, t.trigAt m = if m = n then none else s.trigAt m := fun m => by
      rw [State.trigAt, htime]
      exact hat m
    have hreg' : ∀ j m, t.reg j m = w.reg j m := fun j m => by
      rw [State.reg, hregs]
      rfl
    refine ⟨(hat' n).trans (if_pos rfl), fun m hm => (hat' m).trans (if_neg hm), ?_, ?_, fun j m hj hj' => ?_, hmem, hbeat, hwant,
      hnone, hpulse, hevent, hmsix⟩
    · exact (congrArg (bits · 63 32) (hreg' .timeTrigCnt n)).trans hcnt
    · exact (congrArg (bits · 31 16) (hreg' .timeTrigCnt n)).trans hmiss
    · exact (hreg' j m).trans (hreg j m hj hj')
end

end Sys2Proof.Machine

/-! ## The device-to-host rings (18 R531 to R537) -/

namespace Sys2Proof.Machine

section
variable {s : State} {r : Nat}

theorem State.ring_setRing (s : State) (r : Nat) (f : D2hRing → D2hRing) (q : Nat) :
    (s.setRing r f).ring q = if q = r then f (s.ring r) else s.ring q :=
  SMap.get_upd ({} : D2hRing) s.host.d2h r q f

@[simp] theorem State.ring_setRing_same (s : State) (r : Nat) (f : D2hRing → D2hRing) :
    (s.setRing r f).ring r = f (s.ring r) := by rw [State.ring_setRing, if_pos rfl]

@[simp] theorem State.stored_setRing (s : State) (r : Nat) (f : D2hRing → D2hRing) (i : Nat) :
    (s.setRing r f).stored i = s.stored i := rfl

@[simp] theorem State.ring_putStored (s : State) (i : Nat) (x : Stored) (q : Nat) : (s.putStored i x).ring q = s.ring q := rfl

theorem State.stored_putStored (s : State) (i : Nat) (x : Stored) (j : Nat) :
    (s.putStored i x).stored j = if j = i then x else s.stored j :=
  SMap.get_set Stored.none s.host.sram i j x

@[simp] theorem State.ringSlot_setRing (s : State) (r : Nat) (f : D2hRing → D2hRing) (q v : Nat) :
    (s.setRing r f).ringSlot q v = s.ringSlot q v := rfl

@[simp] theorem State.ringNext_setRing (s : State) (r : Nat) (f : D2hRing → D2hRing) (q v : Nat) :
    (s.setRing r f).ringNext q v = s.ringNext q v := rfl

@[simp] theorem State.ringSlot_putStored (s : State) (i : Nat) (x : Stored) (q v : Nat) :
    (s.putStored i x).ringSlot q v = s.ringSlot q v := rfl

@[simp] theorem State.ringNext_putStored (s : State) (i : Nat) (x : Stored) (q v : Nat) :
    (s.putStored i x).ringNext q v = s.ringNext q v := rfl

/-- The count of lost items is apart from the placement of its ring (18 R537). -/
theorem State.ringLg_lost (s : State) (r n : Nat) : (s.bump .hostD2hCfg r 51 36 n).ringLg r = s.ringLg r := by
  rw [State.ringLg, State.fld_bump_other _ _ _ _ (by omega), State.ringLg]

@[simp] theorem State.ringNext_lost (s : State) (r n v : Nat) :
    (s.bump .hostD2hCfg r 51 36 n).ringNext r v = s.ringNext r v := by
  rw [State.ringNext, State.ringLg_lost, State.ringNext]

@[simp] theorem State.ringSlot_lost (s : State) (r n v : Nat) :
    (s.bump .hostD2hCfg r 51 36 n).ringSlot r v = s.ringSlot r v := by
  rw [State.ringSlot, State.ringLg_lost, State.fld_bump_other _ _ _ _ (by omega), State.ringSlot]

@[simp] theorem State.ring_bump (s : State) (k : RegKind) (i hi lo n q : Nat) : (s.bump k i hi lo n).ring q = s.ring q := rfl

@[simp] theorem State.stored_bump (s : State) (k : RegKind) (i hi lo n j : Nat) :
    (s.bump k i hi lo n).stored j = s.stored j := rfl

/-- What a ring's placement says depends on the registers alone. -/
theorem State.fld_congr {s t : State} (h : t.regs = s.regs) (k : RegKind) (i hi lo : Nat) : t.fld k i hi lo = s.fld k i hi lo := by
  rw [State.fld, State.reg, h]
  rfl

theorem State.ringSlot_congr {s t : State} (h : t.regs = s.regs) (r v : Nat) : t.ringSlot r v = s.ringSlot r v := by
  simp only [State.ringSlot, State.ringLg, State.fld_congr h]

theorem State.ringNext_congr {s t : State} (h : t.regs = s.regs) (r v : Nat) : t.ringNext r v = s.ringNext r v := by
  simp only [State.ringNext, State.ringLg, State.fld_congr h]

theorem State.ringShed_room (h : s.ringFull r = false) : s.ringShed r = s := by simp [State.ringShed, h]

/-- A full ring loses its oldest item (18 R534). -/
theorem State.ringShed_full (h : s.ringFull r = true) : s.ringShed r =
    let u := (s.bump .hostD2hCfg r 51 36 1).setRing r fun g => { g with rd := s.ringNext r g.rd }
    let i := s.ringSlot r (s.ringNext r (s.ring r).rd)
    if (s.stored (s.ringSlot r (s.ring r).rd)).last then u.setRing r D2hRing.lessPkt
    else u.putStored i { s.stored i with brk := true } := by
  unfold State.ringShed
  rw [if_pos h]
  simp

theorem State.ringShed_spec (h : s.ringFull r = true) {t : State} (ht : t = s.ringShed r) :
    (t.ring r).wr = (s.ring r).wr ∧ (t.ring r).rd = s.ringNext r (s.ring r).rd
      ∧ (t.ring r).pkts
        = (if (s.stored (s.ringSlot r (s.ring r).rd)).last then (s.ring r).pkts - 1 else (s.ring r).pkts)
      ∧ (∀ i, t.stored i =
          (if (s.stored (s.ringSlot r (s.ring r).rd)).last = false ∧ i = s.ringSlot r (s.ringNext r (s.ring r).rd) then
            { s.stored i with brk := true } else s.stored i))
      ∧ t.regs = (s.bump .hostD2hCfg r 51 36 1).regs := by
  rw [State.ringShed_full h] at ht
  cases hlast : (s.stored (s.ringSlot r (s.ring r).rd)).last with
  | true =>
    simp only [hlast, if_true] at ht
    subst ht
    simp [D2hRing.lessPkt]
  | false =>
    simp only [hlast, Bool.false_eq_true, if_false] at ht
    subst ht
    refine ⟨by simp, by simp, by simp, fun i => ?_, rfl⟩
    rw [State.stored_putStored]
    by_cases hi : i = s.ringSlot r (s.ringNext r (s.ring r).rd) <;> simp [hi]

/-- An item is written at wr (18 R532). -/
theorem State.ringWrite_spec (s : State) (r : Nat) (x : Item) (last : Bool) {u t : State} (hu : u = s.ringShed r)
    (ht : t = s.ringWrite r x last) :
    t = (u.putStored (u.ringSlot r (u.ring r).wr) { item := x, last := last, brk := false }).setRing r fun g =>
      { g with wr := u.ringNext r g.wr, pkts := g.pkts + b2n last } := by
  subst hu
  rw [ht]
  rfl

/-- Settles O32: the item that a full ring loses, and the one that is written. -/
theorem fullRingDiscardsItsOldestItem : Obligations.FullRingDiscardsItsOldestItem := by
  unfold Obligations.FullRingDiscardsItsOldestItem
  refine ⟨fun s r x last hr hfull hrd hwr => ?_, fun s r x y l => ⟨rfl, rfl⟩⟩
  intro t old
  have ht := s.ringWrite_spec r x last rfl (t := t) rfl
  obtain ⟨hwr', hrd', hpkts', hstored, hregs⟩ := State.ringShed_spec hfull rfl
  generalize s.ringShed r = u at *
  have hslot : ∀ v, u.ringSlot r v = s.ringSlot r v := fun v =>
    (State.ringSlot_congr hregs r v).trans (s.ringSlot_lost r 1 v)
  have hnext : ∀ v, u.ringNext r v = s.ringNext r v := fun v =>
    (State.ringNext_congr hregs r v).trans (s.ringNext_lost r 1 v)
  have hlost : u.fld .hostD2hCfg r 51 36 = Nat.min 65535 (s.fld .hostD2hCfg r 51 36 + 1) := by
    rw [State.fld_congr hregs]
    exact s.fld_bump .hostD2hCfg r 36 1 (hi := 51) (by omega)
  have hat : ∀ i, t.stored i = if i = s.ringSlot r (s.ring r).wr then { item := x, last := last, brk := false } else u.stored i := by
    intro i
    rw [ht, State.stored_setRing, State.stored_putStored, hslot, hwr']
  refine ⟨?_, ?_, ?_, ?_, (hat _).trans (if_pos rfl), fun i hi => ?_⟩
  · rw [ht, State.ring_setRing_same]
    exact hrd'
  · rw [ht, State.ring_setRing_same, hnext]
    exact congrArg (s.ringNext r) hwr'
  · rw [ht]
    exact hlost
  · rw [ht, State.ring_setRing_same]
    exact congrArg (· + b2n last) hpkts'
  · rw [hat, if_neg hi]
    exact hstored i
end

end Sys2Proof.Machine

/-! ## Packets, pops, placement and interrupts of the device-to-host rings (18 R520, R531 to R539) -/

namespace Sys2Proof.Machine

section
variable {s : State} {r : Nat}

theorem State.ring_setPba (s : State) (v : Nat) (b : Bool) (q : Nat) : (s.setPba v b).ring q = s.ring q := rfl

theorem State.ring_emit (s : State) (e : OutEv) (q : Nat) : (s.emit e).ring q = s.ring q := rfl

theorem State.ringIrq_off (h : s.flag .hostD2hIrq r 63 = false) : s.ringIrq r = s := by simp [State.ringIrq, h]

/-- An armed ring whose condition holds sends its vector and disarms (18 R539). -/
theorem State.ringIrq_sends (hen : s.flag .hostD2hIrq r 63 = true) (harm : (s.ring r).armed = true)
    (hcond : s.ringCond r = true) : s.ringIrq r
      = (s.setRing r fun g => { g with armed := false }).sendVector (s.fld .hostD2hIrq r 58 48) := by
  simp [State.ringIrq, hen, harm, hcond]

/-- A vector that neither its entry nor the function masks is sent (18 R520). -/
theorem State.sendVector_unmasked {v : Nat} (hm : (s.msix v).mask = false) (hf : s.host.funcMask = false) :
    s.sendVector v = (s.setPba v false).emit (.msix v (s.msix v).addr (s.msix v).data) := by
  simp [State.sendVector, hm, hf]

theorem State.packetWrite_first {p : Nat × List Item} {l : List (Nat × List Item)} (h : s.host.outbox = p :: l) :
    s.packetWrite p.1 =
      let u : State := { s with host := { s.host with outbox := l } }
      if s.flag .hostD2hCfg p.1 63 then (u.ringItems p.1 p.2).ringIrq p.1
      else u.bump .hostD2hCfg p.1 51 36 p.2.length := by
  unfold State.packetWrite
  simp [h, dropFirst]
  rfl

/-- Fields that software does not write are as they were. -/
theorem State.fld_putRw_other (s : State) (k : RegKind) (i : Nat) (v : Word) {hi lo : Nat}
    (h : ∀ j < hi + 1 - lo, k.rwMask.getLsbD (lo + j) = false) : (s.putRw k i v).fld k i hi lo = s.fld k i hi lo := by
  apply Nat.eq_of_testBit_eq
  intro j
  rw [State.fld, State.fld, State.reg_putRw, testBit_bits, testBit_bits]
  by_cases hj : j < hi + 1 - lo
  · rw [BitVec.getLsbD_or, BitVec.getLsbD_and, BitVec.getLsbD_and, BitVec.getLsbD_not, h j hj, Bool.and_false, Bool.or_false]
    by_cases h64 : lo + j < 64
    · rw [decide_eq_true h64, Bool.not_false, Bool.and_self, Bool.and_true]
    · rw [BitVec.getLsbD_of_ge _ _ (Nat.le_of_not_lt h64), Bool.false_and]
  · simp [hj]

/-- A packet of one item for an enabled ring with room (18 R532). -/
theorem State.packetWrite_item {x : Item} {l : List (Nat × List Item)} (h : s.host.outbox = (r, [x]) :: l)
    (hen : s.flag .hostD2hCfg r 63 = true) (hroom : s.ringFull r = false) (hirq : s.flag .hostD2hIrq r 63 = false) :
    s.packetWrite r
      = (({ s with host := { s.host with outbox := l } } : State).putStored (s.ringSlot r (s.ring r).wr)
          { item := x, last := true, brk := false }).setRing r fun g =>
            { g with wr := s.ringNext r g.wr, pkts := g.pkts + 1 } := by
  have hwrite := State.packetWrite_first h
  rw [if_pos hen] at hwrite
  rw [hwrite]
  generalize hu : ({ s with host := { s.host with outbox := l } } : State) = u
  have hshed : u.ringShed r = u := by
    subst hu
    exact State.ringShed_room hroom
  have hitem := u.ringWrite_spec r x true hshed.symm rfl
  have hoff : (u.ringWrite r x true).flag .hostD2hIrq r 63 = false := by
    rw [hitem]
    subst hu
    exact hirq
  have hone : u.ringItems r [x] = u.ringWrite r x true := rfl
  rw [hone, State.ringIrq_off hoff, hitem]
  subst hu
  rfl

/-- A pop of a ring without an interrupt (18 R533). -/
theorem State.ringPop_empty (h : (s.ring r).pkts = 0) (hirq : s.flag .hostD2hIrq r 63 = false) (pois : Nat) :
    s.ringPop r pois
      = (s.setRing r fun g => { g with cap := [0, 0, 0, 0, 0] }).setRing r fun g => { g with armed := true } := by
  unfold State.ringPop
  rw [if_pos h]
  exact State.ringIrq_off hirq

theorem State.ringPop_item (h : (s.ring r).pkts ≠ 0) (hirq : s.flag .hostD2hIrq r 63 = false) (pois : Nat) {x : Stored}
    (hx : s.stored (s.ringSlot r (s.ring r).rd) = x) : s.ringPop r pois
      = (s.setRing r fun g => { (if x.last then g.lessPkt else g) with
          rd := s.ringNext r (s.ring r).rd
          cap := [x.item.w0, x.item.w1, x.item.w2, x.item.w3, tagWord x ||| at_ 56 (pois % 256)] }).setRing r
            fun g => { g with armed := true } := by
  unfold State.ringPop
  rw [if_neg h, hx]
  exact State.ringIrq_off hirq

/-- A write of the placement of a ring that does not flush it (18 R537). -/
theorem State.ringCfg_spec (s : State) (r : Nat) {v : Word} (hflush : bit v 62 = false) : s.ringCfg r v
    = if s.flag .hostD2hCfg r 63 && bit v 63 then s
      else if (s.putRw .hostD2hCfg r v).ringLg r = s.ringLg r ∧ (s.putRw .hostD2hCfg r v).fld .hostD2hCfg r 16 0
          = s.fld .hostD2hCfg r 16 0 then s.putRw .hostD2hCfg r v
      else (s.putRw .hostD2hCfg r v).setRing r fun g => { g with wr := 0, rd := 0, pkts := 0, nonzero := 0 } := by
  unfold State.ringCfg
  simp only [hflush, Bool.false_eq_true, if_false, Bool.and_eq_true, decide_eq_true_eq]

/-- A bit is a field of one bit. -/
theorem bits_one (w : Word) (n : Nat) : bits w n n = b2n (bit w n) := by
  apply Nat.eq_of_testBit_eq
  intro i
  rw [testBit_bits, bit]
  cases i with
  | zero => cases w.getLsbD n <;> simp [b2n]
  | succ i => cases w.getLsbD n <;> simp [b2n, Nat.testBit_succ]

theorem b2n_inj {a b : Bool} (h : b2n a = b2n b) : a = b := by
  cases a <;> cases b <;> simp_all [b2n]

theorem b2n_lt (b : Bool) : b2n b < 2 := by cases b <;> decide

/-- The word of a write of the placement (18 R537). -/
def placement (en : Bool) (lg base : Nat) : Word := at_ 63 (b2n en) ||| at_ 52 lg ||| at_ 0 base

theorem bits_placement {lg base : Nat} (hlg : lg < 32) (hbase : base < 131072) (en : Bool) :
    bits (placement en lg base) 56 52 = lg ∧ bits (placement en lg base) 16 0 = base := by
  constructor
  · simp (disch := omega) only [placement, bits_or, bits_at_same, bits_at_above, bits_at_below, Nat.zero_or, Nat.or_zero]
  · simp (disch := omega) only [placement, bits_or, bits_at_same, bits_at_above, Nat.zero_or, Nat.or_zero]

theorem bit_placement {lg base : Nat} (hlg : lg < 32) (hbase : base < 131072) (en : Bool) :
    bit (placement en lg base) 63 = en ∧ bit (placement en lg base) 62 = false := by
  have hen := b2n_lt en
  constructor
  · apply b2n_inj
    rw [← bits_one]
    simp (disch := omega) only [placement, bits_or, bits_at_same, bits_at_below, Nat.or_zero]
  · apply b2n_inj
    rw [← bits_one]
    simp (disch := omega) only [placement, bits_or, bits_at_above, bits_at_below, Nat.or_zero]
    rfl

/-- A write of the placement that takes effect (18 R537). -/
theorem State.putPlacement_spec (s : State) (r : Nat) {lg base : Nat} (hlg : lg < 32) (hbase : base < 131072) (en : Bool)
    {t : State} (ht : t = s.putRw .hostD2hCfg r (placement en lg base)) :
    t.flag .hostD2hCfg r 63 = en ∧ t.fld .hostD2hCfg r 56 52 = lg ∧ t.fld .hostD2hCfg r 16 0 = base
      ∧ t.fld .hostD2hCfg r 51 36 = s.fld .hostD2hCfg r 51 36 ∧ t = { s with regs := t.regs } := by
  obtain ⟨hl, hb⟩ := bits_placement hlg hbase en
  subst ht
  have h63 : (s.putRw .hostD2hCfg r (placement en lg base)).fld .hostD2hCfg r 63 63 = bits (placement en lg base) 63 63 :=
    s.fld_putRw .hostD2hCfg r _ (by decide)
  have h56 : (s.putRw .hostD2hCfg r (placement en lg base)).fld .hostD2hCfg r 56 52 = bits (placement en lg base) 56 52 :=
    s.fld_putRw .hostD2hCfg r _ (by decide)
  have h16 : (s.putRw .hostD2hCfg r (placement en lg base)).fld .hostD2hCfg r 16 0 = bits (placement en lg base) 16 0 :=
    s.fld_putRw .hostD2hCfg r _ (by decide)
  have h51 : (s.putRw .hostD2hCfg r (placement en lg base)).fld .hostD2hCfg r 51 36 = s.fld .hostD2hCfg r 51 36 :=
    s.fld_putRw_other .hostD2hCfg r _ (by decide)
  refine ⟨b2n_inj ?_, h56.trans hl, h16.trans hb, h51, rfl⟩
  rw [State.fld, bits_one, bits_one, (bit_placement hlg hbase en).1] at h63
  exact h63
/-- A pop's tag word: the end and the break of the item, and what its words' poison reads (18 R540). -/
theorem tagWord_pois (x : Stored) {pois : Nat} (h : pois < 256) :
    tagWord x ||| at_ 56 (pois % 256) = at_ 56 pois ||| at_ 55 (b2n x.last) ||| at_ 54 (b2n x.brk) := by
  rw [Nat.mod_eq_of_lt h, tagWord, BitVec.or_comm, BitVec.or_assoc]

/-- A timed condition that holds at a boundary sends the vector and disarms (18 R539). -/
theorem State.ringBoundary_sends (hpkts : (s.ring r).pkts ≠ 0) (hh : s.fld .hostD2hIrq r 31 16 ≠ 0)
    (hle : s.fld .hostD2hIrq r 31 16 ≤ (s.ring r).nonzero + 1) (hen : s.flag .hostD2hIrq r 63 = true)
    (harm : (s.ring r).armed = true) (hf : s.host.funcMask = false)
    (hm : (s.msix (s.fld .hostD2hIrq r 58 48)).mask = false) :
    s.ringBoundary r
      = (((s.setRing r fun g => { g with nonzero := g.nonzero + 1 }).setRing r fun g => { g with armed := false }).setPba
          (s.fld .hostD2hIrq r 58 48) false).emit (.msix (s.fld .hostD2hIrq r 58 48)
            (s.msix (s.fld .hostD2hIrq r 58 48)).addr (s.msix (s.fld .hostD2hIrq r 58 48)).data) := by
  unfold State.ringBoundary
  rw [if_neg hpkts]
  have harm' : ((s.setRing r fun g => { g with nonzero := g.nonzero + 1 }).ring r).armed = true := by
    rw [State.ring_setRing_same]
    exact harm
  have hcond : (s.setRing r fun g => { g with nonzero := g.nonzero + 1 }).ringCond r = true := by
    have hfld : (s.setRing r fun g => { g with nonzero := g.nonzero + 1 }).fld .hostD2hIrq r 31 16 = s.fld .hostD2hIrq r 31 16 := rfl
    simp [State.ringCond, hfld, hpkts, hh, hle]
  rw [State.ringIrq_sends (s := s.setRing r fun g => { g with nonzero := g.nonzero + 1 }) hen harm' hcond]
  exact State.sendVector_unmasked hm hf

/-- A host's write of an entry sends what the entry holds pending (18 R520). -/
theorem State.unmask_entry (hf : s.host.funcMask = false) (v : Nat) (addr data : Word) {t : State}
    (ht : t = s.unmask (some v) addr data) :
    t.pending = s.pending ∧ t.msix v = { addr := addr, data := data, mask := false }
      ∧ SMap.get false t.host.pba v = false
      ∧ t.out = s.out ++ (if SMap.get false s.host.pba v then [.msix v addr data] else []) := by
  generalize hu : ({ s with host := { s.host with
    msix := SMap.set Msix.reset s.host.msix v { addr := addr, data := data, mask := false } } } : State) = u
  have hentry : u.msix v = { addr := addr, data := data, mask := false } := by
    subst hu
    exact SMap.get_set_same Msix.reset s.host.msix v _
  have hold : u.pending = s.pending ∧ u.out = s.out ∧ u.host.funcMask = false ∧ u.host.pba = s.host.pba := by
    subst hu
    exact ⟨rfl, rfl, hf, rfl⟩
  obtain ⟨hpend, hout, hfunc, hpba⟩ := hold
  have ht' : t = if SMap.get false s.host.pba v then u.sendVector v else u := by
    rw [ht, ← hu]
    rfl
  cases hwait : SMap.get false s.host.pba v with
  | true =>
    rw [hwait, if_pos rfl, State.sendVector_unmasked (by rw [hentry]) hfunc, hentry] at ht'
    subst ht'
    exact ⟨hpend, hentry, SMap.get_set_same false u.host.pba v false, by simp [State.emit, State.setPba, hout]⟩
  | false =>
    rw [hwait, if_neg Bool.false_ne_true] at ht'
    subst ht'
    exact ⟨hpend, hentry, by rw [hpba, hwait], by simp [hout]⟩

/-- Settles O33: packets, pops, flushes, placement, holdoffs and vectors. -/
theorem deviceToHostRings : Obligations.DeviceToHostRings := by
  unfold Obligations.DeviceToHostRings
  intro s r hlive hr
  have hwf : decide (r < 64) = true := decide_eq_true hr
  refine ⟨fun x l hbox hen hroom hirq => ?_, fun xs l hbox hoff => ?_, fun pois hpois hirq => ?_, ?_,
    fun en lg base hlg hbase => ?_, fun hh hpkts hle hen harm hf hm => ?_, fun harm => ?_, fun v addr data hv hf => ?_,
    fun addr data hpba => ?_⟩
  case refine_1 =>
    refine ⟨_, run_live_eq (i := .d2hPacketWrite r) hwf hlive (State.packetWrite_item hbox hen hroom hirq) rfl, rfl, ?_, ?_,
      rfl, rfl, rfl⟩
    · rw [State.stored_setRing, State.stored_putStored, if_pos rfl]
    · rw [State.ring_setRing_same]
      rfl
  case refine_2 =>
    have hwrite := State.packetWrite_first hbox
    rw [if_neg (by rw [hoff]; exact Bool.false_ne_true)] at hwrite
    refine ⟨_, run_live_eq (i := .d2hPacketWrite r) hwf hlive hwrite rfl, rfl, ?_⟩
    exact State.fld_bump _ .hostD2hCfg r 36 xs.length (hi := 51) (by omega)
  case refine_3 =>
    by_cases hpkts : (s.ring r).pkts = 0
    · refine ⟨_, run_live_eq (i := .d2hPop r pois) hwf hlive (State.ringPop_empty hpkts hirq pois) rfl, rfl, rfl, rfl,
        fun _ => ?_, fun x _ hne => absurd hpkts hne⟩
      simp [hpkts]
    · refine ⟨_, run_live_eq (i := .d2hPop r pois) hwf hlive (State.ringPop_item hpkts hirq pois rfl) rfl, rfl, rfl, rfl,
        fun h => absurd h hpkts, fun x hx _ => ?_⟩
      subst hx
      rw [tagWord_pois _ hpois]
      simp only [State.ring_setRing_same, true_and]
      split <;> rfl
  case refine_4 =>
    refine ⟨_, run_live_eq (i := .d2hFlush r) hwf hlive (f := fun s => s.ringFlush r) rfl rfl, ?_, fun q hq => ?_, rfl, rfl, rfl⟩
    · exact State.ring_setRing_same ..
    · rw [State.ringFlush, State.ring_setRing, if_neg hq]
  case refine_5 =>
    obtain ⟨h63, h62⟩ := bit_placement hlg hbase en
    have hwf' : (Instr.d2hCfgWrite r en lg base).wellFormed = true := by simp [Instr.wellFormed, hr, hlg, hbase]
    have hwrite : s.writeReg 0 false .hostD2hCfg r (placement en lg base) = s.ringCfg r (placement en lg base) :=
      State.writeReg_fields (by decide) rfl (by decide) s 0 false _
    have hcfg := s.ringCfg_spec r h62
    rw [h63] at hcfg
    refine ⟨fun hon hen => ?_, fun hfree => ?_⟩
    · rw [hon, hen, Bool.and_self, if_pos rfl] at hcfg
      subst hen
      exact run_live_eq hwf' hlive (hwrite.trans hcfg) rfl
    · have hwrites : (s.flag .hostD2hCfg r 63 && en) = false := by
        rcases hfree with h | h <;> simp [h]
      rw [hwrites, if_neg Bool.false_ne_true] at hcfg
      obtain ⟨hflag, hfld, hplace, hlost, hframe⟩ := s.putPlacement_spec r hlg hbase en rfl
      generalize s.putRw .hostD2hCfg r (placement en lg base) = u at *
      have hhost : u.host = s.host := by rw [hframe]
      have hsram : u.host.sram = s.host.sram := by rw [hhost]
      have hring : u.ring r = s.ring r := by rw [State.ring, hhost, State.ring]
      have hpend : u.pending = s.pending := by rw [hframe]
      split at hcfg
      case isTrue hsame =>
        refine ⟨u, run_live_eq hwf' hlive (hwrite.trans hcfg) hpend, hflag, hfld, hplace, hlost, hsram, by rw [hring],
          fun hne => absurd (hplace.symm.trans hsame.2) hne, fun _ _ => hhost⟩
      case isFalse hmoved =>
        refine ⟨_, run_live_eq hwf' hlive (hwrite.trans hcfg) hpend, hflag, hfld, hplace, hlost, hsram, ?_, fun _ => ?_, fun hb hl => absurd ⟨?_, hplace.trans hb⟩ hmoved⟩
        · rw [State.ring_setRing_same, hring]
        · rw [State.ring_setRing_same]
          exact ⟨rfl, rfl, rfl⟩
        · rw [State.ringLg, hfld, hl, State.ringLg]
  case refine_6 =>
    have hdue : s.holdoffDue r = true := by simp [State.holdoffDue, hh, hpkts, hle, hen, harm]
    rw [State.ringBoundary_sends hpkts hh hle hen harm hf hm]
    refine ⟨run_call (i := .d2hHoldoffExpiry r) hwf hlive (due := fun s => s.holdoffDue r) hdue, ?_, rfl, rfl⟩
    rw [State.ring_emit, State.ring_setPba, State.ring_setRing_same, State.ring_setRing_same]
  case refine_7 =>
    have hdue : s.holdoffDue r = false := by simp [State.holdoffDue, harm]
    have hrun := run_call (i := .d2hHoldoffExpiry r) hwf hlive (due := fun s => s.holdoffDue r) hdue
    rwa [State.call_early] at hrun
  case refine_8 =>
    obtain ⟨hpend, h⟩ := State.unmask_entry hf v addr data rfl
    exact ⟨_, run_live_eq (i := .vectorUnmask (some v) addr data) (decide_eq_true hv) hlive rfl hpend, h⟩
  case refine_9 =>
    refine run_live_eq (i := .vectorUnmask none addr data) rfl hlive ?_ rfl
    simp [State.unmask, State.sendPending, hpba]
end

end Sys2Proof.Machine

/-! ## DDR5, the PCIe link and a function reset (18 R521, R544 to R551) -/

namespace Sys2Proof.Machine

/-- Each entry of a list without repeats is changed once. -/
theorem get_foldl_upd {α : Type} [DecidableEq α] (d : α) (f : Nat → α → α) {l : List Nat} (hl : l.Nodup) (m : SMap α) (j : Nat) :
    SMap.get d (l.foldl (fun m c => SMap.upd d m c (f c)) m) j = if j ∈ l then f j (SMap.get d m j) else SMap.get d m j := by
  induction l generalizing m with
  | nil => simp
  | cons c l ih =>
    obtain ⟨hc, hl⟩ := List.nodup_cons.1 hl
    rw [List.foldl_cons, ih hl, SMap.get_upd]
    by_cases hjc : j = c
    · subst hjc
      simp [hc]
    · simp [hjc]

section
variable {s : State} {c : Nat}

theorem State.chan_setChans (s : State) (f : Nat → DdrChan → DdrChan) (hc : c < 8) :
    (s.setChans f).chan c = f c (s.chan c) := by
  have h := get_foldl_upd ({} : DdrChan) f (List.nodup_range (n := 8)) s.host.ddr c
  rw [if_pos (List.mem_range.2 hc)] at h
  exact h

/-- The word of a write that trains DDR5 (18 R548). -/
def trainWord (speed : Bool) : Word := at_ 63 1 ||| at_ 62 (b2n speed)

theorem bit_trainWord (speed : Bool) : bit (trainWord speed) 63 = true ∧ bit (trainWord speed) 62 = speed := by
  cases speed <;> decide

theorem State.flag_putRw (s : State) (k : RegKind) (i : Nat) (v : Word) {n : Nat} (h : k.rwMask.getLsbD n = true) :
    (s.putRw k i v).flag k i n = bit v n := by
  apply b2n_inj
  rw [State.flag, ← bits_one, ← bits_one]
  refine s.fld_putRw k i v fun j hj => ?_
  have hj0 : j = 0 := by omega
  rw [hj0]
  exact h

/-- A write of en while it is clear (18 R545). -/
theorem State.ddrCfg_starts (hoff : s.flag .hostDdrCfg 0 63 = false) {v : Word} (hv : bit v 63 = true) : s.ddrCfg v =
    let u := (s.putRw .hostDdrCfg 0 v).setChans fun _ c => { c with state := 1, failStep := 0 }
    { u with host := { u.host with ddrState := 1 } } := by
  unfold State.ddrCfg
  simp [hoff, hv]

/-- A write of en while it is set keeps speed (18 R548). -/
theorem State.ddrCfg_stands (hon : s.flag .hostDdrCfg 0 63 = true) {v : Word} (hv : bit v 63 = true) :
    s.ddrCfg v = s.putRw .hostDdrCfg 0 (setBit v 62 (s.flag .hostDdrCfg 0 62)) := by
  have h63 : bit (setBit v 62 (s.flag .hostDdrCfg 0 62)) 63 = true := by
    rw [setBit, bit_setBits, if_neg (by omega)]
    exact hv
  unfold State.ddrCfg
  simp [hon, h63]

/-- The result of a channel of which training says nothing. -/
def absentModule : ChannelResult := { present := false, cap := 0, ranks := 0, failStep := 1, temp := 0 }

/-- The step at which a channel fails, judged against all of them; 0 where it trained. -/
def chanStep (l : List ChannelResult) (c : Nat) : Nat := failStepOf l (l.getD c absentModule)

/-- What the end of training shows for a channel (18 R544, R549). -/
def DdrChan.trained (x : DdrChan) (r : ChannelResult) (step : Nat) : DdrChan :=
  { x with
    state := if step = 0 then 2 else 3, present := r.present, cap := r.cap, ranks := r.ranks,
    failStep := step, temp := r.temp, hot := decide (85 ≤ r.temp) }

/-- The end of training (18 R545). -/
theorem State.ddrDone_trains (h : s.host.ddrState = 1) (l : List ChannelResult) : s.ddrDone l =
    let u := s.setChans fun c x => x.trained (l.getD c absentModule) (chanStep l c)
    { u with host := { u.host with ddrState := if (List.range 8).all fun c => decide (chanStep l c = 0) then 2 else 3 } } := by
  unfold State.ddrDone
  rw [if_neg (by simp [h])]
  rfl

theorem State.ddrDone_chan (h : s.host.ddrState = 1) (l : List ChannelResult) (hc : c < 8) :
    (s.ddrDone l).chan c = (s.chan c).trained (l.getD c absentModule) (chanStep l c) := by
  rw [State.ddrDone_trains h]
  exact s.chan_setChans (fun c x => x.trained (l.getD c absentModule) (chanStep l c)) hc

/-- Where one channel fails, DDR5 is FAILED (18 R545). -/
theorem State.ddrDone_fails (h : s.host.ddrState = 1) {l : List ChannelResult} (hc : c < 8) (hstep : chanStep l c ≠ 0) :
    (s.ddrDone l).host.ddrState = 3 := by
  rw [State.ddrDone_trains h]
  refine if_neg fun hall => hstep ?_
  exact of_decide_eq_true (List.all_eq_true.1 hall c (List.mem_range.2 hc))

theorem State.ddrDone_ready (h : s.host.ddrState = 1) {l : List ChannelResult} (hall : ∀ c < 8, chanStep l c = 0) :
    (s.ddrDone l).host.ddrState = 2 := by
  rw [State.ddrDone_trains h]
  exact if_pos (List.all_eq_true.2 fun c hc => decide_eq_true (hall c (List.mem_range.1 hc)))

/-- Eight like modules that the part supports, each of which trained: no channel fails (18 R545). -/
theorem chanStep_like {cap ranks : Nat} (hfit : moduleFits ⟨true, cap, ranks, 0, 0⟩ = true) {temps : List Nat}
    (hlen : temps.length = 8) (hc : c < 8) :
    chanStep (temps.map fun x => ⟨true, cap, ranks, 0, x⟩) c = 0
      ∧ (temps.map fun x => (⟨true, cap, ranks, 0, x⟩ : ChannelResult)).getD c absentModule
        = ⟨true, cap, ranks, 0, temps.getD c 0⟩ := by
  have hget : (temps.map fun x => (⟨true, cap, ranks, 0, x⟩ : ChannelResult)).getD c absentModule
      = ⟨true, cap, ranks, 0, temps.getD c 0⟩ := by
    have hlt : c < temps.length := by omega
    simp [List.getD, hlt]
  have hfit' : ∀ x, moduleFits ⟨true, cap, ranks, 0, x⟩ = true := fun _ => hfit
  have hall : ((temps.map fun x => (⟨true, cap, ranks, 0, x⟩ : ChannelResult)).filter fun x =>
      x.present && decide (x.cap = cap) && decide (x.ranks = ranks)).length = 8 := by
    rw [List.filter_eq_self.2 (by simp), List.length_map, hlen]
  refine ⟨?_, hget⟩
  rw [chanStep, hget, failStepOf]
  simp [hfit', hall]

/-- A recalibration of a READY subchannel (18 R548). -/
theorem State.ddrRecal_ready (h : s.host.ddrState = 2) (c sub : Nat) : ∃ n, n ≤ 4 ∧ s.ddrRecal c sub
    = ({ s with free := s.free + 1 } : State).setChans fun i x =>
        if i ≠ c then x else if sub = 0 then { x with recalA := s.beat.bc + n } else { x with recalB := s.beat.bc + n } := by
  refine ⟨(s.choose 4).1, Nat.le_of_lt_succ (Nat.mod_lt _ (by decide)), ?_⟩
  unfold State.ddrRecal
  rw [if_neg (by simp [h])]
  rfl

/-- A key that a filter drops reads as the default. -/
theorem get_filter_dropped {α : Type} (d : α) (p : Nat × α → Bool) {k : Nat} (h : ∀ v, p (k, v) = false) (m : SMap α) :
    SMap.get d (m.filter p) k = d := by
  induction m with
  | nil => rfl
  | cons e m ih =>
    obtain ⟨j, v⟩ := e
    rw [List.filter_cons]
    by_cases hp : p (j, v) = true
    · have hkj : k ≠ j := by
        rintro rfl
        rw [h v] at hp
        cases hp
      rw [if_pos hp, SMap.get_cons, if_neg hkj, ih]
    · rw [if_neg hp, ih]

/-- Registers of the host block read as after reset once a function reset has ended (18 R551). -/
theorem get_filter_notHost (d : Word) (m : SMap Word) {k : Nat}
    (h : RegKind.off .hostCfg 0 / 8 ≤ k ∧ k < RegKind.off .pwrThermCfg 0 / 8) : SMap.get d (m.filter notHost) k = d :=
  get_filter_dropped d notHost (fun v => by simp [notHost, h.1, h.2]) m

/-- The registers of the rings, the pages and the peers stand in the host block. -/
theorem hostBlock_off {k : RegKind} (hk : k ∈ [RegKind.hostCmdCtl, .hostCmdIdx, .hostD2hCfg, .hostBar2Page, .hostMgmtPeer])
    {n : Nat} (hn : n < k.total) :
    RegKind.off .hostCfg 0 / 8 ≤ k.off n / 8 ∧ k.off n / 8 < RegKind.off .pwrThermCfg 0 / 8 := by
  have hbase : RegKind.off .hostCfg 0 ≤ k.row.base ∧ k.row.last + 8 ≤ RegKind.off .pwrThermCfg 0 := by
    have hall : ∀ j ∈ [RegKind.hostCmdCtl, .hostCmdIdx, .hostD2hCfg, .hostBar2Page, .hostMgmtPeer],
        RegKind.off .hostCfg 0 ≤ j.row.base ∧ j.row.last + 8 ≤ RegKind.off .pwrThermCfg 0 := by decide
    exact hall k hk
  have := k.base_le_off n
  have := RegKind.off_le_last hn
  omega

/-- A function reset with nothing of the host's in flight (18 R551). -/
theorem State.fnReset_idle (hload : s.stn.loadState ≠ 1) (hop : s.boot.opState ≠ 1) (hrom : s.romLooks = false) (down : Bool) :
    s.fnReset down = { s with
      host := { commits := s.host.commits, mgmtIn := [], speed := if down then 0 else s.host.speed,
                width := if down then 0 else s.host.width, flit := !down && s.host.flit },
      regs := { s.regs with eff := s.regs.eff.filter notHost,
                            pend := s.regs.pend.filter fun p => notHost (p.kind.off p.idx / 8, 0) } } := by
  unfold State.fnReset
  simp only [hload, decide_false, Bool.false_and, Bool.false_eq_true, if_false, hop, hrom]

/-- Settles O36: DDR5's training and recalibration, the link, and a function reset. -/
theorem ddrAndPcieLink : Obligations.DdrAndPcieLink := by
  unfold Obligations.DdrAndPcieLink
  intro s hlive
  refine ⟨fun speed hoff => ?_, fun speed hon => ?_, fun cap ranks temps hfit hlen htemps hst => ?_,
    fun l c hlen hc hwf hfail hst => ?_, fun c sub hc hsub hready => ?_, fun c temp hc htemp hpres => ?_,
    fun speed width flit hspeed hwidth => ?_, fun down hload hop hrom => ?_⟩
  case refine_1 =>
    obtain ⟨h63, h62⟩ := bit_trainWord speed
    refine ⟨_, run_live_eq (i := .ddrTrainStart speed) rfl hlive (State.ddrCfg_starts hoff h63) rfl, rfl, fun c hc => ?_, ?_, ?_,
      rfl, fun j m hj => ?_⟩
    · exact congrArg DdrChan.state ((s.putRw .hostDdrCfg 0 (trainWord speed)).chan_setChans
        (fun _ c => { c with state := 1, failStep := 0 }) hc)
    · exact (s.flag_putRw .hostDdrCfg 0 (trainWord speed) (by decide)).trans h63
    · exact (s.flag_putRw .hostDdrCfg 0 (trainWord speed) (by decide)).trans h62
    · exact s.reg_putRw_other .hostDdrCfg 0 (trainWord speed) j m hj
  case refine_2 =>
    refine ⟨_, run_live_eq (i := .ddrTrainStart speed) rfl hlive (State.ddrCfg_stands hon (bit_trainWord speed).1) rfl, rfl, ?_⟩
    exact (s.flag_putRw .hostDdrCfg 0 _ (by decide)).trans (bit_setBit_same (trainWord speed) _ (by decide))
  case refine_3 =>
    have hfits : moduleFits ⟨true, cap, ranks, 0, 0⟩ = true := by
      rcases hfit with ⟨rfl, rfl⟩ | ⟨rfl, rfl⟩ | ⟨rfl, rfl⟩ <;> decide
    have hwf : (Instr.ddrTrainDone (temps.map fun x => ⟨true, cap, ranks, 0, x⟩)).wellFormed = true := by
      have hsmall : cap < 256 ∧ ranks < 16 := by omega
      simpa [Instr.wellFormed, hsmall] using htemps
    have hstate : (s.ddrDone (temps.map fun x => ⟨true, cap, ranks, 0, x⟩)).host.ddrState = 2 :=
      State.ddrDone_ready hst fun c hc => (chanStep_like hfits hlen hc).1
    have hchan : ∀ c < 8, (s.ddrDone (temps.map fun x => ⟨true, cap, ranks, 0, x⟩)).chan c
        = (s.chan c).trained ⟨true, cap, ranks, 0, temps.getD c 0⟩ 0 := fun c hc => by
      obtain ⟨hstep, hget⟩ := chanStep_like hfits hlen hc
      rw [State.ddrDone_chan hst _ hc, hstep, hget]
    have hrest := State.ddrDone_trains hst (temps.map fun x => ⟨true, cap, ranks, 0, x⟩)
    refine ⟨_, run_live_eq hwf hlive rfl (by rw [hrest]; rfl), decide_eq_true hstate, fun c hc => ?_, ?_, ?_, ?_⟩
    · rw [hchan c hc]
      exact ⟨rfl, rfl, rfl⟩
    · have h0 : (SMap.get {} (s.ddrDone (temps.map fun x => ⟨true, cap, ranks, 0, x⟩)).host.ddr 0).cap = cap :=
        congrArg DdrChan.cap (hchan 0 (by decide))
      rw [State.spineSize, if_pos hstate, h0]
    · rw [hrest]
      rfl
    · rw [hrest]
      rfl
  case refine_4 =>
    obtain ⟨r, hr, hpres, hstep⟩ := hfail
    have hget : l.getD c absentModule = r := by simp [List.getD, hr]
    have hchan : chanStep l c = r.failStep := by
      rw [chanStep, hget, failStepOf]
      simp [hpres, hstep]
    have hwf : (Instr.ddrTrainDone l).wellFormed = true := List.all_eq_true.2 fun r hr => decide_eq_true (hwf r hr)
    have hstate : (s.ddrDone l).host.ddrState = 3 := State.ddrDone_fails hst hc (by rw [hchan]; exact hstep)
    have hrest := State.ddrDone_trains hst l
    have hshown := State.ddrDone_chan hst l hc
    rw [hchan, hget] at hshown
    refine ⟨_, run_live_eq hwf hlive rfl (by rw [hrest]; rfl), hstate, ?_, ?_, ?_, ?_, ?_⟩
    · rw [State.ddrReady, hstate]
      rfl
    · rw [State.spineSize, hstate]
      rfl
    · rw [hshown, DdrChan.trained]
      exact if_neg hstep
    · rw [hshown, hr]
      rfl
    · rw [hrest]
      rfl
  case refine_5 =>
    obtain ⟨n, hn, hrecal⟩ := State.ddrRecal_ready (of_decide_eq_true hready) c sub
    have hwf : (Instr.ddrRecal c sub).wellFormed = true := decide_eq_true ⟨hc, hsub⟩
    refine ⟨_, run_live_eq hwf hlive hrecal rfl, rfl, rfl, hready, ?_, ?_, fun d hd hdc => ?_⟩
    · rw [State.chan_setChans _ _ hc]
      by_cases h0 : sub = 0 <;> simp [h0]
    · rw [State.chan_setChans _ _ hc]
      by_cases h0 : sub = 0 <;> simp [h0, hn]
    · rw [State.chan_setChans _ _ hd, if_pos hdc]
      rfl
  case refine_6 =>
    have hwf : (Instr.moduleHotRefresh c temp).wellFormed = true := decide_eq_true ⟨hc, htemp⟩
    refine ⟨_, run_live_eq (f := fun s => s.hotRefresh c temp) hwf hlive rfl rfl, ?_, fun d hd hdc => ?_, rfl, rfl⟩
    · rw [State.hotRefresh, State.chan_setChans _ _ hc]
      simp [hpres]
    · rw [State.hotRefresh, State.chan_setChans _ _ hd]
      simp [hdc]
  case refine_7 =>
    exact run_live_eq (i := .pcieLinkTrained speed width flit) (decide_eq_true ⟨hspeed, hwidth⟩) hlive rfl rfl
  case refine_8 =>
    refine ⟨_, run_live_eq (i := .functionReset down) rfl hlive (State.fnReset_idle hload hop hrom down) rfl, rfl, rfl, rfl, rfl, rfl,
      rfl, rfl, fun k n hk hn => get_filter_notHost _ _ (hostBlock_off hk hn), rfl, rfl, rfl, rfl, rfl, rfl, rfl, rfl, rfl⟩
end

end Sys2Proof.Machine

/-! ## Command rings (18 R522 to R529) -/

namespace Sys2Proof.Machine

section
variable {s : State} {r : Nat}

theorem State.cring_setCring (s : State) (r : Nat) (f : CmdRing → CmdRing) : (s.setCring r f).cring r = f (s.cring r) :=
  SMap.get_upd_same ({} : CmdRing) s.host.cmd r f

/-- A ring enters ERROR; a vector may be sent, or held pending (18 R524). -/
theorem State.cringError_spec (s : State) (r err : Nat) {t : State} (ht : t = s.cringError r err) :
    t.cring r = { s.cring r with error := true, err := err }
      ∧ t = { s with host := { s.host with cmd := t.host.cmd, pba := t.host.pba }, out := t.out } := by
  have hring : (s.setCring r fun g => { g with error := true, err := err }).cring r
      = { s.cring r with error := true, err := err } := s.cring_setCring r _
  have hframe : (s.setCring r fun g => { g with error := true, err := err }) = { s with host := { s.host with
      cmd := (s.setCring r fun g => { g with error := true, err := err }).host.cmd } } := rfl
  have ht' : t = (s.setCring r fun g => { g with error := true, err := err }).sendVector (s.fld .hostCfg 0 42 32) := ht
  generalize (s.setCring r fun g => { g with error := true, err := err }) = u at *
  have hsend := u.sendVector_spec (s.fld .hostCfg 0 42 32)
  rw [← ht'] at hsend
  have hcmd : t.host.cmd = u.host.cmd := by rw [hsend]
  refine ⟨by rw [← hring, State.cring, hcmd, State.cring], ?_⟩
  rw [hsend, hframe]

/-- ci written back: what it reads and the rest of the ring are as they were (18 R523). -/
theorem State.writeBack_spec (s : State) (r : Nat) {t : State} (ht : t = s.writeBack r) :
    t.cring r = { s.cring r with wrote := (t.cring r).wrote, wbAt := (t.cring r).wbAt }
      ∧ t = { s with host := { s.host with cmd := t.host.cmd }, out := t.out } := by
  subst ht
  unfold State.writeBack
  dsimp only
  split
  · have hring : ((s.setCring r fun g => { g with wrote := g.ci, wbAt := s.beat.bc + 1 }).emit
        (.hostWrite (8 * s.fld .hostCmdCtl r 51 3) (at_ 0 (s.cring r).ci))).cring r
        = { s.cring r with wrote := (s.cring r).ci, wbAt := s.beat.bc + 1 } := s.cring_setCring r _
    exact ⟨by rw [hring], rfl⟩
  · exact ⟨rfl, rfl⟩

/-- ci moves past n words (18 R523). -/
theorem State.cringAdvance_spec (s : State) (r n : Nat) {t : State} (ht : t = s.cringAdvance r n) :
    (t.cring r).ci = ((s.cring r).ci + n) % 2 ^ 32 ∧ (t.cring r).held = (s.cring r).held
      ∧ t = { s with host := { s.host with cmd := t.host.cmd }, out := t.out } := by
  obtain ⟨hring, hframe⟩ := State.writeBack_spec _ r ht
  rw [State.cring_setCring] at hring
  refine ⟨by rw [hring], by rw [hring], ?_⟩
  rw [hframe]
  rfl

/-- The part of a ring's state that a doorbell does not write (18 R528). -/
theorem State.doorbell_cringLg (s : State) (hr : r < 64) (pi : Nat) :
    (s.setFld .hostCmdIdx r 63 32 pi).cringEn r = s.cringEn r ∧ (s.setFld .hostCmdIdx r 63 32 pi).cringLg r = s.cringLg r
      ∧ (s.setFld .hostCmdIdx r 63 32 pi).cring r = s.cring r := by
  have hen := s.reg_setReg_kind (k := .hostCmdIdx) (j := .hostCmdCtl) (by decide) (n := r) (m := r) hr hr
    (setBits (s.reg .hostCmdIdx r) 63 32 pi)
  have hlg := s.fld_setFld_kind (k := .hostCmdIdx) (j := .hostCmdBase) (by decide) (n := r) (m := r) hr hr 63 32 pi 4 0
  refine ⟨congrArg (bit · 63) hen, ?_, rfl⟩
  rw [State.cringLg, hlg, State.cringLg]

theorem State.ringPi_doorbell (s : State) (r : Nat) {pi : Nat} (hpi : pi < 2 ^ 32) :
    (s.setFld .hostCmdIdx r 63 32 pi).ringPi r = pi :=
  (s.fld_setFld .hostCmdIdx r 32 pi (hi := 63) (by omega)).trans (Nat.mod_eq_of_lt hpi)

/-- A ring that holds what waits, does not fetch or is in ERROR stands (18 R524). -/
theorem State.cringCheck_fits (h : s.cringEn r = false ∨ (s.cring r).error = true ∨ s.ringAvail r ≤ 2 ^ s.cringLg r) :
    s.cringCheck r = s := by
  unfold State.cringCheck
  rw [if_neg]
  rcases h with h | h | h
  · simp [h]
  · simp [h]
  · simp [Nat.not_lt.2 h]

theorem State.cringCheck_over (hen : s.cringEn r = true) (herr : (s.cring r).error = false)
    (hover : 2 ^ s.cringLg r < s.ringAvail r) : s.cringCheck r = s.cringError r 1 := by
  simp [State.cringCheck, hen, herr, hover]

/-- A fetch that ends on a ring that fetches (18 R523, R524). -/
theorem State.fetched_on (hen : s.cringEn r = true) (herr : (s.cring r).error = false) (hheld : (s.cring r).held = none)
    (havail : s.ringAvail r ≠ 0) (ws : List Word) (late : Bool) :
    s.fetched r ws .refused late = s.cringError r 2 ∧ s.fetched r ws .poisoned late = s.cringError r 4
      ∧ s.fetchTimeout r = s.cringError r 3 := by
  simp [State.fetched, State.fetchTimeout, hen, herr, hheld, havail]

/-- A program fetched whole that is no send descriptor (04 R111). -/
theorem State.fetched_program (hen : s.cringEn r = true) (herr : (s.cring r).error = false) (hheld : (s.cring r).held = none)
    (hflush : (s.cring r).flush = false) (hpost : s.postedAt r = none) {w0 w1 : Word} {code : List Word} (hdesc : bit w0 63 = false)
    (h1 : 1 ≤ code.length) (h2 : code.length ≤ 1024) (hn : bits w0 54 44 = code.length)
    (havail : code.length + 2 ≤ s.ringAvail r) (late : Bool) :
    s.fetched r (w0 :: w1 :: code) .data late = s.takeProg r (w0 :: w1 :: code) late none := by
  have hne : s.ringAvail r ≠ 0 := by omega
  have hsize : ¬ (code.length = 0 ∨ 1024 < code.length) := by omega
  have hfits : ¬ (s.ringAvail r < 2 + code.length ∨ (w0 :: w1 :: code).length < 2 + code.length) := by
    simp only [List.length_cons]
    omega
  unfold State.fetched
  simp only [hen, herr, hheld, hflush, hpost, hdesc, hn, hne, Bool.not_true, Bool.or_self, Bool.false_and, Option.isSome_none,
    decide_false, Bool.false_eq_true, if_false, Bool.or_eq_true, decide_eq_true_eq, if_neg hsize, if_neg hfits]

/-- A program passes the checks of 04 R111 and R112. -/
theorem State.takeProg_passes {w0 w1 : Word} {code : List Word} (hn : bits w0 54 44 = code.length)
    (hzero : headZero (w0 :: w1 :: code) = true) (hdef : ∀ w ∈ code, ctlDefined w = true)
    (hcost : code.foldl (fun n w => n + ctlCost w) 0 ≤ 8192) (cut : Bool) :
    s.takeProg r (w0 :: w1 :: code) cut none =
      let p := progOf r (w0 :: w1 :: code) cut none
      if p.atBeatEn && 0 < sdiff 32 p.atBeat s.beat.now then s.setCring r fun g => { g with held := some p }
      else (s.cringAdvance r p.words).commit { p with late := p.atBeatEn } := by
  have hcode : (progOf r (w0 :: w1 :: code) cut none).code = code := by
    have htake : code.take (bits w0 54 44) = code := by rw [hn, List.take_length]
    exact htake
  have hgood : (progOf r (w0 :: w1 :: code) cut none).badAt = none := by
    rw [CmdProg.badAt, hcode, List.findIdx?_eq_none_iff]
    intro w hw
    rw [hdef w hw]
    rfl
  have hcheap : ¬ 8192 < (progOf r (w0 :: w1 :: code) cut none).cost := by
    rw [CmdProg.cost, hcode]
    omega
  unfold State.takeProg
  simp only [hzero, hgood, if_neg hcheap, Bool.not_true, Bool.false_eq_true, if_false]
  rfl

/-- A program that commits: ci moves past it, and its descriptors are read (04 R112). -/
theorem State.commitPast_spec (s : State) (r n : Nat) (p : CmdProg) {t : State} (ht : t = (s.cringAdvance r n).commit p) :
    (∃ q, t.host.commits = s.host.commits ++ [q] ∧ q.code = p.code ∧ q.ring = p.ring ∧ q.tag = p.tag ∧ q.part = p.part
        ∧ q.irq = p.irq ∧ q.late = p.late)
      ∧ (t.cring r).ci = ((s.cring r).ci + n) % 2 ^ 32 ∧ (t.cring r).held = (s.cring r).held
      ∧ t = { s with host := { s.host with cmd := t.host.cmd, commits := t.host.commits }, out := t.out } := by
  obtain ⟨hci, hheld, hframe⟩ := s.cringAdvance_spec r n rfl
  generalize s.cringAdvance r n = u at *
  have hcommits : u.host.commits = s.host.commits := by rw [hframe]
  subst ht
  refine ⟨⟨{ p with descs := u.readDescs 0 p.code (List.replicate 16 0) }, ?_, rfl, rfl, rfl, rfl, rfl, rfl⟩, hci, hheld, ?_⟩
  · rw [← hcommits]
    rfl
  · rw [hframe]
    rfl

/-- A held program that is due commits, and the ring holds none (16 R476). -/
theorem State.releaseProg_due {p : CmdProg} (hheld : (s.cring r).held = some p) (hpost : s.postedAt r = none)
    (hdue : 0 ≤ sdiff 32 s.beat.now p.atBeat) : s.releaseProg r
      = ((s.setCring r fun g => { g with held := none }).cringAdvance r p.words).commit
          { p with late := decide (0 < sdiff 32 s.beat.now p.atBeat), cut := false } := by
  unfold State.releaseProg
  simp only [hheld, hpost, if_neg (Int.not_lt.2 hdue)]
  rfl

/-- A held program is due at the coming boundary where its beat has come there (16 R476). -/
theorem State.coming_releaseDue {p : CmdProg} (hheld : (s.cring r).held = some p) :
    s.coming (·.releaseDue r) = decide (0 ≤ sdiff 32 ((s.beat.now + 1) % 2 ^ 32) p.atBeat) := by
  have h : ∀ u : State, (u.cring r).held = some p → u.releaseDue r = decide (0 ≤ sdiff 32 u.beat.now p.atBeat) :=
    fun u hu => by simp only [State.releaseDue, hu]
  exact h _ hheld

theorem State.coming_releaseDue_none (hheld : (s.cring r).held = none) : s.coming (·.releaseDue r) = false := by
  have h : ∀ u : State, (u.cring r).held = none → u.releaseDue r = false := fun u hu => by simp only [State.releaseDue, hu]
  exact h _ hheld

/-- A flush of a held program (18 R525). -/
theorem State.cringFlush_held {p : CmdProg} (hheld : (s.cring r).held = some p) (hmgmt : p.mgmt = none) (hirq : p.irq = false)
    (hpost : s.postedAt r = none) : s.cringFlush r
      = ((s.post p.ring [s.doneItem p.ring p.tag 6 0xFFF 0 p.late]).setCring r fun g =>
          { g with held := none, ci := s.ringPi r }).writeBack r := by
  unfold State.cringFlush
  simp only [hheld, hpost, State.cmdDone, hmgmt, hirq]
  rfl

/-- The write that keeps a ring's control but for en: no flush (18 R527). -/
theorem cringCtlWord_bits (w : Word) (en : Bool) :
    bit (setBit (w &&& RegKind.hostCmdCtl.rwMask) 63 en) 62 = false ∧ bit (setBit (w &&& RegKind.hostCmdCtl.rwMask) 63 en) 63 = en := by
  refine ⟨?_, bit_setBit_same _ en (by decide)⟩
  have h62 : RegKind.hostCmdCtl.rwMask.getLsbD 62 = false := by decide
  rw [setBit, bit_setBits, if_neg (by omega), bit, BitVec.getLsbD_and, h62, Bool.and_false]

theorem State.cringCtl_off (s : State) (r : Nat) {v : Word} (h62 : bit v 62 = false) (h63 : bit v 63 = false) :
    s.cringCtl r v = (s.putRw .hostCmdCtl r v).setCring r fun g => { g with held := none } := by
  simp [State.cringCtl, h62, h63]

theorem State.cringCtl_on (s : State) (r : Nat) {v : Word} (h62 : bit v 62 = false) (h63 : bit v 63 = true) :
    s.cringCtl r v = ((s.putRw .hostCmdCtl r v).setCring r fun g => { g with error := false }).cringCheck r := by
  simp [State.cringCtl, h62, h63]

/-- A write of a ring's control leaves its indices and its place as they were (18 R527). -/
theorem State.putCtl_spec (s : State) (hr : r < 64) (v : Word) :
    (s.putRw .hostCmdCtl r v).cringEn r = bit v 63 ∧ (s.putRw .hostCmdCtl r v).ringPi r = s.ringPi r
      ∧ (s.putRw .hostCmdCtl r v).cringLg r = s.cringLg r := by
  have hidx := s.reg_setReg_kind (k := .hostCmdCtl) (j := .hostCmdIdx) (by decide) (n := r) (m := r) hr hr
    ((s.reg .hostCmdCtl r &&& ~~~ RegKind.hostCmdCtl.rwMask) ||| (v &&& RegKind.hostCmdCtl.rwMask))
  have hbase := s.reg_setReg_kind (k := .hostCmdCtl) (j := .hostCmdBase) (by decide) (n := r) (m := r) hr hr
    ((s.reg .hostCmdCtl r &&& ~~~ RegKind.hostCmdCtl.rwMask) ||| (v &&& RegKind.hostCmdCtl.rwMask))
  have hlg : (s.putRw .hostCmdCtl r v).fld .hostCmdBase r 4 0 = s.fld .hostCmdBase r 4 0 := congrArg (bits · 4 0) hbase
  refine ⟨s.flag_putRw .hostCmdCtl r v (by decide), congrArg (bits · 63 32) hidx, ?_⟩
  rw [State.cringLg, hlg, State.cringLg]

/-- A send descriptor of the controller that R529 lets through. -/
theorem State.takeDesc_controller (s : State) {w : Word} {ws : List Word} (hz : bits w 14 0 = 0) (hz' : ws.getD 0 0 = 0)
    (hport : s.portValid (bits w 24 15) = true) (hwidth : bits w 60 58 < s.portWidth (bits w 24 15))
    (heth : s.portEth (bits w 24 15) = false) (hmin : 48 ≤ bits w 57 44) (hmax : bits w 57 44 ≤ 8240) :
    ∃ x : Ret, s.takeDesc none (w :: ws) = s.toReturn x ∧ x.part = 0 ∧ x.pipe = 0 ∧ x.target = bits w 24 15
      ∧ x.cls = bits w 27 25 ∧ x.bytes = ((ws.drop 1).flatMap wordBytes).take (bits w 57 44) := by
  have hz1 : (w :: ws).getD 1 0 = 0 := hz'
  have hw : (w :: ws).getD 0 0 = w := rfl
  unfold State.takeDesc
  simp only [hw, hz1, hz, hport, hwidth, heth, descLen, hmin, hmax, decide_true, Bool.and_self, Bool.false_eq_true, if_false,
    Bool.not_true]
  exact ⟨_, rfl, rfl, rfl, rfl, rfl, rfl⟩

/-- Settles O34: doorbells, fetches, held programs, flushes, the enable, and a frame of the controller. -/
theorem commandRings : Obligations.CommandRings := by
  unfold Obligations.CommandRings
  intro s r hlive hr
  have hwf : decide (r < 64) = true := decide_eq_true hr
  refine ⟨fun pi hpi => ?_, fun hen herr hheld havail => ?_, fun p hheld => ?_, fun hheld => ?_,
    fun p hheld hmgmt hirq hpost => ?_, ?_, fun hfits => ?_,
    fun w ws hrun hwaits h63 hz hz' hlen hport hwidth heth hmin hmax => ?_⟩
  case refine_1 =>
    have hwf' : (Instr.doorbell r pi).wellFormed = true := decide_eq_true ⟨hr, hpi⟩
    have hpi' := s.ringPi_doorbell r hpi
    obtain ⟨hen', hlg', hring'⟩ := s.doorbell_cringLg hr pi
    refine ⟨fun h => ?_, hpi', fun hen herr hover => ?_⟩
    · refine run_live_eq hwf' hlive (f := fun s => s.doorbell r pi) (State.cringCheck_fits ?_) rfl
      rwa [hen', hlg', hring']
    · have hmore : 2 ^ (s.setFld .hostCmdIdx r 63 32 pi).cringLg r < (s.setFld .hostCmdIdx r 63 32 pi).ringAvail r := by
        rw [hlg', State.ringAvail, hpi', hring']
        exact hover
      have hcheck := State.cringCheck_over (hen'.trans hen) ((congrArg CmdRing.error hring').trans herr) hmore
      obtain ⟨hring, hframe⟩ := State.cringError_spec _ r 1 hcheck
      generalize ht : (s.setFld .hostCmdIdx r 63 32 pi).cringCheck r = t at *
      have hpend : t.pending = s.pending := by rw [hframe]; rfl
      refine ⟨t, run_live_eq hwf' hlive (f := fun s => s.doorbell r pi) ht hpend, by rw [hring], by rw [hring], by rw [hring, hring'],
        ?_, by rw [hframe]; rfl⟩
      have hregs : t.regs = (s.setFld .hostCmdIdx r 63 32 pi).regs := by rw [hframe]
      rw [State.ringPi, State.fld_congr hregs]
      exact hpi'
  case refine_2 =>
    refine ⟨fun ws late => ?_, fun w0 w1 code late hdesc hflush hpost h1 h2 hn hroom hzero hdef hcost => ?_⟩
    · obtain ⟨href, hpois, htime⟩ := State.fetched_on hen herr hheld havail ws late
      obtain ⟨hring2, hframe2⟩ := s.cringError_spec r 2 rfl
      obtain ⟨hring4, hframe4⟩ := s.cringError_spec r 4 rfl
      obtain ⟨hring3, hframe3⟩ := s.cringError_spec r 3 rfl
      refine ⟨_, _, _, run_live_eq (i := .cmdFetchComplete r ws .refused late) hwf hlive href (by rw [hframe2]),
        run_live_eq (i := .cmdFetchComplete r ws .poisoned late) hwf hlive hpois (by rw [hframe4]),
        run_live_eq (i := .cmdFetchTimeout r) hwf hlive htime (by rw [hframe3]), hring2, hring4, hring3, ?_⟩
      refine ⟨by rw [hframe2], by rw [hframe4], by rw [hframe3], by rw [hframe2], by rw [hframe4], by rw [hframe3]⟩
    · have hfetch := State.fetched_program hen herr hheld hflush hpost (w1 := w1) hdesc h1 h2 hn hroom late
      rw [State.takeProg_passes hn hzero hdef hcost] at hfetch
      have hcode : (progOf r (w0 :: w1 :: code) late none).code = code := by
        have htake : code.take (bits w0 54 44) = code := by rw [hn, List.take_length]
        exact htake
      have hwords : (progOf r (w0 :: w1 :: code) late none).words = 2 + code.length := congrArg (2 + ·) hn
      have hwf' : (Instr.cmdFetchComplete r (w0 :: w1 :: code) .data late).wellFormed = true := hwf
      refine ⟨fun hnow => ?_, fun hlate hfuture => ?_⟩
      · have hcond : (bit w0 15 && decide (0 < sdiff 32 (bits w1 31 0) s.beat.now)) = false := by
          rcases hnow with h | h
          · simp [h]
          · simp [Int.not_lt.2 h]
        have hpast := hfetch.trans (if_neg (by rw [Bool.not_eq_true]; exact hcond))
        obtain ⟨⟨q, hq, hqcode, hring, htag, hpart, hirq, hqlate⟩, hci, -, hframe⟩ :=
          s.commitPast_spec r _ _ hpast
        exact ⟨_, q, run_live_eq hwf' hlive rfl (by rw [hframe]), hq, hqcode.trans hcode, hring, htag, hpart, hirq, hqlate,
          hci.trans (congrArg (fun n => ((s.cring r).ci + n) % 2 ^ 32) hwords), by rw [hframe], by rw [hframe]⟩
      · have hcond : (bit w0 15 && decide (0 < sdiff 32 (bits w1 31 0) s.beat.now)) = true := by simp [hlate, hfuture]
        refine ⟨_, _, run_live_eq hwf' hlive (hfetch.trans (if_pos hcond)) rfl, ?_, hcode, ?_, rfl, rfl, rfl⟩
        · rw [State.cring_setCring]
        · rw [State.cring_setCring]
  case refine_3 =>
    refine ⟨fun hdue => ?_, fun hearly => ?_, fun hpost hdue => ?_⟩
    · exact run_call (i := .cmdProgramRelease r) hwf hlive (due := fun s => s.coming (·.releaseDue r))
        ((State.coming_releaseDue hheld).trans (decide_eq_true hdue))
    · have hrun := run_call (i := .cmdProgramRelease r) hwf hlive (due := fun s => s.coming (·.releaseDue r))
        ((State.coming_releaseDue hheld).trans (decide_eq_false (Int.not_le.2 hearly)))
      rwa [State.call_early] at hrun
    · obtain ⟨⟨q, hq, hcode, -, -, -, -, hlate⟩, hci, hnone, hframe⟩ :=
        State.commitPast_spec _ r _ _ (State.releaseProg_due hheld hpost hdue)
      rw [State.cring_setCring] at hci hnone
      exact ⟨q, hq, hcode, hlate, hnone, hci, by rw [hframe]; rfl, by rw [hframe]; rfl⟩
  case refine_4 =>
    have hrun := run_call (i := .cmdProgramRelease r) hwf hlive (due := fun s => s.coming (·.releaseDue r))
      (State.coming_releaseDue_none hheld)
    rw [State.call_early] at hrun
    refine ⟨hrun, by simp [State.releaseProg, hheld], fun h0 => ?_, fun hne => ?_⟩
    · exact run_live_eq (i := .cmdRingFlush r) hwf hlive (f := fun s => s.cringFlush r) (by simp [State.cringFlush, hheld, h0]) rfl
    · exact run_live_eq (i := .cmdRingFlush r) hwf hlive (f := fun s => s.cringFlush r) (by simp [State.cringFlush, hheld, hne]) rfl
  case refine_5 =>
    have hflush := State.cringFlush_held hheld hmgmt hirq hpost
    obtain ⟨hring, hframe⟩ := State.writeBack_spec _ r hflush
    rw [State.cring_setCring] at hring
    refine ⟨_, run_live_eq (i := .cmdRingFlush r) hwf hlive rfl (by rw [hframe]; rfl), by rw [hring], by rw [hring],
      by rw [hframe]; rfl, by rw [hframe]; rfl, by rw [hframe]; rfl⟩
  case refine_6 =>
    obtain ⟨h62, h63⟩ := cringCtlWord_bits (s.reg .hostCmdCtl r) false
    obtain ⟨hen, hpi, -⟩ := s.putCtl_spec hr (setBit (s.reg .hostCmdCtl r &&& RegKind.hostCmdCtl.rwMask) 63 false)
    exact ⟨_, run_live_eq (i := .cmdRingDisable r) hwf hlive (s.cringCtl_off r h62 h63) rfl, hen.trans h63,
      State.cring_setCring _ r _, rfl, rfl, hpi, rfl⟩
  case refine_7 =>
    obtain ⟨h62, h63⟩ := cringCtlWord_bits (s.reg .hostCmdCtl r) true
    obtain ⟨hen, hpi, hlg⟩ := s.putCtl_spec hr (setBit (s.reg .hostCmdCtl r &&& RegKind.hostCmdCtl.rwMask) 63 true)
    have hctl := s.cringCtl_on r h62 h63
    rw [State.cringCheck_fits] at hctl
    · exact ⟨_, run_live_eq (i := .cmdRingEnable r) hwf hlive hctl rfl, hen.trans h63, State.cring_setCring _ r _, rfl, rfl, hpi, rfl⟩
    · rw [State.cring_setCring]
      refine Or.inr (Or.inr ?_)
      have havail : ((s.putRw .hostCmdCtl r (setBit (s.reg .hostCmdCtl r &&& RegKind.hostCmdCtl.rwMask) 63 true)).setCring r
          fun g => { g with error := false }).ringAvail r = s.ringAvail r := by
        rw [State.ringAvail, State.cring_setCring]
        exact congrArg (fun pi => (pi + 2 ^ 32 - (s.cring r).ci) % 2 ^ 32) hpi
      rw [havail]
      exact hfits.trans_eq (congrArg (2 ^ ·) hlg).symm
  case refine_8 =>
    obtain ⟨x, htake, hpart, hpipe, htarget, hcls, hbytes⟩ := s.takeDesc_controller hz hz' hport hwidth heth hmin hmax
    have hwords : descWords w ≤ ws.length + 1 := by
      rw [descWords, descLen]
      omega
    refine ⟨_, x, run_live_eq (i := .controllerSend (w :: ws)) rfl hlive ((if_pos ?_).trans htake) rfl, rfl, hpart, hpipe, htarget,
      hcls, hbytes, rfl⟩
    simp [hrun, hwaits, h63, hwords]
end

end Sys2Proof.Machine

/-! ## Accesses of the host through BAR2 (18 R518, R519) -/

namespace Sys2Proof.Machine

/-! ### The bytes of a write -/

theorem memGet_putBytes_other (m : List Host.Cell) (a b : Nat) (l : List (Option Byte)) (h : b < a ∨ a + l.length ≤ b) :
    memGet (putBytes m a l) b = memGet m b := by
  induction l generalizing m a with
  | nil => rfl
  | cons x l ih =>
    rw [List.length_cons] at h
    cases x with
    | none => exact ih m (a + 1) (by omega)
    | some v =>
      have hne : b ≠ a := by omega
      exact (ih (memSet m a v) (a + 1) (by omega)).trans ((memGet_memSet m a b v).trans (if_neg hne))

/-- A byte of a write holds what is written there, where it is written (18 R519). -/
theorem memGet_putBytes (m : List Host.Cell) (a : Nat) (l : List (Option Byte)) {i : Nat} (hi : i < l.length) :
    memGet (putBytes m a l) (a + i) = (l.getD i none).getD (memGet m (a + i)) := by
  induction l generalizing m a i with
  | nil => exact absurd hi (Nat.not_lt_zero i)
  | cons x l ih =>
    rw [List.length_cons] at hi
    cases i with
    | zero =>
      cases x with
      | none => exact memGet_putBytes_other m (a + 1) a l (by omega)
      | some v => exact (memGet_putBytes_other (memSet m a v) (a + 1) a l (by omega)).trans (by simp [memGet_memSet])
    | succ i =>
      have hplace : a + (i + 1) = a + 1 + i := by omega
      have hne : a + 1 + i ≠ a := by omega
      rw [hplace, List.getD_cons_succ]
      cases x with
      | none => exact ih m (a + 1) (by omega)
      | some v =>
        refine (ih (memSet m a v) (a + 1) (by omega)).trans ?_
        rw [memGet_memSet, if_neg hne]

/-! ### The bytes of a read -/

theorem memRead_getD (m : List Host.Cell) (a n : Nat) {i : Nat} (hi : i < n) : (memRead m a n).getD i 0 = memGet m (a + i) := by
  induction n generalizing a i with
  | zero => exact absurd hi (Nat.not_lt_zero i)
  | succ n ih =>
    cases i with
    | zero => rfl
    | succ i =>
      have hplace : a + (i + 1) = a + 1 + i := by omega
      rw [memRead, List.getD_cons_succ, ih (a + 1) (by omega), hplace]

theorem memRead_length (m : List Host.Cell) (a n : Nat) : (memRead m a n).length = n := by
  induction n generalizing a with
  | zero => rfl
  | succ n ih => rw [memRead, List.length_cons, ih]

section
variable {s : State}

/-- A byte of a read that meets the cache of records: what stands there, or a free value within the cache (10 R292). -/
def hostByte (a : Nat) (bs : List Byte) (x : List Byte × State) (i : Nat) : List Byte × State :=
  if inRecordCache (a + i) then (x.1 ++ [x.2.freshWord.1.setWidth 8], x.2.freshWord.2) else (x.1 ++ [bs.getD i 0], x.2)

theorem hostByte_foldl (s : State) (a : Nat) (bs : List Byte) (n : Nat) {r : List Byte × State}
    (hr : r = (List.range n).foldl (hostByte a bs) ([], s)) :
    r.1.length = n ∧ s.onlyFree r.2 ∧ ∀ i, i < n → inRecordCache (a + i) = false → r.1.getD i 0 = bs.getD i 0 := by
  induction n generalizing r with
  | zero =>
    subst hr
    exact ⟨rfl, rfl, fun i hi => absurd hi (Nat.not_lt_zero i)⟩
  | succ n ih =>
    obtain ⟨hlen, hfree, hget⟩ := ih rfl
    rw [List.range_succ, List.foldl_append] at hr
    generalize (List.range n).foldl (hostByte a bs) ([], s) = x at *
    have hstep : r = hostByte a bs x n := hr
    have hold : ∀ (b : Byte) i, i < n → (x.1 ++ [b]).getD i 0 = x.1.getD i 0 := fun b i hi => by
      simp [List.getD, List.getElem?_append, hlen, hi]
    have hlast : ∀ b : Byte, (x.1 ++ [b]).getD n 0 = b := fun b => by simp [List.getD, ← hlen]
    cases hcache : inRecordCache (a + n) with
    | true =>
      rw [hostByte, hcache, if_pos rfl] at hstep
      subst hstep
      refine ⟨by simp [hlen], State.onlyFree_trans hfree rfl, fun i hi hout => ?_⟩
      have hin : i < n := by
        by_contra hge
        have heq : i = n := by omega
        rw [heq, hcache] at hout
        cases hout
      exact (hold _ i hin).trans (hget i hin hout)
    | false =>
      rw [hostByte, hcache, if_neg Bool.false_ne_true] at hstep
      subst hstep
      refine ⟨by simp [hlen], hfree, fun i hi hout => ?_⟩
      by_cases hin : i < n
      · exact (hold _ i hin).trans (hget i hin hout)
      · have heq : i = n := by omega
        rw [heq]
        exact hlast _

/-- A read of the host answers as many bytes as it names, those outside the cache of records from memory; free values alone
are drawn (10 R292). -/
theorem State.hostBytes_spec (s : State) (sp : Space) (a n : Nat) {r : List Byte × State} (hr : r = s.hostBytes sp a n) :
    r.1.length = n ∧ s.onlyFree r.2
      ∧ ∀ i, i < n → ¬ (sp = .near ∧ 0x1800000 ≤ a + i ∧ a + i < 0x1C00000) → r.1.getD i 0 = memGet (s.bytesOf sp) (a + i) := by
  have hread : ∀ i, i < n → (s.readMem sp a n).getD i 0 = memGet (s.bytesOf sp) (a + i) := fun i hi => memRead_getD _ a n hi
  have hform : r = if sp = .near && a < 0x1C00000 && 0x1800000 < a + n then
      (List.range n).foldl (hostByte a (s.readMem sp a n)) ([], s) else (s.readMem sp a n, s) := hr
  split at hform
  case isTrue hmeets =>
    obtain ⟨hlen, hfree, hget⟩ := hostByte_foldl s a _ n hform
    have hnear : sp = .near := by
      simp only [Bool.and_eq_true, decide_eq_true_eq] at hmeets
      exact hmeets.1.1
    refine ⟨hlen, hfree, fun i hi hout => (hget i hi ?_).trans (hread i hi)⟩
    have hnot : ¬ (0x1800000 ≤ a + i ∧ a + i < 0x1C00000) := fun h => hout ⟨hnear, h⟩
    simpa [inRecordCache] using hnot
  case isFalse =>
    subst hform
    exact ⟨memRead_length _ a n, rfl, fun i hi _ => hread i hi⟩

/-! ### The poison marks of a write (10 R296) -/

theorem State.poisoned_setPoison (s : State) (sp sp' : Space) (l l' : Nat) :
    (s.setPoison sp l false).poisoned sp' l' = if sp' = sp ∧ l' = l then false else s.poisoned sp' l' := by
  cases sp <;> cases sp'
  case spine.spine =>
    have hget : SMap.get 0 (s.setPoison .spine l false).mem.poisonS l' = if l' = l then 0 else SMap.get 0 s.mem.poisonS l' :=
      SMap.get_set 0 s.mem.poisonS l l' 0
    rw [State.poisoned, hget]
    by_cases h : l' = l
    · simp [h]
      decide
    · simp [h, State.poisoned]
  case near.near =>
    have hget : SMap.get false (s.setPoison .near l false).mem.poisonN l' = if l' = l then false else SMap.get false s.mem.poisonN l' :=
      SMap.get_set false s.mem.poisonN l l' false
    rw [State.poisoned, hget]
    by_cases h : l' = l <;> simp [h, State.poisoned]
  case spine.near => simp [State.poisoned, State.setPoison]
  case near.spine => simp [State.poisoned, State.setPoison]

theorem State.poisoned_setBytes (s : State) (sp : Space) (m : List Host.Cell) (sp' : Space) :
    (s.setBytes sp m).poisoned sp' = s.poisoned sp' := by
  cases sp <;> cases sp' <;> rfl

theorem State.bytesOf_setBytes_other (s : State) {sp sp' : Space} (h : sp' ≠ sp) (m : List Host.Cell) :
    (s.setBytes sp m).bytesOf sp' = s.bytesOf sp' := by
  cases sp with
  | spine =>
    cases sp' with
    | spine => exact absurd rfl h
    | near => rfl
  | near =>
    cases sp' with
    | spine => rfl
    | near => exact absurd rfl h

/-- The marks of a list of lines are cleared, and no byte changes. -/
theorem State.setPoison_foldl (s : State) (sp : Space) (l : List Nat) {t : State}
    (ht : t = l.foldl (fun (u : State) k => u.setPoison sp k false) s) :
    (∀ sp' k, t.poisoned sp' k = if sp' = sp ∧ k ∈ l then false else s.poisoned sp' k)
      ∧ (∀ sp', t.bytesOf sp' = s.bytesOf sp') ∧ s.onlyBytes t := by
  induction l generalizing s with
  | nil =>
    subst ht
    simp [State.onlyBytes]
  | cons j l ih =>
    obtain ⟨hmark, hbytes, honly⟩ := ih (s.setPoison sp j false) ht
    refine ⟨fun sp' k => ?_, fun sp' => (hbytes sp').trans (State.setPoison_bytesOf ..),
      State.onlyBytes_trans (s.onlyBytes_setPoison sp j false) honly⟩
    rw [hmark, State.poisoned_setPoison]
    by_cases hsp : sp' = sp <;> by_cases hk : k ∈ l <;> by_cases hj : k = j <;> simp [hsp, hk, hj]

/-- A line that is written whole is one that the write touches. -/
theorem mem_linesOf_of_lineWhole {a l : Nat} {data : List (Option Byte)} (h : lineWhole a data l = true) :
    l ∈ linesOf a data.length := by
  obtain ⟨⟨h1, h2⟩, -⟩ : (a ≤ 64 * l ∧ 64 * l + 64 ≤ a + data.length) ∧ _ := by
    simpa only [lineWhole, Bool.and_eq_true, decide_eq_true_eq] using h
  rw [linesOf, if_neg (by omega), mem_rangeFrom]
  omega

/-! ### An access takes effect, or waits (18 R519) -/

/-- A read of the host takes effect: memory and registers are as they were. -/
theorem State.hostDo_read (s : State) {x : HostAcc} {n : Nat} (hx : x.read = some n) {sp : Space}
    (hsp : sp = if x.spine then .spine else .near) {t : State} (ht : t = s.hostDo x) :
    t.regs = s.regs ∧ t.mem = s.mem ∧ ∃ b, t.out = s.out ++ [.cplBytes b ((linesOf x.addr n).any (s.poisoned sp))]
      ∧ b.length = n ∧ ∀ i, i < n → ¬ (sp = .near ∧ 0x1800000 ≤ x.addr + i ∧ x.addr + i < 0x1C00000) →
          b.getD i 0 = memGet (s.bytesOf sp) (x.addr + i) := by
  have hline := s.onlyLive_lineAccess x.lines
  have hdo : t = ((s.lineAccess x.lines).hostBytes sp x.addr n).2.emit (.cplBytes ((s.lineAccess x.lines).hostBytes sp x.addr n).1
      ((linesOf x.addr n).any (((s.lineAccess x.lines).hostBytes sp x.addr n).2.poisoned sp))) := by
    rw [ht, State.hostDo, hx, hsp]
  obtain ⟨hlen, hfree, hget⟩ := (s.lineAccess x.lines).hostBytes_spec sp x.addr n rfl
  generalize s.lineAccess x.lines = u at *
  generalize u.hostBytes sp x.addr n = r at *
  have hmem : r.2.mem = s.mem := by rw [hfree, hline]
  have hregs : r.2.regs = s.regs := by rw [hfree, hline]
  have hout : r.2.out = s.out := by rw [hfree, hline]
  have hbytes : u.bytesOf sp = s.bytesOf sp := by rw [hline]; cases sp <;> rfl
  have hpoison : r.2.poisoned sp = s.poisoned sp := by
    funext l
    cases sp <;> rw [State.poisoned, hmem, State.poisoned]
  rw [hbytes] at hget
  subst hdo
  refine ⟨hregs, hmem, r.1, ?_, hlen, hget⟩
  rw [State.emit, hout, hpoison]

/-- A write of the host takes effect: the bytes that its enables name, and the marks of the lines written whole (10 R296). -/
theorem State.hostDo_write (s : State) {x : HostAcc} (hx : x.read = none) {sp : Space}
    (hsp : sp = if x.spine then .spine else .near) {t : State} (ht : t = s.hostDo x) :
    t.regs = s.regs ∧ t.out = s.out ∧ t.mem.hostAcc = s.mem.hostAcc
      ∧ (∀ sp', t.bytesOf sp' = if sp' = sp then putBytes (s.bytesOf sp) x.addr x.data else s.bytesOf sp')
      ∧ ∀ sp' l, t.poisoned sp' l = if sp' = sp then s.poisoned sp l && !lineWhole x.addr x.data l else s.poisoned sp' l := by
  have hline := s.onlyLive_lineAccess x.lines
  have hdo : t = ((linesOf x.addr x.data.length).filter (lineWhole x.addr x.data)).foldl
      (fun (u : State) k => u.setPoison sp k false)
        ((s.lineAccess x.lines).setBytes sp (putBytes ((s.lineAccess x.lines).bytesOf sp) x.addr x.data)) := by
    rw [ht, State.hostDo, hx, hsp]
  obtain ⟨hmark, hbytes, honly⟩ := State.setPoison_foldl _ sp _ hdo
  have hset := (s.lineAccess x.lines).onlyBytes_setBytes sp (putBytes ((s.lineAccess x.lines).bytesOf sp) x.addr x.data)
  have hrest := State.onlyBytes_trans hset honly
  have hbytes' : ∀ sp', (s.lineAccess x.lines).bytesOf sp' = s.bytesOf sp' := fun sp' => by rw [hline]; cases sp' <;> rfl
  have hpoison' : ∀ sp', (s.lineAccess x.lines).poisoned sp' = s.poisoned sp' := fun sp' => by rw [hline]; cases sp' <;> rfl
  refine ⟨by rw [hrest, hline], by rw [hrest, hline], by rw [hrest, hline], fun sp' => ?_, fun sp' l => ?_⟩
  · rw [hbytes, hbytes' sp]
    by_cases h : sp' = sp
    · rw [if_pos h, h, State.bytesOf_setBytes]
    · rw [if_neg h, State.bytesOf_setBytes_other _ h, hbytes']
  · rw [hmark, State.poisoned_setBytes, hpoison']
    by_cases h : sp' = sp
    · by_cases hwhole : lineWhole x.addr x.data l = true
      · have hin : l ∈ (linesOf x.addr x.data.length).filter (lineWhole x.addr x.data) :=
          List.mem_filter.2 ⟨mem_linesOf_of_lineWhole hwhole, hwhole⟩
        rw [if_pos ⟨h, hin⟩, if_pos h, hwhole, Bool.not_true, Bool.and_false]
      · have hout : l ∉ (linesOf x.addr x.data.length).filter (lineWhole x.addr x.data) :=
          fun hin => hwhole (List.mem_filter.1 hin).2
        rw [if_neg fun hboth => hout hboth.2, if_pos h, Bool.eq_false_iff.2 hwhole, Bool.not_false, Bool.and_true, h]
    · rw [if_neg fun hboth => h hboth.1, if_neg h]

/-- An access that nothing before it holds up is not held up by itself. -/
theorem State.hostHeld_self (s : State) (x : HostAcc) :
    ({ s with mem := { s.mem with nextOrd := x.ord + 1, hostAcc := s.mem.hostAcc ++ [x] } } : State).hostHeld x = s.hostHeld x := by
  have hlines : ({ s with mem := { s.mem with nextOrd := x.ord + 1, hostAcc := s.mem.hostAcc ++ [x] } } : State).linesHeld x.ord x.lines
      = s.linesHeld x.ord x.lines := by
    have hself : ([x].any fun y => decide (y.ord < x.ord) && y.lines.any fun l => x.lines.contains l) = false := by simp
    unfold State.linesHeld
    rw [List.any_append (xs := s.mem.hostAcc), hself, Bool.or_false]
    rfl
  unfold State.hostHeld
  rw [hlines]
  rfl

/-- The state in which an access takes effect: it waits no longer. -/
def State.hostTaken (s : State) (x : HostAcc) : State :=
  { s with mem := { s.mem with nextOrd := s.mem.nextOrd + 1, hostAcc := dropFirst (fun y => y.ord = x.ord) (s.mem.hostAcc ++ [x]) } }

theorem State.hostAccess_held (s : State) {x : HostAcc} (hord : x.ord = s.mem.nextOrd) (h : s.hostHeld x = true) :
    s.hostAccess x.spine x.addr x.read x.data
      = { s with mem := { s.mem with nextOrd := s.mem.nextOrd + 1, hostAcc := s.mem.hostAcc ++ [x] } } := by
  obtain ⟨ord, spine, addr, read, data⟩ := x
  subst hord
  have hself := s.hostHeld_self ⟨s.mem.nextOrd, spine, addr, read, data⟩
  exact if_pos (hself.trans h)

theorem State.hostAccess_free (s : State) {x : HostAcc} (hord : x.ord = s.mem.nextOrd) (h : s.hostHeld x = false) :
    s.hostAccess x.spine x.addr x.read x.data = (s.hostTaken x).hostDo x := by
  obtain ⟨ord, spine, addr, read, data⟩ := x
  subst hord
  have hself := s.hostHeld_self ⟨s.mem.nextOrd, spine, addr, read, data⟩
  exact if_neg (by rw [hself, h]; exact Bool.false_ne_true)

/-- With none before it, no access waits afterwards. -/
theorem State.hostTaken_none {x : HostAcc} (h : s.mem.hostAcc = []) : (s.hostTaken x).mem.hostAcc = [] := by
  simp [State.hostTaken, h, dropFirst]

/-- Settles O35: accesses that wait, reads, writes, and pages that map nothing. -/
theorem bar2ReadsAndWritesMemory : Obligations.Bar2ReadsAndWritesMemory := by
  unfold Obligations.Bar2ReadsAndWritesMemory
  intro s hlive
  refine ⟨fun addr n hnone => ?_, fun addr data hnone => ?_, fun addr n sp a x hat hx => ⟨fun hheld => ?_, fun hfree => ?_⟩,
    fun addr data sp a x hat hx => ⟨fun hheld => ?_, fun hfree => ?_⟩, fun addr n hpage => ?_⟩
  · exact run_live_eq (i := .bar2Read addr n) rfl hlive (f := fun s => s.bar2Read addr n) (by rw [State.bar2Read, hnone]) rfl
  · exact run_live_eq (i := .bar2Write addr data) rfl hlive (f := fun s => s.bar2Write addr data) (by rw [State.bar2Write, hnone]) rfl
  · have hread : s.bar2Read addr n = s.hostAccess x.spine x.addr x.read x.data := by
      rw [State.bar2Read, hat, hx]
    exact run_live_eq (i := .bar2Read addr n) rfl hlive (hread.trans (s.hostAccess_held (by rw [hx]) hheld)) rfl
  · have hread : s.bar2Read addr n = s.hostAccess x.spine x.addr x.read x.data := by
      rw [State.bar2Read, hat, hx]
    have hsp : sp = if x.spine then .spine else .near := by
      rw [hx]
      cases sp <;> rfl
    have hgo := hread.trans (s.hostAccess_free (by rw [hx]) hfree)
    obtain ⟨hregs, hmem, b, hout, hlen, hget⟩ := (s.hostTaken x).hostDo_read (n := n) (by rw [hx]) hsp rfl
    refine ⟨_, b, run_live_eq (i := .bar2Read addr n) rfl hlive hgo (State.hostDo_pending _ x), hregs, ?_, fun hnone => ?_, ?_,
      hlen, ?_⟩
    · rw [hmem]
      rfl
    · rw [hmem]
      exact State.hostTaken_none hnone
    · rw [hout, hx]
      rfl
    · rw [hx] at hget
      exact hget
  · have hwrite : s.bar2Write addr data = s.hostAccess x.spine x.addr x.read x.data := by
      rw [State.bar2Write, hat, hx]
    exact run_live_eq (i := .bar2Write addr data) rfl hlive (hwrite.trans (s.hostAccess_held (by rw [hx]) hheld)) rfl
  · have hwrite : s.bar2Write addr data = s.hostAccess x.spine x.addr x.read x.data := by
      rw [State.bar2Write, hat, hx]
    have hsp : sp = if x.spine then .spine else .near := by
      rw [hx]
      cases sp <;> rfl
    have hgo := hwrite.trans (s.hostAccess_free (by rw [hx]) hfree)
    obtain ⟨hregs, hout, hacc, hbytes, hpoison⟩ := (s.hostTaken x).hostDo_write (by rw [hx]) hsp rfl
    have hold : ∀ sp', (s.hostTaken x).bytesOf sp' = s.bytesOf sp' := fun sp' => by cases sp' <;> rfl
    have hmark : ∀ sp', (s.hostTaken x).poisoned sp' = s.poisoned sp' := fun sp' => by cases sp' <;> rfl
    have haddr : x.addr = a := by rw [hx]
    have hdata : x.data = data := by rw [hx]
    rw [haddr, hdata] at hbytes hpoison
    have hself : ((s.hostTaken x).hostDo x).bytesOf sp = putBytes (s.bytesOf sp) a data := by
      rw [hbytes, if_pos rfl, hold]
    refine ⟨_, run_live_eq (i := .bar2Write addr data) rfl hlive hgo (State.hostDo_pending _ x), hregs, hout, fun hnone => ?_,
      fun i hi => ?_, fun b hb => ?_, fun other hne => ⟨?_, fun l => ?_⟩, fun l => ?_⟩
    · rw [hacc]
      exact State.hostTaken_none hnone
    · rw [hself]
      exact memGet_putBytes _ a data hi
    · rw [hself]
      exact memGet_putBytes_other _ a b data hb
    · rw [hbytes, if_neg hne, hold]
    · rw [hpoison, if_neg hne, hmark]
    · rw [hpoison, if_pos rfl, hmark]
  · unfold State.bar2At
    exact if_pos (by rw [hpage, Bool.not_false, Bool.or_true])

end

end Sys2Proof.Machine

/-! ## Management frames (18 R541 to R543; 16 R469 to R471) -/

namespace Sys2Proof.Machine

section
variable {s : State} {t : Stream} {rest : List Stream}

/-- The state in which the first waiting frame has been taken. -/
def State.mgmtRest (s : State) (rest : List Stream) : State := { s with net := { s.net with mgmt := rest } }

/-- A reply of the controller to a management frame (18 R542). -/
def State.mgmtAnswer (s : State) (h : Hdr) (kind status done : Nat) (ws : List Word) : Ret :=
  unicastRet .controller 0 (s.replyHdr h opMgmtRsp (8 + 8 * ws.length) false)
    (wordBytes (at_ 48 kind ||| at_ 40 status ||| at_ 0 done) ++ ws.flatMap wordBytes)

theorem length_wordBytes (w : Word) : (wordBytes w).length = 8 := length_beBytes 8 _

theorem length_flatMap_wordBytes (ws : List Word) : (ws.flatMap wordBytes).length = 8 * ws.length := by
  induction ws with
  | nil => rfl
  | cons w ws ih =>
    rw [List.flatMap_cons, List.length_append, length_wordBytes, ih, List.length_cons]
    omega

theorem State.mgmtReply_spec (s : State) (h : Hdr) (kind status done : Nat) (ws : List Word) :
    s.mgmtReply h kind status done ws = s.toReturn (s.mgmtAnswer h kind status done ws) := by
  have hlen : (((at_ 48 kind ||| at_ 40 status ||| at_ 0 done) :: ws).flatMap wordBytes).length = 8 + 8 * ws.length := by
    rw [length_flatMap_wordBytes, List.length_cons]
    omega
  unfold State.mgmtReply
  dsimp only
  rw [hlen, List.flatMap_cons]
  rfl

/-- While the controller's own frame waits, or none has come, none is taken (07 R191). -/
theorem State.takeMgmt_none (h : s.net.mgmt = [] ∨ s.unitWaits .controller = true) (p : Nat → Bool) : s.takeMgmt p = none := by
  unfold State.takeMgmt
  rcases h with h | h
  · simp [h]
  · simp [h]

theorem State.takeMgmt_first (hm : s.net.mgmt = t :: rest) (hw : s.unitWaits .controller = false) {p : Nat → Bool}
    (hp : p (mgmtKind t) = true) : s.takeMgmt p = some (t, s.mgmtRest rest) := by
  unfold State.takeMgmt
  simp [hm, hw, hp, dropFirst, State.mgmtRest]

/-- A frame with the bytes 0x88, 0xF7 is one of PTP (16 R469). -/
theorem isPtp_of_mgmtKind (h : mgmtKind t = 0x88F7) : isPtp t = true := by
  have hbyte : ∀ i, byteAt ((t.bytes.drop 48).take t.hdr.payLen) i = if i < t.hdr.payLen then byteAt t.bytes (48 + i) else 0 := by
    intro i
    by_cases hi : i < t.hdr.payLen <;> simp [byteAt, List.getD, hi]
  rw [mgmtKind, halfAt, hbyte, hbyte] at h
  have hlen : 2 ≤ t.hdr.payLen := by
    by_contra hshort
    rw [if_neg (by omega : ¬ 0 + 1 < t.hdr.payLen)] at h
    omega
  rw [if_pos (by omega), if_pos (by omega)] at h
  exact Bool.and_eq_true_iff.2 ⟨decide_eq_true hlen, decide_eq_true h⟩

/-! ### Reads and writes -/

theorem State.mgmtRead_malformed (hm : s.net.mgmt = t :: rest) (hw : s.unitWaits .controller = false) (hk : mgmtKind t = 1)
    (hbad : halfAt (t.bytes.drop 48) 2 = 0 ∨ 128 < halfAt (t.bytes.drop 48) 2 ∨ t.hdr.len ≠ 8 + 8 * halfAt (t.bytes.drop 48) 2) :
    s.mgmtRead = (s.mgmtRest rest).toReturn ((s.mgmtRest rest).mgmtAnswer t.hdr 1 2 0 []) := by
  unfold State.mgmtRead
  rw [State.takeMgmt_first hm hw (decide_eq_true hk)]
  dsimp only
  rw [if_pos (by simpa [or_assoc] using hbad), State.mgmtReply_spec]

theorem State.mgmtRead_fits (hm : s.net.mgmt = t :: rest) (hw : s.unitWaits .controller = false) (hk : mgmtKind t = 1)
    (h0 : halfAt (t.bytes.drop 48) 2 ≠ 0) (hmost : halfAt (t.bytes.drop 48) 2 ≤ 128)
    (hlen : t.hdr.len = 8 + 8 * halfAt (t.bytes.drop 48) 2) {vs : List Word} {ok : Bool} {u : State}
    (hr : (s.mgmtRest rest).mgmtReads (mgmtWords t) = (vs, ok, u)) {st done : Nat} (hst : st = if ok then 0 else 1)
    (hdone : done = vs.length) : s.mgmtRead = u.toReturn (u.mgmtAnswer t.hdr 1 st done vs) := by
  subst hst hdone
  unfold State.mgmtRead
  rw [State.takeMgmt_first hm hw (decide_eq_true hk)]
  dsimp only
  rw [if_neg (by simp [h0, hlen, Nat.not_lt.2 hmost]), hr]
  exact u.mgmtReply_spec _ _ _ _ _

theorem State.mgmtWrite_malformed (hm : s.net.mgmt = t :: rest) (hw : s.unitWaits .controller = false) (hk : mgmtKind t = 2)
    (hbad : halfAt (t.bytes.drop 48) 2 = 0 ∨ 64 < halfAt (t.bytes.drop 48) 2 ∨ t.hdr.len ≠ 8 + 16 * halfAt (t.bytes.drop 48) 2)
    (late : Bool) : s.mgmtWrite late = (s.mgmtRest rest).toReturn ((s.mgmtRest rest).mgmtAnswer t.hdr 2 2 0 []) := by
  unfold State.mgmtWrite
  rw [State.takeMgmt_first hm hw (decide_eq_true hk)]
  dsimp only
  rw [if_pos (by simpa [or_assoc] using hbad), State.mgmtReply_spec]

theorem State.mgmtWrite_fits (hm : s.net.mgmt = t :: rest) (hw : s.unitWaits .controller = false) (hk : mgmtKind t = 2)
    (h0 : halfAt (t.bytes.drop 48) 2 ≠ 0) (hmost : halfAt (t.bytes.drop 48) 2 ≤ 64)
    (hlen : t.hdr.len = 8 + 16 * halfAt (t.bytes.drop 48) 2) {late : Bool} {done : Nat} {ok : Bool} {u : State}
    (hr : (s.mgmtRest rest).mgmtWrites late (pairsOf (mgmtWords t)) = (done, ok, u)) {st : Nat} (hst : st = if ok then 0 else 1) :
    s.mgmtWrite late = u.toReturn (u.mgmtAnswer t.hdr 2 st done []) := by
  subst hst
  unfold State.mgmtWrite
  rw [State.takeMgmt_first hm hw (decide_eq_true hk)]
  dsimp only
  rw [if_neg (by simp [h0, hlen, Nat.not_lt.2 hmost]), hr]
  exact u.mgmtReply_spec _ _ _ _ _

theorem State.mgmtReads_refused (s : State) {ws : List Word} {o : Word} {l : List Word} (hws : ws = o :: l)
    (hmay : mgmtMay o.toNat = false) : s.mgmtReads ws = ([], false, s) := by
  subst hws
  simp [State.mgmtReads, hmay]

theorem State.mgmtWrites_refused (s : State) (late : Bool) {ws : List Word} {o : Word} {l : List Word} (hws : ws = o :: l)
    (hl : l ≠ []) (hmay : mgmtMay o.toNat = false) : s.mgmtWrites late (pairsOf ws) = (0, false, s) := by
  subst hws
  cases l with
  | nil => exact absurd rfl hl
  | cons b l => simp [pairsOf, State.mgmtWrites, hmay]

theorem State.mgmtReads_one (s : State) {ws : List Word} {o w : Word} {u : State} (hws : ws = [o])
    (hmay : mgmtMay o.toNat = true) (hread : s.readAt .controller 0 o.toNat = (w, u)) : s.mgmtReads ws = ([w], true, u) := by
  subst hws
  simp only [State.mgmtReads, hmay, hread, Bool.not_true, Bool.false_eq_true, if_false]

theorem State.mgmtWrites_one (s : State) (late : Bool) {ws : List Word} {o w : Word} {u : State} (hws : ws = [o, w])
    (hmay : mgmtMay o.toNat = true) (hu : u = s.writeAt 0 late o.toNat w) : s.mgmtWrites late (pairsOf ws) = (1, true, u) := by
  subst hws hu
  simp only [pairsOf, State.mgmtWrites, hmay, Bool.not_true, Bool.false_eq_true, if_false]

/-! ### Commands -/

theorem State.mgmtCommand_taken (hm : s.net.mgmt = t :: rest) (hw : s.unitWaits .controller = false)
    (h1 : mgmtKind t ≠ 1) (h2 : mgmtKind t ≠ 2) (hptp : mgmtKind t ≠ 0x88F7) : s.mgmtCommand =
      let v := s.mgmtRest rest
      if mgmtKind t ≠ 3 then
        ({ v with free := v.free + 1 } : State).mgmtReply t.hdr (mgmtKind t) (v.freshWord.1.toNat % 256) 0 []
      else if t.hdr.len ≠ 8 + 8 * (2 + bits ((mgmtWords t).getD 0 0) 54 44) || bit ((mgmtWords t).getD 0 0) 63 then
        v.mgmtReply t.hdr 3 2 0 []
      else v.mgmtPost t.hdr (mgmtWords t) := by
  unfold State.mgmtCommand
  rw [State.takeMgmt_first hm hw (by simp [h1, h2, hptp])]
  rfl

/-- The management ring is not ready for a program (18 R542). -/
theorem State.mgmtPost_refused (s : State) (h : Hdr) (ws : List Word) {r : Nat} (hr : r = s.fld .hostMgmtCfg 0 5 0)
    (hbad : s.flag .hostMgmtCfg 0 63 = false ∨ s.cringEn r = false ∨ (s.cring r).error = true
      ∨ 2 ^ s.cringLg r < s.ringAvail r + ws.length) : s.mgmtPost h ws = s.mgmtReply h 3 3 0 [] := by
  subst hr
  unfold State.mgmtPost
  rw [if_pos (by simpa [or_assoc] using hbad)]

theorem State.mgmtPost_ready (s : State) (h : Hdr) (ws : List Word) {r : Nat} (hr : r = s.fld .hostMgmtCfg 0 5 0)
    (hon : s.flag .hostMgmtCfg 0 63 = true) (hen : s.cringEn r = true) (herr : (s.cring r).error = false)
    (hroom : s.ringAvail r + ws.length ≤ 2 ^ s.cringLg r) : s.mgmtPost h ws
      = ({ s with host := { s.host with mgmtIn := s.host.mgmtIn ++ [⟨s.ringPi r, h, ws⟩] } } : State).doorbell r
          ((s.ringPi r + ws.length) % 2 ^ 32) := by
  subst hr
  unfold State.mgmtPost
  rw [if_neg (by simp [hon, hen, herr, Nat.not_lt.2 hroom])]

/-- A doorbell moves pi; the ring may enter ERROR (18 R528). -/
theorem State.doorbell_spec (s : State) (r : Nat) {pi : Nat} (hpi : pi < 2 ^ 32) {t : State} (ht : t = s.doorbell r pi) :
    t.ringPi r = pi
      ∧ t = { s with regs := t.regs, host := { s.host with cmd := t.host.cmd, pba := t.host.pba }, out := t.out } := by
  have hpi' := s.ringPi_doorbell r hpi
  have hframe : s.setFld .hostCmdIdx r 63 32 pi = { s with regs := (s.setFld .hostCmdIdx r 63 32 pi).regs } := rfl
  have ht' : t = (s.setFld .hostCmdIdx r 63 32 pi).cringCheck r := ht
  generalize s.setFld .hostCmdIdx r 63 32 pi = u at *
  unfold State.cringCheck at ht'
  split at ht'
  · obtain ⟨-, herr⟩ := u.cringError_spec r 1 ht'
    have hregs : t.regs = u.regs := by rw [herr]
    refine ⟨by rw [State.ringPi, State.fld_congr hregs]; exact hpi', ?_⟩
    rw [herr, hframe]
  · rw [ht']
    refine ⟨hpi', ?_⟩
    rw [hframe]

/-! ### PTP frames (16 R469 to R471) -/

/-- Local time at a free cycle of the beat: no capture is made (log entry 6). -/
theorem State.timeFree_spec (s : State) {t : State} (ht : t = s.timeFree) :
    t.time.captures = s.time.captures ∧ t = { s with free := t.free, time := t.time } := by
  subst ht
  refine ⟨?_, rfl⟩
  unfold State.timeFree State.advTime TimeState.adv
  dsimp only
  split <;> rfl

/-- What a capture does, in each of its cases (16 R469, R470). -/
theorem State.capture_spec (s : State) (type lane : Nat) (msg : List Byte) {u : State} (hu : u = s.capture type lane msg) :
    u.pending = s.pending ∧ u.net = s.net ∧ u.out = s.out ∧ u.mem = s.mem
      ∧ (3 < byteAt msg 0 % 16 → u = s)
      ∧ (byteAt msg 0 % 16 ≤ 3 →
        (byteAt msg 4 ≠ s.fld .timeDomCfg 0 31 24 → byteAt msg 4 ≠ s.fld .timeDomCfg 0 39 32 →
          u.fld .timeTsCfg 0 47 32 = Nat.min 65535 (s.fld .timeTsCfg 0 47 32 + 1) ∧ u.host = s.host)
        ∧ (byteAt msg 4 = s.fld .timeDomCfg 0 31 24 ∨ byteAt msg 4 = s.fld .timeDomCfg 0 39 32 →
          (64 ≤ s.time.captures →
            u.fld .timeTsCfg 0 63 48 = Nat.min 65535 (s.fld .timeTsCfg 0 63 48 + 1) ∧ u.host = s.host)
          ∧ (s.time.captures < 64 → u.time.captures = s.time.captures + 1 ∧ u.regs = s.regs
              ∧ u.host.outbox.length = s.host.outbox.length + 1))) := by
  unfold State.capture at hu
  dsimp only at hu
  by_cases hevent : 3 < byteAt msg 0 % 16
  · rw [if_pos hevent] at hu
    subst hu
    exact ⟨rfl, rfl, rfl, rfl, fun _ => rfl, fun h => absurd hevent (by omega)⟩
  rw [if_neg hevent] at hu
  by_cases hacc : byteAt msg 4 = s.fld .timeDomCfg 0 31 24 ∨ byteAt msg 4 = s.fld .timeDomCfg 0 39 32
  · rw [if_neg (by simpa using fun h => hacc.resolve_left h)] at hu
    have hdoms : ∀ {p : Prop}, byteAt msg 4 ≠ s.fld .timeDomCfg 0 31 24 → byteAt msg 4 ≠ s.fld .timeDomCfg 0 39 32 → p :=
      fun h1 h2 => absurd hacc (by simp [h1, h2])
    by_cases hfull : 64 ≤ s.time.captures
    · rw [if_pos hfull] at hu
      subst hu
      refine ⟨rfl, rfl, rfl, rfl, fun h => absurd h hevent, fun _ => ⟨fun h1 h2 => hdoms h1 h2,
        fun _ => ⟨fun _ => ⟨?_, rfl⟩, fun h => absurd hfull (by omega)⟩⟩⟩
      exact s.fld_bump .timeTsCfg 0 48 1 (hi := 63) (by omega)
    · rw [if_neg hfull] at hu
      obtain ⟨hcap, hframe⟩ := s.timeFree_spec rfl
      generalize s.timeFree = v at *
      have hhost : v.host = s.host := by rw [hframe]
      subst hu
      refine ⟨by rw [hframe]; rfl, by rw [hframe]; rfl, by rw [hframe]; rfl, by rw [hframe]; rfl, fun h => absurd h hevent,
        fun _ => ⟨fun h1 h2 => hdoms h1 h2, fun _ => ⟨fun h => absurd h hfull, fun _ => ⟨?_, ?_, ?_⟩⟩⟩⟩
      · exact congrArg (· + 1) hcap
      · rw [hframe]
        rfl
      · rw [← hhost]
        simp [State.post]
  · rw [if_pos (by simpa [not_or] using hacc)] at hu
    subst hu
    refine ⟨rfl, rfl, rfl, rfl, fun h => absurd h hevent, fun _ => ⟨fun _ _ => ⟨?_, rfl⟩, fun h => absurd h hacc⟩⟩
    exact s.fld_bump .timeTsCfg 0 32 1 (hi := 47) (by omega)

/-- The first waiting PTP frame (16 R471). -/
theorem State.mgmtPtp_first (hm : s.net.mgmt = t :: rest) (hk : mgmtKind t = 0x88F7) : s.mgmtPtp
    = ((s.mgmtRest rest).capture 0x80 t.inLane ((t.bytes.drop 50).take (t.hdr.len - 2))).emit
        (.toController ((t.bytes.drop 50).take (t.hdr.len - 2))) := by
  unfold State.mgmtPtp
  simp [hm, isPtp_of_mgmtKind hk, dropFirst, State.mgmtRest]

/-- A reply without words, or with one (18 R542). -/
theorem State.mgmtAnswer_bytes (s : State) (h : Hdr) (kind status done : Nat) :
    (s.mgmtAnswer h kind status done []).target = h.src
      ∧ (s.mgmtAnswer h kind status done []).bytes
        = (s.replyHdr h opMgmtRsp 8 false).bytes ++ wordBytes (at_ 48 kind ||| at_ 40 status ||| at_ 0 done) := by
  refine ⟨rfl, ?_⟩
  simp [State.mgmtAnswer, unicastRet]

theorem State.mgmtAnswer_word (s : State) (h : Hdr) (kind status done : Nat) (w : Word) :
    (s.mgmtAnswer h kind status done [w]).target = h.src
      ∧ (s.mgmtAnswer h kind status done [w]).bytes
        = (s.replyHdr h opMgmtRsp 16 false).bytes ++ wordBytes (at_ 48 kind ||| at_ 40 status ||| at_ 0 done) ++ wordBytes w := by
  refine ⟨rfl, ?_⟩
  simp [State.mgmtAnswer, unicastRet]

/-- An answer of the controller, whatever the command: the frame is taken, and the reply goes to its source. -/
theorem run_mgmtAnswer {i : Instr} (hi : i.wellFormed = true) (hlive : s.live = true) {f : State → State} {v : State}
    (hv : v.pending = s.pending) {h : Hdr} {kind status done : Nat}
    (hf : f s = v.toReturn (v.mgmtAnswer h kind status done [])) :
    ∃ x, run i s f = .next { v with net := { v.net with ret := v.net.ret ++ [x] } } ∧ x.target = h.src
      ∧ x.bytes = (v.replyHdr h opMgmtRsp 8 false).bytes ++ wordBytes (at_ 48 kind ||| at_ 40 status ||| at_ 0 done) :=
  ⟨_, run_live_eq hi hlive hf hv, v.mgmtAnswer_bytes h kind status done⟩

/-- Settles O56: management reads, writes, commands and PTP frames. -/
theorem managementFrames : Obligations.ManagementFrames := by
  unfold Obligations.ManagementFrames
  intro s hlive
  refine ⟨fun hnone late => ⟨?_, ?_, ?_⟩, fun hnone => ?_, ?_⟩
  · exact run_live_eq (i := .mgmtRead) rfl hlive (by rw [State.mgmtRead, State.takeMgmt_none hnone]) rfl
  · exact run_live_eq (i := .mgmtWrite late) rfl hlive (f := fun s => s.mgmtWrite late)
      (by rw [State.mgmtWrite, State.takeMgmt_none hnone]) rfl
  · exact run_live_eq (i := .mgmtCommand late) rfl hlive (by rw [State.mgmtCommand, State.takeMgmt_none hnone]) rfl
  · exact run_live_eq (i := .mgmtPtp) rfl hlive (by simp [State.mgmtPtp, hnone]) rfl
  intro t rest k n ws v hm hw hk hn hws hv
  subst hk hn hws
  have hv' : v = s.mgmtRest rest := hv
  refine ⟨fun i kind most step hi hkind => ⟨fun hbad => ?_, fun o l h0 hmost hlen hol hlast hmay => ?_⟩,
    fun o w u hk hone hlen ho hmay hread => ?_, fun o w u late hk hone hlen ho hmay hu => ?_, fun late m r hmr hr => ⟨fun hk hbad => ?_,
      fun hk hlen hbit => ⟨fun hbad => ?_, fun hon hen herr hroom => ?_⟩, fun h1 h2 h3 hptp => ?_⟩, fun msg hk hmsg => ?_⟩
  case refine_1 =>
    subst hv'
    simp only [List.mem_cons, Prod.mk.injEq, List.not_mem_nil, or_false] at hi
    rcases hi with ⟨rfl, rfl, rfl, rfl⟩ | ⟨rfl, rfl, rfl, rfl⟩ | ⟨rfl, rfl, rfl, rfl⟩
    · exact run_mgmtAnswer (v := s.mgmtRest rest) (i := .mgmtRead) rfl hlive rfl (State.mgmtRead_malformed hm hw hkind hbad)
    · exact run_mgmtAnswer (v := s.mgmtRest rest) (i := .mgmtWrite false) rfl hlive rfl (State.mgmtWrite_malformed hm hw hkind hbad false)
    · exact run_mgmtAnswer (v := s.mgmtRest rest) (i := .mgmtWrite true) rfl hlive rfl (State.mgmtWrite_malformed hm hw hkind hbad true)
  case refine_2 =>
    subst hv'
    simp only [List.mem_cons, Prod.mk.injEq, List.not_mem_nil, or_false] at hi
    rcases hi with ⟨rfl, rfl, rfl, rfl⟩ | ⟨rfl, rfl, rfl, rfl⟩ | ⟨rfl, rfl, rfl, rfl⟩
    · exact run_mgmtAnswer (v := s.mgmtRest rest) (i := .mgmtRead) rfl hlive rfl
        (State.mgmtRead_fits hm hw hkind h0 hmost hlen (State.mgmtReads_refused _ hol hmay) rfl rfl)
    · exact run_mgmtAnswer (v := s.mgmtRest rest) (i := .mgmtWrite false) rfl hlive rfl
        (State.mgmtWrite_fits hm hw hkind h0 hmost hlen
          (State.mgmtWrites_refused _ false hol (hlast.resolve_left (by decide)) hmay) rfl)
    · exact run_mgmtAnswer (v := s.mgmtRest rest) (i := .mgmtWrite true) rfl hlive rfl
        (State.mgmtWrite_fits hm hw hkind h0 hmost hlen
          (State.mgmtWrites_refused _ true hol (hlast.resolve_left (by decide)) hmay) rfl)
  case refine_3 =>
    rw [hv'] at hread
    have hreads := State.mgmtReads_one (s.mgmtRest rest) ho hmay hread
    have hfits := State.mgmtRead_fits hm hw hk (by rw [hone]; decide) (by rw [hone]; decide) (by rw [hone, hlen]) hreads (st := 0) (done := 1) rfl rfl
    refine ⟨_, (run_live (i := .mgmtRead) rfl hlive).trans ?_, u.mgmtAnswer_word t.hdr 1 0 1 w⟩
    rw [State.act, hfits]
    rfl
  case refine_4 =>
    rw [hv'] at hu
    have hwrites := State.mgmtWrites_one (s.mgmtRest rest) late ho hmay hu
    have hfits := State.mgmtWrite_fits hm hw hk (by rw [hone]; decide) (by rw [hone]; decide) (by rw [hone, hlen]) hwrites (st := 0) rfl
    refine ⟨_, (run_live (i := .mgmtWrite late) rfl hlive).trans ?_, u.mgmtAnswer_bytes t.hdr 2 0 1⟩
    rw [State.act, hfits]
    rfl
  case refine_5 =>
    subst hv' hmr
    have hcmd := State.mgmtCommand_taken hm hw (by rw [hk]; decide) (by rw [hk]; decide) (by rw [hk]; decide)
    rw [if_neg (by rw [hk]; decide), if_pos (by simpa using hbad), State.mgmtReply_spec] at hcmd
    exact run_mgmtAnswer (v := s.mgmtRest rest) (i := .mgmtCommand late) rfl hlive rfl hcmd
  case refine_6 =>
    subst hv' hmr
    have hcmd := State.mgmtCommand_taken hm hw (by rw [hk]; decide) (by rw [hk]; decide) (by rw [hk]; decide)
    rw [if_neg (by rw [hk]; decide), if_neg (by rw [hbit, Bool.or_false, decide_eq_true_eq]; exact not_not_intro hlen),
      (s.mgmtRest rest).mgmtPost_refused t.hdr (mgmtWords t) hr hbad, State.mgmtReply_spec] at hcmd
    exact run_mgmtAnswer (v := s.mgmtRest rest) (i := .mgmtCommand late) rfl hlive rfl hcmd
  case refine_7 =>
    subst hv' hmr
    have hcmd := State.mgmtCommand_taken hm hw (by rw [hk]; decide) (by rw [hk]; decide) (by rw [hk]; decide)
    rw [if_neg (by rw [hk]; decide), if_neg (by rw [hbit, Bool.or_false, decide_eq_true_eq]; exact not_not_intro hlen),
      (s.mgmtRest rest).mgmtPost_ready t.hdr (mgmtWords t) hr hon hen herr hroom] at hcmd
    obtain ⟨hpi, hframe⟩ := State.doorbell_spec _ r (Nat.mod_lt _ (by decide)) hcmd
    exact ⟨_, run_live_eq (i := .mgmtCommand late) rfl hlive rfl (by rw [hframe]; rfl), by rw [hframe], by rw [hframe]; rfl, hpi,
      by rw [hframe]; rfl⟩
  case refine_8 =>
    subst hv'
    have hcmd := State.mgmtCommand_taken hm hw h1 h2 hptp
    rw [if_pos h3, State.mgmtReply_spec] at hcmd
    obtain ⟨x, hx, htarget, hbytes⟩ :=
      run_mgmtAnswer (v := { s.mgmtRest rest with free := s.free + 1 }) (i := .mgmtCommand late) rfl hlive rfl hcmd
    exact ⟨x, _, hx, Nat.mod_lt _ (by decide), htarget, hbytes⟩
  case refine_9 =>
    subst hv' hmsg
    have hptp := State.mgmtPtp_first hm hk
    obtain ⟨hpend, hnet, hout, hmem, hgen, hevent⟩ :=
      (s.mgmtRest rest).capture_spec 0x80 t.inLane ((t.bytes.drop 50).take (t.hdr.len - 2)) rfl
    generalize (s.mgmtRest rest).capture 0x80 t.inLane ((t.bytes.drop 50).take (t.hdr.len - 2)) = u at *
    have hout' : (u.emit (.toController ((t.bytes.drop 50).take (t.hdr.len - 2)))).out
        = s.out ++ [.toController ((t.bytes.drop 50).take (t.hdr.len - 2))] := congrArg (· ++ _) hout
    refine ⟨_, run_live_eq (i := .mgmtPtp) rfl hlive hptp hpend, hnet, hout', hmem, fun h => ?_, hevent⟩
    rw [hgen h]
    rfl

end

end Sys2Proof.Machine

/-! ## Partitions and drains (15 R439, R445, R448) -/

section
namespace Sys2Proof.Machine

/-! ### A partition's own changes -/

/-- A change of a partition's state by the part (15 R439, R463). -/
theorem State.setPst_spec (s : State) {p : Nat} (h0 : p ≠ 0) {st : PSt} (hst : st ≠ .reset) (cause : Nat) :
    (s.setPst p st cause).pst p = st
      ∧ ((s.setPst p st cause).partInfo p).resetAt = (if st = .free then 0 else (s.partInfo p).resetAt)
      ∧ (∀ q, q ≠ p → (s.setPst p st cause).partInfo q = s.partInfo q)
      ∧ (s.setPst p st cause).host.outbox.length = s.host.outbox.length + 1
      ∧ s.setPst p st cause = { s with part := (s.setPst p st cause).part, host := (s.setPst p st cause).host } := by
  unfold State.setPst
  rw [if_neg h0]
  dsimp only
  rw [if_neg hst]
  refine ⟨?_, ?_, fun q hq => ?_, by simp [State.stateItem, State.post], rfl⟩
  · simp [State.pst, State.partInfo, State.stateItem, h0]
  · simp [State.partInfo, State.stateItem, h0]
  · simp [State.partInfo, State.stateItem, SMap.get_set, hq]

theorem State.quarantineDue_iff (s : State) (p : Nat) : s.quarantineDue p = true ↔
    s.pst p = .reset ∧ (s.partInfo p).resetAt + 64 ≤ s.beat.bc := by simp [State.quarantineDue, State.pst]

theorem State.freeDue_iff (s : State) (p : Nat) : s.freeDue p = true ↔
    s.pst p = .quarantine ∧ (s.partInfo p).resetAt + 3907 ≤ s.beat.bc := by simp [State.freeDue, State.pst]

theorem State.coming_quarantineDue (s : State) (p : Nat) : s.coming (·.quarantineDue p) = true ↔
    s.pst p = .reset ∧ (s.partInfo p).resetAt + 64 ≤ s.beat.bc + 1 := State.quarantineDue_iff _ p

theorem State.coming_freeDue (s : State) (p : Nat) : s.coming (·.freeDue p) = true ↔
    s.pst p = .quarantine ∧ (s.partInfo p).resetAt + 3907 ≤ s.beat.bc + 1 := State.freeDue_iff _ p

/-- A timed condition that the coming boundary does not meet changes nothing. -/
theorem run_call_early {i : Instr} {s : State} (hwf : i.wellFormed = true) (hlive : s.live = true) {due : State → Bool}
    (hdue : due s = false) : run i s (fun s => s.call i (due s)) = .next s :=
  (run_call hwf hlive hdue).trans (congrArg _ (State.call_early s i))

/-! ### Drains -/

section
variable {s : State} {kind idx : Nat}

theorem State.draining_iff : s.draining kind idx = true ↔ ∃ d, s.disable kind idx = some d ∧ d.draining = true := by
  unfold State.draining
  cases s.disable kind idx <;> simp

/-- A record of a disable that ends its drain stays a disable. -/
theorem State.disable_setDisable {d : Disable} (hd : s.disable kind idx = some d) :
    (s.setDisable kind idx fun x => { x with draining := false }).disable kind idx = some { d with draining := false } := by
  have hkey := List.find?_some hd
  exact find?_updFirst hd hkey

/-- What a disable is said to be rests on the partition layer alone. -/
theorem State.disable_congr {t : State} (h : t.part = s.part) : t.disable kind idx = s.disable kind idx := by
  simp only [State.disable, h]

/-- What drains at the coming boundary drains now; a plane's granted slots depend on the boundary. -/
theorem State.coming_cleanDue (hdrain : s.draining kind idx = true) (hkind : kind ≠ 4) (hlt : kind < 5) :
    s.coming (·.cleanDue kind idx) = s.drained kind idx := by
  have hclean : s.coming (·.cleanDue kind idx) = (s.draining kind idx && s.coming (·.drained kind idx)) := rfl
  rw [hclean, hdrain, Bool.true_and]
  interval_cases kind
  · rfl
  · rfl
  · rfl
  · rfl
  · exact absurd rfl hkind

theorem State.deadlineDue_some {d : Disable} (hd : s.disable kind idx = some d) (hdrain : d.draining = true) :
    s.deadlineDue kind idx = decide (d.deadline ≤ s.beat.bc) := by
  simp [State.deadlineDue, hd, hdrain]

theorem State.coming_deadlineDue {d : Disable} (hd : s.disable kind idx = some d) (hdrain : d.draining = true) :
    s.coming (·.deadlineDue kind idx) = decide (d.deadline ≤ s.beat.bc + 1) :=
  State.deadlineDue_some (s := { s with beat := _ }) hd hdrain

theorem State.coming_cleanDue_idle (hidle : s.draining kind idx = false) : s.coming (·.cleanDue kind idx) = false := by
  have hclean : s.coming (·.cleanDue kind idx) = (s.draining kind idx && s.coming (·.drained kind idx)) := rfl
  rw [hclean, hidle, Bool.false_and]

theorem State.coming_deadlineDue_idle (hidle : s.draining kind idx = false) : s.coming (·.deadlineDue kind idx) = false := by
  have hdue : ∀ u : State, u.draining kind idx = false → u.deadlineDue kind idx = false := fun u hu => by
    unfold State.draining at hu
    unfold State.deadlineDue
    cases hdis : u.disable kind idx with
    | none => rfl
    | some d => simp only [hdis] at hu; simp [hu]
  exact hdue _ hidle

end

/-! ### What the end of a drain leaves of the partition layer -/

section
variable (s : State)

theorem State.part_foldl {α : Type} {f : State → α → State} (h : ∀ s a, (f s a).part = s.part) (l : List α) :
    (l.foldl f s).part = s.part := by
  induction l generalizing s with
  | nil => rfl
  | cons a l ih => rw [List.foldl_cons, ih, h]

@[simp] theorem State.updCtx_part (i : Nat) (f : Context → Context) : (s.updCtx i f).part = s.part := by
  unfold State.updCtx
  cases s.ctx i <;> rfl

@[simp] theorem State.nextSeq_part (i : Nat) : (s.nextSeq i).2.part = s.part := by
  unfold State.nextSeq
  cases s.ctx i <;> rfl

@[simp] theorem State.sendGroups_part (d : Desc) (seq b : Nat) (clu : Option Nat) (h : Hdr) (pay : List Byte) :
    (s.sendGroups d seq b clu h pay).part = s.part := by
  unfold State.sendGroups
  exact State.part_foldl _ (fun _ _ => State.toReturn_part _ _) _

@[simp] theorem State.roundFrame_part (i status : Nat) : (s.roundFrame i status).part = s.part := by
  unfold State.roundFrame
  cases s.ctx i <;> simp

@[simp] theorem State.endRound_part (i status : Nat) (next : Bool) : (s.endRound i status next).part = s.part := by
  unfold State.endRound
  cases s.ctx i with
  | none => rfl
  | some c =>
    dsimp only
    split
    · rfl
    · rw [State.updCtx_part]
      split
      · rw [State.roundFrame_part]; rfl
      · rfl

/-- A context with no open chunk is cut: its round ends. -/
theorem State.cutCtx_part_of_empty {i : Nat} (h : s.openOf i = []) : (s.cutCtx i).1.part = s.part := by
  simp [State.cutCtx, h]

@[simp] theorem State.removeCircs_part (stop gone cause : Nat) (p : Circ → Bool) :
    (s.removeCircs stop gone cause p).part = s.part := by
  unfold State.removeCircs
  exact State.part_foldl _ (fun _ _ => State.post_part _ _ _) _

@[simp] theorem State.planeMode_part (w new cause circCause : Nat) : (s.planeMode w new cause circCause).part = s.part := by
  unfold State.planeMode
  dsimp only
  split
  · rfl
  · simp only [State.bypItem, State.post_part]
    split
    · simp [State.setPlane]
    · split <;> rfl

/-- The end of a clean drain, for each kind, leaves the partition layer with the drain ended. -/
theorem State.drainClean_part {kind idx : Nat} (hdrain : s.draining kind idx = true) (hdone : s.drained kind idx = true) :
    (s.drainClean kind idx).part = (s.setDisable kind idx fun d => { d with draining := false }).part := by
  unfold State.drainClean
  simp only [State.cleanDue, hdrain, hdone, Bool.and_self, Bool.not_true, Bool.false_eq_true, if_false, State.discardItem,
    State.post_part]
  by_cases h2 : kind = 2
  · subst h2
    rw [if_pos rfl]
    refine State.cutCtx_part_of_empty _ ?_
    simpa [State.drained, State.openOf, State.setDisable] using hdone
  · rw [if_neg h2]
    split
    · exact State.planeMode_part _ _ _ _ _
    · rfl

/-- The clean end of a drain of a port, a partition or a reduction domain. -/
theorem State.drainClean_eq {kind idx : Nat} (hdrain : s.draining kind idx = true) (hdone : s.drained kind idx = true)
    (h2 : kind ≠ 2) (h4 : kind ≠ 4) : s.drainClean kind idx
      = (s.setDisable kind idx fun d => { d with draining := false }).discardItem kind true 1 idx {} := by
  simp [State.drainClean, State.cleanDue, hdrain, hdone, h2, h4]

end

/-- Settles O41: each of the four is called where the coming boundary meets its condition; a partition's change is
`setPst`, and a drain's end leaves its record as a disable that drains no more. -/
theorem partitionsOwnChanges : Obligations.PartitionsOwnChanges := by
  unfold Obligations.PartitionsOwnChanges
  intro s hlive
  refine ⟨fun p hp h0 => ⟨fun hst hat => ?_, fun hnot => ?_, ?_, fun hst hat => ?_, fun hnot => ?_, ?_⟩,
    fun kind idx hkind => ⟨fun hidle => ⟨?_, ?_⟩, fun hdrain h4 => ?_, ?_, fun hwork => ?_, fun d hdrain hd => ?_⟩⟩
  case refine_1 =>
    exact run_call (i := .quarantineEntry p) (by simpa [Instr.wellFormed] using hp) hlive
      (due := fun s => s.coming (·.quarantineDue p)) ((State.coming_quarantineDue s p).2 ⟨hst, hat⟩)
  case refine_2 =>
    refine run_call_early (i := .quarantineEntry p) (by simpa [Instr.wellFormed] using hp) hlive
      (due := fun s => s.coming (·.quarantineDue p)) (Bool.eq_false_iff.2 fun hdue => ?_)
    obtain ⟨hst, hat⟩ := (State.coming_quarantineDue s p).1 hdue
    exact hnot.elim (fun h => h hst) (fun h => absurd hat (Nat.not_le.2 h))
  case refine_3 =>
    rintro hst hat t rfl
    obtain ⟨hpst, hreset, hother, hout, hframe⟩ := s.setPst_spec h0 (st := .quarantine) (by decide) 3
    rw [State.quarantine, if_pos ((s.quarantineDue_iff p).2 ⟨hst, hat⟩)]
    exact ⟨hpst, hreset, hother, hout, hframe⟩
  case refine_4 =>
    exact run_call (i := .partitionFree p) (by simpa [Instr.wellFormed] using hp) hlive
      (due := fun s => s.coming (·.freeDue p)) ((State.coming_freeDue s p).2 ⟨hst, hat⟩)
  case refine_5 =>
    refine run_call_early (i := .partitionFree p) (by simpa [Instr.wellFormed] using hp) hlive
      (due := fun s => s.coming (·.freeDue p)) (Bool.eq_false_iff.2 fun hdue => ?_)
    obtain ⟨hst, hat⟩ := (State.coming_freeDue s p).1 hdue
    exact hnot.elim (fun h => h hst) (fun h => absurd hat (Nat.not_le.2 h))
  case refine_6 =>
    rintro hst hat t rfl
    obtain ⟨hpst, -, hother, hout, hframe⟩ := s.setPst_spec h0 (st := .free) (by decide) 3
    rw [State.partFree, if_pos ((s.freeDue_iff p).2 ⟨hst, hat⟩)]
    exact ⟨hpst, hother, hout, hframe⟩
  case refine_7 =>
    exact run_call_early (i := .drainEndClean kind idx) (by simpa [Instr.wellFormed] using hkind) hlive
      (due := fun s => s.coming (·.cleanDue kind idx)) (State.coming_cleanDue_idle hidle)
  case refine_8 =>
    exact run_call_early (i := .drainDeadline kind idx) (by simpa [Instr.wellFormed] using hkind) hlive
      (due := fun s => s.coming (·.deadlineDue kind idx)) (State.coming_deadlineDue_idle hidle)
  case refine_9 =>
    have hrun := run_call (i := .drainEndClean kind idx) (by simpa [Instr.wellFormed] using hkind) hlive
      (due := fun s => s.coming (·.cleanDue kind idx)) (State.coming_cleanDue hdrain h4 hkind)
    refine hrun.trans (congrArg _ ?_)
    cases s.drained kind idx
    · exact State.call_early s _
    · rfl
  case refine_10 =>
    rintro hdrain hdone t rfl
    obtain ⟨d, hd, -⟩ := State.draining_iff.1 hdrain
    have hdis : (s.drainClean kind idx).disable kind idx = some { d with draining := false } :=
      (State.disable_congr (s.drainClean_part hdrain hdone)).trans (State.disable_setDisable hd)
    refine ⟨by simp [State.draining, hdis], by simp [State.disabled, hdis], fun hkinds => ?_⟩
    rw [s.drainClean_eq hdrain hdone (by omega) (by omega)]
    exact ⟨rfl, by simp [State.discardItem, State.post, State.setDisable], rfl⟩
  case refine_11 => simp [State.drainClean, State.cleanDue, hwork]
  case refine_12 =>
    have hon : d.draining = true := by
      obtain ⟨x, hx, hon⟩ := State.draining_iff.1 hdrain
      rwa [Option.some.inj (hd.symm.trans hx)]
    have hwf : (Instr.drainDeadline kind idx).wellFormed = true := by simpa [Instr.wellFormed] using hkind
    refine ⟨fun hearly => ?_, fun hdue => ?_, fun hdue => ?_⟩
    · exact run_call_early hwf hlive (due := fun s => s.coming (·.deadlineDue kind idx))
        ((State.coming_deadlineDue hd hon).trans (decide_eq_false (Nat.not_le.2 hearly)))
    · exact run_call hwf hlive (due := fun s => s.coming (·.deadlineDue kind idx))
        ((State.coming_deadlineDue hd hon).trans (decide_eq_true hdue))
    · rw [State.drainDeadline, if_pos ((State.deadlineDue_some hd hon).trans (decide_eq_true hdue))]

end Sys2Proof.Machine
end

/-! ## Checks of sampled chunks, relays and broadcasts (14 R412 to R418; 11 R333; 15 R454, R455) -/

section
namespace Sys2Proof.Machine

/-! ### Buffers that go back (07 R177) -/

section
variable (s : State)

theorem State.onlyBuf_giveTiles (a : Alloc) (p : Nat) : s.onlyBuf (s.giveTiles a p) :=
  List.foldlRecOn (motive := fun (u : State) => s.onlyBuf u) _ _ rfl
    fun u hu _ _ => State.onlyBuf_trans hu (u.onlyBuf_giveTile _ _ _)

theorem State.onlyBuf_useBuf (i : ListId) (p : Nat) (f : Nat → Nat → Nat) : s.onlyBuf (s.useBuf i p f) := by
  cases i <;> rfl

theorem State.onlyBuf_giveBuf (p : Nat) (b : Buf) : s.onlyBuf (s.giveBuf p b) := by
  have huse := s.onlyBuf_useBuf b.list p (· - ·)
  unfold State.giveBuf
  dsimp only
  split
  · exact State.onlyBuf_trans huse rfl
  · exact huse

theorem State.onlyBuf_giveBufs (u : BufUse) : s.onlyBuf (s.giveBufs u) :=
  List.foldlRecOn (motive := fun (t : State) => s.onlyBuf t) _ _ rfl
    fun t ht b _ => State.onlyBuf_trans ht (t.onlyBuf_giveBuf u.part b)

theorem State.onlyBuf_freeStaging (cluster ctx chunk : Nat) : s.onlyBuf (s.freeStaging cluster ctx chunk) := by
  unfold State.freeStaging
  dsimp only
  split
  · exact State.onlyBuf_trans (t := { s with buf := _ }) rfl (State.onlyBuf_giveBufs _ _)
  · rfl

/-- What a pool gives does not rest on the collectives. -/
theorem State.drawEach_withColl (x : CollState) (pool cluster p c : Nat) (l : List ListId) :
    State.drawEach { s with coll := x } pool cluster p c l
      = (State.drawEach s pool cluster p c l).map fun y => (y.1, { y.2 with coll := x }) := by
  induction l generalizing s with
  | nil => rfl
  | cons i l ih =>
    have hsrc : State.bufSrc { s with coll := x } pool cluster p c = s.bufSrc pool cluster p c := rfl
    have hlist : State.freeList { s with coll := x } i = s.freeList i := rfl
    unfold State.drawEach
    rw [hsrc, hlist]
    split
    next src b bs rest hs hp =>
      have huse : (((State.setList { s with coll := x } i rest).setOwner (Buf.key ⟨i, b⟩) (ownerWord src c p)).useBuf i p (· + ·))
          = { ((s.setList i rest).setOwner (Buf.key ⟨i, b⟩) (ownerWord src c p)).useBuf i p (· + ·) with coll := x } := by
        cases i <;> rfl
      dsimp only
      rw [huse, ih, Option.map_map, Option.map_map]
      rfl
    next => rfl

theorem State.drawPool_none_withColl (x : CollState) {pool cluster ctx chunk p c n : Nat}
    (h : s.drawPool pool cluster ctx chunk p c n = none) :
    State.drawPool { s with coll := x } pool cluster ctx chunk p c n = none := by
  have hfree : State.poolFree { s with coll := x } pool cluster = s.poolFree pool cluster := rfl
  unfold State.drawPool at h ⊢
  rw [hfree]
  split at h
  next => rfl
  next l heq =>
    simp only [State.drawEach_withColl, Option.map_eq_none_iff] at h ⊢
    exact h

end

/-! ### Registers of the checks -/

/-- Every number names one of the clusters' registers: the map has one group of 768. -/
theorem RegKind.off_intClu (c : Nat) : RegKind.intClu.off c = RegKind.intClu.off (c % 768) := by
  simp [RegKind.off_eq, RegKind.row]

/-- A cluster's register is none of the compares' counters. -/
theorem State.fld_bump_intClu (s : State) (c n hi lo hi' lo' : Nat) :
    (s.bump .intClu c hi' lo' n).fld .intDupCnt1 0 hi lo = s.fld .intDupCnt1 0 hi lo := by
  have hoff : RegKind.intDupCnt1.off 0 / 8 ≠ RegKind.intClu.off c / 8 := by
    rw [RegKind.off_intClu]
    exact RegKind.word_ne (by decide) (by decide) (Nat.mod_lt c (by decide))
  rw [State.fld, State.fld, State.reg_bump_other (h := hoff)]

/-! ### Retained tiles, mismatches and suspects -/

section
variable (s : State)

theorem State.releaseTiles_spec (c : Check) (p : Nat → Bool) : s.onlyBuf (s.releaseTiles c p).1
    ∧ (s.releaseTiles c p).2 = { c with retained := c.retained.filter fun r => !p r.1 } := by
  unfold State.releaseTiles
  rw [List.partition_eq_filter_filter]
  exact ⟨List.foldlRecOn (motive := fun (u : State) => s.onlyBuf u) _ _ rfl
    fun u hu r _ => State.onlyBuf_trans hu (u.onlyBuf_giveTiles _ _), rfl⟩

/-- The state of a mismatch: the compares' counter rises and one item goes out (14 R429, R436). -/
theorem State.mismatchRep_spec (c : Check) (outcome seg : Nat) :
    s.mismatchRep c outcome seg
        = { s with regs := (s.mismatchRep c outcome seg).regs, host := (s.mismatchRep c outcome seg).host }
      ∧ (s.mismatchRep c outcome seg).fld .intDupCnt1 0 63 48 = Nat.min 65535 (s.fld .intDupCnt1 0 63 48 + 1)
      ∧ (s.mismatchRep c outcome seg).host.outbox.length = s.host.outbox.length + 1 := by
  have hbump := State.fld_bump s .intDupCnt1 0 48 1 (hi := 63) (by omega)
  refine ⟨rfl, hbump, ?_⟩
  simp [State.mismatchRep, State.post]

/-- The state that a cluster's suspect event leaves (14 R422). -/
theorem State.suspectClu_spec (c : Nat) :
    s.suspectClu c = { s with regs := (s.suspectClu c).regs, out := s.out ++ [.event .suspectCluster [c]],
                              red := { s.red with suspect := s.red.suspect ++ [c] } }
      ∧ (s.suspectClu c).fld .intDupCnt1 0 63 48 = s.fld .intDupCnt1 0 63 48 :=
  ⟨rfl, s.fld_bump_intClu c 1 63 48 57 42⟩

/-- The suspects of a compare, one event each. -/
theorem State.suspects_spec (home chk : Bool) (h k : Nat) {t u : State} (ht : t = if home then s.suspectClu h else s)
    (hu : u = if chk then t.suspectClu k else t) :
    u = { s with regs := u.regs, out := u.out, red := { s.red with suspect := s.red.suspect
            ++ (if home then [h] else []) ++ (if chk then [k] else []) } }
      ∧ u.fld .intDupCnt1 0 63 48 = s.fld .intDupCnt1 0 63 48 := by
  have htspec : t = { s with regs := t.regs, out := t.out,
                             red := { s.red with suspect := s.red.suspect ++ (if home then [h] else []) } }
      ∧ t.fld .intDupCnt1 0 63 48 = s.fld .intDupCnt1 0 63 48 := by
    subst ht
    cases home
    · exact ⟨by simp, rfl⟩
    · exact s.suspectClu_spec h
  obtain ⟨htframe, htfld⟩ := htspec
  subst hu
  cases chk
  · refine ⟨?_, htfld⟩
    simp only [Bool.false_eq_true, if_false, List.append_nil]
    exact htframe
  · refine ⟨?_, (t.suspectClu_spec k).2.trans htfld⟩
    simp only [if_true]
    rw [(t.suspectClu_spec k).1, htframe]

/-- A check put back, with its arbiter's staging given back where no compare needs it any more. -/
theorem State.putCheckArb_spec (c : Check) : ∃ (u : State) (d : Check), s.putCheckArb c = u.putCheck d ∧ s.onlyBuf u
    ∧ d = { c with arbDrawn := c.arbDrawn && c.cmps.any fun m => m.differs.isSome } := by
  unfold State.putCheckArb
  split
  next h =>
    refine ⟨_, _, rfl, s.onlyBuf_freeStaging _ _ _, ?_⟩
    rw [Bool.and_eq_true, Bool.not_eq_true'] at h
    rw [h.1, h.2]
    rfl
  next h =>
    refine ⟨s, c, rfl, rfl, ?_⟩
    have hand : (c.arbDrawn && c.cmps.any fun m => m.differs.isSome) = c.arbDrawn := by
      cases hdrawn : c.arbDrawn
      · rfl
      · rw [hdrawn, Bool.true_and, Bool.not_eq_true', Bool.not_eq_false] at h
        rw [h, Bool.and_self]
    rw [hand]

end

/-! ### Compares, arbiter results and limits (14 R413, R414, R417) -/

section
variable {s : State} {i k seg dig : Nat} {c : Check} {m : Cmp}

theorem State.digestCompare_idle (h : s.checkOf i k seg = none ∨ ∃ c, s.checkOf i k seg = some c
    ∧ (c.cmps.find? (fun m => m.seg = seg && m.differs.isNone) = none ∨ s.checkWaits c seg = true)) :
    s.digestCompare i k seg dig = s := by
  unfold State.digestCompare
  obtain h | ⟨c, hc, hidle⟩ := h
  · rw [h]
  · rw [hc]
    dsimp only
    split
    next => rfl
    next m hm =>
      obtain hnone | hwaits := hidle
      · exact absurd (hnone.symm.trans hm) nofun
      · rw [if_pos hwaits]

/-- Equal digests end the compare, and its tiles go back. -/
theorem State.digestCompare_equal (hc : s.checkOf i k seg = some c)
    (hm : c.cmps.find? (fun m => m.seg = seg && m.differs.isNone) = some m) (hwaits : s.checkWaits c seg = false)
    (heq : m.digest = dig) : ∃ u, s.onlyBuf u ∧ s.digestCompare i k seg dig
      = u.putCheck { c with cmps := dropFirst (fun x => x.seg = seg) c.cmps, retained := c.retained.filter fun r => r.1 ≠ seg } := by
  obtain ⟨hbuf, hkept⟩ := s.releaseTiles_spec { c with cmps := dropFirst (fun x => x.seg = seg) c.cmps } fun g => g = seg
  refine ⟨_, hbuf, ?_⟩
  unfold State.digestCompare
  simp only [hc, hm, hwaits, heq, hkept, Bool.false_eq_true, if_false, if_true, decide_not]

/-- Different digests leave the compare for the arbiter. -/
theorem State.digestCompare_differ (hc : s.checkOf i k seg = some c)
    (hm : c.cmps.find? (fun m => m.seg = seg && m.differs.isNone) = some m) (hwaits : s.checkWaits c seg = false)
    (hne : m.digest ≠ dig) {d : Check}
    (hd : d = { c with cmps := updFirst (fun x => x.seg = seg) (fun x => { x with differs := some dig }) c.cmps }) :
    s.digestCompare i k seg dig = (s.putCheck d).arbDraw d := by
  unfold State.digestCompare
  simp only [hc, hm, hwaits, hne, hd, Bool.false_eq_true, if_false]

/-- An arbiter that has its staging, or finds none, draws nothing. -/
theorem State.arbDraw_idle (h : c.arbDrawn = true
    ∨ s.drawPool 0 c.arb c.ctx c.chunk c.desc.part c.desc.resClass c.desc.partialKib = none) :
    (s.putCheck c).arbDraw c = s.putCheck c := by
  unfold State.arbDraw
  obtain hdrawn | hnone := h
  · rw [hdrawn]
    rfl
  · have hnone' : (s.putCheck c).drawPool 0 c.arb c.ctx c.chunk c.desc.part c.desc.resClass c.desc.partialKib = none :=
      s.drawPool_none_withColl _ hnone
    rw [hnone']
    split <;> rfl

theorem State.onlyBuf_drawEach {pool cluster p c : Nat} {l : List ListId} {x : List Buf × State}
    (h : State.drawEach s pool cluster p c l = some x) : s.onlyBuf x.2 := by
  induction l generalizing s x with
  | nil =>
    obtain rfl := Option.some.inj h
    rfl
  | cons a l ih =>
    unfold State.drawEach at h
    split at h
    next src b bs rest hs hp =>
      obtain ⟨y, hy, rfl⟩ := Option.map_eq_some_iff.1 h
      have hrest := ih hy
      exact State.onlyBuf_trans (State.onlyBuf_trans (t := (s.setList a rest).setOwner (Buf.key ⟨a, b⟩) (ownerWord src c p)) rfl
        (State.onlyBuf_useBuf _ _ _ _)) hrest
    next => cases h

theorem State.onlyBuf_drawPool {pool cluster ctx chunk p c n : Nat} {u : State}
    (h : s.drawPool pool cluster ctx chunk p c n = some u) : s.onlyBuf u := by
  unfold State.drawPool at h
  split at h
  next => cases h
  next =>
    obtain ⟨y, hy, rfl⟩ := Option.map_eq_some_iff.1 h
    have hbuf := State.onlyBuf_drawEach hy
    dsimp only
    split
    · exact State.onlyBuf_trans (t := y.2) hbuf rfl
    · exact State.onlyBuf_trans (t := y.2) hbuf rfl

theorem State.arbDraw_pending (s : State) (c : Check) : (s.arbDraw c).pending = s.pending := by
  unfold State.arbDraw
  split
  · rfl
  · split
    next u hu =>
      have hbuf := State.onlyBuf_drawPool hu
      show u.pending = s.pending
      rw [hbuf]
    next => rfl

theorem State.arbiterResult_idle (h : s.checkOf i k seg = none ∨ ∃ c, s.checkOf i k seg = some c
    ∧ (c.cmps.find? (fun m => m.seg = seg && m.differs.isSome) = none ∨ c.arbDrawn = false)) :
    s.arbiterResult i k seg dig = s := by
  unfold State.arbiterResult
  obtain h | ⟨c, hc, hidle⟩ := h
  · rw [h]
  · rw [hc]
    dsimp only
    split
    next => rfl
    next m hm =>
      obtain hnone | hdrawn := hidle
      · exact absurd (hnone.symm.trans hm) nofun
      · rw [hdrawn]; rfl

/-- The arbiter's digest ends the compare: the suspects, the taint and the arbiter's staging (14 R414). -/
theorem State.arbiterResult_spec (hc : s.checkOf i k seg = some c)
    (hm : c.cmps.find? (fun m => m.seg = seg && m.differs.isSome) = some m) (hdrawn : c.arbDrawn = true) {home chk : Bool}
    (hhome : (m.differs = some dig || dig ≠ m.digest) = home) (hchk : decide (m.differs ≠ some dig) = chk) :
    ∃ (u : State) (d : Check), s.arbiterResult i k seg dig = u.putCheck d
      ∧ u = { s with regs := u.regs, buf := u.buf, out := u.out, host := u.host, red := { s.red with suspect := s.red.suspect
          ++ (if home then [c.home] else []) ++ (if chk then [c.check] else []) } }
      ∧ d.cmps = dropFirst (fun x => x.seg = seg) c.cmps ∧ d.arbDrawn = d.cmps.any (fun m => m.differs.isSome)
      ∧ d.tainted = (if home then c.tainted ++ [seg] else c.tainted)
      ∧ u.fld .intDupCnt1 0 63 48 = Nat.min 65535 (s.fld .intDupCnt1 0 63 48 + 1) := by
  unfold State.arbiterResult
  simp only [hc, hm]
  rw [if_neg (by simp [hdrawn]), hhome, hchk]
  generalize hv : s.mismatchRep c (if (home && chk) = true then 2 else if home = true then 0 else 1) seg = v
  obtain ⟨hvframe, hvfld, -⟩ := hv ▸ s.mismatchRep_spec c (if (home && chk) = true then 2 else if home = true then 0 else 1) seg
  generalize ht : (if home = true then v.suspectClu c.home else v) = t
  generalize hu : (if m.differs ≠ some dig then t.suspectClu c.check else t) = u
  have hchku : u = if chk then t.suspectClu c.check else t := by simp only [← hu, ← hchk, decide_eq_true_eq]
  obtain ⟨huframe, hufld⟩ := v.suspects_spec home chk c.home c.check ht.symm hchku
  obtain ⟨hbuf, hkept⟩ := u.releaseTiles_spec
    { c with cmps := dropFirst (fun x => x.seg = seg) c.cmps, tainted := if home then c.tainted ++ [seg] else c.tainted }
    fun g => g = seg
  generalize u.releaseTiles _ _ = r at hbuf hkept ⊢
  obtain ⟨w, d, hput, hbuf', hd⟩ := r.1.putCheckArb_spec r.2
  have hwbuf : u.onlyBuf w := State.onlyBuf_trans hbuf hbuf'
  refine ⟨w, d, hput, ?_, by rw [hd, hkept], by rw [hd, hkept]; simp [hdrawn], by rw [hd, hkept], ?_⟩
  · rw [hwbuf, huframe, hvframe]
  · rw [State.fld_congr (s := u) (by rw [hwbuf]), hufld, hvfld]

theorem State.limitDue_iff (hc : s.checkOf i k seg = some c) (hm : c.cmps.find? (fun m => m.seg = seg) = some m) :
    s.limitDue i k seg = decide (m.sentAt + s.checkLimit ≤ s.beat.bc) := by
  simp [State.limitDue, hc, hm]

theorem State.coming_limitDue_none (h : s.checkOf i k seg = none) : s.coming (·.limitDue i k seg) = false := by
  have hdue : ∀ u : State, u.checkOf i k seg = none → u.limitDue i k seg = false := fun u hu => by simp [State.limitDue, hu]
  exact hdue _ h

theorem State.coming_limitDue (hc : s.checkOf i k seg = some c) (hm : c.cmps.find? (fun m => m.seg = seg) = some m) :
    s.coming (·.limitDue i k seg) = decide (m.sentAt + s.checkLimit ≤ s.beat.bc + 1) :=
  State.limitDue_iff (s := { s with beat := _ }) hc hm

/-- A compare with no digest of its own at check_limit is abandoned. -/
theorem State.limitExpiry_abandon (hc : s.checkOf i k seg = some c) (hm : c.cmps.find? (fun m => m.seg = seg) = some m)
    (hdue : m.sentAt + s.checkLimit ≤ s.beat.bc) (hsame : m.differs = none) :
    ∃ (u : State) (d : Check), s.limitExpiry i k seg = u.putCheck d ∧ u = { s with regs := u.regs, buf := u.buf }
      ∧ d.cmps = dropFirst (fun x => x.seg = seg) c.cmps ∧ d.retained = c.retained.filter (fun r => r.1 ≠ seg)
      ∧ d.tainted = c.tainted
      ∧ u.fld .intDupCnt1 0 15 0 = Nat.min 65535 (s.fld .intDupCnt1 0 15 0 + 1) := by
  obtain ⟨hbuf, hkept⟩ := (s.bump .intDupCnt1 0 15 0 1).releaseTiles_spec
    { c with cmps := dropFirst (fun x => x.seg = seg) c.cmps, partly := true } fun g => g = seg
  have hfld := State.fld_bump s .intDupCnt1 0 0 1 (hi := 15) (by omega)
  unfold State.limitExpiry
  simp only [hc, hm, State.limitDue_iff hc hm, hdue, hsame, decide_true, Bool.not_true, Bool.false_eq_true, if_false,
    Option.isSome_none]
  generalize State.releaseTiles _ _ _ = r at hbuf hkept ⊢
  refine ⟨r.1, r.2, rfl, by rw [hbuf]; rfl, by rw [hkept], by rw [hkept]; simp, by rw [hkept], ?_⟩
  exact (State.fld_congr (t := r.1) (by rw [hbuf]) _ _ _ _).trans hfld

/-- A compare whose digests differ at check_limit ends unresolved. -/
theorem State.limitExpiry_unresolved (hc : s.checkOf i k seg = some c) (hm : c.cmps.find? (fun m => m.seg = seg) = some m)
    (hdue : m.sentAt + s.checkLimit ≤ s.beat.bc) (hdiff : m.differs.isSome = true) :
    ∃ (u : State) (d : Check), s.limitExpiry i k seg = u.putCheck d
      ∧ u = { s with regs := u.regs, buf := u.buf, host := u.host }
      ∧ d.cmps = dropFirst (fun x => x.seg = seg) c.cmps ∧ d.retained = c.retained.filter (fun r => r.1 ≠ seg)
      ∧ d.tainted = c.tainted ++ [seg]
      ∧ u.fld .intDupCnt1 0 63 48 = Nat.min 65535 (s.fld .intDupCnt1 0 63 48 + 1)
      ∧ u.host.outbox.length = s.host.outbox.length + 1 := by
  have hseg : m.seg = seg := by simpa using List.find?_some hm
  unfold State.limitExpiry
  simp only [hc, hm, State.limitDue_iff hc hm, hdue, hdiff, decide_true, Bool.not_true, Bool.false_eq_true, if_false, if_true,
    State.unresolved, hseg]
  obtain ⟨htframe, htfld, hthost⟩ := s.mismatchRep_spec c 3 seg
  generalize s.mismatchRep c 3 seg = t at htframe htfld hthost ⊢
  obtain ⟨hbuf, hkept⟩ := t.releaseTiles_spec
    { c with cmps := dropFirst (fun x => x.seg = seg) c.cmps, tainted := c.tainted ++ [seg], partly := true } fun g => g = seg
  generalize t.releaseTiles _ _ = r at hbuf hkept ⊢
  obtain ⟨u, d, hput, hbuf', hd⟩ := r.1.putCheckArb_spec r.2
  have hubuf : t.onlyBuf u := State.onlyBuf_trans hbuf hbuf'
  refine ⟨u, d, hput, ?_, by rw [hd, hkept], by rw [hd, hkept]; simp, by rw [hd, hkept], ?_, by rw [hubuf, ← hthost]⟩
  · rw [hubuf, htframe]
  · rw [State.fld_congr (s := t) (by rw [hubuf]), htfld]

end

end Sys2Proof.Machine
end

section
namespace Sys2Proof.Machine

/-! ### The relay of a parent's results, and broadcast reports (11 R333; 15 R454, R455) -/

theorem map_getD_range {α : Type} (l : List α) (d : α) : (List.range l.length).map (fun g => l.getD g d) = l :=
  List.ext_getElem (by simp) fun n h _ => by
    have hn : n < l.length := by simpa using h
    simp [hn]

section
variable {s : State} {t : Stream} {rest : List Stream} {i : Nat} {c : Context}

theorem State.toReturn_foldl (s : State) (f : Nat → Ret) (l : List Nat) : l.foldl (fun (s : State) g => s.toReturn (f g)) s
    = { s with net := { s.net with ret := s.net.ret ++ l.map f } } := by
  induction l generalizing s with
  | nil => simp
  | cons g l ih =>
    rw [List.foldl_cons, ih, List.map_cons]
    simp [State.toReturn, List.append_assoc]

theorem State.cascadeRelay_idle
    (h : s.coll.casc = [] ∨ ∃ t rest, s.coll.casc = t :: rest ∧ s.unitWaits (.pipeline t.pipe) = true) :
    s.cascadeRelay = s := by
  unfold State.cascadeRelay
  obtain h | ⟨t, rest, h, hwaits⟩ := h
  · rw [h]
  · simp only [h, hwaits, if_true]

/-- A result of no cascading context is taken and goes nowhere. -/
theorem State.cascadeRelay_none (h : s.coll.casc = t :: rest) (hfree : s.unitWaits (.pipeline t.pipe) = false)
    (hnone : s.cascadeOf t = none) : s.cascadeRelay = { s with coll := { s.coll with casc := rest } } := by
  have hnone' : State.cascadeOf { s with coll := { s.coll with casc := rest } } t = none := hnone
  unfold State.cascadeRelay
  simp only [h, hfree, Bool.false_eq_true, if_false, hnone']

/-- The copy of a parent's result for group g of its context. -/
def relayCopy (t : Stream) (i : Nat) (c : Context) (g : Nat) : Ret :=
  { pipe := t.pipe, unit := .pipeline t.pipe, bytes := t.bytes, eth := false, part := c.d.part, cls := t.cls, epoch := t.epoch,
    kind := 1, target := c.d.groups.getD g 0, subq := 0, desc := none, tsReq := false, pin := none, bcast := some (i, g),
    trk := none }

/-- A result that the context does not keep goes to every listed group as it came. -/
theorem State.cascadeRelay_groups (h : s.coll.casc = t :: rest) (hfree : s.unitWaits (.pipeline t.pipe) = false)
    (hctx : s.cascadeOf t = some i) (hc : s.ctx i = some c) (hkeep : c.d.keep = false ∨ t.hdr.poison = true) :
    s.cascadeRelay = { s with coll := { s.coll with casc := rest },
                              net := { s.net with ret := s.net.ret ++ (List.range c.d.groups.length).map (relayCopy t i c) } } := by
  have hctx' : State.cascadeOf { s with coll := { s.coll with casc := rest } } t = some i := hctx
  have hc' : State.ctx { s with coll := { s.coll with casc := rest } } i = some c := hc
  have hnot : (c.d.keep && !t.hdr.poison) = false := by obtain h | h := hkeep <;> simp [h]
  unfold State.cascadeRelay
  simp only [h, hfree, Bool.false_eq_true, if_false, hctx', hc', hnot]
  exact State.toReturn_foldl _ (relayCopy t i c) _

theorem State.bcastReport_none (h : s.coll.bcasts.find? (fun b => b.ctx = i && !s.bcastLive b.id) = none) :
    s.bcastReport i = s := by
  unfold State.bcastReport
  rw [h]

/-- The groups of a broadcast in which copies were lost. -/
theorem filter_groups_singleton {g n : Nat} (hg : g < n) {p : Nat → Bool} (hp : ∀ x, p x = true ↔ x = g) :
    (List.range n).filter p = [g] := by
  have hperm : (List.range n).filter p = (List.range n).filter (· == g) :=
    List.filter_congr fun x _ => by
      rw [Bool.eq_iff_iff, hp x, beq_iff_eq]
  rw [hperm, List.filter_beq, List.count_eq_one_of_mem List.nodup_range (List.mem_range.2 hg)]
  rfl

/-- A broadcast that lost no copy is reported by one item. -/
theorem State.bcastReport_whole {b : Bcast} (h : s.coll.bcasts.find? (fun b => b.ctx = i && !s.bcastLive b.id) = some b)
    (hlost : s.net.lost.filter (fun x => x.1 = b.id) = []) : s.bcastReport i
      = { s.post b.ring [bcastItem b 0 0 true] with
          coll := { s.coll with bcasts := dropFirst (fun x => x.id = b.id) s.coll.bcasts } } := by
  have hnot : ∀ x ∈ s.net.lost, x.1 ≠ b.id := by simpa [List.filter_eq_nil_iff] using hlost
  have hkeep : s.net.lost.filter (fun x => !decide (x.1 = b.id)) = s.net.lost :=
    List.filter_eq_self.2 fun x hx => by simp [hnot x hx]
  have hof : ∀ g, s.net.lost.filter (fun x => x.1 = b.id && x.2.1 = g) = [] := fun g =>
    List.filter_eq_nil_iff.2 fun x hx => by simp [hnot x hx]
  unfold State.bcastReport
  simp [h, hof, hkeep, State.post]

/-- A broadcast that lost one copy of group g is reported by one item that names the leaf. -/
theorem State.bcastReport_one {b : Bcast} {g j : Nat}
    (h : s.coll.bcasts.find? (fun b => b.ctx = i && !s.bcastLive b.id) = some b)
    (hlost : s.net.lost.filter (fun x => x.1 = b.id) = [(b.id, g, j)]) (hg : g < b.groups.length) : s.bcastReport i
      = { s.post b.ring [bcastItem b g (2 ^ j) true] with
          coll := { s.coll with bcasts := dropFirst (fun x => x.id = b.id) s.coll.bcasts }
          net := { s.net with lost := s.net.lost.filter fun x => x.1 ≠ b.id } } := by
  have hof : ∀ k, s.net.lost.filter (fun x => x.1 = b.id && x.2.1 = k) = if g = k then [(b.id, g, j)] else [] := fun k => by
    have hsplit : s.net.lost.filter (fun x => x.1 = b.id && x.2.1 = k)
        = (s.net.lost.filter fun x => x.1 = b.id).filter fun x => x.2.1 = k := by
      rw [List.filter_filter]
      exact List.filter_congr fun x _ => Bool.and_comm _ _
    rw [hsplit, hlost]
    by_cases hk : g = k <;> simp [hk]
  have hgs : ∀ f : Nat → Nat, (∀ k, f k = if g = k then 2 ^ j else 0) →
      (List.range b.groups.length).filter (fun k => f k ≠ 0) = [g] := fun f hf =>
    filter_groups_singleton hg fun k => by
      rw [hf k]
      by_cases hk : g = k <;> simp [hk, Ne.symm]
  have hlostOf : ∀ k, ((s.net.lost.filter fun x => x.1 = b.id && x.2.1 = k).map (·.2.2)).eraseDups.foldl
      (fun m j => m + 2 ^ j) 0 = if g = k then 2 ^ j else 0 := fun k => by
    rw [hof k]
    split <;> simp [List.eraseDups_cons]
  unfold State.bcastReport
  rw [h]
  dsimp only
  rw [hgs _ hlostOf]
  simp [hlostOf]

end

/-- Settles O55: each compare's end is `putCheck` of the compared check on a state that differs in what the end gives
back or counts; a relay and a report each change what they hand on alone. -/
theorem checksRelaysAndBroadcasts : Obligations.ChecksRelaysAndBroadcasts := by
  unfold Obligations.ChecksRelaysAndBroadcasts
  intro s hlive
  refine ⟨fun i k seg w hi hk hnone => ⟨?_, ?_, ?_⟩, fun i k seg w c hi hk hc => ?_, fun hnone => ?_,
    fun t rest hcasc hwaits => ?_, fun t rest hcasc hfree => ⟨fun hnone => ?_, fun i c hctx hc hkeep => ?_⟩,
    fun i hi => ⟨fun hnone => ?_, fun b hb => ⟨fun hlost => ?_, fun g j hlost hg => ?_⟩⟩⟩
  case refine_1 =>
    exact run_live_eq (i := .digestCompare i k seg w) (by simp [Instr.wellFormed, hi, hk]) hlive
      (State.digestCompare_idle (.inl hnone)) rfl
  case refine_2 =>
    exact run_live_eq (i := .arbiterResult i k seg w) (by simp [Instr.wellFormed, hi, hk]) hlive
      (State.arbiterResult_idle (.inl hnone)) rfl
  case refine_3 =>
    exact run_call_early (i := .checkLimitExpiry i k seg) (by simp [Instr.wellFormed, hi, hk]) hlive
      (due := fun s => s.coming (·.limitDue i k seg)) (State.coming_limitDue_none hnone)
  case refine_4 =>
    have hwfCompare : (Instr.digestCompare i k seg w).wellFormed = true := by simp [Instr.wellFormed, hi, hk]
    have hwfArbiter : (Instr.arbiterResult i k seg w).wellFormed = true := by simp [Instr.wellFormed, hi, hk]
    have hwfLimit : (Instr.checkLimitExpiry i k seg).wellFormed = true := by simp [Instr.wellFormed, hi, hk]
    refine ⟨fun hidle => ?_, fun hidle => ?_, fun m hm hwaits => ⟨fun heq => ?_, fun hne => ?_⟩,
      fun m x hm hx hdrawn => ?_, fun m hm => ⟨fun hearly => ?_, fun hdue => ?_, fun hdue => ?_⟩⟩
    · exact run_live_eq hwfCompare hlive (State.digestCompare_idle (.inr ⟨c, hc, hidle⟩)) rfl
    · exact run_live_eq hwfArbiter hlive (State.arbiterResult_idle (.inr ⟨c, hc, hidle⟩)) rfl
    · obtain ⟨u, hbuf, hput⟩ := State.digestCompare_equal hc hm hwaits heq
      refine ⟨_, _, run_live_eq hwfCompare hlive hput (by rw [hbuf]; rfl), rfl, ?_, ?_, ?_, ?_⟩
      · rw [hbuf]; rfl
      · rw [hbuf]; rfl
      · rw [hbuf]; rfl
      · rw [hbuf]; rfl
    · refine ⟨_, rfl, run_live_eq hwfCompare hlive (State.digestCompare_differ hc hm hwaits hne rfl)
        (State.arbDraw_pending _ _), fun h => State.arbDraw_idle h⟩
    · obtain ⟨home, hhome⟩ : ∃ b, (m.differs = some w.toNat || w.toNat ≠ m.digest) = b := ⟨_, rfl⟩
      obtain ⟨chk, hchk⟩ : ∃ b, decide (m.differs ≠ some w.toNat) = b := ⟨_, rfl⟩
      obtain ⟨u, d, hput, hframe, hcmps, harb, htaint, hfld⟩ := State.arbiterResult_spec hc hm hdrawn hhome hchk
      have hsuspect : (u.putCheck d).red.suspect
          = s.red.suspect ++ (if home then [c.home] else []) ++ (if chk then [c.check] else []) := by rw [hframe]; rfl
      rw [hx] at hhome hchk
      refine ⟨_, d, run_live_eq hwfArbiter hlive hput (by rw [hframe]; rfl), by rw [hframe]; rfl, hcmps, harb, hfld,
        fun heq => ?_, fun hne heq => ?_, fun hne hne' => ?_, by rw [hframe]; rfl, by rw [hframe]; rfl⟩
      · obtain ⟨rfl, rfl⟩ : home = true ∧ chk = false := by simp [← hhome, ← hchk, heq]
        exact ⟨by simp [hsuspect], htaint⟩
      · obtain ⟨rfl, rfl⟩ : home = false ∧ chk = true := by simp [← hhome, ← hchk, ← heq, Ne.symm hne]
        exact ⟨by simp [hsuspect], htaint⟩
      · obtain ⟨rfl, rfl⟩ : home = true ∧ chk = true := by simp [← hhome, ← hchk, hne', Ne.symm hne]
        exact ⟨by simp [hsuspect], htaint⟩
    · exact run_call_early hwfLimit hlive (due := fun s => s.coming (·.limitDue i k seg))
        ((State.coming_limitDue hc hm).trans (decide_eq_false (Nat.not_le.2 hearly)))
    · exact run_call hwfLimit hlive (due := fun s => s.coming (·.limitDue i k seg))
        ((State.coming_limitDue hc hm).trans (decide_eq_true hdue))
    · cases hdiff : m.differs with
      | none =>
        obtain ⟨u, d, hput, hframe, hcmps, hret, htaint, hfld⟩ := State.limitExpiry_abandon hc hm hdue hdiff
        exact ⟨_, d, hput, by rw [hframe]; rfl, by rw [hframe]; rfl, hcmps, hret, by rw [hframe]; rfl, by rw [hframe]; rfl,
          by rw [hframe]; rfl, fun _ => ⟨htaint, by rw [hframe]; rfl, hfld⟩, nofun⟩
      | some x =>
        obtain ⟨u, d, hput, hframe, hcmps, hret, htaint, hfld, hout⟩ :=
          State.limitExpiry_unresolved hc hm hdue (hdiff ▸ rfl)
        exact ⟨_, d, hput, by rw [hframe]; rfl, by rw [hframe]; rfl, hcmps, hret, by rw [hframe]; rfl, by rw [hframe]; rfl,
          by rw [hframe]; rfl, nofun, fun _ => ⟨htaint, hfld, hout⟩⟩
  case refine_5 => exact run_live_eq (i := .cascadeResultRelay) rfl hlive (State.cascadeRelay_idle (.inl hnone)) rfl
  case refine_6 =>
    exact run_live_eq (i := .cascadeResultRelay) rfl hlive (State.cascadeRelay_idle (.inr ⟨t, rest, hcasc, hwaits⟩)) rfl
  case refine_7 => exact run_live_eq (i := .cascadeResultRelay) rfl hlive (State.cascadeRelay_none hcasc hfree hnone) rfl
  case refine_8 =>
    refine ⟨_, _, run_live_eq (i := .cascadeResultRelay) rfl hlive (State.cascadeRelay_groups hcasc hfree hctx hc hkeep) rfl,
      rfl, rfl, ?_, fun r hr => ?_, rfl, rfl⟩
    · rw [List.map_map]
      exact map_getD_range c.d.groups 0
    · obtain ⟨g, -, rfl⟩ := List.mem_map.1 hr
      exact ⟨rfl, rfl, rfl, rfl, rfl⟩
  case refine_9 =>
    exact run_live_eq (i := .broadcastReport i) (by simp [Instr.wellFormed, hi]) hlive (State.bcastReport_none hnone) rfl
  case refine_10 =>
    exact ⟨_, run_live_eq (i := .broadcastReport i) (by simp [Instr.wellFormed, hi]) hlive (State.bcastReport_whole hb hlost) rfl,
      rfl, rfl, rfl, rfl⟩
  case refine_11 =>
    exact ⟨_, run_live_eq (i := .broadcastReport i) (by simp [Instr.wellFormed, hi]) hlive (State.bcastReport_one hb hlost hg) rfl,
      rfl, rfl⟩

end Sys2Proof.Machine
end

/-! ## Damaged words, the field test and the watchdog (14 R402 to R405, R419 to R421, R426; 04 R96) -/

section
namespace Sys2Proof.Machine

/-! ### Codes on memories -/

section
variable (s : State)

/-- A single-bit error of a memory outside the tables is counted (14 R404). -/
theorem State.patrol_single {mem : Nat} (h5 : mem ≠ 5) (h6 : mem ≠ 6) (h7 : mem ≠ 7) (die addr : Nat) :
    s.patrol mem die addr .single = s.bump .intEcc (2 * mem + die) 63 32 1 := by
  simp [State.patrol, h5, h6, h7]

/-- The mark of a near-store line, and what a broken record of its cache leaves (14 R405; 10 R292). -/
theorem State.damageLine_near (addr : Nat) {t : State} (ht : t = s.damageLine .near addr) :
    (∀ l, t.poisoned .near l = if l = lineOf addr then true else s.poisoned .near l)
      ∧ t = { s with free := t.free, mem := { s.mem with poisonN := t.mem.poisonN, poisonS := t.mem.poisonS } } := by
  have hnear : ∀ l, (s.setPoison .near (lineOf addr) true).poisoned .near l
      = if l = lineOf addr then true else s.poisoned .near l := fun l => by
    rw [State.poisoned, State.setPoison, SMap.get_set]
    rfl
  subst ht
  unfold State.damageLine
  dsimp only
  split
  next h => simp at h
  next =>
    split
    · split
      · exact ⟨hnear, rfl⟩
      · exact ⟨hnear, rfl⟩
    · exact ⟨hnear, rfl⟩

/-- An uncorrectable word of the near store: its count, its item, its event and its mark. -/
theorem State.uncorrectable_near (die : Nat) {addr : Nat} (haddr : addr < 2 ^ 25) {t : State}
    (ht : t = s.uncorrectable 3 die addr) :
    (∀ l, t.poisoned .near l = if l = addr / 64 then true else s.poisoned .near l)
      ∧ t.regs = (s.bump .intEcc (6 + die) 31 16 1).regs ∧ t.host.outbox.length = s.host.outbox.length + 1
      ∧ t = { s with free := t.free, regs := t.regs, host := t.host, out := s.out ++ [.event .ecc [3, die, addr]]
                     mem := { s.mem with poisonN := t.mem.poisonN, poisonS := t.mem.poisonS } } := by
  have hdamage : s.uncorrectable 3 die addr
      = (((s.bump .intEcc (6 + die) 31 16 1).eccItem 3 die 0 addr).raise .ecc [3, die, addr]).damageLine .near addr := by
    simp only [State.uncorrectable, Nat.mod_eq_of_lt haddr]
    rfl
  obtain ⟨hmark, hframe⟩ := State.damageLine_near _ addr (ht.trans hdamage)
  refine ⟨hmark, by rw [hframe]; rfl, by rw [hframe]; simp [State.eccItem, State.post, State.raise, State.emit], ?_⟩
  rw [hframe]
  rfl

end

/-! ### The field test -/

section
variable {s : State} {c : Nat}

/-- A slot that opens while no test may begin is lost. -/
theorem State.ftSlot_lost (h : s.flag .intFtCfg 0 63 = false ∨ s.red.ft.cur.isSome = true) : s.ftSlot = s := by
  unfold State.ftSlot
  exact if_pos (by obtain h | h := h <;> simp [h])

/-- A slot takes the one pending cluster. -/
theorem State.ftSlot_pending (hen : s.flag .intFtCfg 0 63 = true) (hidle : s.red.ft.cur = none) (hpend : s.red.ft.pend = [c])
    (hactive : s.clusterActive c = true) : s.ftSlot = s.setFt fun f =>
      { f with cur := some c, forced := false, steps := 0, pend := [], startAt := s.beat.bc, stepped := false } := by
  have hsort : sortBy id [c] = [c] := rfl
  unfold State.ftSlot
  simp [hen, hidle, hpend, hsort, hactive, State.startTest, State.setFt]

theorem State.ftStep_taken {idle : Bool} (hcur : s.red.ft.cur = some c) (hstepped : s.red.ft.stepped = false)
    (hsteps : s.red.ft.steps < 16) (hmay : s.red.ft.forced = true ∨ (idle = true ∧ s.inUse c = 0)) :
    s.ftStep idle = s.setFt fun f => { f with steps := f.steps + 1, stepped := true } := by
  unfold State.ftStep
  simp only [hcur, hstepped, Bool.false_or, decide_eq_true_eq, if_neg (Nat.not_le.2 hsteps)]
  exact if_pos (by obtain h | ⟨h, hfree⟩ := hmay <;> simp [*])

theorem State.ftStep_waits {idle : Bool} (hcur : s.red.ft.cur = some c) (hforced : s.red.ft.forced = false)
    (hbusy : idle = false ∨ s.inUse c ≠ 0) : s.ftStep idle = s := by
  unfold State.ftStep
  rw [hcur]
  dsimp only
  split
  · rfl
  · exact if_neg (by obtain h | h := hbusy <;> simp [hforced, h])

theorem State.ftStep_stepped {idle : Bool} (hstepped : s.red.ft.stepped = true) : s.ftStep idle = s := by
  unfold State.ftStep
  split
  · rfl
  · rw [hstepped]; rfl

/-- A pass records the coming beat (14 R420). -/
theorem State.ftResult_pass (hcur : s.red.ft.cur = some c) (hsteps : 16 ≤ s.red.ft.steps) {t : State} (ht : t = s.ftResult true) :
    t.red.ft.cur = none ∧ t.red.ft.steps = 0 ∧ t.fld .intClu c 31 0 = (s.beat.now + 1) % 2 ^ 32
      ∧ t = { s with regs := t.regs, red := t.red } := by
  have hfld : ∀ u : State, (u.setFld .intClu c 31 0 ((s.beat.now + 1) % 2 ^ 32)).fld .intClu c 31 0 = (s.beat.now + 1) % 2 ^ 32 :=
    fun u => (u.fld_setFld .intClu c 0 _ (hi := 31) (by omega)).trans (Nat.mod_mod _ _)
  subst ht
  unfold State.ftResult
  simp only [hcur, if_neg (Nat.not_lt.2 hsteps), if_true]
  split
  · exact ⟨rfl, rfl, hfld _, rfl⟩
  · exact ⟨rfl, rfl, hfld _, rfl⟩

/-- A failure counts, makes the cluster suspect, and is reported (14 R420, R422). -/
theorem State.ftResult_fail (hcur : s.red.ft.cur = some c) (hsteps : 16 ≤ s.red.ft.steps) {t : State} (ht : t = s.ftResult false) :
    t.red.ft.cur = none ∧ t.red.ft.steps = 0 ∧ t.red.suspect = s.red.suspect ++ [c]
      ∧ t.host.outbox.length = s.host.outbox.length + 1
      ∧ t.fld .intClu c 41 34 = Nat.min 255 (s.fld .intClu c 41 34 + 1) ∧ t.fld .intClu c 31 0 = s.fld .intClu c 31 0
      ∧ t = { s with regs := t.regs, red := t.red, host := t.host, out := t.out } := by
  subst ht
  unfold State.ftResult
  simp only [hcur, if_neg (Nat.not_lt.2 hsteps), Bool.false_eq_true, if_false]
  refine ⟨rfl, rfl, rfl, by simp [State.post, State.suspectClu, State.setFt], ?_, ?_, rfl⟩
  · exact (State.fld_bump_other _ .intClu c 1 (hi := 57) (lo := 42) (hi' := 41) (lo' := 34) (by omega)).trans
      (State.fld_bump _ .intClu c 34 1 (hi := 41) (by omega))
  · exact (State.fld_bump_other _ .intClu c 1 (hi := 57) (lo := 42) (hi' := 31) (lo' := 0) (by omega)).trans
      (State.fld_bump_other _ .intClu c 1 (hi := 41) (lo := 34) (hi' := 31) (lo' := 0) (by omega))

theorem State.ftResult_none (hcur : s.red.ft.cur = none) (pass : Bool) : s.ftResult pass = s := by
  unfold State.ftResult
  rw [hcur]

theorem State.testWaitDue_iff (hcur : s.red.ft.cur.isSome = true) (hforced : s.red.ft.forced = false)
    (hsteps : s.red.ft.steps < 16) : s.testWaitDue = decide (s.red.ft.startAt + msBeats s.ftWait ≤ s.beat.bc) := by
  simp [State.testWaitDue, hcur, hforced, hsteps]

theorem State.coming_testWaitDue (hcur : s.red.ft.cur.isSome = true) (hforced : s.red.ft.forced = false)
    (hsteps : s.red.ft.steps < 16) :
    s.coming State.testWaitDue = decide (s.red.ft.startAt + msBeats s.ftWait ≤ s.beat.bc + 1) :=
  State.testWaitDue_iff (s := { s with beat := _ }) hcur hforced hsteps

theorem State.coming_testWaitDue_none (hcur : s.red.ft.cur = none) : s.coming State.testWaitDue = false := by
  have hdue : ∀ u : State, u.red.ft.cur = none → u.testWaitDue = false := fun u hu => by simp [State.testWaitDue, hu]
  exact hdue _ hcur

end

/-! ### Program memory and the watchdog -/

section
variable {s : State} {d : Damage}

/-- The damaged pair that a rewrite of its place finds, where it is the only one. -/
theorem find_samePair (d : Damage) : [d].find? (fun x => samePair x
    { pipe := d.pipe, station := d.station, bank := d.bank, addr := d.addr } && x.pipe = d.pipe) = some d := by
  simp [samePair]

theorem State.repairDone_given (h : s.stn.damage = [d]) (hgiven : d.given = true) :
    s.repairDone { pipe := d.pipe, station := d.station, bank := d.bank, addr := d.addr } = s := by
  unfold State.repairDone
  rw [h, find_samePair]
  exact if_pos hgiven

theorem State.repairDone_good (h : s.stn.damage = [d]) (hgiven : d.given = false) (hgood : s.goodSource d = true) :
    s.repairDone { pipe := d.pipe, station := d.station, bank := d.bank, addr := d.addr }
      = ({ s with stn := { s.stn with damage := [] } }).raise .progMem [d.pipe, d.station, d.bank, d.addr, 1] := by
  unfold State.repairDone
  rw [h, find_samePair]
  simp [hgiven, hgood, dropFirst, State.progMemEvent, b2n]

theorem State.repairDone_noSource (h : s.stn.damage = [d]) (hgiven : d.given = false) (hgood : s.goodSource d = false) :
    s.repairDone { pipe := d.pipe, station := d.station, bank := d.bank, addr := d.addr }
      = ({ s with stn := { s.stn with damage := [{ d with given := true }] } }).raise .progMem
          [d.pipe, d.station, d.bank, d.addr, 0] := by
  unfold State.repairDone
  rw [h, find_samePair]
  simp [hgiven, hgood, h, updFirst, State.unrepaired, State.progMemEvent, b2n]

/-- What has been put out stays. -/
theorem State.mem_out_sendVector {o : OutEv} (h : o ∈ s.out) (v : Nat) : o ∈ (s.sendVector v).out := by
  unfold State.sendVector
  dsimp only
  split
  · exact h
  · exact List.mem_append_left _ h

theorem State.mem_out_restartCtl {o : OutEv} (h : o ∈ s.out) (first : Option Nat) : o ∈ (s.restartCtl first).out := by
  unfold State.restartCtl
  dsimp only
  split
  · refine State.mem_out_sendVector ?_ _
    exact h
  · exact h

/-- The watchdog resets the controller, which changes the controller, what waits for it, and the host's vector alone
(14 R426; 20 R582). -/
theorem State.watchdog_spec (htrial : s.boot.trial = false) {t : State} (ht : t = s.watchdog) :
    t.boot.running = false ∧ .event .watchdog [s.beat.now] ∈ t.out
      ∧ t = { s with boot := t.boot, net := t.net, host := t.host, out := t.out } := by
  have hctl : ∃ first, (s.raise .watchdog [s.beat.now]).ctlReset = (s.raise .watchdog [s.beat.now]).restartCtl first :=
    ⟨_, if_neg (by simp [htrial])⟩
  obtain ⟨first, hctl⟩ := hctl
  have hframe := State.restartCtl_spec (s.raise .watchdog [s.beat.now]) first rfl
  have hout := State.mem_out_restartCtl (s := s.raise .watchdog [s.beat.now]) (o := .event .watchdog [s.beat.now])
    (by simp) first
  subst ht
  unfold State.watchdog
  dsimp only
  rw [hctl]
  generalize (s.raise .watchdog [s.beat.now]).restartCtl first = u at hframe hout ⊢
  split
  · exact ⟨by rw [hframe]; rfl, hout, by rw [hframe]; rfl⟩
  · refine ⟨?_, State.mem_out_sendVector hout _, ?_⟩
    · rw [State.sendVector_spec, hframe]; rfl
    · rw [State.sendVector_spec, hframe]; rfl

end

/-- Settles O40: each command's own function, by the lemma of the case that the statement names. -/
theorem patrolsFieldTestsAndWatchdog : Obligations.PatrolsFieldTestsAndWatchdog := by
  unfold Obligations.PatrolsFieldTestsAndWatchdog
  intro s hlive
  have hslot : exec .fieldTestSlot s
      = .next (s.call .fieldTestSlot (s.flag .intFtCfg 0 63 && pointDue s.time.testAt s.comingNs)) :=
    run_call (i := .fieldTestSlot) rfl hlive
      (due := fun s => s.flag .intFtCfg 0 63 && pointDue s.time.testAt s.comingNs) rfl
  refine ⟨fun mem die addr hmem hdie h5 h6 h7 => ?_, fun die addr hdie haddr => ?_, fun hoff => ?_, fun at_ hen hat => ?_,
    State.ftSlot_lost, fun c => State.ftSlot_pending, fun c idle hcur hstepped hsteps => ⟨fun hmay => ?_, fun hforced hbusy => ?_⟩,
    fun hstepped idle => ?_, fun c pass hcur hsteps _ => ?_, fun hcur hforced hsteps => ⟨fun hdue => ?_, fun hdue => ?_⟩,
    fun hcur => ⟨?_, fun pass => ?_⟩, fun d hpipe hstation hbank hdamage => ⟨fun hgiven => ?_, fun hgiven hgood => ?_,
    fun hgiven hgood => ?_⟩, fun hstopped => ?_, fun hrunning htrial => ?_⟩
  case refine_1 =>
    have hpatrol := s.patrol_single h5 h6 h7 die addr
    refine ⟨_, run_live_eq (i := .patrolRead mem die addr .single) (by simp [Instr.wellFormed, hdie]; omega) hlive
      ((if_neg (by simp)).trans hpatrol) rfl, State.fld_bump s .intEcc (2 * mem + die) 32 1 (hi := 63) (by omega),
      fun j m hne => s.reg_bump_other _ _ _ _ _ _ _ hne, rfl⟩
  case refine_2 =>
    obtain ⟨hmark, hregs, hout, hframe⟩ := s.uncorrectable_near die haddr rfl
    refine ⟨_, run_live_eq (i := .patrolRead 3 die addr .double) (by simp [Instr.wellFormed, hdie]) hlive
      (if_neg (by simp)) (by rw [State.patrol, hframe]), ?_, fun l hl => ?_, ?_, ?_, ?_, ?_, hout⟩
    · exact (hmark _).trans (if_pos rfl)
    · exact (hmark l).trans (if_neg hl)
    · rw [State.patrol, hframe]
    · rw [State.patrol, hframe]
    · exact (State.fld_congr hregs _ _ _ _).trans (State.fld_bump s .intEcc (6 + die) 16 1 (hi := 31) (by omega))
    · rw [State.patrol, hframe]
  case refine_3 => rw [hslot, hoff, Bool.false_and, State.call_early]
  case refine_4 =>
    have hpoint : pointDue s.time.testAt s.comingNs = decide (at_ ≤ s.comingNs) := by rw [hat]; rfl
    rw [hslot, hen, Bool.true_and, hpoint]
    by_cases hdue : at_ ≤ s.comingNs
    · rw [if_pos hdue, decide_eq_true hdue]
    · rw [if_neg hdue, decide_eq_false hdue, State.call_early]
  case refine_5 => exact run_live_eq (i := .fieldTestStep idle) rfl hlive (State.ftStep_taken hcur hstepped hsteps hmay) rfl
  case refine_6 => exact run_live_eq (i := .fieldTestStep idle) rfl hlive (State.ftStep_waits hcur hforced hbusy) rfl
  case refine_7 => exact run_live_eq (i := .fieldTestStep idle) rfl hlive (State.ftStep_stepped hstepped) rfl
  case refine_8 =>
    cases pass with
    | true =>
      obtain ⟨hnone, hzero, hfld, hframe⟩ := State.ftResult_pass hcur hsteps rfl
      exact ⟨_, run_live_eq (i := .fieldTestResult true) rfl hlive rfl (by rw [hframe]), hnone, hzero, by rw [hframe],
        fun _ => ⟨hfld, by rw [hframe], by rw [hframe]⟩, nofun⟩
    | false =>
      obtain ⟨hnone, hzero, hsuspect, hout, hcnt, hpass, hframe⟩ := State.ftResult_fail hcur hsteps rfl
      exact ⟨_, run_live_eq (i := .fieldTestResult false) rfl hlive rfl (by rw [hframe]), hnone, hzero, by rw [hframe], nofun,
        fun _ => ⟨hsuspect, hout, hcnt, hpass⟩⟩
  case refine_9 =>
    exact run_call (i := .testWaitExpiry) rfl hlive (due := fun s => s.coming State.testWaitDue)
      ((State.coming_testWaitDue hcur hforced hsteps).trans (decide_eq_true hdue))
  case refine_10 => exact if_pos ((State.testWaitDue_iff hcur hforced hsteps).trans (decide_eq_true hdue))
  case refine_11 =>
    exact run_call_early (i := .testWaitExpiry) rfl hlive (due := fun s => s.coming State.testWaitDue)
      (State.coming_testWaitDue_none hcur)
  case refine_12 => exact run_live_eq (i := .fieldTestResult pass) rfl hlive (State.ftResult_none hcur pass) rfl
  case refine_13 =>
    exact run_live_eq (i := .progMemRepairDone d.pipe d.station d.bank d.addr)
      (by simp [Instr.wellFormed, hpipe, hstation, hbank]) hlive (State.repairDone_given hdamage hgiven) rfl
  case refine_14 =>
    exact run_live_eq (i := .progMemRepairDone d.pipe d.station d.bank d.addr)
      (by simp [Instr.wellFormed, hpipe, hstation, hbank]) hlive (State.repairDone_good hdamage hgiven hgood) rfl
  case refine_15 =>
    exact run_live_eq (i := .progMemRepairDone d.pipe d.station d.bank d.addr)
      (by simp [Instr.wellFormed, hpipe, hstation, hbank]) hlive (State.repairDone_noSource hdamage hgiven hgood) rfl
  case refine_16 => exact run_live_eq (i := .watchdogExpiry) rfl hlive (if_neg (by simp [hstopped])) rfl
  case refine_17 =>
    obtain ⟨hoff, hout, hframe⟩ := State.watchdog_spec htrial rfl
    exact ⟨_, run_live_eq (i := .watchdogExpiry) rfl hlive (if_pos hrunning) (by rw [hframe]), hoff, hout, by rw [hframe],
      by rw [hframe], by rw [hframe], by rw [hframe], by rw [hframe]⟩

end Sys2Proof.Machine
end

/-! ## Chunks: their draws, their windows and their ends (11 R337 to R340) -/

section
namespace Sys2Proof.Machine

/-! ### The list of open chunks -/

section
variable {α : Type} {p : α → Bool} {f : α → α}

/-- The first element that a change keeps in its place is the one that a removal takes. -/
theorem dropFirst_updFirst (h : ∀ a, p a = true → p (f a) = true) (l : List α) :
    dropFirst p (updFirst p f l) = dropFirst p l := by
  induction l with
  | nil => rfl
  | cons a l ih =>
    unfold updFirst
    by_cases ha : p a = true
    · rw [if_pos ha, dropFirst, dropFirst, if_pos (h a ha), if_pos ha]
    · rw [if_neg ha, dropFirst, dropFirst, if_neg ha, if_neg ha, ih]

end

/-- A chunk's key. -/
def Chunk.at (i k : Nat) (x : Chunk) : Bool := x.ctx = i && x.chunk = k

section
variable {s : State} {i k : Nat} {ch : Chunk} {c : Context}

theorem State.key_of_chunk (h : s.chunk i k = some ch) : ch.ctx = i ∧ ch.chunk = k := by
  simpa using List.find?_some h

/-- The open chunk that has been replaced. -/
theorem State.chunk_putChunk (h : s.chunk i k = some ch) {x : Chunk} (hx : x.ctx = i ∧ x.chunk = k) :
    (s.putChunk x).chunk i k = some x := by
  obtain ⟨rfl, rfl⟩ := hx
  exact find?_updFirst (f := fun _ => x) h (by simp)

/-! ### What the end of a chunk leaves of the rounds -/

/-- A context without its next flow_seq, which every frame moves. -/
def Context.unsequenced (c : Context) : Context := { c with flowSeq := 0 }

/-- A state whose beat and open chunks are as they were, and whose contexts differ in their flow_seq at most. -/
def State.keepsRounds (s t : State) : Prop := t.beat = s.beat ∧ t.coll.chunks = s.coll.chunks
  ∧ ∀ j, (t.ctx j).map Context.unsequenced = (s.ctx j).map Context.unsequenced

theorem State.keepsRounds_trans {s t u : State} (h : s.keepsRounds t) (g : t.keepsRounds u) : s.keepsRounds u := by
  obtain ⟨hbeat, hchunks, hctx⟩ := h
  obtain ⟨gbeat, gchunks, gctx⟩ := g
  exact ⟨gbeat.trans hbeat, gchunks.trans hchunks, fun j => (gctx j).trans (hctx j)⟩

/-- A state whose collectives are as they were. -/
theorem State.keepsRounds_of_coll {s t : State} (hbeat : t.beat = s.beat) (hcoll : t.coll = s.coll) : s.keepsRounds t :=
  ⟨hbeat, by rw [hcoll], fun j => by rw [State.ctx, hcoll, State.ctx]⟩

theorem State.keepsRounds_foldl {α : Type} {f : State → α → State} (h : ∀ s a, State.keepsRounds s (f s a)) (s : State)
    (l : List α) : s.keepsRounds (l.foldl f s) :=
  List.foldlRecOn (motive := fun (u : State) => s.keepsRounds u) _ _ (State.keepsRounds_of_coll rfl rfl)
    fun u hu a _ => State.keepsRounds_trans hu (h u a)

theorem State.ctx_setCtx (s : State) (i j : Nat) (c : Option Context) :
    (s.setCtx i c).ctx j = if j = i then c else s.ctx j := by
  rw [State.ctx, State.setCtx, SMap.get_set]
  rfl

/-- The next flow_seq moves its context's, or takes a free value. -/
theorem State.nextSeq_spec (s : State) (i : Nat) {t : State} (ht : t = (s.nextSeq i).2) :
    s.keepsRounds t ∧ t = { s with free := t.free, coll := { s.coll with ctx := t.coll.ctx } } := by
  subst ht
  unfold State.nextSeq
  split
  next c hc =>
    refine ⟨⟨rfl, rfl, fun j => ?_⟩, rfl⟩
    rw [State.ctx_setCtx]
    split
    next h => rw [h, hc]; rfl
    next => rfl
  next => exact ⟨State.keepsRounds_of_coll rfl rfl, rfl⟩

/-- One frame to every listed group. -/
theorem State.sendGroups_spec (s : State) (d : Desc) (seq b : Nat) (clu : Option Nat) (h : Hdr) (pay : List Byte) :
    ∃ rs, s.sendGroups d seq b clu h pay = { s with net := { s.net with ret := s.net.ret ++ rs } }
      ∧ rs.map (·.target) = d.groups
      ∧ ∀ r ∈ rs, r.kind = 1 ∧ r.part = d.part ∧ r.cls = d.resClass ∧ r.epoch = h.epoch := by
  unfold State.sendGroups
  refine ⟨_, State.toReturn_foldl _ _ _, ?_, fun r hr => ?_⟩
  · rw [List.map_map]
    exact map_getD_range d.groups 0
  · obtain ⟨g, -, rfl⟩ := List.mem_map.1 hr
    exact ⟨rfl, rfl, rfl, rfl⟩

theorem State.keepsRounds_sendGroups (s : State) (d : Desc) (seq b : Nat) (clu : Option Nat) (h : Hdr) (pay : List Byte) :
    s.keepsRounds (s.sendGroups d seq b clu h pay) := by
  obtain ⟨rs, hrs, -, -⟩ := s.sendGroups_spec d seq b clu h pay
  rw [hrs]
  exact State.keepsRounds_of_coll rfl rfl

theorem State.keepsRounds_chunkFrame (s : State) (d : Desc) (i k clu : Nat) (e : Bool) (status : Nat) (present : List Nat) :
    s.keepsRounds (s.chunkFrame d i k clu e status present) :=
  State.keepsRounds_trans (s.nextSeq_spec i rfl).1 (State.keepsRounds_sendGroups _ _ _ _ _ _ _)

theorem State.keepsRounds_progEvent (s : State) (src idx : Nat) (p : Option Nat) (n : Nat) :
    s.keepsRounds (s.progEvent src idx p n) := by
  have h := s.onlyCnt_progEvent src idx p n
  exact State.keepsRounds_of_coll (by rw [h]) (by rw [h])

/-- What keep writes lies in memory, at the return port and among the items (11 R347). -/
theorem State.keepsRounds_keepChunk (s : State) (d : Desc) (k j : Nat) (segs : List Seg) :
    s.keepsRounds (s.keepChunk d k j segs) := by
  have hput : ∀ (u : State) (n v : Nat), u.keepsRounds (u.putCtr n v) := fun u n v => by
    have hfire := (u.setCtr n (v % 2 ^ 64)).onlyFires_fireSub n
    exact State.keepsRounds_of_coll (by rw [State.putCtr, hfire]; rfl) (by rw [State.putCtr, hfire]; rfl)
  unfold State.keepChunk
  split
  · refine State.keepsRounds_trans (State.keepsRounds_foldl (fun u x => ?_) s _) (hput _ _ _)
    have hbytes := u.onlyBytes_writeMem (u.winAddr (keepHdr d j)).1 ((u.winAddr (keepHdr d j)).2 + x.1 * d.segSize) x.2.data false
    exact State.keepsRounds_of_coll (by rw [State.keepWrite, hbytes]) (by rw [State.keepWrite, hbytes])
  · exact State.keepsRounds_of_coll rfl rfl

/-! ### A stream that ends, and a contribution that leaves `merge` -/

/-- A state whose collectives and whose staging are as they were. -/
def State.keepsStaging (s t : State) : Prop :=
  t.pending = s.pending ∧ t.beat = s.beat ∧ t.coll = s.coll ∧ t.buf.stg = s.buf.stg

theorem State.keepsStaging_trans {s t u : State} (h : s.keepsStaging t) (g : t.keepsStaging u) : s.keepsStaging u := by
  obtain ⟨hpend, hbeat, hcoll, hstg⟩ := h
  obtain ⟨gpend, gbeat, gcoll, gstg⟩ := g
  exact ⟨gpend.trans hpend, gbeat.trans hbeat, gcoll.trans hcoll, gstg.trans hstg⟩

theorem State.keepsStaging_giveTile (s : State) (die p t : Nat) : s.keepsStaging (s.giveTile die p t) := by
  unfold State.giveTile
  dsimp only
  split <;> exact ⟨rfl, rfl, rfl, rfl⟩

theorem State.keepsStaging_freeStreamTiles (s : State) (t : Stream) : s.keepsStaging (s.freeStreamTiles t) := by
  unfold State.freeStreamTiles State.giveTiles
  split
  · exact List.foldlRecOn (motive := fun (u : State) => s.keepsStaging u) _ _ ⟨rfl, rfl, rfl, rfl⟩
      fun u hu k _ => State.keepsStaging_trans hu (u.keepsStaging_giveTile _ _ _)
  · exact ⟨rfl, rfl, rfl, rfl⟩

/-- A stream's credit and tiles go back (06 R160; 07 R187). -/
theorem State.keepsStaging_released (s : State) (t : Stream) :
    s.keepsStaging ((((s.dropStream t.id).addD t.bucket).releaseCredit t).freeStreamTiles t) := by
  obtain ⟨hdrop, -⟩ := s.addD_dropStream t.id t.bucket rfl
  have hrel := ((s.dropStream t.id).addD t.bucket).onlyLink_releaseCredit t
  refine State.keepsStaging_trans (t := ((s.dropStream t.id).addD t.bucket).releaseCredit t) ⟨?_, ?_, ?_, ?_⟩
    (State.keepsStaging_freeStreamTiles _ t)
  · rw [hrel, hdrop]
  · rw [hrel, hdrop]
  · rw [hrel, hdrop]
  · rw [hrel, hdrop]

theorem State.keepsStaging_endStream (s : State) (t : Stream) : s.keepsStaging (s.endStream t) := by
  refine State.keepsStaging_trans (s.keepsStaging_released t) ?_
  unfold State.endStream State.sendDone
  split <;> exact ⟨rfl, rfl, rfl, rfl⟩

theorem State.keepsStaging_contribLeaves (s : State) (t : Stream) : s.keepsStaging (s.contribLeaves t) := by
  have hrel := s.keepsStaging_released t
  unfold State.contribLeaves
  dsimp only
  split
  · refine State.keepsStaging_trans hrel ?_
    unfold State.seqAccept
    split
    · exact ⟨rfl, rfl, rfl, rfl⟩
    · dsimp only
      split <;> exact ⟨rfl, rfl, rfl, rfl⟩
  · exact hrel

theorem State.keepsStaging_lateWaiters (s : State) (i k : Nat) : s.keepsStaging (s.lateWaiters i k) :=
  List.foldlRecOn (motive := fun (u : State) => s.keepsStaging u) _ _ ⟨rfl, rfl, rfl, rfl⟩
    fun u hu t _ => State.keepsStaging_trans hu
      (State.keepsStaging_trans (t := u.bump .collCnt0 0 31 16 1) ⟨rfl, rfl, rfl, rfl⟩ (State.keepsStaging_endStream _ t))

theorem State.onlyBuf_freeSpill (s : State) (i k : Nat) : s.onlyBuf (s.freeSpill i k) :=
  List.foldlRecOn (motive := fun (t : State) => s.onlyBuf t) _ _ rfl
    fun t ht u _ => State.onlyBuf_trans ht (t.onlyBuf_giveBufs u)

/-! ### The end of a chunk -/

/-- An open chunk leaves the list, and no context changes. -/
theorem State.dropChunk_spec (s : State) (ch : Chunk) {t : State} (ht : t = s.dropChunk ch) : t.beat = s.beat
    ∧ t.coll.chunks = dropFirst (Chunk.at ch.ctx ch.chunk) s.coll.chunks ∧ ∀ j, t.ctx j = s.ctx j := by
  have hbuf : s.onlyBuf ((s.freeStaging ch.home ch.ctx ch.chunk).freeSpill ch.ctx ch.chunk) :=
    State.onlyBuf_trans (s.onlyBuf_freeStaging _ _ _) (State.onlyBuf_freeSpill _ _ _)
  subst ht
  unfold State.dropChunk
  dsimp only
  generalize (s.freeStaging ch.home ch.ctx ch.chunk).freeSpill ch.ctx ch.chunk = v at hbuf ⊢
  generalize hw : ({ v with coll := _ } : State) = w
  obtain ⟨-, hbeat, hcoll, -⟩ := w.keepsStaging_lateWaiters ch.ctx ch.chunk
  refine ⟨?_, ?_, fun j => ?_⟩
  · rw [hbeat, ← hw, hbuf]
  · rw [hcoll, ← hw, hbuf]
    rfl
  · rw [State.ctx, hcoll, ← hw, hbuf]
    rfl

/-- The status under which a chunk ends: POISON in the place of OK or QUORUM where a segment is poisoned (14 R409). -/
def Chunk.endStatus (ch : Chunk) (status : Nat) : Nat := if status ≤ 1 && ch.segs.any (·.poison) then 6 else status

/-- The count of the end of a chunk of the round. The definition is unfolded as a function, and the round index is replaced
before the match is looked at: to evaluate it would be to evaluate a distance modulo 2^20 in unary. -/
theorem Context.countEnd_some {k j : Nat} (h : c.roundIdx k = some j) (status : Nat) : ∃ d : Context,
    d.nQuorum = c.nQuorum ∧ d.nTimeout = c.nTimeout ∧ d.nOther = c.nOther ∧ c.countEnd k status
      = if status = 0 then { d with nOk := d.nOk + 1 } else if status = 1 then { d with nQuorum := d.nQuorum + 1 }
        else if status = 2 then { d with nTimeout := d.nTimeout + 1 } else { d with nOther := d.nOther + 1 } := by
  have hfun : Context.countEnd = Context.countEnd := rfl
  conv_rhs at hfun => delta Context.countEnd
  have hcount := congrFun (congrFun (congrFun hfun c) k) status
  beta_reduce at hcount
  rw [h] at hcount
  exact ⟨{ c with ended := c.ended ++ [j], ending := c.ended.length + 1 = c.count }, rfl, rfl, rfl, hcount⟩

/-- A chunk of the round is counted under its status (R328). -/
theorem Context.countEnd_counts {k : Nat} (h : (c.roundIdx k).isSome = true) (status : Nat) :
    (c.countEnd k status).nQuorum = c.nQuorum + (if status = 1 then 1 else 0)
      ∧ (c.countEnd k status).nTimeout = c.nTimeout + (if status = 2 then 1 else 0)
      ∧ (c.countEnd k status).nOther = c.nOther + (if 2 < status then 1 else 0) := by
  obtain ⟨j, hj⟩ := Option.isSome_iff_exists.1 h
  obtain ⟨d, hquorum, htimeout, hother, hcount⟩ := Context.countEnd_some hj status
  rw [hcount, ← hquorum, ← htimeout, ← hother]
  obtain rfl | rfl | rfl | hgt : status = 0 ∨ status = 1 ∨ status = 2 ∨ 2 < status := by omega
  · exact ⟨rfl, rfl, rfl⟩
  · exact ⟨rfl, rfl, rfl⟩
  · exact ⟨rfl, rfl, rfl⟩
  · rw [if_neg (by omega), if_neg (by omega), if_neg (by omega), if_neg (by omega), if_neg (by omega), if_pos hgt]
    exact ⟨rfl, rfl, rfl⟩

theorem State.keepsRounds_refl (s : State) : s.keepsRounds s := State.keepsRounds_of_coll rfl rfl

theorem State.keepsRounds_partCount (s : State) (p j : Nat) : s.keepsRounds (s.partCount p j) := State.keepsRounds_of_coll rfl rfl

theorem State.keepsRounds_setFld (s : State) (k : RegKind) (i hi lo v : Nat) : s.keepsRounds (s.setFld k i hi lo v) :=
  State.keepsRounds_of_coll rfl rfl

theorem State.keepsRounds_putCheck (s : State) (x : Check) : s.keepsRounds (s.putCheck x) := ⟨rfl, rfl, fun _ => rfl⟩

theorem State.keepsRounds_chunkItem (s : State) (d : Desc) (i k status present : Nat) (lost : Bool) :
    s.keepsRounds (s.chunkItem d i k status present lost) := State.keepsRounds_of_coll rfl rfl

theorem State.keepsRounds_ite {s t u : State} {p : Prop} [Decidable p] (ht : s.keepsRounds t) (hu : s.keepsRounds u) :
    s.keepsRounds (if p then t else u) := by
  split
  · exact ht
  · exact hu

/-- What the end of a chunk does once the chunk has left and has been counted. -/
theorem State.keepsRounds_endChunk (s : State) (ch : Chunk) (status : Nat) (frame : Bool) (hc : s.ctx ch.ctx = some c) :
    State.keepsRounds ((s.dropChunk ch).updCtx ch.ctx fun c => c.countEnd ch.chunk (ch.endStatus status))
      (s.endChunk ch status frame) := by
  unfold State.endChunk
  rw [hc]
  dsimp -zeta only
  generalize c.roundIdx ch.chunk = round
  extract_lets poison st sent s1 s2 s3 s4 s5 s6 s7
  have h3 : s2.keepsRounds s3 :=
    State.keepsRounds_trans (State.keepsRounds_partCount s2 _ _) (State.keepsRounds_progEvent _ _ _ _ _)
  have h4 : s3.keepsRounds s4 := State.keepsRounds_ite (State.keepsRounds_setFld s3 _ _ _ _ _) (State.keepsRounds_refl s3)
  have h5 : s4.keepsRounds s5 := by
    unfold s5
    split
    · exact State.keepsRounds_putCheck _ _
    · exact State.keepsRounds_refl _
  have h6 : s5.keepsRounds s6 :=
    State.keepsRounds_ite (State.keepsRounds_chunkFrame s5 _ _ _ _ _ _ _) (State.keepsRounds_refl s5)
  have h7 : s6.keepsRounds s7 := State.keepsRounds_ite (State.keepsRounds_chunkItem s6 _ _ _ _ _ _) (State.keepsRounds_refl s6)
  have h8 : s2.keepsRounds s7 := State.keepsRounds_trans h3 (State.keepsRounds_trans h4 (State.keepsRounds_trans h5
    (State.keepsRounds_trans h6 h7)))
  refine State.keepsRounds_trans (t := s7) h8 (State.keepsRounds_ite ?_ (State.keepsRounds_refl s7))
  split
  · exact State.keepsRounds_keepChunk _ _ _ _ _
  · exact State.keepsRounds_refl _

/-- A chunk that ends leaves the list and is counted in its round. -/
theorem State.endChunk_spec (s : State) (ch : Chunk) (status : Nat) (frame : Bool) (hc : s.ctx ch.ctx = some c) {u : State}
    (hu : u = s.endChunk ch status frame) : u.beat = s.beat
      ∧ u.coll.chunks = dropFirst (Chunk.at ch.ctx ch.chunk) s.coll.chunks
      ∧ ∃ d, u.ctx ch.ctx = some d ∧ d.unsequenced = (c.countEnd ch.chunk (ch.endStatus status)).unsequenced := by
  obtain ⟨hdbeat, hdchunks, hdctx⟩ := s.dropChunk_spec ch rfl
  obtain ⟨hbeat, hchunks, hctx⟩ := hu ▸ s.keepsRounds_endChunk ch status frame hc
  have hupd : (s.dropChunk ch).updCtx ch.ctx (fun c => c.countEnd ch.chunk (ch.endStatus status))
      = (s.dropChunk ch).setCtx ch.ctx (some (c.countEnd ch.chunk (ch.endStatus status))) := by
    rw [State.updCtx, hdctx, hc]
  rw [hupd] at hbeat hchunks hctx
  have hown := hctx ch.ctx
  rw [State.ctx_setCtx, if_pos rfl, Option.map_some] at hown
  obtain ⟨d, hd, hseq⟩ := Option.map_eq_some_iff.1 hown
  exact ⟨hbeat.trans hdbeat, hchunks.trans hdchunks, d, hd, hseq⟩

end

end Sys2Proof.Machine
end

section
namespace Sys2Proof.Machine

/-! ### Sending a segment (11 R339; 12 R373) -/

section
variable (s : State)

/-- An encoding draws cells and free values and counts (12 R377). -/
theorem State.encode_spec (d : Desc) (home seg : Nat) (p : Part) {t : State} (ht : t = (s.encode d home seg p).2) :
    t = { s with free := t.free, regs := t.regs, red := t.red } := by
  subst ht
  unfold State.encode
  generalize encodeSeg _ _ _ _ _ = x
  dsimp only
  split
  · rfl
  · rfl

/-- The start of a compare writes the chunk's check alone (14 R413). -/
theorem State.startCompare_spec (ch : Chunk) (seg : Nat) (sent : List Byte) {t : State} (ht : t = s.startCompare ch seg sent) :
    t = { s with coll := { s.coll with checks := t.coll.checks } } := by
  subst ht
  unfold State.startCompare
  split
  · dsimp only
    split <;> rfl
  · rfl

theorem State.keepsRounds_sendUp (d : Desc) (ch : Chunk) (h : Hdr) (data : List Byte) : s.keepsRounds (s.sendUp d ch h data) :=
  ⟨rfl, rfl, fun _ => rfl⟩

/-- A sent segment: what goes out is kept with it. -/
def Chunk.sentSeg (ch : Chunk) (seg : Nat) (g : Seg) (data : List Byte) : Chunk :=
  { ch with segs := ch.segs.set seg { g with sent := true, data := data } }

/-- A segment is sent: to the parent or to the groups, and the rounds are as they were. -/
theorem State.sendSeg_spec (d : Desc) (ch : Chunk) (seg : Nat) (q : Bool) : s.keepsRounds (s.sendSeg d ch seg q).1
    ∧ ((s.sendSeg d ch seg q).2 = ch ∨ ∃ g data, ch.segs[seg]? = some g ∧ (s.sendSeg d ch seg q).2 = ch.sentSeg seg g data) := by
  unfold State.sendSeg
  split
  next => exact ⟨State.keepsRounds_refl s, .inl rfl⟩
  next g hg =>
    have henc := s.encode_spec d ch.home seg g.part rfl
    generalize s.encode d ch.home seg g.part = e at henc ⊢
    have hkeeps : s.keepsRounds e.2 := State.keepsRounds_of_coll (by rw [henc]) (by rw [henc])
    refine ⟨?_, .inr ⟨g, e.1, hg, rfl⟩⟩
    dsimp only
    generalize hw : (if d.cascade then e.2.sendUp d ch _ e.1 else _) = w
    have hsent : e.2.keepsRounds w := by
      rw [← hw]
      refine State.keepsRounds_ite (State.keepsRounds_sendUp _ _ _ _ _) ?_
      exact State.keepsRounds_trans (e.2.nextSeq_spec ch.ctx rfl).1 (State.keepsRounds_sendGroups _ _ _ _ _ _ _)
    have hcmp := w.startCompare_spec ch seg (if d.cascade then e.1 else (if q then quorumRecord g.done d.n ++ e.1 else e.1)) rfl
    refine State.keepsRounds_trans hkeeps (State.keepsRounds_trans hsent ⟨?_, ?_, fun j => ?_⟩)
    · rw [hcmp]
    · rw [hcmp]
    · rw [hcmp]
      rfl

/-- A segment of a context without a parent goes to every listed group. -/
theorem State.sendSeg_groups (d : Desc) (ch : Chunk) (seg : Nat) {g : Seg} (hg : ch.segs[seg]? = some g)
    (hcascade : d.cascade = false) {t : State} (ht : t = (s.sendSeg d ch seg false).1) : ∃ rs data,
    (s.sendSeg d ch seg false).2 = ch.sentSeg seg g data
      ∧ t = { s with free := t.free, regs := t.regs, red := t.red, net := { s.net with ret := s.net.ret ++ rs },
                     coll := { s.coll with ctx := t.coll.ctx, checks := t.coll.checks } }
      ∧ rs.map (·.target) = d.groups
      ∧ ∀ r ∈ rs, r.kind = 1 ∧ r.part = d.part ∧ r.cls = d.resClass ∧ r.epoch = ch.epoch := by
  subst ht
  unfold State.sendSeg
  simp only [hg, hcascade, Bool.false_eq_true, if_false]
  have henc := s.encode_spec d ch.home seg g.part rfl
  generalize s.encode d ch.home seg g.part = e at henc ⊢
  obtain ⟨-, hseq⟩ := e.2.nextSeq_spec ch.ctx rfl
  generalize e.2.nextSeq ch.ctx = n at hseq ⊢
  obtain ⟨rs, hrs, htargets, hfields⟩ := n.2.sendGroups_spec d n.1 ch.ctx (some ch.home)
    { op := opResult, epoch := ch.epoch, chunk := ch.chunk, offset := seg * d.segSize, contrib := g.contrib, poison := g.poison } e.1
  rw [hrs]
  refine ⟨rs, e.1, rfl, ?_, htargets, hfields⟩
  rw [State.startCompare_spec _ ch seg e.1 rfl]
  dsimp only
  rw [hseq, henc]

end

/-! ### The end of a window (11 R340; 14 R409) -/

section
variable {s : State} {i k : Nat} {ch : Chunk} {c : Context}

theorem State.expireDue_iff (hch : s.chunk i k = some ch) (hc : s.ctx i = some c) :
    s.expireDue i k = decide (ch.openedAt + ch.window ≤ s.beat.bc) := by
  simp [State.expireDue, hch, hc]

theorem State.coming_expireDue (hch : s.chunk i k = some ch) (hc : s.ctx i = some c) :
    s.coming (·.expireDue i k) = decide (ch.openedAt + ch.window ≤ s.beat.bc + 1) :=
  State.expireDue_iff (s := { s with beat := _ }) hch hc

theorem State.coming_expireDue_none (hch : s.chunk i k = none) : s.coming (·.expireDue i k) = false := by
  have hdue : ∀ u : State, u.chunk i k = none → u.expireDue i k = false := fun u hu => by simp [State.expireDue, hu]
  exact hdue _ hch

/-- The unsent segments have enough contributors when every segment is sent or has (R340). -/
theorem all_unsent (l : List Seg) (n : Nat) :
    (((List.range l.length).filter fun g => (l[g]?.map fun x => !x.sent).getD false).all fun g =>
      (l[g]?.map fun x => decide (n ≤ x.done.length)).getD false) = l.all fun g => g.sent || decide (n ≤ g.done.length) := by
  rw [Bool.eq_iff_iff, List.all_filter, List.all_eq_true, List.all_eq_true]
  refine ⟨fun h g hg => ?_, fun h j hj => ?_⟩
  · obtain ⟨j, hj, rfl⟩ := List.getElem_of_mem hg
    simpa [hj] using h j (List.mem_range.2 hj)
  · have hlt := List.mem_range.1 hj
    simpa [hlt] using h l[j] (List.getElem_mem hlt)

/-- A state and a chunk on the way to the end of a window: the other chunks and the rounds are those of `s`, and the chunk's
segments are poisoned as those of `ch`. -/
def State.sending (s : State) (i k : Nat) (ch : Chunk) (x : State × Chunk) : Prop := x.1.beat = s.beat
  ∧ dropFirst (Chunk.at i k) x.1.coll.chunks = dropFirst (Chunk.at i k) s.coll.chunks
  ∧ (∀ j, (x.1.ctx j).map Context.unsequenced = (s.ctx j).map Context.unsequenced)
  ∧ x.2.ctx = i ∧ x.2.chunk = k ∧ x.2.segs.map (·.poison) = ch.segs.map (·.poison)

theorem Chunk.poison_sentSeg {seg : Nat} {g : Seg} (hg : ch.segs[seg]? = some g) (data : List Byte) :
    (ch.sentSeg seg g data).segs.map (·.poison) = ch.segs.map (·.poison) := by
  obtain ⟨hlt, rfl⟩ := List.getElem?_eq_some_iff.1 hg
  refine List.ext_getElem (by simp [Chunk.sentSeg]) fun n h1 h2 => ?_
  simp only [Chunk.sentSeg, List.getElem_map, List.getElem_set]
  split
  next h => subst h; rfl
  next => rfl

/-- One more segment of a quorum goes out. -/
theorem State.sending_sendSeg {x : State × Chunk} (h : s.sending i k ch x) (d : Desc) (seg : Nat) (q : Bool) :
    s.sending i k ch ((x.1.sendSeg d x.2 seg q).1.putChunk (x.1.sendSeg d x.2 seg q).2, (x.1.sendSeg d x.2 seg q).2) := by
  obtain ⟨hbeat, hchunks, hctx, hi, hk, hpoison⟩ := h
  obtain ⟨⟨hsbeat, hschunks, hsctx⟩, hchunk⟩ := x.1.sendSeg_spec d x.2 seg q
  have hkey : (x.1.sendSeg d x.2 seg q).2.ctx = i ∧ (x.1.sendSeg d x.2 seg q).2.chunk = k
      ∧ (x.1.sendSeg d x.2 seg q).2.segs.map (·.poison) = ch.segs.map (·.poison) := by
    obtain heq | ⟨g, data, hg, heq⟩ := hchunk
    · rw [heq]; exact ⟨hi, hk, hpoison⟩
    · rw [heq]; exact ⟨hi, hk, (Chunk.poison_sentSeg hg data).trans hpoison⟩
  generalize x.1.sendSeg d x.2 seg q = y at hsbeat hschunks hsctx hkey ⊢
  obtain ⟨hyi, hyk, hypoison⟩ := hkey
  refine ⟨hsbeat.trans hbeat, ?_, fun j => (hsctx j).trans (hctx j), hyi, hyk, hypoison⟩
  have hput : (y.1.putChunk y.2).coll.chunks = updFirst (Chunk.at i k) (fun _ => y.2) y.1.coll.chunks := by
    rw [← hyi, ← hyk]; rfl
  rw [hput, dropFirst_updFirst (fun _ _ => by simp [Chunk.at, hyi, hyk]), hschunks, hchunks]

theorem Chunk.endStatus_of_le {status : Nat} (h : 1 < status) : ch.endStatus status = status := by
  simp [Chunk.endStatus, Nat.not_le.2 h]

theorem Chunk.endStatus_of_clean (h : ch.segs.all (fun g => !g.poison) = true) (status : Nat) : ch.endStatus status = status := by
  have hany : ch.segs.any (·.poison) = false := by
    rw [← Bool.not_eq_true', List.not_any_eq_all_not]
    exact h
  simp [Chunk.endStatus, hany]

/-- An open chunk at the end of its window ends, under the status that R340 and 14 R409 give it. -/
theorem State.expireChunk_spec (hch : s.chunk i k = some ch) (hc : s.ctx i = some c)
    (hdue : ch.openedAt + ch.window ≤ s.beat.bc) {u : State} (hu : u = s.expireChunk i k) : u.beat = s.beat
      ∧ u.coll.chunks = dropFirst (Chunk.at i k) s.coll.chunks ∧ ∃ (d e : Context) (status : Nat), u.ctx i = some d
        ∧ e.unsequenced = c.unsequenced ∧ d.unsequenced = (e.countEnd k status).unsequenced
        ∧ (ch.segs.all (fun g => !g.poison) = true → status
            = if c.d.quorum && ch.segs.all (fun g => g.sent || decide (c.d.k ≤ g.done.length)) then 1 else 2)
        ∧ (ch.segs.any (fun g => g.poison && !g.sent) = true → s.carry c.d.part = false → status = 6) := by
  obtain ⟨rfl, rfl⟩ := State.key_of_chunk hch
  have hdue' : s.expireDue ch.ctx ch.chunk = true := (State.expireDue_iff hch hc).trans (decide_eq_true hdue)
  unfold State.expireChunk at hu
  simp only [hch, hc, hdue', Bool.not_true, Bool.false_eq_true, if_false] at hu
  split at hu
  next hpoison =>
    obtain ⟨hbeat, hchunks, d, hd, hcount⟩ := s.endChunk_spec ch 6 true hc hu
    rw [Chunk.endStatus_of_le (by decide)] at hcount
    refine ⟨hbeat, hchunks, d, c, 6, hd, rfl, hcount, fun hclean => ?_, fun _ _ => rfl⟩
    obtain ⟨hsome, -⟩ := (Bool.and_eq_true _ _).mp hpoison
    obtain ⟨g, hg, hbad⟩ := List.any_eq_true.1 hsome
    have hgood : g.poison = false := by simpa using List.all_eq_true.1 hclean g hg
    rw [hgood, Bool.false_and] at hbad
    cases hbad
  next hpoison =>
    have hcarry : ch.segs.any (fun g => g.poison && !g.sent) = true → s.carry c.d.part = false → False := fun hany hno =>
      hpoison (by rw [hany, hno]; rfl)
    split at hu
    next hquorum =>
      obtain ⟨hbeat, hchunks, d, hd, hcount⟩ := s.endChunk_spec ch 2 true hc hu
      rw [Chunk.endStatus_of_le (by decide)] at hcount
      refine ⟨hbeat, hchunks, d, c, 2, hd, rfl, hcount, fun _ => ?_, fun hany hno => (hcarry hany hno).elim⟩
      rw [Bool.not_eq_true'] at hquorum
      rw [hquorum, Bool.false_and]
      rfl
    next hquorum =>
      rw [all_unsent] at hu
      have hsending := List.foldlRecOn (motive := s.sending ch.ctx ch.chunk ch)
        (((List.range ch.segs.length).filter fun g => (ch.segs[g]?.map fun x => !x.sent).getD false).filter fun g =>
          (ch.segs[g]?.map fun x => decide (c.d.k ≤ x.done.length)).getD false)
        (fun (x : State × Chunk) g => ((x.1.sendSeg c.d x.2 g true).1.putChunk (x.1.sendSeg c.d x.2 g true).2,
          (x.1.sendSeg c.d x.2 g true).2)) (show s.sending ch.ctx ch.chunk ch (s, ch) from ⟨rfl, rfl, fun _ => rfl, rfl, rfl, rfl⟩)
        fun x hx g _ => State.sending_sendSeg hx c.d g true
      generalize List.foldl _ (s, ch) _ = r at hu hsending
      obtain ⟨hrbeat, hrchunks, hrctx, hri, hrk, hrpoison⟩ := hsending
      have hown := hrctx ch.ctx
      rw [hc, Option.map_some] at hown
      obtain ⟨e, he, hseq⟩ := Option.map_eq_some_iff.1 hown
      obtain ⟨hbeat, hchunks, d, hd, hcount⟩ := r.1.endChunk_spec r.2 _ true (hri ▸ he) hu
      rw [hri, hrk] at hchunks
      rw [hri] at hd
      rw [hrk] at hcount
      refine ⟨hbeat.trans hrbeat, hchunks.trans hrchunks, d, e, _, hd, hseq, hcount, fun hclean => ?_,
        fun hany hno => (hcarry hany hno).elim⟩
      have hclean' : r.2.segs.all (fun g => !g.poison) = true := by
        have hmap : ∀ l : List Seg, l.all (fun g => !g.poison) = (l.map (·.poison)).all fun b => !b := fun l => by
          rw [List.all_map]; rfl
        rw [hmap, hrpoison, ← hmap, hclean]
      have hquorum' : c.d.quorum = true := by simpa using hquorum
      rw [Chunk.endStatus_of_clean hclean', hquorum', Bool.true_and]

/-- What the next flow_seq does not decide. -/
theorem Context.eq_of_unsequenced {α : Type} {e : Context} (h : e.unsequenced = c.unsequenced) (f : Context → α)
    (hf : ∀ c : Context, f c.unsequenced = f c) : f e = f c :=
  (hf e).symm.trans ((congrArg f h).trans (hf c))

/-- A chunk's place in the round does not rest on the next flow_seq. -/
theorem Context.roundIdx_congr {e : Context} (h : e.unsequenced = c.unsequenced) (k : Nat) : e.roundIdx k = c.roundIdx k := by
  have hbase : e.base = c.base := Context.eq_of_unsequenced h Context.base fun _ => rfl
  have hspan : e.span = c.span := Context.eq_of_unsequenced h Context.span fun _ => rfl
  have hstride : e.stride = c.stride := Context.eq_of_unsequenced h Context.stride fun _ => rfl
  have hphase : e.phase = c.phase := Context.eq_of_unsequenced h Context.phase fun _ => rfl
  unfold Context.roundIdx Context.dist
  rw [hbase, hspan, hstride, hphase]

/-- How the end of a chunk of the round is counted, whatever frames have moved the flow_seq. -/
theorem Context.counts_of_unsequenced {d e : Context} {status : Nat} (he : e.unsequenced = c.unsequenced)
    (hd : d.unsequenced = (e.countEnd k status).unsequenced) (hround : (c.roundIdx k).isSome = true) :
    d.nQuorum = c.nQuorum + (if status = 1 then 1 else 0) ∧ d.nTimeout = c.nTimeout + (if status = 2 then 1 else 0)
      ∧ d.nOther = c.nOther + (if 2 < status then 1 else 0) := by
  obtain ⟨hquorum, htimeout, hother⟩ := Context.countEnd_counts (by rw [Context.roundIdx_congr he k]; exact hround) status
  have hequorum : e.nQuorum = c.nQuorum := Context.eq_of_unsequenced he Context.nQuorum fun _ => rfl
  have hetimeout : e.nTimeout = c.nTimeout := Context.eq_of_unsequenced he Context.nTimeout fun _ => rfl
  have heother : e.nOther = c.nOther := Context.eq_of_unsequenced he Context.nOther fun _ => rfl
  rw [hequorum] at hquorum
  rw [hetimeout] at htimeout
  rw [heother] at hother
  exact ⟨(Context.eq_of_unsequenced hd Context.nQuorum fun _ => rfl).trans hquorum,
    (Context.eq_of_unsequenced hd Context.nTimeout fun _ => rfl).trans htimeout,
    (Context.eq_of_unsequenced hd Context.nOther fun _ => rfl).trans hother⟩

/-! ### Spilling and recall (11 R338) -/

theorem State.spillDue_iff (hch : s.chunk i k = some ch) (hc : s.ctx i = some c) : s.spillDue i k = true ↔
    ch.place = .staging ∧ ch.drawnAt + Nat.max 1 (s.fld .collCfg 0 63 48) ≤ s.beat.bc ∧ ch.judged ≠ s.beat.bc
      ∧ s.beat.bc < ch.openedAt + ch.window := by
  simp [State.spillDue, hch, hc, and_assoc]

theorem State.coming_spillDue (hch : s.chunk i k = some ch) (hc : s.ctx i = some c) : s.coming (·.spillDue i k) = true ↔
    ch.place = .staging ∧ ch.drawnAt + Nat.max 1 (s.fld .collCfg 0 63 48) ≤ s.beat.bc + 1 ∧ ch.judged ≠ s.beat.bc + 1
      ∧ s.beat.bc + 1 < ch.openedAt + ch.window := State.spillDue_iff (s := { s with beat := _ }) hch hc

theorem State.coming_spillDue_none (hch : s.chunk i k = none) : s.coming (·.spillDue i k) = false := by
  have hdue : ∀ u : State, u.chunk i k = none → u.spillDue i k = false := fun u hu => by simp [State.spillDue, hu]
  exact hdue _ hch

/-- A chunk due to spill that cannot is judged, and the refusal is counted. -/
theorem State.spillChunk_refused (hch : s.chunk i k = some ch) (hc : s.ctx i = some c) (hdue : s.spillDue i k = true)
    (hno : s.flag .bufSpillCfg 0 0 = false ∨ s.drawPool 1 0 i k c.d.part c.d.resClass c.d.partialKib = none) :
    s.spillChunk i k
      = (s.count (cntPool (if c.d.partialKib ≤ 64 then 3 else 4) 1) 1).putChunk { ch with judged := s.beat.bc } := by
  unfold State.spillChunk
  simp only [hch, hc, hdue, Bool.not_true, Bool.false_eq_true, if_false]
  obtain hoff | hnone := hno
  · rw [hoff]; rfl
  · rw [hnone]
    split <;> rfl

theorem State.spillChunk_spills (hch : s.chunk i k = some ch) (hc : s.ctx i = some c) (hdue : s.spillDue i k = true)
    (hon : s.flag .bufSpillCfg 0 0 = true) {v : State} (hv : s.drawPool 1 0 i k c.d.part c.d.resClass c.d.partialKib = some v) :
    s.spillChunk i k = (v.freeStaging ch.home i k).putChunk { ch with place := .spill } := by
  unfold State.spillChunk
  simp only [hch, hc, hdue, hon, hv, Bool.not_true, Bool.false_eq_true, if_false]

/-- Where no contribution waits at `merge`, none is served. -/
theorem State.serveWaiters_none (h : s.net.streams.all (fun t => t.stage ≠ .collWait) = true) : s.serveWaiters = s := by
  have hnil : s.net.streams.filter (fun t => t.stage = .collWait) = [] :=
    List.filter_eq_nil_iff.2 fun t ht => by simpa using List.all_eq_true.1 h t ht
  unfold State.serveWaiters
  rw [hnil]
  rfl

theorem State.recallDone_idle (h : s.chunk i k = none ∨ ∃ ch, s.chunk i k = some ch ∧ ch.place ≠ .recall) :
    s.recallDone i k = s := by
  unfold State.recallDone
  obtain h | ⟨ch, h, hplace⟩ := h
  · rw [h]
  · rw [h]
    exact if_neg hplace

theorem State.recallDone_recalled (hch : s.chunk i k = some ch) (hplace : ch.place = .recall)
    (hnone : s.net.streams.all (fun t => t.stage ≠ .collWait) = true) :
    s.recallDone i k = (s.putChunk { ch with place := .staging, drawnAt := s.beat.bc }).freeSpill i k := by
  have hbuf := (s.putChunk { ch with place := .staging, drawnAt := s.beat.bc }).onlyBuf_freeSpill i k
  unfold State.recallDone
  rw [hch]
  dsimp only
  rw [if_pos hplace]
  exact State.serveWaiters_none (by rw [hbuf]; exact hnone)

/-! ### The draw of staging (11 R337) -/

theorem State.stagingDraw_idle (h : s.ctx i = none ∨ s.wanted i k = false) : s.stagingDraw i k = s := by
  unfold State.stagingDraw
  split
  next c hc =>
    obtain h | h := h
    · exact absurd (h.symm.trans hc) nofun
    · rw [h]; rfl
  next => rfl

theorem State.stagingDraw_wanted (hc : s.ctx i = some c) (hwanted : s.wanted i k = true) :
    s.stagingDraw i k = (s.draw c.d i k).serveWaiters := by
  unfold State.stagingDraw
  rw [hc]
  exact if_pos hwanted

theorem State.draw_staging (hch : s.chunk i k = some ch) (hplace : ch.place = .none) (huse : s.tableUse ch.home < 128)
    (hcheck : ch.check = none) {d : Desc} {v : State} (hv : s.drawPool 0 ch.home i k d.part d.resClass d.partialKib = some v) :
    s.draw d i k = v.putChunk { ch with place := .staging, drawnAt := v.beat.bc } := by
  unfold State.draw
  simp only [hch, hplace, if_true, if_neg (Nat.not_le.2 huse), hv]
  unfold State.drawCheck
  rw [hcheck]

theorem State.draw_refused (hch : s.chunk i k = some ch) (hplace : ch.place = .none) {d : Desc}
    (hv : s.drawPool 0 ch.home i k d.part d.resClass d.partialKib = none) : s.draw d i k = s := by
  unfold State.draw
  simp only [hch, hplace, if_true, hv]
  split <;> rfl

theorem State.draw_recall (hch : s.chunk i k = some ch) (hplace : ch.place = .spill) {d : Desc} {v : State}
    (hv : s.drawPool 0 ch.home i k d.part d.resClass d.partialKib = some v) :
    s.draw d i k = v.putChunk { ch with place := .recall, drawnAt := v.beat.bc } := by
  unfold State.draw
  simp only [hch, hplace, hv, reduceCtorEq, if_false, if_true]

theorem State.keepsStaging_contribCount (s : State) (n p : Nat) : s.keepsStaging (s.contribCount n p) := by
  unfold State.contribCount
  repeat' split
  all_goals exact ⟨rfl, rfl, rfl, rfl⟩

/-- The home takes a contribution to a chunk without a check: it stands in the chunk, in the input buffer, and nowhere else
(11 R339). -/
theorem State.takeContrib_eq (hcheck : ch.check = none) (d : Desc) (t : Stream) (who : Nat) : ∃ (x : Chunk) (l : List InBuf),
    (x.ctx = ch.ctx ∧ x.chunk = ch.chunk) ∧ x.place = ch.place ∧ x.drawnAt = ch.drawnAt ∧ s.takeContrib ch d t who
      = State.contribLeaves { s.putChunk x with coll := { (s.putChunk x).coll with inbuf := l } } t := by
  have htakes : ∀ (v : State) (e : InBuf), v.checkTakes ch t e = v := fun v e => by
    unfold State.checkTakes
    rw [hcheck]
  unfold State.takeContrib
  simp only [htakes]
  generalize hx : ({ ch with segs := _, poisonEnd := _ } : Chunk) = x
  generalize (s.putChunk x).coll.inbuf ++ _ = l
  exact ⟨x, l, by rw [← hx]; exact ⟨rfl, rfl⟩, by rw [← hx], by rw [← hx], rfl⟩

theorem State.takeContrib_spec {t : Stream} (hch : s.chunk i k = some ch) (hcheck : ch.check = none) (d : Desc) (who : Nat)
    {u : State} (hu : u = s.takeContrib ch d t who) : u.pending = s.pending ∧ u.buf.stg = s.buf.stg
      ∧ ∃ x, u.chunk i k = some x ∧ x.place = ch.place ∧ x.drawnAt = ch.drawnAt := by
  obtain ⟨x, l, hkey, hplace, hdrawn, htake⟩ := State.takeContrib_eq (s := s) hcheck d t who
  rw [(State.key_of_chunk hch).1, (State.key_of_chunk hch).2] at hkey
  obtain ⟨hpend, -, hcoll, hstg⟩ := (hu.trans htake) ▸ State.keepsStaging_contribLeaves
    { s.putChunk x with coll := { (s.putChunk x).coll with inbuf := l } } t
  exact ⟨hpend, hstg, x, by rw [State.chunk, hcoll]; exact State.chunk_putChunk hch hkey, hplace, hdrawn⟩

/-- A contribution that waits for an open chunk without a check: it is taken, is late, or waits on, and the chunk keeps its
place (11 R335, R339). -/
theorem State.serveWaiter_spec {t : Stream} (hch : s.chunk i k = some ch) (hcheck : ch.check = none) (hc : s.ctx i = some c)
    (hk : t.hdr.chunk = k) (hctx : s.ctxOf t.part t.hdr.coll = some i) {u : State} (hu : u = s.serveWaiter t) :
    u.pending = s.pending ∧ u.buf.stg = s.buf.stg
      ∧ ∃ x, u.chunk i k = some x ∧ x.place = ch.place ∧ x.drawnAt = ch.drawnAt := by
  have hkeeps : ∀ v : State, s.keepsStaging v → v.pending = s.pending ∧ v.buf.stg = s.buf.stg
      ∧ ∃ x, v.chunk i k = some x ∧ x.place = ch.place ∧ x.drawnAt = ch.drawnAt := fun v hv => by
    obtain ⟨hpend, -, hcoll, hstg⟩ := hv
    exact ⟨hpend, hstg, ch, by rw [State.chunk, hcoll]; exact hch, rfl, rfl⟩
  unfold State.serveWaiter at hu
  simp only [hctx, hc] at hu
  split at hu
  next n hn =>
    rw [hu]
    split
    · exact hkeeps _ (State.keepsStaging_trans (t := s.bump .collCnt0 0 31 16 1) ⟨rfl, rfl, rfl, rfl⟩
        (State.keepsStaging_endStream _ t))
    · exact hkeeps _ (State.keepsStaging_trans (s.keepsStaging_contribCount n t.part) (State.keepsStaging_endStream _ t))
  next hn =>
    subst hk
    simp only [hch, Option.isNone_some, Bool.false_and, Bool.false_eq_true, if_false] at hu
    unfold State.offer at hu
    rw [hch] at hu
    split at hu
    next x who hx hwho =>
      obtain rfl := Option.some.inj hx
      split at hu
      · exact State.takeContrib_spec hch hcheck c.d who hu
      · exact hkeeps u (hu ▸ ⟨rfl, rfl, rfl, rfl⟩)
    next => exact hkeeps u (hu ▸ ⟨rfl, rfl, rfl, rfl⟩)

/-- The one contribution that waits is served. -/
theorem State.serveWaiters_one {t : Stream} (h : s.net.streams.filter (fun t => t.stage = .collWait) = [t]) :
    s.serveWaiters = s.serveWaiter t := by
  unfold State.serveWaiters
  rw [h]
  rfl

end

end Sys2Proof.Machine
end

section
namespace Sys2Proof.Machine

/-! ### Combining (11 R339; 12 R357) -/

section
variable {s : State} {clu : Nat} {e : InBuf} {rest : List InBuf} {ch : Chunk} {c : Context} {d : Desc} {g : Seg} {p : Part} {n : Nat}

theorem State.combineStep_waits (h : s.unitWaits (.cluster clu) = true) : s.combineStep clu = s := if_pos h

theorem State.combineStep_free (h : s.unitWaits (.cluster clu) = false) :
    s.combineStep clu = (s.combineAt clu).serveWaiters := if_neg (by simp [h])

theorem State.combineAt_idle (h : s.clusterFree clu = false ∨ s.coll.inbuf.all (fun e => e.cluster ≠ clu) = true) :
    s.combineAt clu = s := by
  unfold State.combineAt
  dsimp only
  split
  · rfl
  next hfree =>
    obtain h | h := h
    · simp [h] at hfree
    · split
      next => rfl
      next e he =>
        have hmem := List.mem_of_find?_eq_some he
        have hready := List.find?_some he
        have hother := List.all_eq_true.1 h e hmem
        simp only [Bool.and_eq_true, decide_eq_true_eq] at hready hother
        exact absurd hready.1 hother

/-- The first contribution of a free cluster's own input is the one that it combines. -/
theorem State.combineAt_first (hfree : s.clusterFree clu = true) (hin : s.coll.inbuf = e :: rest) (he : e.cluster = clu)
    (hch : s.chunk e.ctx e.chunk = some ch) (hhome : ch.home = clu) (hplace : ch.place = .staging) (hc : s.ctx e.ctx = some c) :
    s.combineAt clu = s.combineEntry ch c.d e := by
  unfold State.combineAt
  simp only [hfree, hin, List.find?_cons, he, hch, hhome, hplace, hc, decide_true, Bool.and_self, Bool.not_true,
    Bool.false_eq_true, if_false, if_true]

/-- The state in which the first entry of the input buffers has been taken and counted. -/
def State.combined (s : State) (rest : List InBuf) (n home v : Nat) : State :=
  (({ s with coll := { s.coll with inbuf := rest } }).bump .redCnt 0 15 0 n).progEvent 0x15 home none v

theorem State.combined_spec (s : State) (rest : List InBuf) (n home v : Nat) {t : State} (ht : t = s.combined rest n home v) :
    t = { s with regs := t.regs, cnt := t.cnt, coll := { s.coll with inbuf := rest } }
      ∧ t.fld .redCnt 0 15 0 = Nat.min 65535 (s.fld .redCnt 0 15 0 + n) := by
  have hprog := (({ s with coll := { s.coll with inbuf := rest } } : State).bump .redCnt 0 15 0 n).onlyCnt_progEvent 0x15 home
    none v
  have hfld := State.fld_bump { s with coll := { s.coll with inbuf := rest } } .redCnt 0 0 n (hi := 15) (by omega)
  subst ht
  unfold State.combined
  refine ⟨by rw [hprog]; rfl, ?_⟩
  exact (State.fld_congr (by rw [hprog]) _ _ _ _).trans hfld

/-- A segment with one contribution more. -/
def Seg.combine (g : Seg) (e : InBuf) (p : Part) : Seg :=
  { g with part := p, done := g.done ++ [e.who], contrib := g.contrib + e.contrib }

/-- A chunk whose segment `seg` is `f`. -/
def Chunk.setSeg (ch : Chunk) (seg : Nat) (f : Seg) : Chunk := { ch with segs := ch.segs.set seg f }

/-- A contribution combined (12 R357). -/
theorem State.combineEntry_eq (hin : s.coll.inbuf = e :: rest) (hg : ch.segs[e.seg]? = some g) (hend : ch.poisonEnd = false)
    (hpoison : g.poison = false) (hhits : s.combineHits d ch.home ch.epoch e.seg g.part e.data = false)
    (hinto : s.combineInto d ch.epoch e.seg g.part e.data = (p, n)) : ∃ v, s.combineEntry ch d e
      = if g.done.length + 1 = d.n then
          let r := ((s.combined rest n ch.home v).putChunk (ch.setSeg e.seg (g.combine e p))).sendSeg d
            (ch.setSeg e.seg (g.combine e p)) e.seg false
          if r.2.segs.all (·.sent) then (r.1.putChunk r.2).endChunk r.2 0 false else r.1.putChunk r.2
        else (s.combined rest n ch.home v).putChunk (ch.setSeg e.seg (g.combine e p)) := by
  have hdrop : s.dropIn e = { s with coll := { s.coll with inbuf := rest } } := by
    unfold State.dropIn
    rw [hin, dropFirst, if_pos (by simp)]
  have hhits' : State.combineHits { s with coll := { s.coll with inbuf := rest } } d ch.home ch.epoch e.seg g.part e.data = false :=
    hhits
  have hinto' : State.combineInto { s with coll := { s.coll with inbuf := rest } } d ch.epoch e.seg g.part e.data = (p, n) :=
    hinto
  refine ⟨ceilDiv p.acc.length d.ar.perVector, ?_⟩
  unfold State.combineEntry
  rw [hg]
  dsimp only
  rw [hdrop, if_neg (by simp [hend]), if_neg (by simp [hpoison]), if_neg (by simp [hhits']), hinto']
  dsimp only
  rw [List.length_append, List.length_singleton]
  rfl

/-- A contribution that leaves its segment incomplete. -/
theorem State.combineEntry_part (hin : s.coll.inbuf = e :: rest) (hch : s.chunk e.ctx e.chunk = some ch)
    (hg : ch.segs[e.seg]? = some g) (hend : ch.poisonEnd = false) (hpoison : g.poison = false)
    (hhits : s.combineHits d ch.home ch.epoch e.seg g.part e.data = false)
    (hinto : s.combineInto d ch.epoch e.seg g.part e.data = (p, n)) (hmore : g.done.length + 1 ≠ d.n) {u : State}
    (hu : u = s.combineEntry ch d e) :
    u = { s with regs := u.regs, cnt := u.cnt, coll := { s.coll with inbuf := rest, chunks := u.coll.chunks } }
      ∧ u.chunk e.ctx e.chunk = some (ch.setSeg e.seg (g.combine e p))
      ∧ u.fld .redCnt 0 15 0 = Nat.min 65535 (s.fld .redCnt 0 15 0 + n) := by
  have hkey : ch.ctx = e.ctx ∧ ch.chunk = e.chunk := State.key_of_chunk hch
  obtain ⟨v, hv⟩ := State.combineEntry_eq hin hg hend hpoison hhits hinto
  rw [hv, if_neg hmore] at hu
  obtain ⟨hframe, hfld⟩ := s.combined_spec rest n ch.home v rfl
  generalize s.combined rest n ch.home v = w at hu hframe hfld
  have hwch : w.chunk e.ctx e.chunk = some ch := by rw [hframe]; exact hch
  subst hu
  refine ⟨?_, State.chunk_putChunk hwch hkey, hfld⟩
  rw [hframe]
  rfl

/-- The last contribution of a segment sends it to every listed group (11 R339). -/
theorem State.combineEntry_last (hin : s.coll.inbuf = e :: rest) (hch : s.chunk e.ctx e.chunk = some ch)
    (hg : ch.segs[e.seg]? = some g) (hend : ch.poisonEnd = false) (hpoison : g.poison = false)
    (hhits : s.combineHits d ch.home ch.epoch e.seg g.part e.data = false)
    (hinto : s.combineInto d ch.epoch e.seg g.part e.data = (p, n)) (hlast : g.done.length + 1 = d.n)
    (hcascade : d.cascade = false) {j : Nat} {x : Seg} (hj : j ≠ e.seg) (hx : ch.segs[j]? = some x) (hunsent : x.sent = false)
    {u : State} (hu : u = s.combineEntry ch d e) : ∃ (y : Chunk) (z : Seg) (rs : List Ret), u.coll.inbuf = rest
      ∧ u.chunk e.ctx e.chunk = some y ∧ y.segs[e.seg]? = some z ∧ z.sent = true ∧ z.done = g.done ++ [e.who]
      ∧ u.net = { s.net with ret := s.net.ret ++ rs } ∧ rs.map (·.target) = d.groups
      ∧ (∀ r ∈ rs, r.kind = 1 ∧ r.part = d.part ∧ r.cls = d.resClass ∧ r.epoch = ch.epoch)
      ∧ u.mem = s.mem ∧ u.pending = s.pending := by
  have hkey : ch.ctx = e.ctx ∧ ch.chunk = e.chunk := State.key_of_chunk hch
  obtain ⟨v, hv⟩ := State.combineEntry_eq hin hg hend hpoison hhits hinto
  rw [hv, if_pos hlast] at hu
  obtain ⟨hlt, -⟩ := List.getElem?_eq_some_iff.1 hg
  have hset : (ch.setSeg e.seg (g.combine e p)).segs[e.seg]? = some (g.combine e p) := by
    simp [Chunk.setSeg, hlt]
  obtain ⟨hframe, -⟩ := s.combined_spec rest n ch.home v rfl
  generalize s.combined rest n ch.home v = w at hu hframe
  have hwch : w.chunk e.ctx e.chunk = some ch := by rw [hframe]; exact hch
  have hput := State.chunk_putChunk (x := ch.setSeg e.seg (g.combine e p)) hwch hkey
  obtain ⟨rs, data, hsent, hsend, htargets, hfields⟩ :=
    (w.putChunk (ch.setSeg e.seg (g.combine e p))).sendSeg_groups d (ch.setSeg e.seg (g.combine e p)) e.seg hset hcascade rfl
  generalize (w.putChunk (ch.setSeg e.seg (g.combine e p))).sendSeg d (ch.setSeg e.seg (g.combine e p)) e.seg false = r
    at hu hsent hsend
  have hnot : r.2.segs.all (·.sent) = false := by
    refine Bool.eq_false_iff.2 fun hall => ?_
    have hmem : x ∈ r.2.segs := by
      rw [hsent]
      refine List.mem_of_getElem? (i := j) ?_
      simp only [Chunk.sentSeg, Chunk.setSeg, List.getElem?_set_ne (Ne.symm hj)]
      exact hx
    exact absurd ((List.all_eq_true.1 hall x hmem).symm.trans hunsent) nofun
  dsimp only at hu
  rw [hnot, if_neg Bool.false_ne_true] at hu
  have hrch : r.1.chunk e.ctx e.chunk = some (ch.setSeg e.seg (g.combine e p)) := by rw [hsend]; exact hput
  subst hu
  refine ⟨r.2, { g.combine e p with sent := true, data := data }, rs, ?_, ?_, ?_, rfl, rfl, ?_, htargets, hfields, ?_, ?_⟩
  · show r.1.coll.inbuf = rest
    rw [hsend]
    show w.coll.inbuf = rest
    rw [hframe]
  · exact State.chunk_putChunk hrch (by rw [hsent]; exact hkey)
  · rw [hsent]
    simp [Chunk.sentSeg, Chunk.setSeg, hlt]
  · show r.1.net = _
    rw [hsend]
    show { w.net with ret := w.net.ret ++ rs } = _
    rw [hframe]
  · show r.1.mem = s.mem
    rw [hsend]
    show w.mem = s.mem
    rw [hframe]
  · show r.1.pending = s.pending
    rw [hsend]
    show w.pending = s.pending
    rw [hframe]

end

/-! ### The obligation -/

section
variable {s : State}

/-- A command of a collective that does what its function says. -/
theorem exec_stagingDraw {i k : Nat} (hi : i < 4096) (hk : k < 1048576) (hlive : s.live = true) {t : State}
    (h : s.stagingDraw i k = t) (hpend : t.pending = s.pending) : exec (.stagingDraw i k) s = .next t :=
  run_live_eq (i := .stagingDraw i k) (by simp [Instr.wellFormed, hi, hk]) hlive h hpend

theorem exec_combine {clu : Nat} (hclu : clu < 768) (hlive : s.live = true) {t : State} (h : s.combineStep clu = t)
    (hpend : t.pending = s.pending) : exec (.contributionCombine clu) s = .next t :=
  run_live_eq (i := .contributionCombine clu) (by simp [Instr.wellFormed, hclu]) hlive h hpend

/-- The one contribution that waits makes its chunk wanted. -/
theorem State.wanted_of_waiter {t : Stream} {i k : Nat} (h : s.net.streams.filter (fun t => t.stage = .collWait) = [t])
    (hk : t.hdr.chunk = k) (hctx : s.ctxOf t.part t.hdr.coll = some i) : s.wanted i k = true := by
  have hmem : t ∈ s.net.streams.filter fun t => t.stage = .collWait := by rw [h]; exact List.mem_singleton_self t
  obtain ⟨hin, hstage⟩ := List.mem_filter.1 hmem
  rw [decide_eq_true_eq] at hstage
  unfold State.wanted
  rw [Bool.or_eq_true]
  exact .inr (List.any_eq_true.2 ⟨t, hin, by simp [hstage, hk, hctx]⟩)

end

/-- Settles O54: a draw and a combination by the case that the statement names, the end of a window by the status that its
segments give, and a spill by whether its pool gives a place. -/
theorem chunksDrawCombineExpireAndSpill : Obligations.ChunksDrawCombineExpireAndSpill := by
  unfold Obligations.ChunksDrawCombineExpireAndSpill
  intro s hlive
  refine ⟨fun i k hi hk hidle => ?_, fun i k c ch t hi hk hc hch hplace huse hcheck hwait hchunk hctx => ⟨fun v hv => ?_, fun hv => ?_⟩,
    fun i k c ch v hi hk hc hch hplace hwanted hnone hv => ?_, fun clu hclu hwaits => ?_,
    fun clu hclu hfree hnone => ⟨fun hidle => ?_, fun e rest ch c g p n hclufree hin he hch hhome hplace hc hg hend hpoison hhits
      hinto => ⟨fun hmore => ?_, fun hlast hcascade _ hunsent => ?_⟩⟩,
    fun i k hi hk hch => ⟨?_, ?_, ?_⟩, fun i k ch c hi hk hch hc => ?_⟩
  case refine_1 => exact exec_stagingDraw hi hk hlive (State.stagingDraw_idle hidle) rfl
  case refine_2 =>
    have hbuf := State.onlyBuf_drawPool hv
    have hdraw := (State.stagingDraw_wanted hc (State.wanted_of_waiter hwait hchunk hctx)).trans
      (congrArg State.serveWaiters (State.draw_staging hch hplace huse hcheck hv))
    have hchv : v.chunk i k = some ch := by rw [hbuf]; exact hch
    have hkey : ch.ctx = i ∧ ch.chunk = k := State.key_of_chunk hch
    have hput := State.chunk_putChunk (x := { ch with place := .staging, drawnAt := v.beat.bc }) hchv hkey
    have hone : (v.putChunk { ch with place := .staging, drawnAt := v.beat.bc }).serveWaiters = _ :=
      State.serveWaiters_one (t := t) (by rw [hbuf]; exact hwait)
    obtain ⟨hpend, hstg, x, hx, hxplace, hxdrawn⟩ := State.serveWaiter_spec hput hcheck (c := c) (by rw [hbuf]; exact hc) hchunk
      (by rw [hbuf]; exact hctx) hone
    refine ⟨_, x, exec_stagingDraw hi hk hlive hdraw (by rw [hpend, hbuf]; rfl), hx, hxplace, hxdrawn.trans ?_, hstg⟩
    show v.beat.bc = s.beat.bc
    rw [hbuf]
  case refine_3 =>
    have hdraw := (State.stagingDraw_wanted hc (State.wanted_of_waiter hwait hchunk hctx)).trans
      (congrArg State.serveWaiters (State.draw_refused hch hplace hv))
    obtain ⟨hpend, -, x, hx, hxplace, -⟩ := State.serveWaiter_spec hch hcheck hc hchunk hctx (State.serveWaiters_one hwait)
    exact ⟨_, x, exec_stagingDraw hi hk hlive hdraw hpend, hx, hxplace.trans hplace⟩
  case refine_4 =>
    have hbuf := State.onlyBuf_drawPool hv
    have hdraw := (State.stagingDraw_wanted hc hwanted).trans (congrArg State.serveWaiters (State.draw_recall hch hplace hv))
    have hbeat : v.beat = s.beat := by rw [hbuf]
    rw [State.serveWaiters_none (by rw [hbuf]; exact hnone), hbeat] at hdraw
    exact exec_stagingDraw hi hk hlive hdraw (by rw [hbuf]; rfl)
  case refine_5 => exact exec_combine hclu hlive (State.combineStep_waits hwaits) rfl
  case refine_6 =>
    refine exec_combine hclu hlive ?_ rfl
    rw [State.combineStep_free hfree, State.combineAt_idle hidle, State.serveWaiters_none hnone]
  case refine_7 =>
    subst hhome
    have hfirst := State.combineAt_first hclufree hin he hch rfl hplace hc
    obtain ⟨hframe, hchunk, hfld⟩ := State.combineEntry_part hin hch hg hend hpoison hhits hinto hmore hfirst
    refine ⟨_, g.combine e p, exec_combine hclu hlive ((State.combineStep_free hfree).trans
      (State.serveWaiters_none (by rw [hframe]; exact hnone))) (by rw [hframe]), by rw [hframe], rfl, hchunk, by rw [hframe],
      by rw [hframe], by rw [hframe], hfld⟩
  case refine_8 =>
    subst hhome
    obtain ⟨j, x, hj, hx, hxsent⟩ := hunsent
    have hfirst := State.combineAt_first hclufree hin he hch rfl hplace hc
    obtain ⟨y, z, rs, hrest, hy, hz, hzsent, hzdone, hnet, htargets, hfields, hmem, hpend⟩ :=
      State.combineEntry_last hin hch hg hend hpoison hhits hinto hlast hcascade hj hx hxsent hfirst
    exact ⟨_, y, z, rs, exec_combine hclu hlive ((State.combineStep_free hfree).trans
      (State.serveWaiters_none (by rw [hnet]; exact hnone))) hpend, hrest, hy, hz, hzsent, hzdone, hnet, htargets, hfields, hmem⟩
  case refine_9 =>
    exact run_call_early (i := .stragglerWindowExpiry i k) (by simp [Instr.wellFormed, hi, hk]) hlive
      (due := fun s => s.coming (·.expireDue i k)) (State.coming_expireDue_none hch)
  case refine_10 =>
    exact run_call_early (i := .chunkSpill i k) (by simp [Instr.wellFormed, hi, hk]) hlive
      (due := fun s => s.coming (·.spillDue i k)) (State.coming_spillDue_none hch)
  case refine_11 =>
    exact run_live_eq (i := .partialRecallDone i k) (by simp [Instr.wellFormed, hi, hk]) hlive
      (State.recallDone_idle (.inl hch)) rfl
  case refine_12 =>
    have hwfExpiry : (Instr.stragglerWindowExpiry i k).wellFormed = true := by simp [Instr.wellFormed, hi, hk]
    have hwfSpill : (Instr.chunkSpill i k).wellFormed = true := by simp [Instr.wellFormed, hi, hk]
    have hkey : ch.ctx = i ∧ ch.chunk = k := State.key_of_chunk hch
    have hwfRecall : (Instr.partialRecallDone i k).wellFormed = true := by simp [Instr.wellFormed, hi, hk]
    refine ⟨fun hearly => ?_, fun hdue => ?_, fun hdue hround => ?_, fun hnot => ?_, fun hplace hdrawn hopen hjudged => ?_,
      fun hplace hdrawn hopen hjudged => ?_, fun hplace => ?_, fun hplace hnone => ?_⟩
    · exact run_call_early hwfExpiry hlive (due := fun s => s.coming (·.expireDue i k))
        ((State.coming_expireDue hch hc).trans (decide_eq_false (Nat.not_le.2 hearly)))
    · exact run_call hwfExpiry hlive (due := fun s => s.coming (·.expireDue i k))
        ((State.coming_expireDue hch hc).trans (decide_eq_true hdue))
    · obtain ⟨hbeat, hchunks, d, e, status, hd, he, hcount, hclean, hpoisoned⟩ := State.expireChunk_spec hch hc hdue rfl
      obtain ⟨hquorum, htimeout, hother⟩ := Context.counts_of_unsequenced he hcount hround
      refine ⟨_, d, rfl, hbeat, hchunks, hd, fun hall => ⟨fun hq => ?_, fun hq => ?_⟩, fun hany hcarry => ?_⟩
      · obtain rfl : status = 1 := by simp [hclean hall, hq]
        exact ⟨hquorum, htimeout, hother⟩
      · obtain rfl : status = 2 := by
          rw [hclean hall]
          exact if_neg (by obtain h | h := hq <;> simp [h])
        exact ⟨hquorum, htimeout, hother⟩
      · obtain rfl := hpoisoned hany hcarry
        exact ⟨hquorum, htimeout, hother⟩
    · refine run_call_early hwfSpill hlive (due := fun s => s.coming (·.spillDue i k)) (Bool.eq_false_iff.2 fun hdue => ?_)
      obtain ⟨hstaging, hdrawn, -, hopen⟩ := (State.coming_spillDue hch hc).1 hdue
      obtain h | h | h := hnot
      · exact h hstaging
      · omega
      · omega
    · exact run_call hwfSpill hlive (due := fun s => s.coming (·.spillDue i k))
        ((State.coming_spillDue hch hc).2 ⟨hplace, hdrawn, hjudged, hopen⟩)
    · have hdue := (State.spillDue_iff hch hc).2 ⟨hplace, hdrawn, hjudged, hopen⟩
      refine ⟨fun hno => ?_, fun v hon hv => ?_⟩
      · refine ⟨_, _, State.spillChunk_refused hch hc hdue hno, State.chunk_putChunk (s := s.count _ _) hch hkey, rfl, ?_, rfl, rfl⟩
        exact SMap.get_upd_same 0 s.cnt.live _ fun v => (v + 1) % 2 ^ 64
      · have hbuf := State.onlyBuf_trans (State.onlyBuf_drawPool hv) (v.onlyBuf_freeStaging ch.home i k)
        refine ⟨_, State.spillChunk_spills hch hc hdue hon hv, State.chunk_putChunk (by rw [hbuf]; exact hch) hkey, rfl, ?_, ?_, ?_⟩
        · rw [hbuf]; rfl
        · rw [hbuf]; rfl
        · rw [hbuf]; rfl
    · exact run_live_eq hwfRecall hlive (State.recallDone_idle (.inr ⟨ch, hch, hplace⟩)) rfl
    · have hbuf := (s.putChunk { ch with place := .staging, drawnAt := s.beat.bc }).onlyBuf_freeSpill i k
      exact run_live_eq hwfRecall hlive (State.recallDone_recalled hch hplace hnone) (by rw [hbuf]; rfl)

end Sys2Proof.Machine
end
